-- ==== Sys2Proof/Word.lean ====
section
/-! DEFINITION. The words of the FZ7216: the fixed widths its folios, reports and counters are made of (R13, R83). -/

namespace Sys2Proof

/-- One byte, the unit in which multi-byte ring fields are sent, most significant first (R13). -/
abbrev Byte := BitVec 8

/-- A 16-bit field, such as a channel code (R98) or an EVENT code (R112). -/
abbrev Half := BitVec 16

/-- A 32-bit word: header words (R83), sequences (R115), counters (R110), quire numbers (R92). -/
abbrev Word := BitVec 32

/-- A 64-bit word: colophon serials (R109), clock identities (R168), tags (R148). -/
abbrev Long := BitVec 64

/-- A 128-bit AES block or key (R145). -/
abbrev Block := BitVec 128

end Sys2Proof
end

