-- ==== Sys2Proof/Syntax.lean ====
section
/-! DEFINITION. The commands of the block: one constructor of Instr per row of the table of operations and events, with the operands that come from outside the block (ring units, stamps, comparator readings, requests of the reader, the service bus and the legacy port). -/

namespace Sys2Proof

/-- The two ring ports (R52). -/
inductive Port where
  | east
  | west
  deriving DecidableEq, Repr, Inhabited

/-- A folio as framed by its start and terminate blocks (R52, R82): the four header words of R83, the payload as
framed, and the CRC field as received. -/
structure Folio where
  w0 : Word
  w1 : Word
  w2 : Word
  w3 : Word
  payload : List Byte
  crc : Word
  deriving DecidableEq, Repr, Inhabited

/-- A unit as a port receives it: a whole folio; a framed unit shorter than 20 bytes; one cut because its own port
lost it partway; one that ended in an error control block upstream (R62). -/
inductive RxUnit where
  | whole (f : Folio)
  | short
  | cut
  | errorEnded
  deriving DecidableEq, Repr

/-- The two supplies whose brown-out changes no state (R406). -/
inductive Supply where
  | vddAux
  | vrow
  deriving DecidableEq, Repr, Inhabited

/-- One entry of ADDRESS_ASSIGN (R102). -/
structure AssignEntry where
  serial : Long
  pos : BitVec 16
  addr : BitVec 12
  pinconflict : Bool
  deriving DecidableEq, Repr

/-- The header facts of an IEEE 1588 message that R167 tests. -/
structure PtpHead where
  srcZero : Bool
  /-- The folio's dest (R83, R167). -/
  dest : BitVec 12
  version : BitVec 4
  minor : BitVec 4
  domain : Byte
  identity : Long
  seqId : BitVec 16
  /-- correctionField, in units of 2^-16 ns. -/
  correction : Int
  deriving DecidableEq, Repr

/-- The kinds of error a CAN FD controller meets (R344, R349). -/
inductive BusErrorKind where
  | ack
  | bit
  | stuff
  | form
  | crc
  | protocolException
  deriving DecidableEq, Repr

/-- What a CAN FD controller meets after its error flag (ISO 11898-1, R344): nothing more; a dominant bit right after the flag; a bit
error while it sends the flag; or, of the error itself, a stuff error in arbitration at a recessive stuff bit read dominant. Dominant
bits in a row behind its error flag; a bit error in an overload flag; dominant bits in a row behind an overload flag, which is no
error of a frame. -/
inductive AfterFlag where
  | nothing
  | dominant
  | flagError
  | arbitrationStuff
  | dominantRun (bits : Nat)
  | inOverload
  | overloadRun (bits : Nat)
  deriving DecidableEq, Repr

/-- A received extended-identifier service frame (R332): its class bit (true for CHATTER), its stations and item, its data, the
service-clock counts from the cycle on which the controller saw its start-of-frame edge to its end (R339), and its format, FD or
classical (R327). -/
structure ServiceFrame where
  chatter : Bool
  src : Byte
  dest : Byte
  item : Byte
  data : List Byte
  stamp : Word
  fd : Bool
  deriving DecidableEq, Repr

/-- An RDM request: its destination UID, its parameter data, and its class, GET or SET, which a command of its own PID already tells
(R357). -/
structure RdmRequest where
  dest : BitVec 48
  data : List Byte
  isSet : Bool := false
  deriving DecidableEq, Repr

/-- A comparator reading of a sink (R307, R308): the headroom, or VROW minus the column, in mV. A sink without one reads beyond its
threshold on the passing side. -/
structure Reading where
  sink : Nat
  mv : Nat
  deriving DecidableEq, Repr

/-- How an ISO/IEC 15693 request addresses the transponder: by UID, by the selected state, or every transponder. -/
inductive ReaderAddr where
  | uid (u : Long)
  | selected
  | any
  deriving DecidableEq, Repr

/-- What deskew finds on a port's lanes in ps: the delay of lane 0 (R165), and how far apart the markers of the two lanes stand (R53). -/
structure LaneDelays where
  lane0Ps : Nat
  skewPs : Nat
  deriving DecidableEq, Repr

/-- A unit whose last block crosses from a port, and the unit of the other port whose last block crosses on the same cycle (R69,
R70). -/
structure Arrival where
  unit : RxUnit
  other : Option RxUnit
  deriving DecidableEq, Repr

/-- What the comparators read at a slot's sampling instant, for the open test and the short test (R307, R308). -/
structure SlotReadings where
  opens : List Reading
  shorts : List Reading
  deriving DecidableEq, Repr

/-- A word of a memory that fails its check: its region and its byte offset (R194, R378). -/
structure BadWord where
  region : Nat
  offset : Word
  deriving DecidableEq, Repr

/-- An error on the service bus, and what follows its error flag (R344). -/
structure BusError where
  kind : BusErrorKind
  after : AfterFlag
  deriving DecidableEq, Repr

/-- A received frame with a base identifier, a remote frame, or an extended frame of a reserved kind (R327, R333). -/
structure OddFrame where
  base : Bool
  remote : Bool
  kind : BitVec 4
  frame : ServiceFrame
  deriving DecidableEq, Repr

/-- One constructor per row of the table of operations and events, in the table's order. -/
inductive Instr where
  | powerUp (ioFell : Bool)
  | firstLight
  | strapSample (codes : List (List Nat)) (irefPa : List Nat)
  | resetN
  | vddIoBrownout
  | powerFailDetect (core sd : Bool)
  | archiveIsolate
  | supplyBrownout (supply : Supply) (mv : BitVec 16)
  | supplyRestored (supply : Supply)
  | portSignalDetect (p : Port)
  | portAcquired (p : Port)
  | fastAcquireFallback (p : Port)
  | blockLock (p : Port)
  | deskew (p : Port) (delays : LaneDelays)
  | confirm (p : Port) (peerTwoLanes : Bool) (peerLow : BitVec 16)
  | portLoss (p : Port) (cutRx cutTx : Bool)
  | rateSuspectTimeout (p : Port)
  | identSend (p : Port)
  | identReceive (p : Port) (serial : Long)
  | leaveReceive (p : Port)
  | fastAcquireEnd (p : Port)
  | folioForward (p : Port) (u : RxUnit) (residence : Nat)
  | merge (p : Port) (c : Arrival)
  | mergeEntryExpire
  | vacancyFill (p : Port) (vacancy : Folio)
  | ctlJudge
  | journalCommit (readBackOk : Bool)
  | completionRecord
  | stateQuery
  | query
  | groupSet
  | addressPin
  | addressPinClear
  | cue
  | powerTolerance
  | censusAt
  | censusRead
  | feedLossPolicy
  | presentationDelay
  | objBegin
  | objData
  | objCommit
  | objCommitCopyEnd
  | timingSet
  | timingSetApply
  | forceOutput
  | forceOutputRelease
  | forceSetApply
  | forceLimitExpire
  | tripClear
  | tripClearRelease
  | timeSourceRingMaster
  | timeSourceSyncIn
  | timeSourceFreeRun
  | asymmetrySet
  | keyEnrol
  | keyRevoke
  | auditRead
  | busResume
  | busResumeTimeout
  | legacyHouse
  | jtagEnable
  | jtagDisable
  | jtagEnableExpire
  | extest
  | samplePreload
  | highz
  | freeze
  | bypass
  | tapReset
  | updateDr (cells : BitVec 294)
  | captureDr (pins : BitVec 294)
  | enumStart (splSeq epoch : Word) (reassign : Bool)
  | addressAssign (splSeq epoch : Word) (entries : List AssignEntry)
  | ringMap (splSeq epoch : Word) (size : Nat) (inserted : List Bool)
  | spliceWindow (splSeq : Word) (target : Long) (pos : BitVec 16) (action : Word) (tw : Nat) (wUs : Word)
  | spliceWindowStart
  | spliceReturn
  | spliceWindowEnd
  | bypassInsert
  | bypassRelease
  | bypSenseSample (east west : Bool)
  | bypassRetry
  | selfTest (port lane : Byte) (crcFailures : Nat) (eastPs westPs : Nat)
  | selfTestRetry
  | sync (p : Port) (h : PtpHead) (logInterval : Int) (twoStep : Bool) (t1 t2 : Nat)
  | followUp (p : Port) (h : PtpHead) (t1 : Nat)
  | delayResp (p : Port) (h : PtpHead) (reqIdentity : Long) (reqPort : BitVec 16) (t4 : Nat)
  | delayReqSend (p : Port)
  | masterLossTimeout
  | syncInEdge (stamp : Nat)
  | mantelStep
  | holdEnd
  | rtcSet
  | refreshSeam (errorPs : Int)
  | rowSlot (readings : SlotReadings) (irefOpen : BitVec 4)
  | plateCutoff
  | handleArrive
  | renderPoint
  | passEnd
  | passAbandon
  | workingCopyLoad
  | workingCopyLoadEnd
  | wearGainRecompute
  | slateCacheFill (entry : Bool)
  | feedLossExpiry
  | feedLossHoldEnd
  | larderEccError (word : BadWord) (corrected : Bool)
  | reportSecondEnd
  | watermarkReport (queue : BitVec 2)
  | eventReportForm
  | censusLatch
  | censusCopyDone
  | censusAge
  | tripInputAssert (id : Nat) (inWindow returned : Bool)
  | tripInputDeassert (id : Nat)
  | tripEpisodeEnd (id : Nat)
  | delayLineUnlock (sink : Nat) (atTop : Bool)
  | delayLineRelock (sink : Nat)
  | pclkLoss
  | pclkRestore
  | collatorDetection
  | defectReportSend
  | collatorExclusionEnd
  | wearPersist
  | watchdogKick
  | watchdogWarning
  | watchdogExpiry
  | tamperSample (isOpen : Bool)
  | cellStateChange (vcellMv : Nat) (tempC : Int) (chargeNa : Nat)
  | archiveEccError (word : BadWord) (corrected : Bool)
  | readerFieldPresent (reservoirPj : Nat)
  | readerFieldLoss
  | inventory (slots16 : Bool) (afi : Option Byte) (maskLen : Nat) (mask : Long)
  | stayQuiet (uid : Long)
  | select (uid : Long)
  | resetToReady (addr : ReaderAddr)
  | readSingleBlock (addr : ReaderAddr) (block : Byte)
  | readMultipleBlocks (addr : ReaderAddr) (first : Byte) (count : Nat)
  | getSystemInformation (addr : ReaderAddr)
  | writeSingleBlock (addr : ReaderAddr) (block : Byte) (optionFlag : Bool) (data : List Byte)
  | challengeExpire
  | stateEntry
  | stateEntryDrop
  | wakeAlarm
  | sbRxWake
  | s4ReturnAlarm
  | wakeReady
  | maintenanceWake
  | dieTempMeasure (temp16 : Int)
  | correlationStrobe (crossing : Word)
  | busIntegrated
  | porterStop
  | serviceBusIdle
  | serviceFrameSent
  | serviceBusError (error : BusError) (beforeClass chatter transmitting dataField : Bool)
  | busOffRecovery (chatter : Bool)
  | psuFault (f : ServiceFrame)
  | overtemp (f : ServiceFrame)
  | fanFault (f : ServiceFrame)
  | peerFault (f : ServiceFrame)
  | announce (idLow : BitVec 24) (f : ServiceFrame)
  | temp (f : ServiceFrame)
  | psuStatus (f : ServiceFrame)
  | fanStatus (f : ServiceFrame)
  | peerStatus (f : ServiceFrame)
  | peerStatusSend
  | announceSend
  | stationChoose
  | dmxPacket (breakUs mabUs : Nat) (startCode : Byte) (slots : List Byte) (framingErrorAt : Option Nat)
  | dmxLoss
  | discUniqueBranch (lower upper : BitVec 48)
  | discMute (r : RdmRequest)
  | discUnMute (r : RdmRequest)
  | supportedParameters (r : RdmRequest)
  | deviceInfo (r : RdmRequest)
  | deviceModelDescription (r : RdmRequest)
  | manufacturerLabel (r : RdmRequest)
  | deviceLabelGet (r : RdmRequest)
  | deviceLabelSet (r : RdmRequest)
  | softwareVersionLabel (r : RdmRequest)
  | dmxPersonalityGet (r : RdmRequest)
  | dmxPersonalitySet (r : RdmRequest)
  | dmxPersonalityDescription (r : RdmRequest)
  | dmxStartAddressGet (r : RdmRequest)
  | dmxStartAddressSet (r : RdmRequest)
  | deviceHours (r : RdmRequest)
  | identifyDeviceGet (r : RdmRequest)
  | identifyDeviceSet (r : RdmRequest)
  | unknownPid (r : RdmRequest) (pid : Half)
  | identifyToggle
  | legacyBlockWrite
  | daliForwardFrame (nbits : Nat) (frame : BitVec 24)
  | daliSystemFailure
  | leafHopUp (upstream : Bool) (peerPos : BitVec 6) (peerSerial : Long)
  | leafHopDown (upstream : Bool)
  | leafHello (sending : Bool) (pos : BitVec 6) (serial : Long)
  | carryDown (leaf : BitVec 6) (u : RxUnit) (crcOk : Bool)
  | carryUp (leaf : BitVec 6) (f : Folio) (crcOk : Bool)
  | leafQueueSend
  | time (correction : Nat) (mantel16 : Nat) (lock : BitVec 4) (stamp16 : Nat) (residence : Nat)
  | leafTimeSend
  | leafTimeTimeout
  | pdelayReq (pos : BitVec 6) (stamp16 turnaround16 : Nat)
  | pdelayReqSend
  | pdelayResp (pos : BitVec 6) (turnaround16 : Nat) (arrival16 : Nat)
  | pixels (chip : BitVec 7) (offset : Nat) (data : List Byte)
  | latch (rate : Byte) (frame : BitVec 24) (stamp : Nat)
  | gain (chip : BitVec 7) (level : Half) (trims : Word) (deadNs : Half)
  | count (n : Byte)
  | statusReq (chip : BitVec 7)
  | ringPllLoss
  | cellarResetHoldEnd
  | daliBusReturn
  | readerCommandNotSupported
  | reservedKindFrame (f : OddFrame)
  deriving DecidableEq, Repr

end Sys2Proof
end

