-- ==== Sys2Proof/Decode.lean ====
section
/-! DEFINITION. The commands a word of the table spells: none, since the table gives no row any bits. -/

namespace Sys2Proof

/-- Every row of the table of operations and events has an empty list of fields, so no word spells a command: a
command reaches the block as itself, with its operands (log 8). -/
def decodeTableWord (_nbits _w : Nat) : Option Instr := none

end Sys2Proof
end

