-- ==== Sys2Proof/Machine/Bits.lean ====
section
/-! DEFINITION. Byte order (R13), CRC-32C (R85), rounding (R217), integer roots and the curve-word form (R218): the arithmetic that every subsystem shares. -/

namespace Sys2Proof.Machine

open Sys2Proof

/-- The n bytes of a natural number, most significant first (R13). -/
def beBytes : Nat → Nat → List Byte
  | 0, _ => []
  | n + 1, v => beBytes n (v / 256) ++ [BitVec.ofNat 8 v]

/-- The number that bytes spell, most significant first (R13). -/
def beNat (bs : List Byte) : Nat :=
  bs.foldl (fun acc b => acc * 256 + b.toNat) 0

def wordBytes (w : Word) : List Byte := beBytes 4 w.toNat

def halfBytes (h : Half) : List Byte := beBytes 2 h.toNat

def longBytes (l : Long) : List Byte := beBytes 8 l.toNat

def blockBytes (b : Block) : List Byte := beBytes 16 b.toNat

def wordsBytes (ws : List Word) : List Byte := ws.flatMap wordBytes

/-- The word at a byte offset of a byte string; bytes beyond its end count as 0. -/
def wordAt (bs : List Byte) (off : Nat) : Word := BitVec.ofNat 32 (beNat (((bs.drop off).take 4) ++ List.replicate (off + 4 - bs.length) 0))

def halfAt (bs : List Byte) (off : Nat) : Half := BitVec.ofNat 16 (beNat ((bs.drop off).take 2))

def longAt (bs : List Byte) (off : Nat) : Long := BitVec.ofNat 64 (beNat ((bs.drop off).take 8))

def byteAt (bs : List Byte) (off : Nat) : Byte := bs.getD off 0

/-- Bits hi to lo of a word as a number, the field map name[hi:lo] of the manual. -/
def field (w : Word) (hi lo : Nat) : Nat := (w.toNat / 2 ^ lo) % 2 ^ (hi + 1 - lo)

/-- A word from fields, each a value with the place of its bit 0. Fields never overlap in the manual's maps. -/
def pack (fs : List (Nat × Nat)) : Word := BitVec.ofNat 32 (fs.foldl (fun acc f => acc + f.1 * 2 ^ f.2) 0)

/-- A signed number as a 32-bit two's-complement word. -/
def sword (i : Int) : Word := BitVec.ofInt 32 i

/-- A signed number saturated to 32 bits (R190). -/
def swordSat (i : Int) : Word := BitVec.ofInt 32 (max (-2147483648) (min 2147483647 i))

/-- An unsigned number saturated to n bits. -/
def sat (n v : Nat) : Nat := min v (2 ^ n - 1)

def bit (b : Bool) : Nat := if b then 1 else 0

/-- Sequence order of R95 and R140: a lies below b when (b - a) mod 2^32 is in 1 to 0x7FFF_FFFF. -/
def seqBelow (a b : Word) : Bool := 0 < (b - a).toNat && (b - a).toNat < 0x80000000

/-- Epoch order of R277: a is older than b when (b - a) mod 2^16 lies in 1 to 0x7FFF. -/
def epochOlder (a b : Half) : Bool := 0 < (b - a).toNat && (b - a).toNat < 0x8000

/-- One bit of the reflected CRC-32C register (R85). -/
def crcBit (c : BitVec 32) : BitVec 32 :=
  if c.getLsbD 0 then (c >>> 1) ^^^ 0x82F63B78#32 else c >>> 1

def crcByte (c : BitVec 32) (b : Byte) : BitVec 32 :=
  let x := c ^^^ b.setWidth 32
  crcBit (crcBit (crcBit (crcBit (crcBit (crcBit (crcBit (crcBit x)))))))

/-- CRC-32C of R85: polynomial 0x1EDC_6F41 reflected, initial value and final XOR all ones. -/
def crc32c (bs : List Byte) : Word := (bs.foldl crcByte 0xFFFFFFFF#32) ^^^ 0xFFFFFFFF#32

/-- Division rounded to nearest with ties up (R217). -/
def rdiv (n d : Int) : Int := (2 * n + d) / (2 * d)

/-- Division of naturals rounded to nearest with ties up (R217). -/
def rdivN (n d : Nat) : Nat := (2 * n + d) / (2 * d)

/-- Full scale of the working value E (R217). -/
def fullE : Nat := 16777216

/-- Every stage result is clamped to 0 - full scale (R217). -/
def clampE (i : Int) : Nat := (min (max i 0) 16777216).toNat

/-- The value of a curve word (R218). -/
def curveValue (w : Half) : Nat :=
  let e := w.toNat / 4096
  let m := w.toNat % 4096
  if e = 0 then m else if e ≤ 12 then (4096 + m) * 2 ^ (e - 1) else fullE

/-- The curve word of a value E for indexing (R218). -/
def curveWord (v : Nat) : Half :=
  if v < 4096 then BitVec.ofNat 16 v
  else if v ≥ fullE then 0xD000
  else
    let k := Nat.log2 v
    BitVec.ofNat 16 ((k - 11) * 4096 + (v / 2 ^ (k - 12) - 4096))

/-- The curve word nearest to the value num/den of E, ties up (R221: rounded to nearest). -/
def curveNearest (num den : Nat) : Half :=
  let v := num / den
  if v < 4096 then
    let r := rdivN num den
    curveWord r
  else
    let k := Nat.log2 v
    curveWord (rdivN num (den * 2 ^ (k - 12)) * 2 ^ (k - 12))

/-- The largest x at most hi with x^n * den at most num, found by halving; a structural search on fuel. -/
def rootSearch (n num den : Nat) : Nat → Nat → Nat → Nat
  | 0, lo, _ => lo
  | fuel + 1, lo, hi =>
    let mid := (lo + hi + 1) / 2
    if lo ≥ hi then lo
    else if mid ^ n * den ≤ num then rootSearch n num den fuel mid hi
    else rootSearch n num den fuel lo (mid - 1)

/-- round(scale * (num/den)^(1/n)) for a value at most scale, exactly: the nearest x has
(2x - 1)^n den at most (2 scale)^n num. -/
def rootRound (n scale num den : Nat) : Nat :=
  let y := rootSearch n ((2 * scale) ^ n * num) den 64 0 (2 * scale)
  (y + 1) / 2

/-- The logarithmic dimming curve of R248: 0 at 0, else round(32,768 * 10^(3 (n - 254) / 253)). -/
def arcLevel (n : Nat) : Nat :=
  if n = 0 then 0
  else if n ≥ 254 then 32768
  else rootRound 253 32768 1 (10 ^ (3 * (254 - n)))

/-- The level of an arc position in 8.8 form (R248). -/
def arcFraction (a : Nat) : Nat :=
  let i := a / 256
  let f := a % 256
  if i ≥ 254 then arcLevel 254 else arcLevel i + rdivN ((arcLevel (i + 1) - arcLevel i) * f) 256

/-- The smallest whole arc level whose level is at least l (R251), searched upward on fuel. -/
def arcAtLeast (l : Nat) : Nat → Nat → Nat
  | 0, n => n
  | fuel + 1, n => if arcLevel n ≥ l then n else arcAtLeast l fuel (n + 1)

/-- Reversal of the order of eight bits (R271). -/
def rev8 (v : Nat) : Nat :=
  (List.range 8).foldl (fun acc i => acc + ((v / 2 ^ i) % 2) * 2 ^ (7 - i)) 0

end Sys2Proof.Machine
end

