-- ==== Sys2Proof/Config.lean ====
section
/-! DEFINITION. What one FZ7216 fixes and its manual leaves open: constants with no body, so that no proof can lean on a value of them. -/

namespace Sys2Proof.Config

/-- A fresh unspecified natural number: the n-th value that the manual leaves open (a start-up latency, a random
phase, an uninterpreted report field). Log 3. DESIGN CHOICE, safe: nothing constrains it. -/
opaque freeNat : Nat → Nat

/-- The 64-bit colophon serial in its one-time fuses (R379). It is set at test, and is never all ones (R429).
Log 5. -/
opaque serialFuses : BitVec 64

/-- The IC manufacturer code of the reader UID under ISO/IEC 7816-6 (R388); the manual gives no value. Log 5. -/
opaque icMaker : BitVec 8

/-- The maker key that the tile maker gave with its order (R146); part of the device as it leaves the factory.
Log 5. -/
opaque makerKey : BitVec 128

/-- TX and RX latencies in ps of a port for a lane-rate code, measured at test and kept in the colophon (R165,
R381 bytes 80-143). Arguments: port (0 EAST, 1 WEST), lane-rate code, 0 TX or 1 RX. Log 5. -/
opaque latencyPs : Nat → Nat → Nat → Nat

/-- The pattern, as mask and value of the identifier, that the firmware patch of an identity gives acceptance filter n of 8 to 31, if
any (R337). Log 3. -/
opaque patchFilter : BitVec 32 → Nat → Option (BitVec 29 × BitVec 29)

/-- The error of the 32.768 kHz crystal in 0.1 ppm (R371). Log 58. -/
opaque crystalError : Int

/-- After power-fail detect at an instant, the slope of VDD_CORE leaves so many ns before 0.70 V (R384). Log 3. -/
opaque supplyHolds : Nat → Nat → Bool

/-- The Cellar's random source: the n-th challenge nonce of R390. Log 3. -/
opaque nonce : Nat → BitVec 64

/-- The firmware version that memory bank 0 of a DALI gear shows at a location, for a patch identity (R359). Log 3. -/
opaque daliFirmware : BitVec 32 → Nat → BitVec 8

/-- The n-th random address of a DALI RANDOMISE command (R359). Log 3. -/
opaque daliRandom : Nat → BitVec 24

end Sys2Proof.Config
end

