-- ==== Sys2Proof/Machine/Crypto.lean ====
section
/-! DEFINITION. AES-128 (FIPS 197), AES-CMAC (SP 800-38B) truncated to 64 bits for the control tag of R148, and the AES key unwrap of SP 800-38F that KEY_ENROL uses (R150, R152). -/

namespace Sys2Proof.Machine

open Sys2Proof

/-- Multiplication by x in the AES field. -/
def xtime (b : Byte) : Byte := if b.getLsbD 7 then (b <<< 1) ^^^ 0x1B#8 else b <<< 1

/-- Multiplication in the AES field by one of the MixColumns constants, which fit four bits. -/
def gmul (c a : Byte) : Byte :=
  let a2 := xtime a
  let a4 := xtime a2
  (if c.getLsbD 0 then a else 0) ^^^ (if c.getLsbD 1 then a2 else 0) ^^^ (if c.getLsbD 2 then a4 else 0)
    ^^^ (if c.getLsbD 3 then xtime a4 else 0)

/-- The AES S-box of FIPS 197, rows 0x to Fx. -/
def sboxTable : List Byte :=
  [0x63, 0x7C, 0x77, 0x7B, 0xF2, 0x6B, 0x6F, 0xC5, 0x30, 0x01, 0x67, 0x2B, 0xFE, 0xD7, 0xAB, 0x76] ++
  [0xCA, 0x82, 0xC9, 0x7D, 0xFA, 0x59, 0x47, 0xF0, 0xAD, 0xD4, 0xA2, 0xAF, 0x9C, 0xA4, 0x72, 0xC0] ++
  [0xB7, 0xFD, 0x93, 0x26, 0x36, 0x3F, 0xF7, 0xCC, 0x34, 0xA5, 0xE5, 0xF1, 0x71, 0xD8, 0x31, 0x15] ++
  [0x04, 0xC7, 0x23, 0xC3, 0x18, 0x96, 0x05, 0x9A, 0x07, 0x12, 0x80, 0xE2, 0xEB, 0x27, 0xB2, 0x75] ++
  [0x09, 0x83, 0x2C, 0x1A, 0x1B, 0x6E, 0x5A, 0xA0, 0x52, 0x3B, 0xD6, 0xB3, 0x29, 0xE3, 0x2F, 0x84] ++
  [0x53, 0xD1, 0x00, 0xED, 0x20, 0xFC, 0xB1, 0x5B, 0x6A, 0xCB, 0xBE, 0x39, 0x4A, 0x4C, 0x58, 0xCF] ++
  [0xD0, 0xEF, 0xAA, 0xFB, 0x43, 0x4D, 0x33, 0x85, 0x45, 0xF9, 0x02, 0x7F, 0x50, 0x3C, 0x9F, 0xA8] ++
  [0x51, 0xA3, 0x40, 0x8F, 0x92, 0x9D, 0x38, 0xF5, 0xBC, 0xB6, 0xDA, 0x21, 0x10, 0xFF, 0xF3, 0xD2] ++
  [0xCD, 0x0C, 0x13, 0xEC, 0x5F, 0x97, 0x44, 0x17, 0xC4, 0xA7, 0x7E, 0x3D, 0x64, 0x5D, 0x19, 0x73] ++
  [0x60, 0x81, 0x4F, 0xDC, 0x22, 0x2A, 0x90, 0x88, 0x46, 0xEE, 0xB8, 0x14, 0xDE, 0x5E, 0x0B, 0xDB] ++
  [0xE0, 0x32, 0x3A, 0x0A, 0x49, 0x06, 0x24, 0x5C, 0xC2, 0xD3, 0xAC, 0x62, 0x91, 0x95, 0xE4, 0x79] ++
  [0xE7, 0xC8, 0x37, 0x6D, 0x8D, 0xD5, 0x4E, 0xA9, 0x6C, 0x56, 0xF4, 0xEA, 0x65, 0x7A, 0xAE, 0x08] ++
  [0xBA, 0x78, 0x25, 0x2E, 0x1C, 0xA6, 0xB4, 0xC6, 0xE8, 0xDD, 0x74, 0x1F, 0x4B, 0xBD, 0x8B, 0x8A] ++
  [0x70, 0x3E, 0xB5, 0x66, 0x48, 0x03, 0xF6, 0x0E, 0x61, 0x35, 0x57, 0xB9, 0x86, 0xC1, 0x1D, 0x9E] ++
  [0xE1, 0xF8, 0x98, 0x11, 0x69, 0xD9, 0x8E, 0x94, 0x9B, 0x1E, 0x87, 0xE9, 0xCE, 0x55, 0x28, 0xDF] ++
  [0x8C, 0xA1, 0x89, 0x0D, 0xBF, 0xE6, 0x42, 0x68, 0x41, 0x99, 0x2D, 0x0F, 0xB0, 0x54, 0xBB, 0x16]

def sbox (a : Byte) : Byte := sboxTable.getD a.toNat 0

/-- The inverse S-box of FIPS 197. -/
def invSboxTable : List Byte :=
  [0x52, 0x09, 0x6A, 0xD5, 0x30, 0x36, 0xA5, 0x38, 0xBF, 0x40, 0xA3, 0x9E, 0x81, 0xF3, 0xD7, 0xFB] ++
  [0x7C, 0xE3, 0x39, 0x82, 0x9B, 0x2F, 0xFF, 0x87, 0x34, 0x8E, 0x43, 0x44, 0xC4, 0xDE, 0xE9, 0xCB] ++
  [0x54, 0x7B, 0x94, 0x32, 0xA6, 0xC2, 0x23, 0x3D, 0xEE, 0x4C, 0x95, 0x0B, 0x42, 0xFA, 0xC3, 0x4E] ++
  [0x08, 0x2E, 0xA1, 0x66, 0x28, 0xD9, 0x24, 0xB2, 0x76, 0x5B, 0xA2, 0x49, 0x6D, 0x8B, 0xD1, 0x25] ++
  [0x72, 0xF8, 0xF6, 0x64, 0x86, 0x68, 0x98, 0x16, 0xD4, 0xA4, 0x5C, 0xCC, 0x5D, 0x65, 0xB6, 0x92] ++
  [0x6C, 0x70, 0x48, 0x50, 0xFD, 0xED, 0xB9, 0xDA, 0x5E, 0x15, 0x46, 0x57, 0xA7, 0x8D, 0x9D, 0x84] ++
  [0x90, 0xD8, 0xAB, 0x00, 0x8C, 0xBC, 0xD3, 0x0A, 0xF7, 0xE4, 0x58, 0x05, 0xB8, 0xB3, 0x45, 0x06] ++
  [0xD0, 0x2C, 0x1E, 0x8F, 0xCA, 0x3F, 0x0F, 0x02, 0xC1, 0xAF, 0xBD, 0x03, 0x01, 0x13, 0x8A, 0x6B] ++
  [0x3A, 0x91, 0x11, 0x41, 0x4F, 0x67, 0xDC, 0xEA, 0x97, 0xF2, 0xCF, 0xCE, 0xF0, 0xB4, 0xE6, 0x73] ++
  [0x96, 0xAC, 0x74, 0x22, 0xE7, 0xAD, 0x35, 0x85, 0xE2, 0xF9, 0x37, 0xE8, 0x1C, 0x75, 0xDF, 0x6E] ++
  [0x47, 0xF1, 0x1A, 0x71, 0x1D, 0x29, 0xC5, 0x89, 0x6F, 0xB7, 0x62, 0x0E, 0xAA, 0x18, 0xBE, 0x1B] ++
  [0xFC, 0x56, 0x3E, 0x4B, 0xC6, 0xD2, 0x79, 0x20, 0x9A, 0xDB, 0xC0, 0xFE, 0x78, 0xCD, 0x5A, 0xF4] ++
  [0x1F, 0xDD, 0xA8, 0x33, 0x88, 0x07, 0xC7, 0x31, 0xB1, 0x12, 0x10, 0x59, 0x27, 0x80, 0xEC, 0x5F] ++
  [0x60, 0x51, 0x7F, 0xA9, 0x19, 0xB5, 0x4A, 0x0D, 0x2D, 0xE5, 0x7A, 0x9F, 0x93, 0xC9, 0x9C, 0xEF] ++
  [0xA0, 0xE0, 0x3B, 0x4D, 0xAE, 0x2A, 0xF5, 0xB0, 0xC8, 0xEB, 0xBB, 0x3C, 0x83, 0x53, 0x99, 0x61] ++
  [0x17, 0x2B, 0x04, 0x7E, 0xBA, 0x77, 0xD6, 0x26, 0xE1, 0x69, 0x14, 0x63, 0x55, 0x21, 0x0C, 0x7D]

def invSbox (a : Byte) : Byte := invSboxTable.getD a.toNat 0

def xorBytes (a b : List Byte) : List Byte := List.zipWith (· ^^^ ·) a b

/-- One round key from the one before it. -/
def nextRoundKey (rcon : Byte) (k : List Byte) : List Byte :=
  let w0 := k.take 4
  let w1 := (k.drop 4).take 4
  let w2 := (k.drop 8).take 4
  let w3 := k.drop 12
  let t := ((w3.drop 1 ++ w3.take 1).map sbox)
  let t' := xorBytes t [rcon, 0, 0, 0]
  let v0 := xorBytes w0 t'
  let v1 := xorBytes w1 v0
  let v2 := xorBytes w2 v1
  let v3 := xorBytes w3 v2
  v0 ++ v1 ++ v2 ++ v3

def roundConstants : List Byte := [0x01, 0x02, 0x04, 0x08, 0x10, 0x20, 0x40, 0x80, 0x1B, 0x36]

/-- The eleven round keys, first first. -/
def roundKeys (key : List Byte) : List (List Byte) :=
  (roundConstants.foldl (fun (acc : List (List Byte) × List Byte) r =>
    let k := nextRoundKey r acc.2
    (acc.1 ++ [k], k)) ([key], key)).1

def shiftRows (s : List Byte) : List Byte :=
  [0, 5, 10, 15, 4, 9, 14, 3, 8, 13, 2, 7, 12, 1, 6, 11].map fun i => s.getD i 0

def invShiftRows (s : List Byte) : List Byte :=
  [0, 13, 10, 7, 4, 1, 14, 11, 8, 5, 2, 15, 12, 9, 6, 3].map fun i => s.getD i 0

/-- One column times the circulant matrix with first row c0 c1 c2 c3. -/
def mixColumn (c0 c1 c2 c3 : Byte) (col : List Byte) : List Byte :=
  let a := col.getD 0 0
  let b := col.getD 1 0
  let c := col.getD 2 0
  let d := col.getD 3 0
  [gmul c0 a ^^^ gmul c1 b ^^^ gmul c2 c ^^^ gmul c3 d,
   gmul c3 a ^^^ gmul c0 b ^^^ gmul c1 c ^^^ gmul c2 d,
   gmul c2 a ^^^ gmul c3 b ^^^ gmul c0 c ^^^ gmul c1 d,
   gmul c1 a ^^^ gmul c2 b ^^^ gmul c3 c ^^^ gmul c0 d]

def mixColumns (c0 c1 c2 c3 : Byte) (s : List Byte) : List Byte :=
  mixColumn c0 c1 c2 c3 (s.take 4) ++ mixColumn c0 c1 c2 c3 ((s.drop 4).take 4)
    ++ mixColumn c0 c1 c2 c3 ((s.drop 8).take 4) ++ mixColumn c0 c1 c2 c3 (s.drop 12)

/-- AES-128 encryption of one 16-byte block. -/
def aesEncrypt (key block : List Byte) : List Byte :=
  match roundKeys key with
  | [] => block
  | k0 :: ks =>
    let start := xorBytes block k0
    let mid := (ks.dropLast).foldl (fun s k =>
      xorBytes (mixColumns 2 3 1 1 (shiftRows (s.map sbox))) k) start
    xorBytes (shiftRows (mid.map sbox)) (ks.getLastD [])

/-- AES-128 decryption of one 16-byte block. -/
def aesDecrypt (key block : List Byte) : List Byte :=
  match (roundKeys key).reverse with
  | [] => block
  | k10 :: ks =>
    let start := (invShiftRows (xorBytes block k10)).map invSbox
    let mid := (ks.dropLast).foldl (fun s k =>
      (invShiftRows (mixColumns 14 11 13 9 (xorBytes s k))).map invSbox) start
    xorBytes mid (ks.getLastD [])

/-- Doubling in the CMAC field. -/
def cmacDouble (b : Block) : Block := if b.getLsbD 127 then (b <<< 1) ^^^ 0x87#128 else b <<< 1

def bytesBlock (bs : List Byte) : Block := BitVec.ofNat 128 (beNat bs)

/-- The bytes cut into runs of 16, on fuel. -/
def chunks16 : Nat → List Byte → List (List Byte)
  | 0, _ => []
  | fuel + 1, bs => if bs.length ≤ 16 then [bs] else bs.take 16 :: chunks16 fuel (bs.drop 16)

/-- AES-CMAC of SP 800-38B, the full 16 bytes. -/
def cmac (key msg : List Byte) : List Byte :=
  let k1 := cmacDouble (bytesBlock (aesEncrypt key (List.replicate 16 0)))
  let k2 := cmacDouble k1
  let cs := chunks16 (msg.length + 1) msg
  let last := cs.getLastD []
  let lastBlock :=
    if last.length = 16 then xorBytes last (blockBytes k1)
    else xorBytes (last ++ [0x80] ++ List.replicate (15 - last.length) 0) (blockBytes k2)
  (cs.dropLast ++ [lastBlock]).foldl (fun x c => aesEncrypt key (xorBytes x c)) (List.replicate 16 0)

/-- The control tag of R148: the most significant 64 bits of the CMAC. -/
def tagOf (key : Block) (msg : List Byte) : List Byte := (cmac (blockBytes key) msg).take 8

/-- The fingerprint of a key (R145): the first 8 bytes of the encryption of the all-zero block. -/
def fingerprint (key : Block) : Long :=
  BitVec.ofNat 64 (beNat ((aesEncrypt (blockBytes key) (List.replicate 16 0)).take 8))

/-- One step of the AES key unwrap with counter t, on (A, R1, R2). -/
def unwrapStep (kek : List Byte) (s : List Byte × List Byte × List Byte) (t : Nat) :
    List Byte × List Byte × List Byte :=
  let i2 : Bool := t % 2 = 0
  let r := if i2 then s.2.2 else s.2.1
  let b := aesDecrypt kek (xorBytes s.1 (beBytes 8 t) ++ r)
  if i2 then (b.take 8, s.2.1, b.drop 8) else (b.take 8, b.drop 8, s.2.2)

/-- AES key unwrap of SP 800-38F with the default initial value (R150): the key, when the integrity value holds. -/
def keyUnwrap (kek : Block) (wrapped : List Byte) : Option Block :=
  let s0 := (wrapped.take 8, (wrapped.drop 8).take 8, (wrapped.drop 16).take 8)
  let s := [12, 11, 10, 9, 8, 7, 6, 5, 4, 3, 2, 1].foldl (unwrapStep (blockBytes kek)) s0
  if s.1 = List.replicate 8 (0xA6#8) then some (bytesBlock (s.2.1 ++ s.2.2)) else none

end Sys2Proof.Machine
end

