-- ==== Sys2Proof/Machine/State.lean ====
section
/-! DEFINITION. The state of the block as plain data, one structure per subsystem of R15, the two ways a meaning can stop, and the state right after reset. -/

namespace Sys2Proof.Machine

open Sys2Proof

/-- Why a step stops with a fault. No command of the table ends in one: the manual gives each an effect. -/
inductive Fault where
  /-- Raised by no meaning. It stands for a stop the manual would have to name; safe, since nothing answers it. -/
  | none
  deriving DecidableEq, Repr

/-- Why a step is refused. -/
inductive Refusal where
  /-- A command whose meaning is not written yet; safe, since the run stops there by name. -/
  | notModelled (mnemonic : String)
  deriving DecidableEq, Repr

/-- Addressed bytes in one canonical form: addresses strictly rising, and no entry equal to 0, which is what an
unlisted address reads as (R139 for the object shadow; log 4 for the others). -/
abbrev Memory := List Host.Cell

/-- Numbered values in the order of a table of the manual (census sections, port counters): each wraps modulo 2^32. -/
abbrev Counters := List Word

/-- An EVENT record of R112. -/
structure EventRec where
  code : Half
  arg0 : Half
  tsec : Word
  tns : Word
  arg1 : Word
  deriving DecidableEq, Repr, Inhabited

/-- An own folio waiting in queue 0x01 (R205) with the ports its copies are still due on (R63). A report takes its
src when it leaves; leafSrc is the src of a leaf's folio that a gathered head carries (R428). onlyOn marks a folio
for one port alone, the Delay_Req of R169. -/
structure OwnFolio where
  kind : BitVec 4
  spec : Half
  seq : Word
  payload : List Byte
  dueEast : Bool
  dueWest : Bool
  leafSrc : Option (BitVec 12)
  /-- May leave while the node holds no address: ENUM_CLAIM, SPL_ANSWER and GSP (R104). -/
  unassignedOk : Bool
  /-- One of its copies has left (R63, R326). -/
  left : Bool := false
  deriving DecidableEq, Repr, Inhabited

/-- What leaves the block at its pins and ports, newest first: the observable output of the commands. -/
inductive Sent where
  /-- An own folio on a ring port, in place of a vacancy or as GSP (R63, R64). -/
  | folio (p : Port) (f : Folio)
  /-- A forwarded folio with the CRC it leaves with (R60, R61). -/
  | forwarded (p : Port) (f : Folio)
  /-- A forwarded unit ended by an error control block (R62). -/
  | errorEnded (p : Port)
  | ident (p : Port) (serial : Long)
  | hello (p : Port) (twoLanes : Bool) (low : Half)
  | leave (p : Port) (count : Nat)
  /-- A service-bus frame: identifier, data, and whether it is an FD frame with BRS or a classical one (R327, R328, R332). -/
  | service (id : BitVec 29) (data : List Byte) (fd : Bool)
  /-- An error flag on the service bus: passive or active (R344). -/
  | errorFlag (passive : Bool)
  /-- A service-bus acknowledgement of a received frame (R331, R333). -/
  | serviceAck
  /-- An ISO/IEC 15693 answer: error code, or none with data (R388). -/
  | reader (error : Option Byte) (data : List Byte)
  /-- An ISO/IEC 15693 Inventory answer in one of up to 16 slots (R388). -/
  | inventory (slot : BitVec 4) (data : List Byte)
  /-- An RDM response: PID, whether it is an ACK, NACK reason, data, and the ns from the last stop bit of its request (R357). -/
  | rdm (pid : Half) (ack : Bool) (reason : Half) (data : List Byte) (afterNs : Nat)
  /-- A DALI backward frame, and the ns from the end of its forward frame (R359). -/
  | dali (b : Byte) (afterNs : Nat)
  /-- A leaf-link packet: downstream or upstream, type, leaf field, W1, payload (R423). -/
  | leaf (down : Bool) (type : BitVec 4) (leaf : BitVec 6) (w1 : Word) (payload : List Byte)
  /-- An FZ5140-format packet forwarded or sent (R433). -/
  | fz (down : Bool) (type : BitVec 4) (chip : BitVec 7) (w1 : Word) (payload : List Byte)
  /-- SYNC_OUT marks a frame seam on AUX0: a 2 us pulse, or a change to this level (R178, R292). -/
  | syncOut (pulse : Bool) (level : Bool)
  deriving DecidableEq, Repr

/-! ### Clocks, reset and start-up (R22, R411 to R421, R479) -/

/-- The reset causes of R411, code 1 to 7 in this order. -/
inductive ResetCause where
  | firstPower
  | mainPowerLoss
  | vddIo
  | resetN
  | watchdog
  | larderEngine
  | s4Wake
  deriving DecidableEq, Repr, Inhabited

/-- How far start-up has come (R414): no supplies or in reset; hold and clocks done and straps awaited; running. -/
inductive Phase where
  | off
  | inReset
  | awaitStraps
  | cellarHold
  | running
  deriving DecidableEq, Repr, Inhabited

structure StartUp where
  phase : Phase
  /-- The step of R414 that start-up runs next: 2, 4, 5, 6, 9 or 10; 0 when none is left. -/
  stage : Nat
  /-- An ENUM_CLAIM for this epoch, and a JOIN, that wait for the end of step 6 (R421). -/
  claimDue : Option Word
  joinDue : Bool
  cause : ResetCause
  /-- The instant S, in ns of the node's own clock (R414). -/
  s : Nat
  strapsKept : Bool
  /-- The supplies of R408 word 5. -/
  coreGood : Bool
  sdGood : Bool
  ioGood : Bool
  auxGood : Bool
  vrowGood : Bool
  /-- End times in us of steps 3, 4, 6, 8, 10, 12 and first light (R420). -/
  stepUs : List Word
  selfTestFailures : Nat
  selfTestsSinceBoot : Nat
  firstLight : Bool
  /-- The show restore of R256 is still due at the next frame seam. -/
  restoreDue : Bool
  /-- Journal entries below this number are those the last replay found (R132). -/
  replayNo : Nat
  /-- Report seconds ended since S (R479). -/
  secondsEnded : Nat
  startupSlateReported : Bool
  deriving DecidableEq, Repr

/-! ### Straps (R31 to R51) -/

structure Straps where
  svcOn : Bool
  /-- The instant from which SVC power has been good (R31). -/
  svcSince : Nat
  read : Bool
  /-- The twelve levels by strap index (R49). -/
  levels : List (BitVec 4)
  /-- The mean code, spread, between and unstable of each strap as the strap word carries them (R50). -/
  words : List Word
  irefWords : List Word
  conflicts : List Word
  /-- The IREF pins, by bit, whose resistor has opened since the measurement (R47, R51). -/
  irefOpen : BitVec 4
  deriving DecidableEq, Repr

/-! ### Spine (R52 to R81) -/

inductive PortState where
  | down
  | acquire
  | blockLock
  | deskew
  | confirm
  | up
  deriving DecidableEq, Repr, Inhabited

structure PortS where
  st : PortState
  since : Nat
  /-- The port holds fast-acquire until this instant (R75). -/
  fastUntil : Nat
  /-- The current acquisition is a fast one (R57). -/
  fastNow : Bool
  twoLanes : Bool
  laneMismatch : Bool
  rateSuspected : Bool
  degraded : Bool
  /-- Neighbour serial low 16 bits from HELLO (R110). -/
  nbrLow : Half
  /-- Neighbour serial from IDENT (R101). -/
  nbrSerial : Option Long
  /-- The port faces a spliced position until this Mantel time in ns (R75). -/
  windowEnd : Option Nat
  /-- The last port-down fell in such a window. -/
  inWindow : Bool
  /-- Words 1 to 8 of the port block of R110. -/
  counts : Counters
  outageUs : Word
  downAt : Nat
  crcThisSecond : Nat
  crcLastSecond : Word
  nextIdent : Nat
  /-- The skew between the two lanes that DESKEW removed, in ps (R53). -/
  skewPs : Nat
  /-- The equaliser preset that the last full acquisition began from: CFG_RING level[3] (R40, R57). -/
  eqLong : Bool
  deriving DecidableEq, Repr

structure MergeEntry where
  chan : Half
  seq : Word
  dest : BitVec 12
  time : Nat
  deriving DecidableEq, Repr

structure RingMap where
  epoch : Word
  size : Nat
  inserted : List Bool
  deriving DecidableEq, Repr

/-- A held splice window (R75, R77): its start and length in ns, and the SPL sequence that brought it. -/
structure Window where
  tw : Nat
  len : Nat
  seq : Word
  deriving DecidableEq, Repr

structure Spine where
  east : PortS
  west : PortS
  mergeMem : List MergeEntry
  bypHold : Bool
  pllLocked : Bool
  selfTestPassed : Bool
  /-- The last loopback self-test failed: the node stays bridged (R73). -/
  selfTestFailed : Bool
  internalSelfTest : Bool
  /-- The next sense sample, after a BYP_HOLD edge or one second later (R72). -/
  senseDue : Nat
  switchRetries : Nat
  retryDue : Option Nat
  switchFailed : Bool
  stuck : Bool
  switchFaultSeen : Bool
  switchFaultsLogged : Nat
  ringMap : Option RingMap
  leaveWin : Option Window
  returnWin : Option Window
  /-- Windows naming other positions, which may face this node's ports at their T_w (R75, R114). -/
  watched : List (Half × Window)
  /-- Bridged by a leave since this instant (R77). -/
  leftAt : Option Nat
  selfTestDue : Option Nat
  splSeen : List Word
  /-- Records of failed self-tests that wait for the next JOIN (R417). -/
  untold : List EventRec
  malformed : Counters
  collisionReported : Bool
  earlyQuires : List Word
  ctlQueue : List (Port × Folio)
  /-- Folios of the ring to the leaves already copied: dest, a group's standing apart by bit 12, quire, off (R426). -/
  sigCopied : List (Half × Word × BitVec 10)
  /-- The last quire presented, as the template of GSP holds it (R113). -/
  lastQuire : Word
  deriving DecidableEq, Repr

/-! ### Addressing (R89 to R104) -/

structure Addressing where
  addr : BitVec 12
  pos : Half
  pinConflict : Bool
  epoch : Word
  reportSeq : Word
  /-- The last address held and the last ring position, which the case page keeps (R389). -/
  lastAddr : BitVec 12
  lastPos : Half
  tamperSinceJoin : Bool
  deriving DecidableEq, Repr

/-! ### Hall, journal and keys (R115 to R161) -/

/-- A control message after the tag check: its channel code, sequence, command, role and body. -/
structure Msg where
  chan : Half
  seq : Word
  cmd : Half
  role : BitVec 2
  body : List Byte
  /-- The number of its acceptance, which tells it from another message of its channel and sequence after a rebase (R136,
  R158); 0 before acceptance. -/
  no : Nat
  deriving DecidableEq, Repr, Inhabited

/-- A journal entry: an accepted message not yet completed, with its acceptance number (R128, R158). -/
structure Entry where
  msg : Msg
  no : Nat
  dispatched : Bool
  /-- Dispatch has finished under R123. -/
  finished : Bool
  deriving DecidableEq, Repr

structure Summary where
  no : Nat
  chan : Half
  seq : Word
  cmd : Half
  role : BitVec 2
  /-- 1 accepted, 2 dispatched, 3 completed (R140). -/
  st : BitVec 4
  result : BitVec 4
  crc : Word
  /-- The number of its completion record, 0 while it is not completed (R158). -/
  doneNo : Nat
  deriving DecidableEq, Repr

structure Channel where
  code : Half
  expected : Word
  completed : Word
  held : List Msg
  deriving DecidableEq, Repr

/-- A report still to be queued, by report type and payload. -/
structure Answer where
  rtype : Half
  payload : List Byte
  deriving DecidableEq, Repr

/-- A message its subsystem has reported done and whose completion record is still to be written (R124). -/
structure Done where
  chan : Half
  seq : Word
  /-- The number of the message's acceptance. -/
  no : Nat
  result : BitVec 4
  answers : List Answer
  /-- The role whose key the completion record puts in force, with the key, or none for a revoke (R152). -/
  key : Option (Nat × Option Block)
  deriving DecidableEq, Repr

/-- Sequences of a channel, one after another, whose summaries the ring has overwritten (R140). -/
structure LostRun where
  chan : Half
  first : Word
  last : Word
  deriving DecidableEq, Repr

/-- The Hall. Channels without their held messages, entries, summaries and the record numbers are the journal of the
Archive (R128): they survive every reset; the other fields do not. -/
structure Hall where
  ready : Bool
  powerFail : Bool
  channels : List Channel
  entries : List Entry
  summaries : List Summary
  nextNo : Nat
  /-- The sequences whose summaries the ring has overwritten, in runs (R140). -/
  overwritten : List LostRun
  auditedThrough : Nat
  /-- The message whose journal write is open (R118). -/
  writing : Option Msg
  done : List Done
  replayed : Bool
  archiveLost : Bool
  /-- Tag failures and keyless attempts this report second, by role (R155). -/
  tagFails : List Nat
  keyless : List Nat
  /-- The instant the last ACK or report was queued (R403). -/
  lastQueued : Nat
  deriving DecidableEq, Repr

structure AuditEntry where
  serial : Word
  chan : Half
  cmd : Half
  seq : Word
  tsec : Word
  tns : Word
  role : BitVec 2
  outcome : BitVec 4
  result : BitVec 4
  rebuilt : Bool
  deriving DecidableEq, Repr

/-! ### Mantel (R162 to R192) -/

inductive Lock where
  | unset
  | acquiring
  | locked
  | holdover
  | free
  deriving DecidableEq, Repr, Inhabited

inductive TimeSource where
  | ringMaster (domain : Byte) (identity : Long)
  | syncIn (domain : Byte) (rate : Nat)
  | freeRun (domain : Byte)
  deriving DecidableEq, Repr

/-- The PTP state of one port (R167, R170). Times in 2^-16 ns of Mantel time. -/
structure PortSync where
  /-- A complete Sync: t1, t2 and the summed correction. -/
  sync : Option (Int × Int × Int)
  /-- A two-step Sync awaiting its Follow_Up: sequence, t2, its ingress instant on the RING time counter, correction, instant
  received. -/
  pending : Option (BitVec 16 × Int × Int × Int × Nat)
  reqSeq : BitVec 16
  /-- The egress stamp of the last Delay_Req that left, with its sequence. -/
  t3 : Option (BitVec 16 × Int)
  reqDue : Nat
  /-- The corrected t1 and ingress instant of the Sync before, on the RING time counter (R172). -/
  prevSync : Option (Int × Int)
  /-- The last eight values of ms + sm, newest first (R170). -/
  delays : List Int
  /-- The mean path delay and the last offset (R170). -/
  d : Int
  o : Int
  lastMeasured : Nat
  measured : Bool
  loopbackPs : Nat
  lane0Ps : Nat
  deriving DecidableEq, Repr

structure ArmedCue where
  chan : Half
  seq : Word
  no : Nat
  /-- T in ns (R253). -/
  t : Nat
  late : Bool
  deriving DecidableEq, Repr

structure ArmedCensus where
  chan : Half
  seq : Word
  no : Nat
  id : Word
  t : Nat
  deriving DecidableEq, Repr

/-- The census bank (R183 to R186): header facts and the latched sections by section code. -/
structure Bank where
  id : Word
  t : Nat
  latch : Nat
  latchedAt : Nat
  epoch : Half
  lock : BitVec 4
  released : Bool
  aged : Bool
  sections : List (Nat × List Word)
  /-- The census whose completion waits for the copier (R184). -/
  copying : Option (Half × Word × Nat)
  deriving DecidableEq, Repr

/-- What Mantel leaves with the Spine at entry to S2 or S3 (R182). -/
structure Anchor where
  ringCount : Nat
  time : Nat
  addend : Int
  p : Nat
  epoch : Half
  lock : Lock
  alarm : Option Nat
  deriving DecidableEq, Repr

structure Mantel where
  /-- Mantel time in units of 2^-32 ns since the PTP epoch (R162, R163). -/
  time : Nat
  addend : Int
  /-- The timeline time P in the same units (R175). -/
  p : Nat
  epoch : Half
  hold : Bool
  lock : Lock
  /-- In ACQUIRING, whether time was valid on entry (R172). -/
  validOnEntry : Bool
  /-- The master followed while none is named: set by the first valid Sync (R168). -/
  firstMaster : Option Long
  /-- The first measurement of ACQUIRING is applied as a step (R174). -/
  firstMeasure : Bool
  east : PortSync
  west : PortSync
  inUseEast : Bool
  prefRun : Nat
  lockRun : Nat
  bigRun : Nat
  logInterval : Int
  lastSync : Nat
  lastOffset : Int
  holdoverSince : Nat
  holdoverLast : Nat
  /-- A step of this size in 2^-32 ns, to apply at the next refresh seam of the old grid (R176). -/
  stepPending : Option Int
  /-- A change of direction is taken up without a step (R171). -/
  noStep : Bool
  /-- The syntonised rate from two Syncs or edges, as an addend (R172, R174). -/
  rate : Option Int
  /-- The part of the addend that slews an offset away; the rest is the syntonised rate (R174). -/
  slew : Int
  /-- The last sixteen values of O_EAST - O_WEST, newest first (R171). -/
  diffs : List Int
  /-- The hold depth in ns measured at the last step of the hold (R175). -/
  holdDepth : Nat
  /-- The lock state that a leaf's TIME carries lets its time be valid (R430); true in the other roles. -/
  carried : Bool
  diffReported : Option Nat
  masterReported : Option Nat
  lastEdge : Option Nat
  /-- The instant at which ASYMMETRY_SET last changed an entry, with the entries of EAST and WEST that a measurement of that instant
  still uses (R192). -/
  asymWas : Option (Nat × Int × Int)
  cues : List ArmedCue
  censuses : List ArmedCensus
  bank : Option Bank
  anchor : Option Anchor
  /-- Section 0x03 (R187). -/
  counts : Counters
  rtcSetAt : Nat
  deriving DecidableEq, Repr

/-! ### Larder and frames (R193 to R212) -/

inductive SlotState where
  | free
  | receiving
  | ready
  | bound
  | presenting
  deriving DecidableEq, Repr, Inhabited

structure Slot where
  st : SlotState
  quire : Word
  qtime : Word
  /-- Presentation time in ns: extended qtime plus the D the slot was opened with (R199). -/
  pres : Nat
  /-- 0 own address, 1 group, 2 broadcast (R210), with the group number. -/
  cls : BitVec 2
  group : Byte
  depth : BitVec 2
  cfmt : BitVec 2
  covered : List Nat
  data : Memory
  deriving DecidableEq, Repr

inductive FeedState where
  | await
  | live
  | lost
  deriving DecidableEq, Repr, Inhabited

structure FeedPolicy where
  policy : Nat
  slate : Nat
  timeoutMs : Nat
  fadeMs : Nat
  holdS : Nat
  deriving DecidableEq, Repr

structure Watermark where
  noticed : Bool
  crossings : Nat
  peak : Nat
  lastInterval : Option Nat
  deriving DecidableEq, Repr

structure Larder where
  slots : List Slot
  /-- The two plates: drive units in emitter order; an emitter beyond the list has drive unit 0. -/
  plates : List (List Nat)
  /-- The frame seam of the quire on light, in ns, unless forgotten (R175, R196). -/
  seamOnLight : Option Nat
  fstate : FeedState
  feed : FeedPolicy
  /-- The instant of the last frame seam that put a new stream quire on light (R210). -/
  feedSince : Nat
  /-- The timer stands still (R202). -/
  feedStopped : Bool
  /-- The instant the timer last restarted (R202, R242). -/
  feedRestart : Nat
  lostAt : Nat
  holdEnded : Bool
  reports : List OwnFolio
  /-- Reports that wait for room in queue 0x01 (R205). -/
  waiting : List OwnFolio
  events : List EventRec
  waters : List Watermark
  /-- Section 0x04 (R211). -/
  counts : Counters
  secHolds : Nat
  secSuperseded : Nat
  secLate : Nat
  /-- The presentation delays completed since start-up, newest first: first quire and delay in us; and the delay of
  start-up (R200). -/
  delays : List (Word × Nat)
  delayBase : Nat
  /-- EVENT 0x0404 of the running loss has been raised (R203). -/
  lossSlateTold : Bool
  /-- Quires that an uncorrectable error dropped from their slot and that have not come again: number and frame seam
  (R194). -/
  dropped : List (Word × Nat)
  /-- Census bank words that read as all ones after an uncorrectable error, by place in the bank (R194). -/
  badBankWords : List Nat
  deriving DecidableEq, Repr

/-! ### Slates, fades and cues (R239 to R261) -/

inductive Source where
  | slate (n : Nat)
  | stream
  | dark
  deriving DecidableEq, Repr, Inhabited

structure SourceFade where
  target : Source
  start : Nat
  ms : Nat
  shape : Nat
  deriving DecidableEq, Repr

structure LevelFade where
  mode : Nat
  l0 : Nat
  n0 : Nat
  target : Nat
  start : Nat
  ms : Nat
  shape : Nat
  deriving DecidableEq, Repr

/-- The show's standing values in the journal (R256). -/
structure Standing where
  programme : Source
  mode : Nat
  target : Nat
  arc : Nat
  deriving DecidableEq, Repr

structure CacheEntry where
  slate : Nat
  /-- 0 empty, 1 filling, 2 valid (R259). -/
  st : Nat
  deriving DecidableEq, Repr

structure Show where
  programme : Source
  picture : Source
  fade : Option SourceFade
  level : Option LevelFade
  lambda : Nat
  lambdaTarget : Nat
  mode : Nat
  /-- The arc position in force, 8.8, when the level was last set in mode 1 (R251). -/
  arc : Option Nat
  alpha : Nat
  /-- 0 none, 1 AWAIT, 2 loss (R259). -/
  overlay : Nat
  /-- The frame seam of first light, once its render point has come (R415). -/
  firstSeam : Option Nat
  cache : List CacheEntry
  /-- Section 0x06 (R260). -/
  counts : Counters
  deriving DecidableEq, Repr

/-! ### Bindery (R213 to R238) -/

/-- The header values of a calibration image (R231). -/
structure CalParams where
  streamTf : Nat
  slateTf : Nat
  pqPeak : Nat
  w : List Nat
  kw : Nat
  oc : List Nat
  sensors : List Nat
  deriving DecidableEq, Repr

/-- What one Bindery lane reads, latched at the start of a pass (R214). -/
inductive LaneSrc where
  | slot (k : Nat)
  | slate (n : Nat) (fromShadow : Bool)
  | dark
  deriving DecidableEq, Repr

structure Pass where
  plate : Nat
  epoch : Half
  isFrame : Bool
  /-- The frame seam in ns that a frame handle serves. -/
  seam : Nat
  start : Nat
  laneA : LaneSrc
  laneB : LaneSrc
  alpha : Nat
  lambda : Nat
  gains : List Nat
  /-- The slot this pass makes BOUND, or re-renders. -/
  slot : Option Nat
  /-- Its quire, when the stream feeds the plate (R198). -/
  quire : Option Word
  deriving DecidableEq, Repr

/-- A pass that is due: that of a frame seam with the slot taken for it, or a re-render (R213). -/
inductive PassDue where
  | frame (seam : Nat) (taken : Option Nat)
  | reRender
  deriving DecidableEq, Repr

/-- An object held in the Archive under R138: its bytes, size, identity, and whether its recorded check passes. -/
structure Obj where
  data : Memory
  size : Nat
  identity : Word
  valid : Bool
  deriving DecidableEq, Repr

/-- What a working-copy load brings in, as the Archive held it when the load began: which of the calibration, the factory values and
the curve tables, and their objects (R233). -/
structure LoadSource where
  cal : Bool
  fact : Bool
  tables : Bool
  calibration : Option Obj
  factory : Option Obj
  curves : List (Option Obj)
  deriving DecidableEq, Repr

def LoadSource.empty : LoadSource :=
  { cal := false, fact := false, tables := false, calibration := none, factory := none, curves := [] }

structure Bindery where
  fallback : Bool
  liveIdentity : Word
  params : CalParams
  /-- The matrix array of region 3 as loaded. -/
  matrices : List Byte
  factoryOk : Bool
  /-- The first 320 bytes of the factory block as loaded (R231). -/
  factoryBlock : List Byte
  wearGains : List Nat
  atCap : Nat
  /-- Curve tables of region 5: curve words (R218). -/
  curves : List (List Half)
  pass : Option Pass
  /-- The last pass that ended (R213). -/
  shown : Option Pass
  /-- A pass that waits for the seam of the cut-off it met (R213, R277). -/
  waiting : Option PassDue
  /-- A re-render that waits for the end of a pass, a load or a reload (R213, R233). -/
  reRenderDue : Bool
  /-- A load end, wear recompute or temperature change asks for a pass at the next render point (R213). -/
  passWanted : Bool
  lastPass : Nat
  lastPassNs : Nat
  longestNs : Nat
  temp : Int
  tsrc : Nat
  fresh : Nat
  gains : List Nat
  firstPass : Bool
  /-- Loads waiting: true for the calibration, false for the curves; with the instant asked for (R233). -/
  loadDue : Option Nat
  loadCal : Bool
  loadFactory : Bool
  loadCurves : Bool
  loadForced : Bool
  loading : Option Nat
  /-- What the load that runs brings in, as the Archive held it when the load began (R233). -/
  loadFrom : LoadSource
  loadHolds : Nat
  calEventDue : Bool
  recomputeDue : Bool
  /-- Regions 3 to 5 under reload after an error: no new quire until this instant (R194). -/
  reloadUntil : Nat
  lambdaHouse : Nat
  /-- Section 0x05 (R237). -/
  counts : Counters
  deriving DecidableEq, Repr

/-! ### Press (R262 to R283) and its protection (R284 to R306) -/

structure Timing where
  epoch : Half
  deadNs : Nat
  minp : Nat
  trims : List Nat
  deriving DecidableEq, Repr

structure PendingSet where
  set : Timing
  apply : Nat
  due : Nat
  chan : Half
  seq : Word
  no : Nat
  /-- A set of an FZ5140 GAIN completes no message (R433). -/
  silent : Bool
  deriving DecidableEq, Repr

structure Handle where
  plate : Nat
  epoch : Half
  isFrame : Bool
  seam : Nat
  slot : Option Nat
  quire : Option Word
  deriving DecidableEq, Repr

/-- A word crossing from CCLK to PCLK in order (R277). -/
inductive Crossing where
  | handle (h : Handle)
  | withdraw (plate : Nat)
  deriving DecidableEq, Repr

structure Press where
  /-- Refreshes run on the grid (R263): from start-up step 5, not in S2 to S4. -/
  running : Bool
  timing : Timing
  lastEpoch : Half
  pendingSet : Option PendingSet
  crossing : List Crossing
  handles : List Handle
  plateOn : Nat
  plateEpoch : Half
  plateIsFrame : Bool
  /-- E of R277: the epoch that plates are judged by. -/
  epochE : Half
  /-- The handle chosen at the last cut-off for the seam to come. -/
  chosen : Option Handle
  cutoffDone : Bool
  residues : List Int
  /-- Mantel time in ns of the last refresh seam, and whether one has come. -/
  lastSeam : Nat
  seamSeen : Bool
  lastFrameSeam : Nat
  frameSeamSeen : Bool
  refreshNo : Nat
  refreshesThisFrame : Nat
  framesN : Nat
  slot : Nat
  slotsDone : Bool
  /-- The slot in which the dark gap of a Mantel step holds (R279). -/
  darkGap : Bool
  trims6 : List Nat
  unlocked : List Nat
  /-- The widths emitted in the last slot, by logical position, and the row on. -/
  widths : List Nat
  rowOn : Option Nat
  seamErrorPs : Int
  /-- The addend by which the fractional word of the PCLK PLL is set, and its phase moved so far, in ps (R262). -/
  pllAddend : Int
  phasePs : Int
  /-- L of the last row slot, and of the last frame (R281). -/
  slotL : Nat
  frameL : Nat
  seamErrSecond : Option Nat
  secDropped : Nat
  secWithdrawn : Nat
  lastDroppedEpoch : Half
  syncOut : Bool
  /-- The last render point taken, by its frame seam in ns, and whether that seam was designated for a quire. -/
  renderedFor : Option Nat
  renderedQuire : Bool
  /-- Section 0x07 words 0 to 33 (R282, R305). -/
  counts : Counters
  deriving DecidableEq, Repr

structure TripInput where
  /-- The filtered input is asserted. -/
  asserted : Bool
  inForce : Bool
  holding : Bool
  /-- An episode is open, with its assertions so far (R303). -/
  episode : Bool
  assertions : Nat
  quietSince : Nat
  /-- It has taken effect since start-up (R303). -/
  seen : Bool
  deriving DecidableEq, Repr, Inhabited

structure ForceSet where
  limitS : Nat
  width : Nat
  codes : List (BitVec 2)
  rows : List Bool
  deriving DecidableEq, Repr

inductive TapInstr where
  | bypass
  | extest
  | samplePreload
  | highz
  | freeze
  deriving DecidableEq, Repr, Inhabited

structure ClearReq where
  mask : Byte
  due : Nat
  chan : Half
  seq : Word
  no : Nat
  deriving DecidableEq, Repr

structure Protect where
  inputs : List TripInput
  clears : List ClearReq
  force : Option ForceSet
  forceAt : Nat
  /-- The force sets and releases that await their seam, in order: none clears (R294). -/
  forceWait : List (Option ForceSet × Nat × Half × Word × Nat)
  tap : TapInstr
  /-- A freeze or blanking holds the sequencing until the seam after its end (R298). -/
  frozen : Bool
  frozenDark : Bool
  jtagUntil : Option Nat
  jtagOn : Bool
  boundary : BitVec 294
  driven : BitVec 294
  pclkLost : Bool
  /-- The delay lines have locked from this instant on (R268). -/
  linesLocked : Nat
  /-- Dark after a release of dark forcing, of a freeze or of a brown-out, until the next refresh seam. -/
  resumeAtSeam : Bool
  deriving DecidableEq, Repr

/-! ### Collator (R307 to R326) -/

inductive DefKind where
  | opn
  | shrt
  deriving DecidableEq, Repr, Inhabited

/-- The state of an emitter, column or row that is not HEALTHY: count 1 or 2 for SUSPECT, 3 for DECLARED (R316). -/
structure ObjState where
  kind : DefKind
  count : Nat
  lastRefresh : Nat
  passes : Nat
  /-- The kind, count and passes before the detection of that refresh, for a column detection that takes it back (R313). -/
  before : Option (DefKind × Nat × Nat)
  deriving DecidableEq, Repr

/-- What the Collator hands to Porter (R316). -/
inductive Detection where
  | emitter (row sink : Nat) (kind : DefKind) (mv refresh : Nat)
  | emitterPass (row sink : Nat) (kind : DefKind)
  | column (sink : Nat) (kind : DefKind) (mv refresh : Nat)
  | columnPass (sink : Nat) (kind : DefKind)
  | row (row : Nat) (refresh : Nat)
  | rowPass (row : Nat)
  deriving DecidableEq, Repr

structure DefectRec where
  kind : BitVec 4
  unmapped : Bool
  paired : Bool
  row : Byte
  sink : Byte
  tsec : Word
  tns : Word
  level : Half
  mapped : Half
  deriving DecidableEq, Repr

/-- One judged slot of the refresh in progress: its row, the sinks open, short and passing the open test. -/
structure SlotTests where
  row : Nat
  opens : List Reading
  shorts : List Reading
  openTested : List Nat
  shortTested : List Nat
  openDiscarded : Bool
  deriving DecidableEq, Repr

structure Collator where
  emitters : List (Nat × ObjState)
  columns : List (Nat × ObjState)
  rows : List (Nat × ObjState)
  fifo : List Detection
  tests : List SlotTests
  /-- The instant each emitter was last inspected, for emitters inspected since start-up (R314). -/
  inspected : List (Nat × Nat)
  proofSinks : List Nat
  /-- Declarations to report, each with the instant it was gathered (R321). -/
  gathered : List (Nat × DefectRec)
  gatherSince : Nat
  excludeUntil : Nat
  excluded : Bool
  pairRuns : List (Nat × DefKind × Nat)
  secOpens : Nat
  secShorts : Nat
  lastDiscardRow : Nat
  /-- Section 0x08 (R324). -/
  counts : Counters
  deriving DecidableEq, Repr

/-! ### Backstair (R327 to R350) -/

inductive BusState where
  | off
  | integrating
  | active
  | silent
  deriving DecidableEq, Repr, Inhabited

inductive Confine where
  | active
  | passive
  | busOff
  deriving DecidableEq, Repr, Inhabited

structure ClassS where
  st : Confine
  txc : Nat
  rxc : Nat
  recovering : Bool
  deriving DecidableEq, Repr

structure Peer where
  serial : Long
  heard : Nat
  deriving DecidableEq, Repr

structure Kept where
  index : Nat
  src : Byte
  data : List Byte
  time : Nat
  stamp : Word
  valid : Bool
  /-- A sensor's last valid reading with its start-of-frame stamp (R334). -/
  good : Option (Half × Word)
  deriving DecidableEq, Repr

/-- A frame in a receive queue: identifier, data and start-of-frame stamp (R338). -/
structure StoredFrame where
  id : BitVec 29
  data : List Byte
  stamp : Word
  deriving DecidableEq, Repr

structure TxFrame where
  id : BitVec 29
  data : List Byte
  deriving DecidableEq, Repr

structure Backstair where
  pstate : BusState
  station : Byte
  peers : List Peer
  peersSince : Nat
  announceFails : Nat
  announceStopped : Bool
  firstActive : Option Nat
  announceDue : Option Nat
  statusDue : Nat
  /-- The priority buffer and the receive FIFO (R338). -/
  priority : List StoredFrame
  fifo : List StoredFrame
  /-- Filters 8 to 31: what the loaded patch gives them (R337). -/
  patterns : List (Option (BitVec 29 × BitVec 29))
  alarms : List TxFrame
  buf0 : Option TxFrame
  buf1 : Option TxFrame
  buf2 : Option TxFrame
  /-- The buffer offered to arbitration with its frame, and whether a cancel met it there (R342, R343). -/
  offered : Option (Nat × TxFrame)
  cancelled : Bool
  finishing : Bool
  /-- After a protocol exception the controller waits for bus idle (R327). -/
  excepted : Bool
  /-- The node transmitted last in a PASSIVE class, so it suspends transmission (R344). -/
  suspend : Bool
  alarm : ClassS
  chatter : ClassS
  ackRun : Nat
  lone : Bool
  /-- The BUS_RESUME messages that wait for ALARM to recover: channel, sequence, number, and the instant of dispatch (R345). -/
  resume : List (Half × Word × Nat × Nat)
  /-- The free-running service-clock counter as last captured, and when (R339). -/
  counter : Word
  countedAt : Nat
  /-- The newest correlation pairs, newest first: counter and Mantel ns (R339). -/
  pairs : List (Word × Nat)
  sensors : List Kept
  supplies : List Kept
  fans : List Kept
  peerStatus : List Kept
  dieTemp : Int
  dieTempAt : Nat
  dieMeasured : Bool
  secDespite : Nat
  despiteMask : Nat
  /-- Section 0x09 (R349). -/
  counts : Counters
  deriving DecidableEq, Repr

/-! ### Legacy port (R351 to R367) -/

/-- The persisted variables of the legacy block (R358). -/
structure LegacyBlock where
  start : Nat
  personality : Nat
  label : List Byte
  powerOn : Nat
  sysFail : Nat
  minLevel : Nat
  maxLevel : Nat
  fadeTime : Nat
  extFade : Nat
  fadeRate : Nat
  scenes : List Nat
  short : Nat
  groups : BitVec 16
  random : BitVec 24
  allow : Bool
  cap : Nat
  deriving DecidableEq, Repr

structure Legacy where
  blk : LegacyBlock
  writeDue : Option Nat
  /-- The level slots as last carried, with the level they map to in U1.15, and the slate select and fade slots. -/
  coarse : Nat
  fine : Nat
  dmxLevel : Nat
  slateSel : Nat
  fadeSlot : Nat
  dmxSeen : Bool
  lastValid : Nat
  lost : Bool
  afterLoss : Bool
  muted : Bool
  identify : Bool
  identifyDue : Nat
  identifyDark : Bool
  daliActual : Nat
  daliLast : Nat
  daliTarget : Nat
  daliFadeStart : Nat
  daliFadeMs : Nat
  daliFrom : Nat
  /-- A level has been commanded and takes its start from the next frame seam (R359, R367). -/
  daliPending : Bool
  /-- The personality at which the newest packet was read (R357, R367). -/
  readAs : Nat
  /-- Start addresses and personalities that have been replaced, each with the instant it stood until, newest first, back to the last
  packet (R357, R367). -/
  replaced : List (Nat × Nat × Nat)
  /-- A slate selection not stored whose EVENT 0x0602 has been raised (R254, R354). -/
  slateTold : Option Nat
  /-- The instants between which the last RDM response is sent (R351, R357). -/
  replyFrom : Nat
  replyUntil : Nat
  dtr0 : Nat
  dtr1 : Nat
  dtr2 : Nat
  search : BitVec 24
  initialise : Bool
  initUntil : Nat
  withdrawn : Bool
  enabledType : Option Nat
  lastConfig : Option (BitVec 16 × Nat)
  daliFailed : Bool
  powerCycleSeen : Bool
  limitError : Bool
  /-- A DAPC sequence stands until this instant (IEC 62386-102). -/
  dapcUntil : Nat
  /-- Section 0x0A (R366). -/
  counts : Counters
  deriving DecidableEq, Repr

/-! ### Cellar and Archive (R368 to R395) -/

inductive CellState where
  | precharge
  | charge
  | full
  | paused
  | discharge
  | cutOff
  deriving DecidableEq, Repr, Inhabited

structure Challenge where
  counter : Long
  nonce : Long
  issued : Nat
  deriving DecidableEq, Repr

structure Cellar where
  cell : CellState
  vcellMv : Nat
  /-- The Cellar's own temperature at the last crossing, in degrees C (R369, R370). -/
  tempC : Int
  /-- The RTC count in ns; it is read in units of 1/32,768 s (R371). -/
  rtc : Nat
  /-- The part of a ns that the RTC's own rate has run beyond that count, in 10^-7 ns (R371). -/
  rtcPart : Nat
  rtcValid : Bool
  rtcAlarm : Option Nat
  tamperOpens : Nat
  tamperClosed : Bool
  tamperEvents : Nat
  lastTamper : Word
  tamperDue : Nat
  /-- The reset cause recorded in CELL at detection; none at first power and after CUT_OFF (R411). -/
  cause : Option ResetCause
  watchdogArmed : Bool
  lastKick : Nat
  warned : Bool
  darkPclk : Bool
  darkWatchdog : Bool
  darkPower : Bool
  /-- The instant D of power-fail detect (R386). -/
  failAt : Option Nat
  /-- After a detect CORE works up to this instant, which the board's hold-up sets (R131). -/
  coreUntil : Nat
  isolated : Bool
  field : Bool
  reservoirPj : Nat
  quiet : Bool
  selected : Bool
  challenge : Option Challenge
  challengeCount : Long
  /-- Records the Cellar raised while CORE was off, queued as reports after replay (R376). -/
  unreported : List EventRec
  /-- Section 0x0B words 0 to 13 (R394). -/
  counts : Counters
  deriving DecidableEq, Repr

/-- The open transfer's record beside the shadow (R139). -/
structure Transfer where
  cls : Byte
  index : Byte
  size : Nat
  check : Word
  identity : Word
  chan : Half
  seq : Word
  /-- The number of that OBJ_BEGIN's acceptance. -/
  no : Nat
  /-- The stretches of the shadow that OBJ_DATA has marked valid, from and to, and their bytes in all (R139). -/
  covered : List (Nat × Nat)
  received : Nat
  deriving DecidableEq, Repr

/-- The maker's fields of the colophon (R381). -/
structure Colophon where
  format : Byte
  /-- The reserved bytes that the maker's fields take in: 1 to 3, 22 to 25 and 76 to 79 (R381). -/
  spare : List Byte := List.replicate 11 0
  date : Word
  esta : Half
  gtin : BitVec 48
  daliId : Long
  makerName : List Byte
  rtcTrim : Int
  deriving DecidableEq, Repr

structure Archive where
  calibration : Option Obj
  factory : Option Obj
  slates : List (Option Obj)
  curves : List (Option Obj)
  patch : Option Obj
  /-- The patch loaded at the last start-up (R17). -/
  patchLoaded : Word
  /-- A patch of non-zero length was loaded at the last start-up (R109). -/
  patchIn : Bool
  colophon : Colophon
  keys : List (Option Block)
  /-- The key fingerprints of the colophon, operator, installer, maker: 0 when no key is held (R145, R381). -/
  prints : List Long
  /-- Both colophon and key copies are bad (R378). -/
  keysLost : Bool
  shadow : Memory
  transfer : Option Transfer
  /-- A commit copy in progress: the transfer and the message it completes (R139). -/
  copying : Option (Transfer × Half × Word × Nat)
  /-- That copy has begun: the copy of a slate begins only between passes (R244). -/
  copyBegun : Bool
  /-- The transfer that a commit closed and whose completion record is still to be written, by the commit's number: a replay
  dispatches that commit again (R132). -/
  closing : Option (Transfer × Nat)
  standing : Standing
  pin : Option (BitVec 12)
  tolUs : Nat
  delayUs : Nat
  source : Option TimeSource
  asymEast : Int
  asymWest : Int
  audit : List AuditEntry
  auditNext : Word
  /-- The event log: newest 2,048 records, oldest first (R376). -/
  eventLog : List EventRec
  loggedThisSecond : Nat
  /-- The report second that count stands for (R376, R479). -/
  loggedSecond : Nat
  mapRecords : List DefectRec
  disabled : List Nat
  defectCounts : List Nat
  label : List Byte
  secondsPowered : Nat
  secondsLit : Nat
  poweredFrom : Nat
  litFrom : Option Nat
  /-- Lit time not yet persisted, in ns. -/
  litNs : Nat
  powerCycles : Nat
  rtcAtPersist : Word
  /-- Wear integrals by emitter in mA·s, the working copy and the persisted copy; the remainders below
  1 mA·s are in units of 1 uA x 50 ps / 256. -/
  wear : List Nat
  wearRest : List Nat
  wearSaved : List Nat
  /-- Region 8 as it stood before the persist that runs until an instant (R383, R395). -/
  wearOld : List Nat
  persistEnd : Nat
  hourDone : Nat
  /-- Byte offsets of words found uncorrectable at run time: their region fails its check at the next start-up (R378). -/
  badWords : List Nat
  /-- The region ids whose check failed at the last start-up (R393). -/
  badAtStart : List Nat
  legacySaved : Option LegacyBlock
  deriving DecidableEq, Repr

/-! ### Power states (R396 to R410) -/

inductive Rest where
  | s0
  | s1
  | s2
  | s3
  | s4
  deriving DecidableEq, Repr, Inhabited

structure Power where
  st : Rest
  lastSt : Rest
  lastCause : Nat
  /-- A wake in progress by this cause (R402). -/
  waking : Option Nat
  /-- The instant of that cause. -/
  wakeAt : Nat
  reason : Nat
  /-- The state chosen at the last render point, entered from its frame seam. -/
  entering : Option (Rest × Nat)
  /-- The Hall has stopped judging for that entry (R403). -/
  entryBegun : Bool
  enteredAt : Nat
  msInRest : Nat
  auxBrownAt : Option Nat
  vrowBrownAt : Option Nat
  driveGood : Bool
  /-- Minutes in which each blocked reason was last reported (R401). -/
  blockedMinute : List (Nat × Nat)
  /-- The uncoordinated return of R76 applies. -/
  uncoordinated : Bool
  /-- W of the return window that entry to S4 found too short, in ns (R76, R112). -/
  returnLen : Nat
  /-- Section 0x0C (R409). -/
  counts : Counters
  deriving DecidableEq, Repr

/-! ### Gathered roles (R422 to R436) -/

structure LeafEntry where
  pos : BitVec 6
  serial : Long
  addr : BitVec 12
  deriving DecidableEq, Repr

structure Gathered where
  upHop : Bool
  downHop : Bool
  /-- The node's position on the leaf link; none while unpositioned. -/
  position : Option (BitVec 6)
  refused : Bool
  upSerial : Long
  helloDue : Nat
  table : List LeafEntry
  /-- Packets waiting in region 8: the leaf field and the folio (R427). -/
  queue : List (BitVec 6 × Folio)
  secSig : Nat
  secCtl : Nat
  lastDropQueued : Nat
  delays : List Int
  pathDelay16 : Int
  pdelaySent : Option Nat
  pdelayDue : Nat
  timeDue : Nat
  lastTime : Nat
  /-- Packets dropped for a reserved type, a failed CRC or a wrong length (R423). -/
  dropped : Word
  /-- Head SPL sequences already copied to the leaves (R426). -/
  splCopied : List Word
  chip : Option (BitVec 7)
  fzOverflow : Bool
  /-- Frames latched, which numbers the quire being received (R433). -/
  fzFrame : Word
  /-- The byte ranges, end outside, that PIXELS have written of the frame being received (R66, R433). -/
  fzWritten : List (Nat × Nat)
  /-- Packets forwarded or ignored (R433). -/
  fzCounted : Word
  /-- The rate of the last LATCH. -/
  fzRate : Nat
  fzLevel : Option Nat
  deriving DecidableEq, Repr

/-- The whole block. -/
structure State where
  /-- True time in ns of the node's own REFCLK (log 1). -/
  now : Nat
  start : StartUp
  straps : Straps
  spine : Spine
  addr : Addressing
  hall : Hall
  mantel : Mantel
  larder : Larder
  screen : Show
  bindery : Bindery
  press : Press
  prot : Protect
  coll : Collator
  back : Backstair
  legacy : Legacy
  cellar : Cellar
  arch : Archive
  power : Power
  leaf : Gathered
  wire : List Sent
  /-- The model's own field: how many free values have been taken (log 3). -/
  fresh : Nat
  pending : List Instr
  deriving DecidableEq, Repr

/-! ### The state right after reset -/

def zeros (n : Nat) : Counters := List.replicate n 0

def PortS.reset : PortS :=
  { st := .down, since := 0, fastUntil := 0, fastNow := false, twoLanes := false, laneMismatch := false,
    rateSuspected := false, degraded := false, nbrLow := 0, nbrSerial := none, windowEnd := none, inWindow := false, counts := zeros 8,
    outageUs := 0, downAt := 0, crcThisSecond := 0, crcLastSecond := 0, nextIdent := 0, skewPs := 0,
    eqLong := false }

def StartUp.reset : StartUp :=
  { phase := .off, stage := 0, claimDue := none, joinDue := false, cause := .firstPower, s := 0, strapsKept := false, coreGood := false, sdGood := false,
    ioGood := false, auxGood := false, vrowGood := false, stepUs := List.replicate 7 0, selfTestFailures := 0,
    selfTestsSinceBoot := 0, firstLight := false, restoreDue := false, replayNo := 0, secondsEnded := 0,
    startupSlateReported := false }

def Straps.reset : Straps :=
  { svcOn := false, svcSince := 0, read := false, levels := List.replicate 12 0, words := List.replicate 12 0,
    irefWords := List.replicate 4 0, conflicts := [], irefOpen := 0 }

def Spine.reset : Spine :=
  { east := PortS.reset, west := PortS.reset, mergeMem := [], bypHold := false, pllLocked := false,
    selfTestPassed := false, selfTestFailed := false, internalSelfTest := false, senseDue := 0, switchRetries := 0, retryDue := none,
    switchFailed := false, stuck := false, switchFaultSeen := false, switchFaultsLogged := 0, ringMap := none,
    leaveWin := none, returnWin := none, watched := [], leftAt := none, selfTestDue := none, splSeen := [], untold := [],
    malformed := zeros 12, collisionReported := false, earlyQuires := [], ctlQueue := [], sigCopied := [], lastQuire := 0 }

def Addressing.reset : Addressing :=
  { addr := 0xFFF, pos := 0, pinConflict := false, epoch := 0, reportSeq := 0, lastAddr := 0xFFF, lastPos := 0,
    tamperSinceJoin := false }

/-- A fresh node or broadcast channel (R117). -/
def Channel.fresh (code : Half) : Channel := { code := code, expected := 1, completed := 0, held := [] }

def Hall.reset : Hall :=
  { ready := false, powerFail := false, channels := [Channel.fresh 0x0000, Channel.fresh 0x0200], entries := [],
    summaries := [], nextNo := 1, overwritten := [], auditedThrough := 0, writing := none, done := [], replayed := false,
    archiveLost := false, tagFails := List.replicate 3 0, keyless := List.replicate 3 0, lastQueued := 0 }

def PortSync.reset : PortSync :=
  { sync := none, pending := none, reqSeq := 0, t3 := none, reqDue := 0, prevSync := none, delays := [], d := 0, o := 0,
    lastMeasured := 0, measured := false, loopbackPs := 0, lane0Ps := 0 }

def Mantel.reset : Mantel :=
  { time := 0, addend := 0, p := 0, epoch := 0, hold := false, lock := .unset, validOnEntry := false,
    firstMaster := none, firstMeasure := false, east := PortSync.reset, west := PortSync.reset, inUseEast := false,
    prefRun := 0, lockRun := 0, bigRun := 0, logInterval := -4, lastSync := 0, lastOffset := 0,
    holdoverSince := 0, holdoverLast := 0, stepPending := none, noStep := false, rate := none, slew := 0, diffs := [],
    holdDepth := 0, carried := true, diffReported := none, masterReported := none, lastEdge := none, asymWas := none, cues := [], censuses := [],
    bank := none, anchor := none, counts := zeros 12, rtcSetAt := 0 }

def Slot.empty : Slot :=
  { st := .free, quire := 0, qtime := 0, pres := 0, cls := 0, group := 0, depth := 0, cfmt := 0, covered := [],
    data := [] }

def Watermark.clear : Watermark := { noticed := false, crossings := 0, peak := 0, lastInterval := none }

/-- The policy of CFG_SAFE level[2:1] = 00 with its 500 ms timeout (R204). -/
def FeedPolicy.reset : FeedPolicy := { policy := 0, slate := 0, timeoutMs := 500, fadeMs := 0, holdS := 0 }

def Larder.reset : Larder :=
  { slots := List.replicate 3 Slot.empty, plates := [[], []], seamOnLight := none, fstate := .await,
    feed := FeedPolicy.reset, feedSince := 0, feedStopped := true, feedRestart := 0, lostAt := 0, holdEnded := false,
    reports := [], waiting := [], events := [], waters := List.replicate 3 Watermark.clear, counts := zeros 14, secHolds := 0,
    secSuperseded := 0, secLate := 0, delays := [], delayBase := 6500, lossSlateTold := false, dropped := [],
    badBankWords := [] }

/-- The fresh show values of R251 and R256: programme STREAM, level 32,768 in mode 0. -/
def Standing.fresh : Standing := { programme := .stream, mode := 0, target := 32768, arc := 65024 }

def Show.reset : Show :=
  { programme := .stream, picture := .dark, fade := none, level := none, lambda := 32768, lambdaTarget := 32768,
    mode := 0, arc := none, alpha := 0, overlay := 0, firstSeam := none, cache := List.replicate 2 { slate := 15, st := 0 },
    counts := zeros 12 }

/-- The fallback working state of R234: identity matrices, unit white point, linear transfers, no sensors. -/
def CalParams.fallback : CalParams :=
  { streamTf := 0, slateTf := 0, pqPeak := 0, w := List.replicate 4 32768, kw := 0, oc := List.replicate 4 0,
    sensors := List.replicate 4 0xFF }

def Bindery.reset : Bindery :=
  { fallback := true, liveIdentity := 0, params := CalParams.fallback, matrices := [], factoryOk := false,
    factoryBlock := [], wearGains := [], atCap := 0, curves := List.replicate 8 [], pass := none, shown := none, waiting := none, reRenderDue := false,
    passWanted := false, lastPass := 0, lastPassNs := 0, longestNs := 0, temp := 0, tsrc := 2, fresh := 0,
    gains := List.replicate 4 32768, firstPass := true, loadDue := none, loadCal := false, loadFactory := false,
    loadCurves := false, loadForced := false, loading := none,
    loadFrom := LoadSource.empty, loadHolds := 0, calEventDue := false, recomputeDue := false, reloadUntil := 0, lambdaHouse := 0,
    counts := zeros 12 }

/-- The start-up timing set of R276 at CFG_REFRESH level[1:0] = 00. -/
def Timing.reset : Timing := { epoch := 0, deadNs := 120, minp := 128, trims := List.replicate 4 255 }

def Press.reset : Press :=
  { running := false, timing := Timing.reset, lastEpoch := 0, pendingSet := none, crossing := [], handles := [],
    plateOn := 0, plateEpoch := 0, plateIsFrame := true, epochE := 0, chosen := none, cutoffDone := false, residues := [],
    lastSeam := 0, seamSeen := false, lastFrameSeam := 0, frameSeamSeen := false, refreshNo := 0,
    refreshesThisFrame := 0, framesN := 0, slot := 0, slotsDone := true, darkGap := false,
    trims6 := List.replicate 192 32, unlocked := [], widths := [], rowOn := none, seamErrorPs := 0, pllAddend := 0, phasePs := 0, slotL := 0, frameL := 0,
    seamErrSecond := none, secDropped := 0, secWithdrawn := 0, lastDroppedEpoch := 0, syncOut := false,
    renderedFor := none, renderedQuire := false, counts := zeros 34 }

def TripInput.clear : TripInput :=
  { asserted := false, inForce := false, holding := false, episode := false, assertions := 0, quietSince := 0,
    seen := false }

def Protect.reset : Protect :=
  { inputs := List.replicate 10 TripInput.clear, clears := [], force := none, forceAt := 0, forceWait := [],
    tap := .bypass, frozen := false, frozenDark := false, jtagUntil := none, jtagOn := false,
    boundary := 0, driven := 0, pclkLost := false, linesLocked := 0, resumeAtSeam := false }

def Collator.reset : Collator :=
  { emitters := [], columns := [], rows := [], fifo := [], tests := [], inspected := [], proofSinks := [],
    gathered := [], gatherSince := 0, excludeUntil := 0, excluded := true, pairRuns := [], secOpens := 0,
    secShorts := 0, lastDiscardRow := 0, counts := zeros 14 }

def ClassS.reset : ClassS := { st := .active, txc := 0, rxc := 0, recovering := false }

def Backstair.reset : Backstair :=
  { pstate := .off, station := 0, peers := [], peersSince := 0, announceFails := 0, announceStopped := false,
    firstActive := none, announceDue := none, statusDue := 0, priority := [], fifo := [], patterns := List.replicate 24 none, alarms := [], buf0 := none,
    buf1 := none, buf2 := none, offered := none, cancelled := false, finishing := false, excepted := false, suspend := false, alarm := ClassS.reset,
    chatter := ClassS.reset, ackRun := 0, lone := false, resume := [], counter := 0, countedAt := 0, pairs := [], sensors := [],
    supplies := [], fans := [], peerStatus := [], dieTemp := 0, dieTempAt := 0, dieMeasured := false,
    secDespite := 0, despiteMask := 0, counts := zeros 22 }

/-- The factory values of the legacy block (R353, R362); the DALI reset values are the family's (log 6). -/
def LegacyBlock.factory : LegacyBlock :=
  { start := 1, personality := 1, label := [], powerOn := 254, sysFail := 254, minLevel := 1, maxLevel := 254,
    fadeTime := 0, extFade := 0, fadeRate := 7, scenes := List.replicate 16 255, short := 255, groups := 0,
    random := 0xFFFFFF, allow := false, cap := 0 }

def Legacy.reset : Legacy :=
  { blk := LegacyBlock.factory, writeDue := none, coarse := 0, fine := 0, dmxLevel := 0, slateSel := 0, fadeSlot := 0, dmxSeen := false,
    lastValid := 0, lost := false, afterLoss := false, muted := false, identify := false,
    identifyDue := 0, identifyDark := false, daliActual := 0, daliLast := 254, daliTarget := 0, daliFadeStart := 0,
    daliFadeMs := 0, daliFrom := 0, daliPending := false, readAs := 1, replaced := [], slateTold := none, replyFrom := 0,
    replyUntil := 0, dtr0 := 0, dtr1 := 0, dtr2 := 0, search := 0xFFFFFF, initialise := false,
    initUntil := 0, withdrawn := false, enabledType := none, lastConfig := none, daliFailed := false,
    powerCycleSeen := true, limitError := false, dapcUntil := 0, counts := zeros 10 }

def Cellar.reset : Cellar :=
  { cell := .discharge, vcellMv := 0, tempC := 0, rtc := 0, rtcPart := 0, rtcValid := false, rtcAlarm := none, tamperOpens := 2,
    tamperClosed := false, tamperEvents := 0, lastTamper := 0, tamperDue := 0, cause := none, watchdogArmed := false, lastKick := 0,
    warned := false, darkPclk := false, darkWatchdog := false, darkPower := false, failAt := none, coreUntil := 0,
    isolated := false, field := false, reservoirPj := 0, quiet := false, selected := false,
    challenge := none, challengeCount := 0, unreported := [], counts := zeros 14 }

def Colophon.reset : Colophon :=
  { format := 1, date := 0, esta := 0, gtin := 0, daliId := 0, makerName := [], rtcTrim := 0 }

/-- The Archive as the device leaves the factory: the maker key and no other (R146), no stored object, no pin,
power tolerance 0 (R400) and presentation delay 6,500 us (R200). -/
def Archive.reset : Archive :=
  { calibration := none, factory := none, slates := List.replicate 12 none, curves := List.replicate 8 none,
    patch := none, patchLoaded := 0, patchIn := false, colophon := Colophon.reset, keys := [none, none, some Config.makerKey],
    prints := [0, 0, fingerprint Config.makerKey], keysLost := false, shadow := [], transfer := none, copying := none, copyBegun := false,
    closing := none, standing := Standing.fresh, pin := none,
    tolUs := 0, delayUs := 6500, source := none, asymEast := 0, asymWest := 0, audit := [], auditNext := 0,
    eventLog := [], loggedThisSecond := 0, loggedSecond := 0, mapRecords := [], disabled := [], defectCounts := List.replicate 6 0,
    label := [], secondsPowered := 0, secondsLit := 0, poweredFrom := 0, litFrom := none, litNs := 0, powerCycles := 0,
    rtcAtPersist := 0, wear := [], wearRest := [], wearSaved := [], wearOld := [], persistEnd := 0, hourDone := 0, badWords := [],
    badAtStart := [], legacySaved := none }

def Power.reset : Power :=
  { st := .s0, lastSt := .s0, lastCause := 0, waking := none, wakeAt := 0, reason := 0, entering := none, entryBegun := false,
    enteredAt := 0, msInRest := 0, auxBrownAt := none, vrowBrownAt := none, driveGood := false,
    blockedMinute := [], uncoordinated := false, returnLen := 0, counts := zeros 20 }

def Gathered.reset : Gathered :=
  { upHop := false, downHop := false, position := none, refused := false, upSerial := 0, helloDue := 0, table := [],
    queue := [], secSig := 0, secCtl := 0, lastDropQueued := 0, delays := [], pathDelay16 := 0,
    pdelaySent := none, pdelayDue := 0, timeDue := 0, lastTime := 0, dropped := 0,
    splCopied := [], chip := none, fzOverflow := false, fzFrame := 0, fzWritten := [], fzCounted := 0, fzRate := 60, fzLevel := none }

/-- The block before its first power: R10 holds its pins, every subsystem is at the start-up values of R412, and
the Archive is as it left the factory. -/
def State.reset : State :=
  { now := 0, start := StartUp.reset, straps := Straps.reset, spine := Spine.reset, addr := Addressing.reset,
    hall := Hall.reset, mantel := Mantel.reset, larder := Larder.reset, screen := Show.reset,
    bindery := Bindery.reset, press := Press.reset, prot := Protect.reset, coll := Collator.reset,
    back := Backstair.reset, legacy := Legacy.reset, cellar := Cellar.reset, arch := Archive.reset,
    power := Power.reset, leaf := Gathered.reset, wire := [], fresh := 0, pending := [] }

end Sys2Proof.Machine
end

