-- ==== Sys2Proof/Machine/Ops.lean ====
section
/-! DEFINITION. The named operations every meaning is written over: counters, sparse maps, memory, the clocks, event records, the report queue, free values, and the completion of a control message. -/

namespace Sys2Proof.Machine

open Sys2Proof

/-- What every meaning answers: no command of the table stops the block. -/
abbrev Result := Host.Outcome State Fault Refusal

/-! ### Counters and sparse maps -/

/-- One more on counter i, modulo 2^32. -/
def bump (c : Counters) (i : Nat) : Counters := c.modify i (· + 1)

/-- n more on counter i, modulo 2^32. -/
def bumpBy (c : Counters) (i n : Nat) : Counters := c.modify i (· + BitVec.ofNat 32 n)

/-- The value a sparse map holds for a key, or none. -/
def mapGet {α : Type} : List (Nat × α) → Nat → Option α
  | [], _ => none
  | (k, v) :: r, a => if k = a then some v else mapGet r a

/-- A sparse map, in rising order of keys, with key a removed. -/
def mapErase {α : Type} (m : List (Nat × α)) (a : Nat) : List (Nat × α) := m.filter fun e => e.1 != a

/-- A sparse map, in rising order of keys, with key a set. -/
def mapSet {α : Type} : List (Nat × α) → Nat → α → List (Nat × α)
  | [], a, v => [(a, v)]
  | (k, w) :: r, a, v =>
    if a < k then (a, v) :: (k, w) :: r else if a = k then (a, v) :: r else (k, w) :: mapSet r a v

/-! ### Memory -/

/-- The byte at an address; an unlisted address reads as 0 (R139; log 4). -/
def Memory.read : Memory → Nat → Byte
  | [], _ => 0
  | (k, b) :: r, a => if k = a then b else Memory.read r a

/-- One byte written, keeping the canonical form: writing 0 removes the entry. -/
def Memory.write : Memory → Nat → Byte → Memory
  | [], a, v => if v = 0 then [] else [(a, v)]
  | (k, b) :: r, a, v =>
    if a < k then (if v = 0 then (k, b) :: r else (a, v) :: (k, b) :: r)
    else if a = k then (if v = 0 then r else (k, v) :: r)
    else (k, b) :: Memory.write r a v

/-- Every listed address is at least lo, strictly rising, and no listed byte is 0. -/
def Memory.wfFrom : Nat → Memory → Bool
  | _, [] => true
  | lo, (k, b) :: r => decide (lo ≤ k) && b != 0 && Memory.wfFrom (k + 1) r

/-- The canonical form of a memory. -/
def Memory.wf (m : Memory) : Bool := Memory.wfFrom 0 m

/-- Bytes written one after another from an address. -/
def Memory.writeBytes : Memory → Nat → List Byte → Memory
  | m, _, [] => m
  | m, a, b :: bs => Memory.writeBytes (Memory.write m a b) (a + 1) bs

/-- The n bytes from an address, walking the listed cells once. -/
def Memory.bytesFrom : Nat → Nat → Memory → List Byte
  | 0, _, _ => []
  | n + 1, a, m =>
    match m with
    | [] => 0 :: Memory.bytesFrom n (a + 1) []
    | (k, b) :: r => if k = a then b :: Memory.bytesFrom n (a + 1) r else 0 :: Memory.bytesFrom n (a + 1) ((k, b) :: r)

/-- The first n bytes of a memory. -/
def Memory.bytes (m : Memory) (n : Nat) : List Byte := Memory.bytesFrom n 0 m

/-- A byte string as a memory from address 0. -/
def Memory.ofBytes (bs : List Byte) : Memory := Memory.writeBytes [] 0 bs

/-- The cells of a memory below an address. -/
def Memory.below (m : Memory) (n : Nat) : Memory := m.filter fun c => c.1 < n

/-! ### Clocks -/

def second : Nat := 1000000000

def msNs : Nat := 1000000

def usNs : Nat := 1000

/-- Mantel time in whole ns (R162). -/
def mNs (s : State) : Nat := s.mantel.time / 2 ^ 32

/-- The timeline time P in whole ns (R175). -/
def pNs (s : State) : Nat := s.mantel.p / 2 ^ 32

/-- The low 32 bits of the seconds of a time in ns (R112). -/
def tsecOf (ns : Nat) : Word := BitVec.ofNat 32 (ns / second)

/-- The nanoseconds of a time in ns (R112). -/
def tnsOf (ns : Nat) : Word := BitVec.ofNat 32 (ns % second)

/-- What one Mantel tick adds: 4 ns and a x 2^-32 ns (R163). -/
def tickUnits (m : Mantel) : Int := 4 * 2 ^ 32 + m.addend

/-- Mantel after n ticks; P is the greatest time reached (R175). -/
def Mantel.ticks (m : Mantel) (n : Nat) : Mantel :=
  let t := ((m.time : Int) + n * tickUnits m).toNat
  { m with time := t, p := max m.p t }

/-- The RTC's rate in 10^-7 of a ns for each ns: the crystal's error and the colophon's trim, in 0.1 ppm, stay together within
100 ppm (R371; log 58). -/
def rtcRate (s : State) : Nat :=
  (10000000 + max (-1000) (min 1000 (Config.crystalError + s.arch.colophon.rtcTrim))).toNat

/-- The RTC some ns later, where it is valid (R371). -/
def rtcOn (s : State) (ns : Nat) : Cellar :=
  if s.cellar.rtcValid then
    let u := ns * rtcRate s + s.cellar.rtcPart
    { s.cellar with rtc := s.cellar.rtc + u / 10000000, rtcPart := u % 10000000 }
  else s.cellar

/-- The ns until the RTC reads a time (R371). -/
def rtcWait (s : State) (t : Nat) : Nat :=
  ((t - s.cellar.rtc) * 10000000 - s.cellar.rtcPart + rtcRate s - 1) / rtcRate s

/-- The block n Mantel ticks of 4 ns later (R22): true time, Mantel time and the RTC move, nothing else. -/
def advance (s : State) (n : Nat) : State :=
  { s with now := s.now + 4 * n, mantel := s.mantel.ticks n, cellar := rtcOn s (4 * n) }

/-- The clocks moved on to an instant of true time, if they have not reached it (log 2). -/
def advanceTo (s : State) (t : Nat) : State := advance s ((t - s.now + 3) / 4)

/-- The clocks moved on to a Mantel time in 2^-32 ns, if they have not reached it (log 2). -/
def advanceToUnits (s : State) (t : Nat) : State :=
  advance s ((((t : Int) - s.mantel.time + tickUnits s.mantel - 1) / tickUnits s.mantel).toNat)

/-- The clocks moved on to a Mantel time in ns, if they have not reached it (log 2). -/
def advanceToMantel (s : State) (t : Nat) : State := advanceToUnits s (t * 2 ^ 32)

/-- RTC seconds, 48 bits, and its fraction in 1/32,768 s (R371). The trim makes the rate, so the count skips or repeats single
counts (log 58). -/
def rtcSeconds (s : State) : Nat := s.cellar.rtc / second % 2 ^ 48

def rtcFraction (s : State) : Nat := (s.cellar.rtc % second) * 32768 / second

/-- The RTC as a time in ns, in whole counts, or 0 when it is lost (R156, R371). -/
def rtcNs (s : State) : Nat := if s.cellar.rtcValid then rtcSeconds s * second + rtcFraction s * second / 32768 else 0

/-- The report second in progress, counted from S (R479). -/
def reportSecond (s : State) : Nat := (s.now - s.start.s) / second

/-- Fixed intervals of n ns cut from S (R479). -/
def reportInterval (s : State) (n : Nat) : Nat := (s.now - s.start.s) / n

/-! ### Free values -/

/-- A value the manual leaves open, and the state with one more of them taken (log 3). -/
def freeValue (s : State) : Nat × State := (Config.freeNat s.fresh, { s with fresh := s.fresh + 1 })

/-- An open value that the manual bounds from above. -/
def freeBelow (s : State) (bound : Nat) : Nat × State :=
  (Config.freeNat s.fresh % (bound + 1), { s with fresh := s.fresh + 1 })

/-! ### Domains -/

/-- Start-up has reached the engines, and no reset holds. -/
def running (s : State) : Bool := s.start.phase == .running

/-- CORE is on and out of retention (R398). -/
def coreOn (s : State) : Bool := running s && (s.power.st == .s0 || s.power.st == .s1)

/-- Steps 2 and 3 of start-up have ended, so that the Spine's clocks run and the straps are read, and the engines have not started
yet (R414). -/
def clocksUp (s : State) : Bool := s.start.phase == .awaitStraps && s.start.stage == 4 && s.straps.read

/-- RING is on: the Spine trains its ports and forwards (R30, R57, R398, R414). -/
def ringOn (s : State) : Bool := (running s && s.power.st != .s4) || clocksUp s

/-- Time is valid in LOCKED, HOLDOVER and FREE, and in ACQUIRING when it was valid on entry (R172); at a leaf only while the
carried lock says so (R430). -/
def timeValid (m : Mantel) : Bool :=
  m.carried && match m.lock with
  | .unset => false
  | .acquiring => m.validOnEntry
  | .locked | .holdover | .free => true

/-- Any Cellar cause of dark forcing holds (R374). -/
def cellarDark (s : State) : Bool := s.cellar.darkPclk || s.cellar.darkWatchdog || s.cellar.darkPower

def lockCode : Lock → Nat
  | .unset => 0
  | .acquiring => 1
  | .locked => 2
  | .holdover => 3
  | .free => 4

def restCode : Rest → Nat
  | .s0 => 0
  | .s1 => 1
  | .s2 => 2
  | .s3 => 3
  | .s4 => 4

def causeCode : ResetCause → Nat
  | .firstPower => 1
  | .mainPowerLoss => 2
  | .vddIo => 3
  | .resetN => 4
  | .watchdog => 5
  | .larderEngine => 6
  | .s4Wake => 7

/-! ### Ports -/

def getPort (s : State) : Port → PortS
  | .east => s.spine.east
  | .west => s.spine.west

def setPort (s : State) (p : Port) (x : PortS) : State :=
  match p with
  | .east => { s with spine := { s.spine with east := x } }
  | .west => { s with spine := { s.spine with west := x } }

def otherPort : Port → Port
  | .east => .west
  | .west => .east

def portUp (s : State) (p : Port) : Bool := (getPort s p).st == .up

def portCode : Port → Nat
  | .east => 0
  | .west => 1

/-- One more on word i + 1 of a port's block (R110). -/
def countPort (s : State) (p : Port) (i : Nat) : State :=
  setPort s p { getPort s p with counts := bump (getPort s p).counts i }

/-- What leaves a pin or port. -/
def send (s : State) (x : Sent) : State := { s with wire := x :: s.wire }

/-! ### Queues of the Larder (R205, R208) -/

/-- The units of 64 bytes a folio of this payload takes in queue 0x01. -/
def foliosUnits (payload : Nat) : Nat := (payload + 20 + 63) / 64

/-- The level of queue 0x01. -/
def reportLevel (s : State) : Nat :=
  (s.larder.reports.map fun r => foliosUnits r.payload.length).sum

/-- The held messages node-wide: the level of queue 0x03. -/
def heldLevel (s : State) : Nat := (s.hall.channels.map fun c => c.held.length).sum

/-- The level of queue k + 1. -/
def queueLevel (s : State) : Nat → Nat
  | 0 => reportLevel s
  | 1 => s.larder.events.length
  | _ => heldLevel s

def queueHigh : Nat → Nat
  | 0 => 192
  | 1 => 192
  | _ => 48

/-- The watermark notice of queue k + 1 after its level changed from before (R208). -/
def watermark (before : Nat) (k : Nat) (s : State) : State :=
  let after := queueLevel s k
  let crossed := decide (before < queueHigh k) && decide (queueHigh k ≤ after)
  let l := s.larder
  { s with
    larder := { l with
      waters := l.waters.modify k fun w =>
        { w with noticed := w.noticed || crossed, crossings := w.crossings + bit crossed, peak := max w.peak after }
      counts := if crossed then bump l.counts (8 + k) else l.counts } }

/-- The Archive takes writes: VDD_AUX is good and ARCH is not isolated (R386, R406). -/
def archiveOpen (s : State) : Bool := s.start.auxGood && !s.cellar.isolated

/-- A burst of so many words is granted: always from good main supplies, and after power-fail detect while VDD_CORE's slope leaves
its write time and 2 us, for 1.5 ms (R384, R386; log 3). -/
def burstGranted (s : State) (words : Nat) : Bool :=
  archiveOpen s &&
    match s.cellar.failAt with
    | none => true
    | some d => decide (s.now < d + 1500 * usNs) && Config.supplyHolds s.now (50 * words + 2000)

/-- CORE works: it is on and, after a power-fail detect, for as long as VDD_CORE and VDD_AUX hold, and no longer (R131). -/
def coreWorks (s : State) : Bool :=
  coreOn s && (s.cellar.failAt.isNone || decide (s.now < s.cellar.coreUntil))

/-- A burst that is not granted after a power-fail detect is not started and is counted (R384, R394). -/
def refuseBurst (s : State) : State :=
  if s.cellar.failAt.isSome then { s with cellar := { s.cellar with counts := bump s.cellar.counts 11 } } else s

/-- The records that the event log has taken in this report second (R376, R479). -/
def loggedNow (s : State) : Nat := if s.arch.loggedSecond = reportSecond s then s.arch.loggedThisSecond else 0

/-- An EVENT record put into the event log of the Archive, newest 2,048, at most 4,096 in one second (R376); a running node
whose Archive does not take its burst of two words leaves it out (R384, R406). Bursts are written as they are caused, none waiting
for another (R375; log 113, DESIGN CHOICE). -/
def logEvent (s : State) (e : EventRec) : State :=
  if 4096 ≤ loggedNow s then s
  else if burstGranted s 2 || !running s then
    { s with
      arch := { s.arch with
        eventLog := (s.arch.eventLog ++ [e]).drop (s.arch.eventLog.length + 1 - 2048)
        loggedThisSecond := loggedNow s + 1, loggedSecond := reportSecond s } }
  else refuseBurst s

/-- An EVENT record queued in queue 0x02, or dropped and counted when it is full (R205). -/
def queueEvent (s : State) (e : EventRec) : State :=
  if s.larder.events.length < 256 then
    watermark s.larder.events.length 1 { s with larder := { s.larder with events := s.larder.events ++ [e] } }
  else { s with larder := { s.larder with counts := bump s.larder.counts 12 } }

/-- An EVENT raised at a stated time in ns (R112). -/
def raiseAt (s : State) (ns : Nat) (code arg0 : Half) (arg1 : Word) : State :=
  let e : EventRec := { code := code, arg0 := arg0, tsec := tsecOf ns, tns := tnsOf ns, arg1 := arg1 }
  queueEvent (logEvent s e) e

/-- An EVENT raised now, in whatever state Mantel is (R112). -/
def raise (s : State) (code arg0 : Half) (arg1 : Word) : State := raiseAt s (mNs s) code arg0 arg1

/-- An EVENT that the Cellar raises and keeps: logged with the RTC time and reported after replay (R376, R407). -/
def raiseKept (s : State) (code arg0 : Half) (arg1 : Word) : State :=
  let ns := rtcNs s
  let e : EventRec := { code := code, arg0 := arg0, tsec := tsecOf ns, tns := tnsOf ns, arg1 := arg1 }
  let s := logEvent s e
  { s with cellar := { s.cellar with unreported := s.cellar.unreported ++ [e] } }

/-- An EVENT of the Cellar: while CORE is off it is kept (R376). -/
def raiseCellar (s : State) (code arg0 : Half) (arg1 : Word) : State :=
  if coreOn s then raise s code arg0 arg1 else raiseKept s code arg0 arg1

/-- An EVENT the Cellar keeps for a report after the next replay, logged with the Mantel time (R376, R407). -/
def raiseHeld (s : State) (code arg0 : Half) (arg1 : Word) : State :=
  let e : EventRec := { code := code, arg0 := arg0, tsec := tsecOf (mNs s), tns := tnsOf (mNs s), arg1 := arg1 }
  let s := logEvent s e
  { s with cellar := { s.cellar with unreported := s.cellar.unreported ++ [e] } }

/-- The kept EVENTs queued as reports (R376). -/
def reportHeld (s : State) : State :=
  let es := s.cellar.unreported
  es.foldl queueEvent { s with cellar := { s.cellar with unreported := [] } }

/-- The node holds an address (R104). -/
def assigned (s : State) : Bool := s.addr.addr != 0xFFF#12

/-- A folio that the addressing rules let leave (R104). -/
def mayLeave (s : State) (f : OwnFolio) : Bool := assigned s || f.unassignedOk

def isAck (f : OwnFolio) : Bool := f.kind == 3 && (f.spec == 1 || f.spec == 2)

/-- A leaf of either kind: its reports leave by its upstream hop, which stands where a ring node has WEST (R37, R425, R435). -/
def leafRole (s : State) : Bool := s.straps.levels.getD 0 0 == 8 || s.straps.levels.getD 0 0 == 9

/-- The copies of a queued folio on ports that are not UP are discarded, not kept waiting (R63). -/
def dropDown (s : State) (f : OwnFolio) : OwnFolio :=
  if leafRole s then { f with dueEast := false }
  else if mayLeave s f then
    { f with dueEast := f.dueEast && portUp s .east, dueWest := f.dueWest && portUp s .west }
  else f

/-- How many copies dropDown discards at a port (word 5 of its block, R110). -/
def droppedAt (s : State) (p : Port) : Nat :=
  (s.larder.reports.filter fun f => !leafRole s && mayLeave s f && !portUp s p &&
    (match p with | .east => f.dueEast | .west => f.dueWest)).length

/-- Discards the copies due on ports not UP, counts them, and frees the units of folios with no copy left. -/
def settle (s : State) : State :=
  let e := droppedAt s .east
  let w := droppedAt s .west
  let rs := (s.larder.reports.map (dropDown s)).filter fun f => f.dueEast || f.dueWest
  let s := setPort s .east { s.spine.east with counts := bumpBy s.spine.east.counts 4 e }
  let s := setPort s .west { s.spine.west with counts := bumpBy s.spine.west.counts 4 w }
  { s with larder := { s.larder with reports := rs } }

/-- A folio enters queue 0x01: it takes its report sequence on that cycle (R21, R63); a leaf's folio keeps the
leaf's own (R428), and a TIM folio has none (R84). -/
def enterQueue (s : State) (f : OwnFolio) : State :=
  let before := reportLevel s
  let own := f.leafSrc.isNone && f.kind != 4
  let f' := if own then { f with seq := s.addr.reportSeq } else f
  let s := { s with
    addr := { s.addr with reportSeq := if own then s.addr.reportSeq + 1 else s.addr.reportSeq }
    hall := { s.hall with lastQueued := s.now }
    larder := { s.larder with reports := s.larder.reports ++ [f'] } }
  settle (watermark before 0 s)

/-- Room in queue 0x01: 8 of its 256 units are kept for ACK and NACK alone (R205). -/
def roomFor (s : State) (f : OwnFolio) : Bool :=
  decide (reportLevel s + foliosUnits f.payload.length ≤ (if isAck f then 256 else 248))

/-- The reports that wait enter the queue in order while there is room, on fuel. -/
def admitWaiting : Nat → State → State
  | 0, s => s
  | n + 1, s =>
    match s.larder.waiting with
    | [] => s
    | f :: r =>
      if roomFor s f then admitWaiting n (enterQueue { s with larder := { s.larder with waiting := r } } f) else s

/-- What waits comes in once copies on ports that are not UP have freed their units (R63, R205). -/
def settleAdmit (s : State) : State := admitWaiting s.larder.waiting.length (settle s)

/-- The order in which folios that wait for room come in: ACK and NACK, for which the last 8 units are kept, then a leaf's GSP,
then the others (R205, R428). -/
def waitRank (f : OwnFolio) : Nat := if isAck f then 0 else if f.kind == 6 then 1 else 2

/-- A folio among those that wait for room, behind those of its own rank. -/
def joinWaiting (ws : List OwnFolio) (f : OwnFolio) : List OwnFolio :=
  (ws.takeWhile fun g => decide (waitRank g ≤ waitRank f)) ++ f :: ws.dropWhile fun g => decide (waitRank g ≤ waitRank f)

/-- An own folio is queued, or waits for room behind those of its rank that already wait (R205, R428). -/
def queueOwn (s : State) (f : OwnFolio) : State :=
  if roomFor s f && (s.larder.waiting.all fun g => decide (waitRank f < waitRank g)) then enterQueue s f
  else { s with larder := { s.larder with waiting := joinWaiting s.larder.waiting f } }

/-- A report of a type with its payload (R105, R106). -/
def queueReport (s : State) (rtype : Half) (payload : List Byte) : State :=
  queueOwn s { kind := 3, spec := rtype, seq := 0, payload := payload, dueEast := true, dueWest := true,
               leafSrc := none, unassignedOk := false }

/-- A node SPL folio: ENUM_CLAIM or SPL_ANSWER (R102). -/
def queueSpl (s : State) (stype : Half) (payload : List Byte) : State :=
  queueOwn s { kind := 5, spec := stype, seq := 0, payload := payload, dueEast := true, dueWest := true,
               leafSrc := none, unassignedOk := true }

/-! ### Completion of control messages (R123, R124) -/

/-- A message's subsystem reports it done, with its result and the reports that answer it. -/
def reportDone (s : State) (chan : Half) (seq : Word) (no : Nat) (result : BitVec 4) (answers : List Answer) : State :=
  { s with
    hall := { s.hall with
      done := s.hall.done ++ [{ chan := chan, seq := seq, no := no, result := result, answers := answers, key := none }]
      entries := s.hall.entries.map fun e => if e.no = no then { e with dispatched := true, finished := true } else e } }

/-- A message is dispatched and, when fin is true, its dispatch has finished (R123). A message is known by the number of its
acceptance, since a rebase lets a channel use a sequence again while earlier work still completes (R136). -/
def markDispatched (s : State) (no : Nat) (fin : Bool) : State :=
  { s with
    hall := { s.hall with
      entries := s.hall.entries.map fun e => if e.no = no then { e with dispatched := true, finished := fin } else e
      summaries := s.hall.summaries.map fun y => if y.no = no && y.st == 1 then { y with st := 2 } else y } }

/-- A message that waits for its subsystem: TIMING_SET while a set is pending (R275), OBJ_BEGIN while a commit copy
runs (R139). -/
def dispatchBlocked (s : State) (e : Entry) : Bool :=
  (e.msg.cmd == 0x0030 && s.press.pendingSet.isSome) || (e.msg.cmd == 0x0020 && s.arch.copying.isSome)

/-- The message Warden dispatches next: the earliest accepted one whose channel has finished every earlier dispatch
(R123). -/
def nextDispatchIn (s : State) : List Half → List Entry → Option Entry
  | _, [] => none
  | busy, e :: es =>
    if e.dispatched then nextDispatchIn s (if e.finished then busy else e.msg.chan :: busy) es
    else if busy.contains e.msg.chan || dispatchBlocked s e then nextDispatchIn s (e.msg.chan :: busy) es
    else some e

def nextDispatch (s : State) : Option Entry := nextDispatchIn s [] s.hall.entries

/-- CFG_MODE selects the FZ5140-format leaf, which has no control work (R37, R434). -/
def fzLeaf (s : State) : Bool := s.straps.levels.getD 0 0 == 9

/-- The Hall works: CORE is on, replay has ended, no power fail and no entry to a rest state stops it, and the Archive,
which holds every message's summary, takes bursts; an FZ5140-format leaf has no control work (R128, R386, R403, R406, R434). -/
def hallDispatches (s : State) : Bool :=
  coreOn s && !fzLeaf s && s.hall.ready && !s.hall.powerFail && !s.power.entryBegun && archiveOpen s

/-- The message a dispatch command acts on: the next to dispatch, when it is of that command. -/
def takeDispatch (s : State) (cmd : Half) : Option Msg :=
  if hallDispatches s then
    match nextDispatch s with
    | some e => if e.msg.cmd == cmd then some e.msg else none
    | none => none
  else none

/-- A dispatch command's meaning where several commands of the table share one code: f on the message it acts on, when
its body is of the command's form; nothing otherwise. -/
def dispatchIf (s : State) (cmd : Half) (form : Msg → Bool) (f : Msg → State → State) : Result :=
  match takeDispatch s cmd with
  | some m => if form m then .next (f m (markDispatched s m.no false)) else .next s
  | none => .next s

/-- A dispatch command's meaning: f on the message it acts on, nothing when there is none. -/
def dispatch (s : State) (cmd : Half) (f : Msg → State → State) : Result := dispatchIf s cmd (fun _ => true) f

/-- A message completes at its dispatch with a result and no answer (R124). -/
def doneWith (s : State) (m : Msg) (result : BitVec 4) : State := reportDone s m.chan m.seq m.no result []

/-- A message completes at its dispatch with a result and the reports that answer it (R124, R125). -/
def answerWith (s : State) (m : Msg) (result : BitVec 4) (answers : List Answer) : State :=
  reportDone s m.chan m.seq m.no result answers

end Sys2Proof.Machine
end

