-- ==== Sys2Proof/Machine/Operands.lean ====
section
/-! DEFINITION. The operand forms: what each strap level selects, the header fields of a folio, and the fields of control bodies. -/

namespace Sys2Proof.Machine

open Sys2Proof

/-! ### Straps (R37 to R45) -/

/-- The level of the strap of an index (R49). -/
def strap (s : State) (i : Nat) : Nat := (s.straps.levels.getD i 0).toNat

/-- The field of bits hi to lo of a strap level. -/
def strapField (s : State) (i hi lo : Nat) : Nat := strap s i / 2 ^ lo % 2 ^ (hi + 1 - lo)

/-- The operating modes of CFG_MODE (R37). -/
inductive Mode where
  | native
  | head
  | leaf
  | leafFz
  | standalone
  deriving DecidableEq, Repr

/-- The mode of a CFG_MODE level (R37). -/
def modeOf : Nat → Mode
  | 5 | 6 | 7 | 14 => .head
  | 8 => .leaf
  | 9 => .leafFz
  | 10 | 11 | 12 | 13 => .standalone
  | _ => .native

def mode (s : State) : Mode := modeOf (strap s 0)

/-- The node joins the ring: native and gathered head (R37). -/
def ringMode (s : State) : Bool := mode s == .native || mode s == .head

/-- The legacy port uses of CFG_MODE (R37). -/
inductive LegacyUse where
  | off
  | dmxRdm
  | dmx
  | dali
  deriving DecidableEq, Repr

/-- The legacy use of a CFG_MODE level (R37); both requested runs as DMX with RDM. -/
def legacyUseOf : Nat → LegacyUse
  | 1 | 4 | 6 | 10 | 13 => .dmxRdm
  | 2 | 11 | 14 => .dmx
  | 3 | 7 | 12 => .dali
  | _ => .off

def legacyUse (s : State) : LegacyUse := legacyUseOf (strap s 0)

def scanTable : List Nat := [1, 2, 4, 8, 10, 12, 16, 20, 24, 30, 32, 40, 48, 60, 64, 80]

/-- The scan ratio s of CFG_SCAN: the rows used (R38). -/
def scanRows (s : State) : Nat := scanTable.getD (strap s 1) 1

/-- Sinks are paired at CFG_EMIT L8 to L15 (R39). -/
def paired (s : State) : Bool := decide (8 ≤ strap s 2)

/-- The arrangement of CFG_EMIT: level[2:0] (R39). -/
def arrangement (s : State) : Nat := strap s 2 % 8

/-- The sinks, or channels when paired, of the arrangement (R39). -/
def columns (s : State) : Nat := if paired s then 96 else 192

/-- The colour components of the arrangement: 3, 4, 2 or 1 (R39). -/
def components (s : State) : Nat :=
  match arrangement s with
  | 0 | 1 => 3
  | 2 | 3 => 4
  | 4 | 5 => 2
  | _ => 1

/-- Pixels in one row (R39). -/
def pixelsPerRow (s : State) : Nat := columns s / components s

/-- The pixel of an arrangement column (R39). -/
def columnPixel (s : State) (k : Nat) : Nat :=
  match arrangement s with
  | 0 | 2 | 4 => k / components s
  | _ => k % pixelsPerRow s

/-- The colour of an arrangement column (R39). -/
def columnColour (s : State) (k : Nat) : Nat :=
  match arrangement s with
  | 0 | 2 | 4 => k % components s
  | 6 | 7 => 0
  | _ => k / pixelsPerRow s

/-- The IREF pin of an arrangement column (R39). -/
def columnIref (s : State) (k : Nat) : Nat :=
  if arrangement s == 7 then k / (columns s / 4) else columnColour s k

/-- An IREF pin the arrangement uses (R39). -/
def irefUsed (s : State) (i : Nat) : Bool :=
  match arrangement s with
  | 6 => i == 0
  | 7 => true
  | _ => decide (i < components s)

/-- Columns reversed, adjacent pairs swapped, red and blue exchanged, sink groups skewed (R40). -/
def orderReversed (s : State) : Bool := strapField s 3 3 3 == 1

def orderSwapped (s : State) : Bool := strapField s 3 2 2 == 1

def orderRedBlue (s : State) : Bool := strapField s 3 1 1 == 1 && decide (3 ≤ components s)

def groupSkew (s : State) : Bool := strapField s 3 0 0 == 1

/-- The ROW drive strength in mA (R40). -/
def rowDriveMa (s : State) : Nat := 8 * (strapField s 4 2 1 + 1)

/-- The equaliser preset for long cables: CFG_RING level[3] (R40, R56). -/
def longCables (s : State) : Bool := strapField s 6 3 3 == 1

/-- Ghost discharge during dead time (R40). -/
def ghostOn (s : State) : Bool := strapField s 4 0 0 == 1

/-- Refreshes per second (R40). -/
def refreshHz (s : State) : Nat := 1920 * 2 ^ strapField s 5 3 2

/-- The default dead time in ns (R40). -/
def defaultDead (s : State) : Nat := [120, 40, 240, 400].getD (strapField s 5 1 0) 120

/-- The lane-rate code of CFG_RING level[1:0] (R40). -/
def laneRate (s : State) : Nat := strapField s 6 1 0

/-- The ring runs on two lanes: not in a gathered head mode (R40, R48). -/
def twoLanesStrapped (s : State) : Bool := strapField s 6 2 2 == 0 && mode s == .native

/-- The switch type, its settle time in ns, and whether a switch is fitted (R40). -/
def switchType (s : State) : Nat := strapField s 7 3 2

def settleNs (s : State) : Nat := [20000, 100000, 2000000, 0].getD (switchType s) 0

/-- A switch is fitted; a leaf has no bypass (R42, R422). -/
def switchFitted (s : State) : Bool := ringMode s && switchType s != 3

/-- The limit on runs of bypassed nodes, none where there is no limit (R40). -/
def runLimit (s : State) : Option Nat :=
  match strapField s 7 1 0 with
  | 0 => some (if laneRate s ≤ 1 then 2 else 5)
  | 1 => some 1
  | _ => none

/-- Policy 11: the node never bypasses itself by choice and never enters S4 (R40). -/
def neverBypass (s : State) : Bool := strapField s 7 1 0 == 3

/-- Classical CAN frames only, and transmit order by buffer number (R40). -/
def classicalOnly (s : State) : Bool := strapField s 8 2 0 == 7

def byBuffer (s : State) : Bool := strapField s 8 3 3 == 1

/-- AUX inputs assigned as trips: TI5, TI6, TI7 (R42). -/
def auxTrip (s : State) (id : Nat) : Bool :=
  match strapField s 9 3 2 with
  | 0 => false
  | 1 => id == 7
  | 2 => id == 6 || id == 7
  | _ => id == 5 || id == 6 || id == 7

/-- SYNC_OUT and SYNC_IN present (R42, R48). -/
def hasSyncOut (s : State) : Bool := strapField s 9 1 0 == 1 || strapField s 9 1 0 == 3

def hasSyncIn (s : State) : Bool :=
  strapField s 9 1 0 == 2 || (strapField s 9 1 0 == 3 && strapField s 9 3 2 != 3)

/-- The time source that rules: the one the Archive keeps, and in the standalone modes SYNC_IN at 120 Hz where CFG_AUX assigns it,
else free run (R168, R361). -/
def ruledSource (s : State) : Option TimeSource :=
  if mode s == .standalone then some (if hasSyncIn s then .syncIn 0 120 else .freeRun 0) else s.arch.source

/-- SYNC_OUT toggles, since CH2 serves the trip-blanking extension (R48). -/
def syncToggles (s : State) : Bool := strapField s 9 3 2 != 0

/-- What a trip input darkens: sink groups by bit, and the rows lo to hi (R43). -/
structure Darkens where
  groups : BitVec 8
  rowLo : Nat
  rowHi : Nat
  deriving DecidableEq, Repr

def darkAll : Darkens := { groups := 0xFF, rowLo := 0, rowHi := 80 }

def darkGroups (g : BitVec 8) : Darkens := { groups := g, rowLo := 0, rowHi := 0 }

def darkRows (lo hi : Nat) : Darkens := { groups := 0, rowLo := lo, rowHi := hi }

/-- The trip-to-group map of CFG_TRIP level[1:0]; ids 0 to 7 are TRIP0 to TRIP3 and TI4 to TI7, 8 and 9 the PGOOD
inputs (R43). -/
def tripMap : Nat → Nat → Darkens
  | 1, 1 => darkGroups 0x0F
  | 1, 2 => darkGroups 0xF0
  | 1, 3 => darkRows 0 80
  | 1, 5 => darkGroups 0x0F
  | 1, 6 => darkGroups 0xF0
  | 2, 0 => darkGroups 0x03
  | 2, 1 => darkGroups 0x0C
  | 2, 2 => darkGroups 0x30
  | 2, 3 => darkGroups 0xC0
  | 2, 5 => darkRows 0 80
  | 3, 1 => darkRows 0 40
  | 3, 2 => darkRows 40 80
  | 3, 3 => darkGroups 0xFF
  | 1, 8 | 2, 8 | 3, 8 => darkGroups 0x0F
  | 1, 9 | 2, 9 | 3, 9 => darkGroups 0xF0
  | _, _ => darkAll

def inputMap (s : State) (id : Nat) : Darkens := tripMap (strapField s 10 1 0) id

/-- A trip input that takes part (R43). -/
def inputPresent (s : State) (id : Nat) : Bool :=
  if id == 4 then false else if 5 ≤ id ∧ id ≤ 7 then auxTrip s id else decide (id < 10)

/-- A latched input; TI5 to TI7 take TRIP3's mode, PGOOD is cycle-by-cycle, and id 4 is never used (R44, R285). -/
def inputLatched (s : State) (id : Nat) : Bool :=
  let m := strapField s 10 3 2
  if 8 ≤ id || id = 4 then false else if 5 ≤ id then m == 3 else m == 3 || (id == 0 && m != 0) || (id == 1 && m == 2)

/-- A freeze blanks the outputs (R45). -/
def freezeBlanks (s : State) : Bool := strapField s 11 3 3 == 1

/-- The feed-loss policy of CFG_SAFE level[2:1] (R45, R204). -/
def safePolicy (s : State) : Nat := strapField s 11 2 1

/-- Slate 0 shown from first light (R45). -/
def slateAtStart (s : State) : Bool := strapField s 11 0 0 == 1

/-! ### Strap sampling (R31, R34 to R36, R47) -/

/-- Lower band edges of L0 to L15 and the nominal ratios, in 1/10,000 (R34). -/
def bandEdges : List Nat :=
  [0, 455, 1339, 2176, 2955, 3690, 4406, 5087, 5738, 6365, 6948, 7499, 8014, 8490, 8925, 9565]

def nominals : List Nat :=
  [0, 909, 1770, 2582, 3329, 4051, 4762, 5413, 6063, 6667, 7230, 7768, 8261, 8720, 9130, 10000]

/-- A conversion's 12-bit code (R34). -/
def adc (c : Nat) : Nat := min c 4095

def codeSum (codes : List Nat) : Nat := ((codes.take 16).map adc).sum

/-- The level whose band holds the mean ratio: the greatest whose lower edge it reaches. A ratio is a code over 4,096, the
scale on which the nominal codes of R34 stand (log 83). -/
def bandLevel (sum : Nat) : Nat :=
  (bandEdges.filter fun e => decide (e * (16 * 4096) ≤ sum * 10000)).length - 1

/-- The mean ratio lies farther than 0.0150 from the nominal of its level (R34). -/
def betweenBands (sum : Nat) : Bool :=
  let n := nominals.getD (bandLevel sum) 0 * (16 * 4096)
  let r := sum * 10000
  decide (150 * (16 * 4096) < (if r ≤ n then n - r else r - n))

/-- Largest minus smallest code of the 16 conversions (R35). -/
def codeSpread (codes : List Nat) : Nat :=
  let cs := (codes.take 16).map adc
  cs.foldl max 0 - cs.foldl min (cs.headD 0)

/-- The mean code of the strap word; how a mean that is no whole code is rounded is not stated, and u chooses
(log 3). -/
def meanCode (sum u : Nat) : Nat := sum / 16 + (if sum % 16 = 0 then 0 else u % 2)

/-- The IREF status and IFS in uA for a measured pin current in pA (R47, R50): IFS is 120 times the current, to the
nearest uA, as the example of R50 has it. -/
def irefStatus (used : Bool) (pa : Nat) : Nat × Nat :=
  if !used then (5, 0)
  else if 250000000 < pa then (4, 0)
  else if 200000000 < pa then (1, 24000)
  else if 1200000000000 < pa * 576000 then (0, rdivN (pa * 120) 1000000)
  else if 1200000000000 ≤ pa * 800000 then (2, rdivN (pa * 120) 1000000)
  else (3, 0)

/-! ### Strap conflicts (R48, R50) -/

/-- The conflict words of a set of levels: kind, winner, loser, resource. Several words stand in the row order of the table
of R48, which R50 does not ask for (log 84, DESIGN CHOICE). -/
def conflictList (modeL ring aux : Nat) : List (Nat × Nat × Nat × Nat) :=
  (if aux / 4 == 3 && aux % 4 == 3 then [(1, 9, 9, 0x01)] else []) ++
  (if aux / 4 != 0 && (aux % 4 == 1 || aux % 4 == 3) then [(2, 9, 9, 0x12)] else []) ++
  (if modeOf modeL == .head then [(3, 0, 11, 0x20)] else []) ++
  (if modeL == 4 || modeL == 13 then [(4, 0, 0, 0x30)] else []) ++
  (if modeOf modeL == .head && ring / 4 % 2 == 0 then [(5, 0, 6, 0x41)] else [])

end Sys2Proof.Machine
end

