-- ==== Sys2Proof/Machine/Folios.lean ====
section
/-! DEFINITION. Folios: header fields, CRC, addressing, the malformed tests, frame slots, the merge of the two copies, and the node's own folios. -/

namespace Sys2Proof.Machine

open Sys2Proof

/-! ### Header fields (R83, R84) -/

def Folio.ver (f : Folio) : Nat := field f.w0 31 28

def Folio.kind (f : Folio) : Nat := field f.w0 27 24

def Folio.dest (f : Folio) : Nat := field f.w0 23 12

def Folio.src (f : Folio) : Nat := field f.w0 11 0

def Folio.len (f : Folio) : Nat := field f.w1 31 21

def Folio.dgrp (f : Folio) : Bool := field f.w1 20 20 == 1

def Folio.spec (f : Folio) : Nat := field f.w1 15 0

/-- Header and payload, the bytes the CRC is taken over (R85). -/
def Folio.covered (f : Folio) : List Byte := wordsBytes [f.w0, f.w1, f.w2, f.w3] ++ f.payload

def Folio.goodCrc (f : Folio) : Word := crc32c (Folio.covered f)

def Folio.crcOk (f : Folio) : Bool := f.crc == Folio.goodCrc f

/-- The CRC a node upstream stamped (R61). -/
def Folio.stamped (f : Folio) : Bool := f.crc == Folio.goodCrc f ^^^ 0xFFFFFFFF#32

/-- A folio of these fields with its CRC (R83, R85). -/
def mkFolio (kind dest src spec : Nat) (w2 w3 : Word) (payload : List Byte) : Folio :=
  let f : Folio :=
    { w0 := pack [(1, 28), (kind, 24), (dest, 12), (src, 0)], w1 := pack [(payload.length, 21), (spec, 0)],
      w2 := w2, w3 := w3, payload := payload, crc := 0 }
  { f with crc := Folio.goodCrc f }

/-! ### Addressing (R89, R90, R98) -/

/-- The channel code a destination names (R98). -/
def channelOf (dgrp : Bool) (dest : Nat) : Half :=
  if dgrp then BitVec.ofNat 16 (0x100 + dest % 256) else if dest == 0xFFF then 0x0200 else 0x0000

def Folio.channel (f : Folio) : Half := channelOf (Folio.dgrp f) (Folio.dest f)

/-- The channel the node keeps under a code, if any (R117). -/
def channel (s : State) (code : Half) : Option Channel := s.hall.channels.find? fun c => c.code == code

/-- The node is a member of group g: it keeps the group's channel (R90, R136). -/
def member (s : State) (g : Nat) : Bool := (channel s (BitVec.ofNat 16 (0x100 + g % 256))).isSome

/-- A folio addressed to this node, a member group, or every node (R89). -/
def addressed (s : State) (f : Folio) : Bool :=
  if Folio.dgrp f then member s (Folio.dest f)
  else Folio.dest f == 0xFFF || (assigned s && Folio.dest f == s.addr.addr.toNat)

/-- 0 own address, 1 group, 2 broadcast (R96, R210). -/
def addressClass (f : Folio) : BitVec 2 := if Folio.dgrp f then 1 else if Folio.dest f == 0xFFF then 2 else 0

/-! ### Signatures and their seams (R92 to R95, R177, R178) -/

def depthBits (d : BitVec 2) : Nat := [8, 10, 12, 16].getD d.toNat 8

def sigDepth (f : Folio) : BitVec 2 := BitVec.ofNat 2 (Folio.spec f / 2 ^ 14)

def sigCfmt (f : Folio) : BitVec 2 := BitVec.ofNat 2 (Folio.spec f / 2 ^ 12)

def sigOff (f : Folio) : Nat := Folio.spec f % 1024

/-- Components per pixel of a colour format (R92). -/
def cfmtComponents (s : State) (cfmt : BitVec 2) : Nat := if cfmt == 1 then 3 else components s

/-- cfmt 00 suits every arrangement, 01 the RGBW ones (R92). -/
def cfmtSuits (s : State) (cfmt : BitVec 2) : Bool :=
  cfmt == 0 || (cfmt == 1 && (arrangement s == 2 || arrangement s == 3))

/-- The signature size S in bytes (R93). -/
def sigSize (s : State) (cfmt depth : BitVec 2) : Nat :=
  pixelsPerRow s * cfmtComponents s cfmt * scanRows s * depthBits depth / 8

/-- The layout test of R94. -/
def sigLayoutOk (s : State) (f : Folio) : Bool :=
  let n := f.payload.length
  let size := sigSize s (sigCfmt f) (sigDepth f)
  decide (sigOff f * 64 + n ≤ size) && (n % 64 == 0 || sigOff f * 64 + n == size) && decide (1 ≤ n)

/-- The granules a payload covers (R66). -/
def sigGranules (f : Folio) : List Nat :=
  (List.range ((f.payload.length + 63) / 64)).map (sigOff f + ·)

/-- qtime extended to full Mantel time in ns: the signed difference added to the time now (R95). -/
def extendQtime (s : State) (q : Word) : Nat :=
  ((mNs s : Int) + (q - BitVec.ofNat 32 (mNs s)).toInt).toNat

/-- The ns of refresh seam number k, counted from the epoch at f a second (R177). -/
def seamNs (f k : Nat) : Nat := k / f * second + k % f * second / f

/-- The number of the first refresh seam at or after t ns (R177). -/
def seamAfter (f t : Nat) : Nat := t / second * f + (t % second * f + (second - 1)) / second

/-- The frame seam of a presentation time: the first refresh seam at or after it (R178). -/
def frameSeam (s : State) (t : Nat) : Nat := seamNs (refreshHz s) (seamAfter (refreshHz s) t)

/-- The presentation delay in us for a quire (R200). -/
def delayFor (s : State) (q : Word) : Nat :=
  match s.larder.delays.find? fun d => q == d.1 || seqBelow d.1 q with
  | some d => d.2
  | none => s.larder.delayBase

/-! ### Frame slots (R195, R196) -/

def slotHolds (x : Slot) : Bool := x.st != .free

/-- The index of the slot that holds a quire. -/
def slotOf (s : State) (q : Word) : Option Nat :=
  s.larder.slots.findIdx? fun x => slotHolds x && x.quire == q

/-- The index of the oldest slot in a state (R95, R196). -/
def oldestSlot (slots : List Slot) (st : SlotState) : Option Nat :=
  slots.findIdx? fun x => x.st == st && slots.all fun y => y.st != st || !seqBelow y.quire x.quire

def setSlot (s : State) (i : Nat) (x : Slot) : State :=
  { s with larder := { s.larder with slots := s.larder.slots.set i x } }

def countLarder (s : State) (i : Nat) : State :=
  { s with larder := { s.larder with counts := bump s.larder.counts i } }

/-- Slot i freed, its quire counted as superseded (R196, R211). -/
def supersede (s : State) (i : Nat) : State :=
  let s := countLarder (setSlot s i Slot.empty) 3
  { s with larder := { s.larder with secSuperseded := s.larder.secSuperseded + 1 } }

/-- A SIG folio refused as late is counted once (R196, R211). -/
def countLate (s : State) : State :=
  let s := countLarder s 2
  { s with larder := { s.larder with secLate := s.larder.secLate + 1 } }

/-- The slot opened for a folio's quire (R96, R196). -/
def openedSlot (f : Folio) (pres : Nat) : Slot :=
  { st := .receiving, quire := f.w2, qtime := f.w3, pres := pres, cls := addressClass f,
    group := BitVec.ofNat 8 (Folio.dest f), depth := sigDepth f, cfmt := sigCfmt f, covered := [], data := [] }

/-- A slot opened for a quire, which is then no longer one that an error dropped (R194, R196). -/
def openSlot (s : State) (i : Nat) (x : Slot) : State :=
  let s := setSlot s i x
  { s with larder := { s.larder with dropped := s.larder.dropped.filter fun d => d.1 != x.quire } }

/-- slot_for (R196): the slot a SIG folio is written into, none when it is late. -/
def slotFor (s : State) (f : Folio) : Option Nat × State :=
  match slotOf s f.w2 with
  | some i => (some i, s)
  | none =>
    let t := extendQtime s f.w3 + delayFor s f.w2 * usNs
    let past := decide (t * 2 ^ 32 ≤ s.mantel.p)
    let shown := match s.larder.seamOnLight with
      | some x => decide (frameSeam s t ≤ x)
      | none => false
    let old := s.larder.slots.any fun x => slotHolds x && !seqBelow x.quire f.w2
    if past || shown || old then (none, s)
    else
      match s.larder.slots.findIdx? fun x => x.st == .free with
      | some i => (some i, openSlot s i (openedSlot f t))
      | none =>
        match oldestSlot s.larder.slots .receiving with
        | some i => (some i, openSlot (supersede s i) i (openedSlot f t))
        | none =>
          match oldestSlot s.larder.slots .ready with
          | some i => (some i, openSlot (supersede s i) i (openedSlot f t))
          | none => (none, s)

/-- The whole signature is covered (R94). -/
def slotComplete (s : State) (x : Slot) : Bool :=
  decide ((sigSize s x.cfmt x.depth + 63) / 64 ≤ x.covered.length)

/-- A folio's payload written into a slot, which becomes READY when its last granule is covered (R66, R195). -/
def writeSlot (s : State) (i : Nat) (f : Folio) : State :=
  let x := s.larder.slots.getD i Slot.empty
  let fresh := (sigGranules f).filter fun g => !x.covered.contains g
  let y := { x with covered := x.covered ++ fresh, data := Memory.writeBytes x.data (sigOff f * 64) f.payload }
  setSlot s i (if x.st == .receiving && slotComplete s y then { y with st := .ready } else y)

/-! ### The malformed tests (R88) -/

/-- The kinds only a ring head sends: IDL, SIG, CTL and the head SPL types (R84, R102). -/
def headOnly (f : Folio) : Bool :=
  Folio.kind f ≤ 2 || (Folio.kind f == 5 && [1, 3, 4, 5].contains (Folio.spec f % 256))

/-- The kinds a node sends: RPT, GSP, node SPL, and TIM from a source other than the head (R84). A reserved SPL stype is taken
for neither side's (log 85, DESIGN CHOICE). -/
def nodeKind (f : Folio) : Bool :=
  Folio.kind f == 3 || Folio.kind f == 6 || (Folio.kind f == 5 && [2, 6].contains (Folio.spec f % 256)) ||
    (Folio.kind f == 4 && Folio.src f != 0)

/-- The message types of IEEE 1588-2019 that are not reserved (R12, R99). PRESUMED: the standard's table, log 9. -/
def ptpTypeKnown (t : Nat) : Bool := [0, 1, 2, 3, 8, 9, 10, 11, 12, 13].contains t

/-- Causes 0 to 5, which every folio is tested for (R88). -/
def malformedAny (f : Folio) : Option Nat :=
  if Folio.ver f != 1 then some 0
  else if 7 ≤ Folio.kind f then some 1
  else if 1024 < Folio.len f then some 2
  else if Folio.len f != f.payload.length then some 3
  else if (Folio.dgrp f && Folio.dest f / 256 != 0) ||
      (Folio.src f == 0xFFF && Folio.kind f != 5 && Folio.kind f != 6) ||
      (!Folio.dgrp f && Folio.dest f == 0 && (headOnly f || (Folio.kind f == 4 && Folio.src f == 0))) then some 4
  else if headOnly f && Folio.src f != 0 then some 5
  else none

/-- Cause 7: the slot of its quire holds another depth, cfmt, qtime or address class (R96). -/
def slotDiffers (s : State) (f : Folio) : Bool :=
  match slotOf s f.w2 with
  | none => false
  | some i =>
    let x := s.larder.slots.getD i Slot.empty
    x.depth != sigDepth f || x.cfmt != sigCfmt f || x.qtime != f.w3 || x.cls != addressClass f ||
      (x.cls == 1 && x.group != BitVec.ofNat 8 (Folio.dest f))

/-- Cause 9: a TIM payload (R88, R99). -/
def timBad (f : Folio) : Bool :=
  decide (f.payload.length < 34) || !ptpTypeKnown (Folio.spec f % 16) ||
    Folio.spec f % 16 != (byteAt f.payload 0).toNat % 16

/-- Cause 10: an SPL type with its length and ranges (R102). -/
def splBad (f : Folio) : Bool :=
  let n := f.payload.length
  match Folio.spec f % 256 with
  | 1 => n != 8
  | 2 => n != 36
  | 3 => let c := (wordAt f.payload 4).toNat; c == 0 || decide (63 < c) || n != 8 + 16 * c
  | 4 => let c := (wordAt f.payload 4).toNat; n != 140 || c == 0 || decide (1024 < c)
  | 5 => let a := (wordAt f.payload 12).toNat; n != 36 || (a != 1 && a != 2)
  | 6 => n != 12
  | _ => true

/-- The node would use this folio (R88): a SIG or CTL addressed to it while it holds an address, every TIM, every head
SPL folio. -/
def wouldUse (s : State) (f : Folio) : Bool :=
  match Folio.kind f with
  | 1 | 2 => assigned s && addressed s f
  | 4 => true
  | 5 => Folio.src f == 0
  | _ => false

/-- Causes 6 to 10, on folios the node would use (R88). -/
def malformedUsed (s : State) (f : Folio) : Option Nat :=
  if !wouldUse s f then none
  else
    match Folio.kind f with
    | 1 =>
      if !sigLayoutOk s f || !cfmtSuits s (sigCfmt f) then some 6 else if slotDiffers s f then some 7 else none
    | 2 => if Folio.len f < 8 || field f.w3 31 30 == 3 then some 8 else none
    | 4 => if timBad f then some 9 else none
    | _ => if splBad f then some 10 else none

/-- Cause 11: a node kind that carries this node's own address (R88, R91). -/
def ownSource (s : State) (f : Folio) : Bool :=
  nodeKind f && assigned s && Folio.src f == s.addr.addr.toNat

/-- The first malformed cause in order (R88). -/
def malformed (s : State) (f : Folio) : Option Nat :=
  match malformedAny f with
  | some c => some c
  | none =>
    match malformedUsed s f with
    | some c => some c
    | none => if ownSource s f then some 11 else none

/-- A malformed folio is counted; cause 11 raises EVENT 0x0101 once in a report second (R88, R91). -/
def countMalformed (s : State) (f : Folio) (c : Nat) : State :=
  let s := { s with spine := { s.spine with malformed := bump s.spine.malformed c } }
  if c == 11 && !s.spine.collisionReported then
    raise { s with spine := { s.spine with collisionReported := true } } 0x0101 (BitVec.ofNat 16 (Folio.kind f))
      (BitVec.ofNat 32 (Folio.src f))
  else s

/-! ### Waking (R402, R403) -/

/-- A wake cause in S2 or S3 starts a wake; one that arrives during an entry reverses it, which is counted, and the node is
ready again after it; a CTL folio on the instant of the wake alarm makes the one wake its own (R402, R403, R410). -/
def wake (s : State) (cause : Nat) : State :=
  if s.power.waking.isSome then
    if s.power.waking == some 3 && cause == 1 && s.power.wakeAt == s.now then
      { s with power := { s.power with waking := some 1 } }
    else s
  else if s.power.entryBegun then
    { s with power := { s.power with waking := some cause, wakeAt := s.now, counts := bump s.power.counts 16 } }
  else if s.power.st == .s2 || s.power.st == .s3 then
    { s with power := { s.power with waking := some cause, wakeAt := s.now } }
  else s

/-! ### Copies for the leaves of a gathered head (R426, R427) -/

/-- The bytes of a folio, header to CRC. -/
def folioBytes (f : Folio) : List Byte := Folio.covered f ++ wordBytes f.crc

/-- A packet's room in the leaf queue: the folio length plus 12 bytes (R427). -/
def leafRoom (f : Folio) : Nat := f.payload.length + 32

/-- The position of the leaf that holds an address, at a gathered head (R426). -/
def leafAt (s : State) (dest : Nat) : Option (BitVec 6) :=
  if mode s == .head then (s.leaf.table.find? fun e => e.addr.toNat == dest && e.addr != 0xFFF).map (·.pos) else none

/-- The leaf field of the copy a SIG or CTL folio is due: 0 for every leaf, none when it is not copied (R426). -/
def leafTarget (s : State) (f : Folio) : Option (BitVec 6) :=
  if mode s != .head then none
  else if Folio.dgrp f || (Folio.kind f == 2 && Folio.dest f == 0xFFF) then some 0
  else leafAt s (Folio.dest f)

/-- The bytes that the leaf queue holds (R427). -/
def leafQueued (s : State) : Nat := (s.leaf.queue.map fun x => leafRoom x.2).sum

/-- The leaf queue has room for a copy (R427). -/
def leafFits (s : State) (f : Folio) : Bool := decide (leafQueued s + leafRoom f ≤ 61440)

/-- A copy enters the leaf queue, or finds no room, is dropped and counted (R427, R435). -/
def queueLeaf (s : State) (pos : BitVec 6) (f : Folio) : State :=
  let l := s.leaf
  if leafFits s f then { s with leaf := { l with queue := l.queue ++ [(pos, f)] } }
  else
    { s with
      leaf := { l with
        secSig := l.secSig + bit (Folio.kind f == 1), secCtl := l.secCtl + bit (Folio.kind f == 2), lastDropQueued := leafQueued s } }

/-- The key of a SIG folio in the twin filter of R426: its dest, with a group's apart from an address, its quire and its off. -/
def sigKey (f : Folio) : Half × Word × BitVec 10 :=
  (BitVec.ofNat 16 (Folio.dest f + 4096 * bit (Folio.dgrp f)), f.w2, BitVec.ofNat 10 (sigOff f))

/-- The first good copy of a SIG folio for the leaves; the last 64 copied are its twin filter, so the twin of one that found no
room is copied (R426). -/
def copySig (s : State) (f : Folio) : State :=
  match leafTarget s f with
  | none => s
  | some pos =>
    if s.spine.sigCopied.contains (sigKey f) then s
    else if leafFits s f then
      queueLeaf { s with spine := { s.spine with sigCopied := (sigKey f :: s.spine.sigCopied).take 64 } } pos f
    else queueLeaf s pos f

/-- The first good copy of a head SPL folio, for every leaf (R426). -/
def copySpl (s : State) (f : Folio) : State :=
  if mode s == .head && Folio.src f == 0 && !s.leaf.splCopied.contains f.w2 then
    queueLeaf { s with leaf := { s.leaf with splCopied := (f.w2 :: s.leaf.splCopied).take 64 } } 0 f
  else s

/-- The copy of a CTL folio that the merge memory has not seen. -/
def copyCtl (s : State) (f : Folio) : State :=
  match leafTarget s f with
  | none => s
  | some pos => queueLeaf s pos f

/-! ### The merge (R66, R67, R69) -/

/-- The presentation time of a SIG folio's quire: the one its slot was opened with, else by the delay for a new slot (R95, R199,
R200). -/
def presentation (s : State) (f : Folio) : Nat :=
  match slotOf s f.w2 with
  | some i => (s.larder.slots.getD i Slot.empty).pres
  | none => extendQtime s f.w3 + delayFor s f.w2 * usNs

/-- A SIG folio addressed to the node (R66, R69, R95, R196). -/
def mergeSig (s : State) (p : Port) (f : Folio) : State :=
  if decide (mNs s + second < presentation s f) then
    if s.spine.earlyQuires.contains f.w2 then s
    else
      raise { s with spine := { s.spine with earlyQuires := f.w2 :: s.spine.earlyQuires } } 0x0102 0 f.w2
  else
    match slotFor s f with
    | (none, s) => countLate s
    | (some i, s) =>
      let x := s.larder.slots.getD i Slot.empty
      if (sigGranules f).all x.covered.contains then countPort s p 6 else countPort (writeSlot s i f) p 5

/-- A merge-memory entry lives until 1 ms after it was written, that instant included (R67, R81). -/
def mergeLive (s : State) (m : MergeEntry) : Bool := decide (s.now ≤ m.time + msNs)

/-- The oldest live entry goes when all 256 are taken (R67); the newest stands first. -/
def mergeInsert (s : State) (chan : Half) (seq : Word) (dest : BitVec 12) : State :=
  let live := s.spine.mergeMem.filter (mergeLive s)
  { s with
    spine := { s.spine with
      mergeMem := { chan := chan, seq := seq, dest := dest, time := s.now } :: live.take 255 } }

def mergeHolds (s : State) (chan : Half) (seq : Word) (dest : BitVec 12) : Bool :=
  s.spine.mergeMem.any fun m => mergeLive s m && m.chan == chan && m.seq == seq && m.dest == dest

/-- The dest by which the merge memory keys a CTL folio: that of a leaf or a group at a gathered head (R67, R426). -/
def ctlKey (s : State) (f : Folio) : BitVec 12 := if (leafTarget s f).isSome then BitVec.ofNat 12 (Folio.dest f) else 0

/-- A CTL folio addressed to the node: a twin is dropped, a first copy goes to the Spine's queue of four, or is dropped
before judgement and counted (R67, R69, R205); it wakes CORE (R402). -/
def mergeCtl (s : State) (p : Port) (f : Folio) : State :=
  let d := ctlKey s f
  if mergeHolds s (Folio.channel f) f.w2 d then countPort s p 6
  else
    let s := copyCtl (countPort (mergeInsert s (Folio.channel f) f.w2 d) p 5) f
    let s := wake s 1
    if s.spine.ctlQueue.length < 4 then
      { s with spine := { s.spine with ctlQueue := s.spine.ctlQueue ++ [(p, f)] } }
    else countLarder s 13

/-- A CTL folio for the leaves that the head does not use itself (R426). -/
def copyOnly (s : State) (f : Folio) : State :=
  if (leafTarget s f).isNone || mergeHolds s (Folio.channel f) f.w2 (ctlKey s f) then s
  else copyCtl (mergeInsert s (Folio.channel f) f.w2 (ctlKey s f)) f

/-- The node takes SIG folios only in S0 and S1, and only once started up and while no entry to a rest state is under way; in S2
and S3, and during an entry, one for the node or a member group wakes it while the programme is STREAM and the feed lost (R69,
R402, R403). -/
def takeSig (s : State) (p : Port) (f : Folio) : State :=
  if (s.power.st == .s0 || s.power.st == .s1) && !s.power.entryBegun then mergeSig s p f
  else if s.screen.programme == .stream && s.larder.fstate == .lost && addressClass f != 2 then wake s 2
  else s

/-- A CRC failure, counted at its port (R61, R62). -/
def countCrc (s : State) (p : Port) : State :=
  let s := countPort s p 0
  setPort s p { getPort s p with crcThisSecond := (getPort s p).crcThisSecond + 1 }

/-- The merge of R69 on one unit received on port p. A unit cut by its own port was counted as the port was lost (R62). -/
def mergeUnit (s : State) (p : Port) : RxUnit → State
  | .errorEnded => countPort s p 3
  | .cut => s
  | .short => countCrc s p
  | .whole f =>
    if Folio.stamped f then countPort s p 1
    else if !Folio.crcOk f then countCrc s p
    else
      match malformed s f with
      | some c => countMalformed s f c
      | none =>
        let s := if Folio.kind f == 1 then copySig s f else if Folio.kind f == 5 then copySpl s f else s
        if wouldUse s f then
          match Folio.kind f with
          | 1 => takeSig s p f
          | 2 => mergeCtl s p f
          | _ => s
        else if Folio.kind f == 2 then copyOnly s f
        else s

/-! ### Own folios leaving (R63, R64, R105) -/

/-- An own folio as it leaves: a report, ACK, NACK or SPL to the head with its report sequence (R84, R105). -/
def ownFolio (s : State) (f : OwnFolio) : Folio :=
  mkFolio f.kind.toNat 0 (f.leafSrc.getD s.addr.addr).toNat f.spec.toNat (if f.kind == 4 then 0 else f.seq) 0 f.payload

def dueOn (f : OwnFolio) : Port → Bool
  | .east => f.dueEast
  | .west => f.dueWest

def clearDue (f : OwnFolio) : Port → OwnFolio
  | .east => { f with dueEast := false, left := true }
  | .west => { f with dueWest := false, left := true }

/-- An own folio that a vacancy of n payload bytes on port p can carry (R63). -/
def fitsVacancy (s : State) (p : Port) (n : Nat) (f : OwnFolio) : Bool :=
  dueOn f p && mayLeave s f && decide (f.payload.length ≤ n)

/-- A leaf's GSP that waits for room and that the vacancy can carry: it goes ahead of every queued report (R428). -/
def gspWaiting (s : State) (p : Port) (n : Nat) : Option Nat :=
  s.larder.waiting.findIdx? fun f => f.kind == 6 && fitsVacancy s p n f

/-- The place in queue 0x01 of the folio a vacancy takes: a leaf's GSP ahead of every report (R428), else the oldest ACK or NACK
that fits, else the oldest other that fits (R63). -/
def vacancyChoice (s : State) (p : Port) (n : Nat) : Option Nat :=
  match s.larder.reports.findIdx? fun f => f.kind == 6 && fitsVacancy s p n f with
  | some i => some i
  | none =>
    match s.larder.reports.findIdx? fun f => isAck f && fitsVacancy s p n f with
    | some i => some i
    | none => s.larder.reports.findIdx? (fitsVacancy s p n)

/-- A vacancy the node may fill: a good IDL header from the head to every node, to this one, or to one of its leaves (R63, R84,
R428). -/
def fillable (s : State) (v : Folio) : Bool :=
  Folio.kind v == 0 && (malformedAny v).isNone && !Folio.dgrp v &&
    (Folio.dest v == 0xFFF || (assigned s && Folio.dest v == s.addr.addr.toNat) || (leafAt s (Folio.dest v)).isSome)

/-- The copy of queued folio i on port p leaves; the folio gives up its units with its last copy, and reports that
waited for room come in (R63, R205). -/
def takeCopy (s : State) (p : Port) (i : Nat) : State :=
  let rs := (s.larder.reports.modify i (clearDue · p)).filter fun f => f.dueEast || f.dueWest
  let s := { s with larder := { s.larder with reports := rs } }
  admitWaiting s.larder.waiting.length s

/-- The copy of a waiting GSP on port p leaves (R428). -/
def takeWaiting (s : State) (p : Port) (i : Nat) : State :=
  { s with larder := { s.larder with waiting := (s.larder.waiting.modify i (clearDue · p)).filter fun f => f.dueEast || f.dueWest } }

/-- Mantel's stamp of an instant in 2^-16 ns (R162, R164). -/
def stampNow (s : State) : Int := (s.mantel.time / 2 ^ 16 : Nat)

/-- The Mantel time, in 2^-16 ns, of an instant of the RING time counter given in units of 100 ps (R22, R163, R164). -/
def mantelAt (s : State) (r : Nat) : Int :=
  ((s.mantel.time : Int) + ((r : Int) - 10 * s.now) * tickUnits s.mantel / 40) / 2 ^ 16

/-- An egress stamp of the RING time counter, which resolves 100 ps: where in the present tick of 4 ns the start block leaves is
not stated, so it is free within it (R164; log 3). -/
def stampRing (s : State) : Int × State :=
  let (k, s) := freeBelow s 39
  (mantelAt s (10 * s.now + k), s)

def portSync (s : State) : Port → PortSync
  | .east => s.mantel.east
  | .west => s.mantel.west

def setSync (s : State) (p : Port) (x : PortSync) : State :=
  match p with
  | .east => { s with mantel := { s.mantel with east := x } }
  | .west => { s with mantel := { s.mantel with west := x } }

/-- t3 of a Delay_Req that leaves: its egress stamp, moved later by the port's TX latency (R164, R167). -/
def stampEgress (s : State) (p : Port) (f : OwnFolio) : State :=
  if f.kind == 4 then
    let lat : Int := Config.latencyPs (portCode p) (laneRate s) 0
    let (t, s) := stampRing s
    let t3 := t + rdiv (lat * 65536) 1000
    setSync s p { portSync s p with t3 := some (BitVec.ofNat 16 (halfAt f.payload 30).toNat, t3) }
  else s

/-- A vacancy takes the copy of a folio of queue 0x01 (R63). -/
def sendQueued (s : State) (p : Port) (n : Nat) : State :=
  match vacancyChoice s p n with
  | none => s
  | some i =>
    let f := s.larder.reports.getD i default
    takeCopy (stampEgress (send s (.folio p (ownFolio s f))) p f) p i

/-- The oldest folio of queue 0x01 that a vacancy can carry is a leaf's GSP. -/
def gspQueued (s : State) (p : Port) (n : Nat) : Bool :=
  s.larder.reports.any fun f => f.kind == 6 && fitsVacancy s p n f

/-- The node fills vacancies: RING is on and, after a power-fail detect, CORE still works (R63, R131). -/
def fillsVacancies (s : State) : Bool := ringOn s && (s.cellar.failAt.isNone || coreWorks s)

/-- A passing vacancy is filled with an own folio, if one fits (R63, R428). -/
def fillVacancy (s : State) (p : Port) (v : Folio) : State :=
  if portUp s p && fillsVacancies s && fillable s v then
    match gspWaiting s p v.payload.length with
    | some i =>
      if gspQueued s p v.payload.length then sendQueued s p v.payload.length
      else takeWaiting (send s (.folio p (ownFolio s (s.larder.waiting.getD i default)))) p i
    | none => sendQueued s p v.payload.length
  else s

end Sys2Proof.Machine
end

