-- ==== Sys2Proof/Machine/Flags.lean ====
section
/-! DEFINITION. The flag and status words the node reports: port blocks, JOIN flags, strap words, GSP state, ACK and NACK payloads. -/

namespace Sys2Proof.Machine

open Sys2Proof

/-! ### LINK (R110) -/

def portStateCode : PortState → Nat
  | .down => 0
  | .acquire => 1
  | .blockLock => 2
  | .deskew => 3
  | .confirm => 4
  | .up => 5

/-- Word 0 of a port block (R110). -/
def portFlags (x : PortS) : Word :=
  pack [(if x.st == .up then x.nbrLow.toNat else 0, 16), (bit x.inWindow, 9), (bit x.rateSuspected, 8),
    (bit x.laneMismatch, 7), (bit x.degraded, 6), (if x.twoLanes then 3 else 1, 4), (portStateCode x.st, 0)]

/-- The eleven words of a port block (R110). -/
def portBlock (x : PortS) : List Word := portFlags x :: (x.counts ++ [x.outageUs, x.crcLastSecond])

/-- The words of LINK bytes 4 to 139, which are census section 0x01 too (R110, R185). -/
def linkWords (s : State) : List Word :=
  portBlock s.spine.east ++ portBlock s.spine.west ++ s.spine.malformed

/-- The LINK payload: why 0 solicited, 1 degraded, 2 port state change (R110). -/
def linkPayload (s : State) (why : Nat) : List Byte := wordsBytes (BitVec.ofNat 32 why :: linkWords s)

def queueLink (s : State) (why : Nat) : State := queueReport s 0x0011 (linkPayload s why)

/-! ### The strap readout (R49, R50) -/

/-- A strap is named in a conflict word (R50). -/
def inConflict (cs : List (Nat × Nat × Nat × Nat)) (i : Nat) : Bool :=
  cs.any fun c => c.2.1 == i || c.2.2.1 == i

/-- No field of the strap applies: CFG_RING and CFG_BYPASS in the leaf and standalone modes (R48, R50). -/
def notApplied (m : Mode) (i : Nat) : Bool :=
  (i == 6 || i == 7) && (m == .leaf || m == .leafFz || m == .standalone)

/-- A strap word (R50). -/
def strapWord (codes : List Nat) (u : Nat) (conflict notapplied : Bool) : Word :=
  let sum := codeSum codes
  pack [(meanCode sum u, 20), (min (codeSpread codes) 255, 12), (bit (betweenBands sum), 7),
    (bit (decide (32 < codeSpread codes)), 6), (bit conflict, 5), (bit notapplied, 4), (bandLevel sum, 0)]

/-- An IREF word (R50). -/
def irefWord (used : Bool) (pa : Nat) : Word :=
  pack [((irefStatus used pa).2, 16), ((irefStatus used pa).1, 12)]

/-- A conflict word (R50). -/
def conflictWord (c : Nat × Nat × Nat × Nat) : Word :=
  pack [(c.1, 28), (c.2.1, 24), (c.2.2.1, 20), (c.2.2.2, 12)]

/-- The 25 words of the strap readout (R49). -/
def readout (s : State) : List Word :=
  s.straps.words ++ s.straps.irefWords ++ [BitVec.ofNat 32 s.straps.conflicts.length] ++
    (s.straps.conflicts ++ List.replicate 8 0).take 8

/-- Any strap between bands or unstable (R36, R109). -/
def strapFlagged (s : State) : Bool := s.straps.words.any fun w => w.getLsbD 7 || w.getLsbD 6

/-! ### The live image (R231, R232, R234) -/

/-- The bytes of the matrix array: one K x K matrix of 2-byte coefficients per pixel (R231). -/
def arraySize (s : State) : Nat := pixelsPerRow s * scanRows s * components s * components s * 2

def tfOk (t : Nat) : Bool := decide (t ≤ 11)

/-- A calibration header (the first 28 bytes of an image) against the list of R232: the first reason that fails. -/
def imageReason (s : State) (h : List Byte) (sizeOk : Bool) : Option Nat :=
  let w1 := wordAt h 4
  let tf0 := field w1 31 28
  let tf1 := field w1 27 24
  let peak := field w1 15 0
  let oc := wordAt h 20
  let sensors := [byteAt h 24, byteAt h 25, byteAt h 26, byteAt h 27]
  if byteAt h 0 != 1 then some 1
  else if field (wordAt h 0) 23 20 != strap s 2 || field (wordAt h 0) 19 16 != strap s 1 then some 2
  else if !sizeOk then some 3
  else if !tfOk tf0 || !tfOk tf1 || decide (8 < field oc 31 28) || decide (8 < field oc 27 24) ||
      decide (8 < field oc 23 20) || decide (8 < field oc 19 16) ||
      sensors.any (fun x => decide (64 ≤ x.toNat) && decide (x.toNat ≤ 254)) then some 4
  else if ((tf0 == 2 || tf1 == 2) && (decide (peak < 100) || decide (10000 < peak))) ||
      decide (32768 < field (wordAt h 16) 31 16) then some 5
  else none

/-- The live calibration image: the stored one where it is valid and made for these straps (R234). -/
def liveImage (s : State) : Option Obj :=
  s.arch.calibration.filter fun o =>
    o.valid && (imageReason s (Memory.bytes o.data 28) (o.size == 2048 + arraySize s)).isNone

/-- The identity of the live image, 0 when there is none, from the result of its commit on (R109, R139, R234, R236, R381). -/
def liveImageIdentity (s : State) : Word := match liveImage s with | some o => o.identity | none => 0

/-! ### JOIN (R109) -/

def nodeChannel (s : State) : Channel := (channel s 0x0000).getD (Channel.fresh 0x0000)

/-- A channel's last accepted sequence (R117). -/
def lastAccepted (c : Channel) : Word := c.expected - 1

/-- The JOIN flags (R109). -/
def joinFlags (s : State) : Word :=
  pack [(bit s.addr.tamperSinceJoin, 9), (bit s.spine.switchFaultSeen, 8), (bit s.spine.internalSelfTest, 7),
    (bit s.arch.patchIn, 6), (bit (!s.straps.conflicts.isEmpty), 5), (bit (strapFlagged s), 4),
    (bit (!s.cellar.rtcValid), 3), (bit s.addr.pinConflict, 2), (bit s.arch.pin.isSome, 1),
    (bit s.hall.archiveLost, 0)]

/-- The JOIN payload (R109). -/
def joinPayload (s : State) : List Byte :=
  longBytes Config.serialFuses ++
    wordsBytes ([0x72164200#32, pack [(s.addr.pos.toNat, 16), (s.addr.addr.toNat, 0)], joinFlags s,
      lastAccepted (nodeChannel s), (nodeChannel s).completed, liveImageIdentity s, s.arch.patchLoaded] ++ readout s)

/-! ### ACK and NACK (R107, R108) -/

/-- Armed cues, and accepted cues not dispatched yet: accepted cues not yet run (R107, R118). -/
def pendingCues (s : State) : Nat :=
  (s.hall.entries.filter fun e => e.msg.cmd == 0x0010).length

def ackPayload (s : State) (code : Half) (seq : Word) (dup : Bool) : List Byte :=
  let c := (channel s code).getD (Channel.fresh code)
  wordsBytes [pack [(code.toNat, 16), (bit dup, 0)], seq, lastAccepted c, c.completed, pack [(pendingCues s, 24)]]

def nackPayload (s : State) (code : Half) (seq : Word) (reason : Nat) : List Byte :=
  let c := (channel s code).getD (Channel.fresh code)
  wordsBytes [pack [(code.toNat, 16), (reason, 8)], seq, c.expected, c.completed, 0]

def queueAck (s : State) (code : Half) (seq : Word) (dup : Bool) : State :=
  queueReport s 0x0001 (ackPayload s code seq dup)

def queueNack (s : State) (code : Half) (seq : Word) (reason : Nat) : State :=
  queueReport s 0x0002 (nackPayload s code seq reason)

/-! ### GSP (R64, R113) -/

/-- The GSP payload (R113). -/
def gspPayload (s : State) : List Byte :=
  longBytes Config.serialFuses ++
    wordsBytes [lastAccepted (nodeChannel s), (nodeChannel s).completed, tsecOf s.press.lastSeam,
      tnsOf s.press.lastSeam, s.spine.lastQuire, pack [(bit s.hall.writing.isSome, 8), (restCode s.power.st, 0)], 0, 0]

/-- A packet that a leaf sends upstream carries its position (R423). -/
def sendUp (s : State) (f : Folio) : State :=
  match s.leaf.position with
  | some k => if s.leaf.upHop then send s (.leaf false 2 k 0 (folioBytes f)) else s
  | none => s

/-- GSP with its cause on both ports, without a vacancy, and from a leaf upstream; it takes one report sequence and counts as sent
from the template (R64, R101, R394, R423). R64 says each port and R57 that a DOWN port passes no folio: GSP and LEAVE go out on both
whatever their state (log 88, DESIGN CHOICE). -/
def sendGsp (s : State) (cause : Nat) : State :=
  let f := mkFolio 6 0 s.addr.addr.toNat cause s.addr.reportSeq 0 (gspPayload s)
  let next := { s with
    addr := { s.addr with reportSeq := s.addr.reportSeq + 1 }
    cellar := { s.cellar with counts := bump s.cellar.counts 1 } }
  match mode s with
  | .native | .head => send (send next (.folio .east f)) (.folio .west f)
  | .leaf => sendUp next f
  | _ => s

/-- 16 LEAVE blocks on each port, whatever its state (R71, R413; log 88). -/
def sendLeave (s : State) : State := send (send s (.leave .east 16)) (.leave .west 16)

/-! ### Changes of the power state (R400, R407) -/

def countPower (s : State) (i : Nat) : State := { s with power := { s.power with counts := bump s.power.counts i } }

/-- tol_us in force: 100 us in the standalone and leaf modes (R361, R400). -/
def tolerance (s : State) : Nat :=
  match mode s with
  | .standalone | .leaf | .leafFz => 100
  | _ => s.arch.tolUs

/-- The arg1 of EVENT 0x0C01 (R407). -/
def stateArg (s : State) (cause : Nat) : Word := pack [(cause, 24), (sat 24 (tolerance s / 1000), 0)]

def stateChange (old new : Rest) : Half := pack [(restCode old, 8), (restCode new, 0)] |>.setWidth 16

/-! ### FAULT_N (R416) -/

/-- FAULT_N is low: until step 10 ends and, in the ring modes, the self-test has passed; then while the Cellar forces
dark, or a leaf has no position, or an FZ5140 leaf counted itself at 64 or more (R416, R424, R433). -/
def faultLow (s : State) : Bool :=
  s.start.ioGood &&
    (!running s || s.start.stage != 0 || (ringMode s && !s.spine.selfTestPassed) || cellarDark s ||
      (mode s == .leaf && s.leaf.position.isNone) || (mode s == .leafFz && s.leaf.fzOverflow))

end Sys2Proof.Machine
end

