-- ==== Sys2Proof/Machine/Bodies.lean ====
section
/-! DEFINITION. The bodies of control messages: command codes, rights, object classes, and which body is malformed for its command (R134 to R140, R149). -/

namespace Sys2Proof.Machine

open Sys2Proof

/-- The command codes the node knows (R134). -/
def commandKnown (cmd : Half) : Bool :=
  [0x0001, 0x0002, 0x0003, 0x0004, 0x0010, 0x0011, 0x0012, 0x0013, 0x0014, 0x0015, 0x0020, 0x0021, 0x0022, 0x0030,
    0x0032, 0x0033, 0x0040, 0x0041, 0x0050, 0x0051, 0x0060, 0x0061, 0x0070].contains cmd.toNat

/-- The greatest size of an object class, 0 for a class not listed (R138). -/
def classMax : Nat → Nat
  | 1 => 30720
  | 2 => 8192
  | 3 => 124928
  | 4 => 131072
  | 5 => 131072
  | 6 => 2048
  | _ => 0

/-- The indices of a class (R138). -/
def classIndices : Nat → Nat
  | 1 => 12
  | 2 => 8
  | 3 | 4 | 5 | 6 => 1
  | _ => 0

def objectClass (body : List Byte) : Nat := (byteAt body 0).toNat

def objectIndex (body : List Byte) : Nat := (byteAt body 1).toNat

def objectListed (body : List Byte) : Bool := decide (objectIndex body < classIndices (objectClass body))

/-- The least role of a command: 0 operator, 1 installer, 2 maker; for OBJ_* by class and for KEY_ENROL by target, and the
installer when the body is too short to name it (R118, R149, R151). -/
def leastRole (cmd : Half) (body : List Byte) : Nat :=
  match cmd.toNat with
  | 0x01 | 0x02 | 0x10 | 0x11 | 0x12 | 0x13 => 0
  | 0x20 | 0x21 | 0x22 =>
    if body.length < 4 then 1 else if 4 ≤ objectClass body ∧ objectClass body ≤ 6 then 2 else 1
  | 0x50 =>
    if body.length < 4 then 1
    else if field (wordAt body 0) 31 30 == 1 || field (wordAt body 0) 31 30 == 2 then 2 else 1
  | 0x70 => 2
  | _ => 1

/-! ### Fields of single bodies -/

/-- T of a 12-byte Mantel time at an offset, in ns: 8 bytes of seconds, 4 of nanoseconds (R102, R184, R253). -/
def timeAt (body : List Byte) (off : Nat) : Nat := beNat ((body.drop off).take 8) * second + (wordAt body (off + 8)).toNat

def nsOk (body : List Byte) (off : Nat) : Bool := decide ((wordAt body off).toNat < second)

/-- The entries of a GROUP_SET: channel, operation, base (R136). -/
def groupEntries : Nat → List Byte → List (Half × Nat × Word)
  | 0, _ => []
  | n + 1, b => (halfAt b 0, (byteAt b 2).toNat, wordAt b 4) :: groupEntries n (b.drop 8)

def groupEntryOk (e : Half × Nat × Word) : Bool :=
  ((0x0100 ≤ e.1.toNat && e.1.toNat ≤ 0x01FF && e.2.1 ≤ 2) || (e.1 == 0x0200 && (e.2.1 == 1 || e.2.1 == 2)))

/-- The cue's fields (R253). -/
def cueAction (b : List Byte) : Nat := field (wordAt b 0) 31 28

def cueShape (b : List Byte) : Nat := field (wordAt b 0) 27 24

def cueSlate (b : List Byte) : Nat := field (wordAt b 0) 23 20

def cueMode (b : List Byte) : Nat := field (wordAt b 0) 19 18

def cueFade (b : List Byte) : Nat := field (wordAt b 0) 15 0

def cueLevel (b : List Byte) : Nat := field (wordAt b 16) 31 16

def cueOk (b : List Byte) : Bool :=
  let a := cueAction b
  b.length == 24 && decide (a ≤ 4) && nsOk b 12 &&
    (a == 0 || a == 4 || (decide (cueFade b ≤ 60000) && decide (cueShape b ≤ 9))) &&
    (decide (2 ≤ a) || decide (cueSlate b ≤ 11)) &&
    (a != 2 || (cueMode b == 0 && decide (cueLevel b ≤ 32768)) || (cueMode b == 1 && decide (cueLevel b ≤ 254)))

/-- The codes of a FORCE_OUTPUT by sink (R293). -/
def forceCodes (b : List Byte) : List (BitVec 2) :=
  (List.range 192).map fun k => BitVec.ofNat 2 ((byteAt b (8 + k / 4)).toNat / 2 ^ (6 - 2 * (k % 4)))

def forceRows (b : List Byte) : List Bool :=
  (List.range 80).map fun r => (byteAt b (56 + r / 8)).getLsbD (7 - r % 8)

/-- Sinks 2m and 2m + 1 of a paired arrangement carry one code (R293). -/
def pairsAgree : List (BitVec 2) → Bool
  | a :: b :: r => a == b && pairsAgree r
  | _ => true

def forceOk (s : State) (b : List Byte) : Bool :=
  let op := field (wordAt b 0) 31 30
  decide (field (wordAt b 0) 15 0 ≤ 3600) &&
    (if op == 0 then b.length == 4 else op == 1 && b.length == 68 && (!paired s || pairsAgree (forceCodes b)))

/-- The body of a message is well formed for its command (R118); each command's own format is in the rule named. -/
def bodyOk (s : State) (chan cmd : Half) (b : List Byte) : Bool :=
  let n := b.length
  match cmd.toNat with
  | 0x01 | 0x02 => n == 8 -- R140, R141
  | 0x03 => -- R136
    let c := (wordAt b 0).toNat % 256
    decide (1 ≤ c) && decide (c ≤ 63) && n == 4 + 8 * c && (groupEntries c (b.drop 4)).all groupEntryOk
  | 0x04 => -- R135, R137
    let op := field (wordAt b 0) 31 28
    let a := field (wordAt b 0) 11 0
    chan == 0x0000 && n == 4 && (op == 0 || (op == 1 && a != 0x000 && a != 0xFFF))
  | 0x10 => cueOk b -- R253
  | 0x11 | 0x51 | 0x60 => n == 4 -- R400, R159, R345
  | 0x12 => n == 16 && nsOk b 12 -- R184
  | 0x13 => n == 16 && decide ((wordAt b 12).toNat ≤ 16128) -- R188
  | 0x14 => -- R204
    let p := field (wordAt b 0) 31 28
    let t := field (wordAt b 0) 15 0
    n == 8 && decide (p ≤ 3) && decide (field (wordAt b 0) 27 24 ≤ 11) && decide (20 ≤ t) && decide (t ≤ 60000) &&
      decide (field (wordAt b 4) 31 16 ≤ 60000) &&
      (p != 3 || (decide (1 ≤ field (wordAt b 4) 15 0) && decide (field (wordAt b 4) 15 0 ≤ 3600)))
  | 0x15 => n == 8 && decide (500 ≤ (wordAt b 0).toNat) && decide ((wordAt b 0).toNat ≤ 16000) -- R200
  | 0x20 => -- R138, R139
    n == 16 && objectListed b && decide (1 ≤ (wordAt b 4).toNat) &&
      decide ((wordAt b 4).toNat ≤ classMax (objectClass b))
  | 0x21 => -- R139
    objectListed b && decide (13 ≤ n) && decide (n ≤ 1016) && decide ((wordAt b 8).toNat + (n - 12) ≤ 131072)
  | 0x22 => objectListed b && n == 8 -- R139
  | 0x30 => -- R274
    let d := field (wordAt b 0) 15 0
    let m := field (wordAt b 0) 25 16
    n == 8 && decide (field (wordAt b 0) 31 30 ≤ 1) && decide (64 ≤ m) && decide (m ≤ 512) && decide (40 ≤ d) &&
      decide (d ≤ 400)
  | 0x32 => forceOk s b -- R293
  | 0x33 => n == 4 && !(wordAt b 0).getLsbD 4 && (wordAt b 0).toNat % 256 != 0 -- R290
  | 0x40 => -- R168
    match field (wordAt b 0) 31 28 with
    | 0 => n == 12
    | 1 => n == 8 && decide (1 ≤ (wordAt b 4).toNat) && decide ((wordAt b 4).toNat ≤ 240)
    | 2 => n == 4
    | _ => false
  | 0x41 => n == 8 && decide (field (wordAt b 0) 31 30 ≤ 1) -- R166
  | 0x50 => -- R150
    let t := field (wordAt b 0) 31 30
    let op := field (wordAt b 0) 29 28
    t != 3 && ((op == 1 && n == 36) || (op == 0 && n == 4 && t != 2))
  | 0x61 => n == 4 && decide (field (wordAt b 0) 15 0 ≤ 32768) -- R362
  | 0x70 => -- R300
    let l := field (wordAt b 0) 15 0
    n == 4 && (field (wordAt b 0) 31 31 == 0 || (decide (1 ≤ l) && decide (l ≤ 3600)))
  | _ => false

end Sys2Proof.Machine
end

