-- ==== Sys2Proof/Machine/Hall.lean ====
section
/-! DEFINITION. The Hall: judging, holding, the journal, completion and the audit log (R115 to R135, R144 to R161). -/

namespace Sys2Proof.Machine

open Sys2Proof

/-! ### Audit (R155 to R158) -/

/-- The audit log with one more entry of a stated time in ns; the newest 1,024 are held (R156, R157). -/
def auditAt (s : State) (ns : Nat) (chan cmd : Half) (seq : Word) (role : BitVec 2) (outcome result : BitVec 4)
    (rebuilt : Bool) : State :=
  let e : AuditEntry :=
    { serial := s.arch.auditNext, chan := chan, cmd := cmd, seq := seq, tsec := tsecOf ns, tns := tnsOf ns,
      role := role, outcome := outcome, result := result, rebuilt := rebuilt }
  { s with
    arch := { s.arch with
      audit := (s.arch.audit ++ [e]).drop (s.arch.audit.length + 1 - 1024), auditNext := s.arch.auditNext + 1 } }

/-- An audit entry of the present Mantel time (R156). -/
def auditWrite (s : State) (chan cmd : Half) (seq : Word) (role : BitVec 2) (outcome result : BitVec 4)
    (rebuilt : Bool) : State := auditAt s (mNs s) chan cmd seq role outcome result rebuilt

/-- An audit entry of a numbered journal record, with the advance of audited-through (R158). -/
def auditRecord (s : State) (chan cmd : Half) (seq : Word) (role : BitVec 2) (outcome result : BitVec 4) (no : Nat) :
    State :=
  let s := auditWrite s chan cmd seq role outcome result false
  { s with hall := { s.hall with auditedThrough := no } }

/-- The six words of an audit entry (R156). -/
def auditWords (e : AuditEntry) : List Word :=
  [e.serial, pack [(e.chan.toNat, 16), (e.cmd.toNat, 0)], e.seq, e.tsec, e.tns,
    pack [(e.role.toNat, 30), (e.outcome.toNat, 26), (e.result.toNat, 22), (bit e.rebuilt, 21)]]

/-! ### Channels and the journal's space (R115, R121, R128) -/

def setChannel (s : State) (c : Channel) : State :=
  { s with
    hall := { s.hall with
      channels := s.hall.channels.map fun x => if x.code == c.code then c else x } }

/-- Accepted messages of a channel not dispatched yet (R121). -/
def undispatched (s : State) (code : Half) : Nat :=
  (s.hall.entries.filter fun e => e.msg.chan == code && !e.dispatched).length

/-- The space of an entry: a 32-byte header and the body rounded up to 32 bytes (R128). -/
def entrySize (body : List Byte) : Nat := 32 + (body.length + 31) / 32 * 32

/-- Free bytes of the 24 KiB entry area (R128). -/
def journalFree (s : State) : Nat := 24576 - (s.hall.entries.map fun e => entrySize e.msg.body).sum

/-- A unit of queue 0x01 is free for an ACK or NACK; the Hall waits for one before it judges (R205). -/
def unitFree (s : State) : Bool := decide (reportLevel s + 1 ≤ 256)

/-- The Hall judges: it dispatches, no write is open, and a unit is free for an answer (R118, R120, R205). -/
def hallJudges (s : State) : Bool := hallDispatches s && s.hall.writing.isNone && unitFree s

/-! ### Holding (R122, R205) -/

/-- Held messages of a channel discarded: EVENT 0x0202 for each, and the flush notice of queue 0x03, each raised by tell (R122,
R207). -/
def discardBy (tell : State → Half → Half → Word → State) (s : State) (code : Half) : State :=
  match channel s code with
  | none => s
  | some c =>
    let n := c.held.length
    let s := setChannel s { c with held := [] }
    let s := c.held.foldl (fun s m => tell s 0x0202 m.chan m.seq) s
    if n == 0 then s
    else
      let s := { s with larder := { s.larder with counts := bumpBy s.larder.counts 11 n } }
      tell s 0x0406 3 (BitVec.ofNat 32 n)

/-- Held messages of a channel discarded while CORE works (R122, R136). -/
def discardHeld (s : State) (code : Half) : State := discardBy raise s code

/-- A message is held, replacing a held copy of its sequence (R118, R122). -/
def hold (s : State) (c : Channel) (m : Msg) : State :=
  let before := heldLevel s
  watermark before 2 (setChannel s { c with held := (c.held.filter fun x => x.seq != m.seq) ++ [m] })

/-! ### Acceptance (R118, R120, R129) -/

/-- accept(m) up to the journal write: the pending-cue limit, the space, then the write opens (R118). -/
def acceptMsg (s : State) (m : Msg) : State :=
  if m.cmd == 0x0010 && decide (64 ≤ pendingCues s) then queueNack s m.chan m.seq 0x0A
  else if journalFree s < entrySize m.body then queueNack s m.chan m.seq 0x05
  else { s with hall := { s.hall with writing := some m } }

/-- The sequence, body and window tests of R118 on a message whose tag and right hold. -/
def judgeSequence (s : State) (c : Channel) (m : Msg) : State :=
  let d := (m.seq - c.expected).toNat
  let others := c.held.filter fun x => x.seq != m.seq
  if 0x80000000 ≤ d then queueAck s m.chan m.seq true
  else if 64 ≤ d then queueNack s m.chan m.seq 0x04
  else if !bodyOk s m.chan m.cmd m.body then queueNack s m.chan m.seq 0x06
  else if decide (64 < others.length + undispatched s m.chan + 1) || decide (journalFree s < entrySize m.body) then
    queueNack s m.chan m.seq 0x05
  else if 0 < d then
    if others.length == c.held.length && decide (64 ≤ heldLevel s) then queueNack s m.chan m.seq 0x05
    else queueNack (hold s c m) m.chan m.seq 0x03
  else acceptMsg s m

/-- The key of a role in force (R145). -/
def roleKey (s : State) (role : Nat) : Option Block := s.arch.keys.getD role none

/-- The tag of a CTL folio: AES-CMAC over the header as sent and the body, first 64 bits (R97, R148). -/
def tagOk (key : Block) (f : Folio) : Bool :=
  let n := f.payload.length
  tagOf key (wordsBytes [f.w0, f.w1, f.w2, f.w3] ++ f.payload.take (n - 8)) == f.payload.drop (n - 8)

/-- The message a CTL folio carries (R97, R98). -/
def messageOf (f : Folio) : Msg :=
  { chan := Folio.channel f, seq := f.w2, cmd := BitVec.ofNat 16 (Folio.spec f), role := BitVec.ofNat 2 (field f.w3 31 30),
    body := f.payload.take (f.payload.length - 8), no := 0 }

/-- The Hall judges one message in the order of R118; the first failing test decides the answer. -/
def judge (s : State) (f : Folio) : State :=
  let m := messageOf f
  let r := m.role.toNat
  match channel s m.chan with
  | none => s
  | some c =>
    match roleKey s r with
    | none => queueNack { s with hall := { s.hall with keyless := s.hall.keyless.modify r (· + 1) } } m.chan m.seq 0x08
    | some key =>
      if !tagOk key f then
        queueNack { s with hall := { s.hall with tagFails := s.hall.tagFails.modify r (· + 1) } } m.chan m.seq 0x01
      else if !commandKnown m.cmd then queueNack s m.chan m.seq 0x09
      else if r < leastRole m.cmd m.body then
        queueNack (auditWrite s m.chan m.cmd m.seq m.role 3 0 false) m.chan m.seq 0x02
      else judgeSequence s c m

/-- A lost sequence added to the run that it follows, or as a run of its own (R140). -/
def loseSequence (chan : Half) (seq : Word) : List LostRun → List LostRun
  | [] => [{ chan := chan, first := seq, last := seq }]
  | r :: rs => if r.chan == chan && r.last + 1 == seq then { r with last := seq } :: rs else r :: loseSequence chan seq rs

/-- The ring of 256 summaries is full, so its oldest is overwritten and its sequence is lost (R128, R140). -/
def overwriteOldest (h : Hall) : List LostRun :=
  match h.summaries with
  | y :: _ => if h.summaries.length < 256 then h.overwritten else loseSequence y.chan y.seq h.overwritten
  | [] => h.overwritten

/-- The journal entry and summary of a message, and the advance of its channel: acceptance (R118, R128, R129). R118 judges the
channel before the write alone, and not what a GROUP_SET dispatched while the write is open does to it: a rebased channel then
expects the sequence after the written one, and a channel left stays left, its ACK with fresh counters (log 104, DESIGN CHOICE). -/
def commitEntry (s : State) (m : Msg) : State :=
  let no := s.hall.nextNo
  let e : Entry := { msg := { m with no := no }, no := no, dispatched := false, finished := false }
  let y : Summary :=
    { no := no, chan := m.chan, seq := m.seq, cmd := m.cmd, role := m.role, st := 1, result := 0, crc := crc32c m.body,
      doneNo := 0 }
  { s with
    hall := { s.hall with
      writing := none, entries := s.hall.entries ++ [e]
      summaries := (s.hall.summaries ++ [y]).drop (s.hall.summaries.length + 1 - 256)
      overwritten := overwriteOldest s.hall
      nextNo := no + 1
      channels := s.hall.channels.map fun c => if c.code == m.chan then { c with expected := m.seq + 1 } else c } }

/-- The held message that a channel expects next. -/
def dueHeld (c : Channel) : Option Msg := c.held.find? fun m => m.seq == c.expected

/-- The held message a channel expects next is taken from the hold once a unit is free for its answer; one refused there is
discarded, and the others stay held (R118, R120, R205). The NACK tells the head of that discard: no EVENT 0x0202 is raised
beside it, which R122 leaves open (log 93, DESIGN CHOICE). -/
def takeHeld (s : State) (code : Half) : State :=
  match channel s code with
  | none => s
  | some c =>
    match dueHeld c with
    | none => s
    | some m => if unitFree s then acceptMsg (setChannel s { c with held := c.held.filter fun x => x.seq != m.seq }) m else s

/-- The channel whose next message has waited in the hold for a free unit (R205). -/
def waitingChannel (s : State) : Option Channel := s.hall.channels.find? fun c => (dueHeld c).isSome

/-- The Hall takes the message that waits in the hold for a free unit, else the oldest CTL copy that waits at the Spine, and
judges it (R118, R120, R205). -/
def execCtlJudge (s : State) : Result :=
  if hallJudges s then
    match waitingChannel s, s.spine.ctlQueue with
    | some c, _ => .next (takeHeld s c.code)
    | none, [] => .next s
    | none, (_, f) :: rest => .next (judge { s with spine := { s.spine with ctlQueue := rest } } f)
  else .next s

/-- The commit word of the open write: acceptance with its ACK, its dispatch and its audit entry, then the held
successor; or, when the read-back fails, NACK 0x07 and EVENT 0x0203 (R118, R120, R127, R129, R155). An open write
finishes after a power fail too while CORE still works, and then takes no other (R130, R131); its audit entry is a burst of three
words, and one that is not granted is rebuilt at the next start-up, or written once a brown-out of VDD_AUX ends (R158, R384,
R406). -/
def execJournalCommit (readBackOk : Bool) (s : State) : Result :=
  match s.hall.writing with
  | none => .next s
  | some m =>
    if !coreWorks s || s.cellar.isolated then .next s
    else if !readBackOk then
      let s := { s with hall := { s.hall with writing := none } }
      .next (queueNack (raise s 0x0203 m.chan m.seq) m.chan m.seq 0x07)
    else
      let no := s.hall.nextNo
      let s := queueAck (commitEntry s m) m.chan m.seq false
      let s := if burstGranted s 3 then auditRecord s m.chan m.cmd m.seq m.role 1 0 no else refuseBurst s
      .next (if s.hall.powerFail then s else takeHeld s m.chan)

/-! ### Completion (R115, R124, R155) -/

/-- completed-through of a channel: one below the least sequence, above the old value, of a message on it accepted and
not completed; last accepted when there is none (R115). -/
def completedThrough (c : Channel) (rest : List Entry) : Word :=
  let open' := (rest.filter fun e => e.msg.chan == c.code && seqBelow c.completed e.msg.seq &&
    !seqBelow (lastAccepted c) e.msg.seq).map fun e => (e.msg.seq - c.completed).toNat
  match open'.min? with
  | some d => c.completed + BitVec.ofNat 32 d - 1
  | none => if seqBelow c.completed (lastAccepted c) then lastAccepted c else c.completed

/-- The completion record: the entry's space is freed, the summary takes state 3 and the result, and completed-through
advances (R115, R124, R128). -/
def writeCompletion (s : State) (d : Done) : State :=
  let rest := s.hall.entries.filter fun e => e.no != d.no
  let no := s.hall.nextNo
  { s with
    hall := { s.hall with
      entries := rest, nextNo := no + 1
      summaries := s.hall.summaries.map fun y =>
        if y.no == d.no && y.st != 3 then { y with st := 3, result := d.result, doneNo := no } else y
      channels := s.hall.channels.map fun c =>
        if c.code == d.chan then { c with completed := completedThrough c rest } else c }
    arch := { s.arch with closing := s.arch.closing.filter fun t => t.2 != d.no } }

/-- The fingerprint the colophon holds for a role's key: 0 when no key is held (R145, R381). -/
def printOf : Option Block → Long
  | some k => fingerprint k
  | none => 0

/-- A key put in force by its completion record with its fingerprint in the colophon: EVENT 0x0205, and a challenge that stands is
void (R145, R152, R160, R161). -/
def putKey (s : State) (role : Nat) (key : Option Block) : State :=
  let fp : Word := BitVec.ofNat 32 ((printOf key).toNat / 2 ^ 32)
  let s := { s with
    arch := { s.arch with keys := s.arch.keys.set role key, prints := s.arch.prints.set role (printOf key) }
    cellar := { s.cellar with challenge := if role == 0 then s.cellar.challenge else none } }
  raise s 0x0205 (pack [(role, 8), (bit key.isSome, 0)] |>.setWidth 16) fp

/-- A non-zero result raises EVENT 0x0210 + result (R124). -/
def raiseResult (s : State) (d : Done) : State :=
  if d.result == 0 then s else raise s (0x0210 + d.result.setWidth 16) d.chan d.seq

/-- The answering reports of a query, queued after its record (R125). -/
def queueAnswers (s : State) (as : List Answer) : State :=
  as.foldl (fun s a => queueReport s a.rtype a.payload) s

/-- A message's completion as a whole: record, key, audit entry, EVENT, answers (R124, R125, R152, R155, R158). -/
def complete (s : State) (d : Done) : State :=
  let no := s.hall.nextNo
  match s.hall.entries.find? fun e => e.no == d.no with
  | none => queueAnswers (raiseResult s d) d.answers
  | some e =>
    let s := writeCompletion s d
    let s := match d.key with
      | some (role, key) => putKey s role key
      | none => s
    let s := auditRecord s d.chan e.msg.cmd d.seq e.msg.role 2 d.result no
    queueAnswers (raiseResult s d) d.answers

/-- The Hall writes the completion record of the message reported done first (R124). -/
def execCompletionRecord (s : State) : Result :=
  match s.hall.done with
  | [] => .next s
  | d :: rest =>
    if hallDispatches s then .next (complete { s with hall := { s.hall with done := rest } } d)
    else .next s

/-! ### Replay (R132, R133, R158) -/

/-- A record that the audit log lacks: its number, and what its entry says (R158). -/
structure LostRecord where
  no : Nat
  chan : Half
  cmd : Half
  seq : Word
  role : BitVec 2
  outcome : BitVec 4
  result : BitVec 4
  deriving DecidableEq, Repr

def lostAcceptance (y : Summary) : LostRecord :=
  { no := y.no, chan := y.chan, cmd := y.cmd, seq := y.seq, role := y.role, outcome := 1, result := 0 }

def lostCompletion (y : Summary) : LostRecord :=
  { no := y.doneNo, chan := y.chan, cmd := y.cmd, seq := y.seq, role := y.role, outcome := 2, result := y.result }

/-- A lost record put in its place by number. -/
def insertLost (r : LostRecord) : List LostRecord → List LostRecord
  | [] => [r]
  | x :: xs => if r.no ≤ x.no then r :: x :: xs else x :: insertLost r xs

/-- The acceptances and completions numbered above audited-through that the summary ring still holds, in number order
(R158). -/
def lostRecords (h : Hall) : List LostRecord :=
  let acc := (h.summaries.filter fun y => h.auditedThrough < y.no).map lostAcceptance
  let don := (h.summaries.filter fun y => h.auditedThrough < y.doneNo).map lostCompletion
  (acc ++ don).foldl (fun l r => insertLost r l) []

/-- The missing audit entries written, with rebuilt = 1 at a replay (R158). -/
def writeLost (rebuilt : Bool) (s : State) : State :=
  let s' := (lostRecords s.hall).foldl
    (fun s r => auditWrite s r.chan r.cmd r.seq r.role r.outcome r.result rebuilt) s
  { s' with hall := { s'.hall with auditedThrough := s'.hall.nextNo - 1 } }

/-- The Archive takes bursts again in a node that runs on: the Hall writes the audit entries whose bursts a brown-out of VDD_AUX
refused (R155, R158, R406). -/
def catchUpAudit (s : State) : State :=
  if coreOn s && s.hall.ready && archiveOpen s && s.cellar.failAt.isNone then writeLost false s else s

/-- The transfer that is open: the commit whose copy runs holds its transfer open until the copy ends (R139). -/
def openTransfer (a : Archive) : Option Transfer :=
  match a.copying with
  | some (t, _) => some t
  | none => a.transfer

/-- The transfer that a replay finds: that of a commit which is dispatched again is open once more, since the shadow is unchanged
(R132). -/
def replayedTransfer (s : State) : Option Transfer :=
  match s.arch.closing with
  | some (t, no) => if s.hall.entries.any (·.no == no) then some t else openTransfer s.arch
  | none => openTransfer s.arch

/-- The journal replayed (R132): every entry not completed goes back to its channel's dispatch queue, the show restore
falls due, EVENT 0x0201 is raised, and the Hall is ready (log 10). After a power-fail detect it judges nothing all the same
(R386). -/
def replayJournal (s : State) : State :=
  let n := s.hall.entries.length
  let s := writeLost true s
  let s := { s with
    hall := { s.hall with
      ready := true, powerFail := s.cellar.failAt.isSome, writing := none, done := [], replayed := s.hall.replayed || decide (0 < n)
      entries := s.hall.entries.map fun e => { e with dispatched := false, finished := false } }
    arch := { s.arch with transfer := replayedTransfer s, copying := none, closing := none }
    start := { s.start with restoreDue := true, replayNo := s.hall.nextNo } }
  raise s 0x0201 (BitVec.ofNat 16 n) (nodeChannel s).completed

/-- Step 10's replay: an FZ5140-format leaf, which has no control work and no journal, has nothing to replay (R132, R434). -/
def replay (s : State) : State :=
  if fzLeaf s then
    { s with hall := { s.hall with ready := true, powerFail := s.cellar.failAt.isSome, writing := none, done := [] } }
  else replayJournal s

/-- The journal region lost: every channel fresh, membership cleared, archive_lost set, the show's values fresh (R133,
R256). -/
def loseJournal (s : State) : State :=
  { s with
    hall := { s.hall with
      channels := [Channel.fresh 0x0000, Channel.fresh 0x0200], entries := [], summaries := [], nextNo := 1
      overwritten := [], auditedThrough := 0, archiveLost := true }
    arch := { s.arch with
      standing := Standing.fresh, tolUs := 0, closing := none, transfer := s.arch.transfer.map fun t => { t with no := 0 } } }

end Sys2Proof.Machine
end

