-- ==== Sys2Proof/Machine/Commands.lean ====
section
/-! DEFINITION. The commands the Hall serves itself: channel state, group membership, the address pin, keys and the audit log (R136, R137, R140, R150 to R152, R159). -/

namespace Sys2Proof.Machine

open Sys2Proof

/-! ### STATE_QUERY (R140) -/

/-- Inserts a summary by its distance above the from-sequence. -/
def insertSummary (start : Word) (y : Summary) : List Summary → List Summary
  | [] => [y]
  | x :: xs => if (y.seq - start).toNat < (x.seq - start).toNat then y :: x :: xs else x :: insertSummary start y xs

/-- A channel's summaries from a sequence upward, in sequence order, at most 64 (R140). -/
def summariesFrom (s : State) (code : Half) (start : Word) : List Summary :=
  ((s.hall.summaries.filter fun y => y.chan == code && !seqBelow y.seq start).foldl
    (fun l y => insertSummary start y l) []).take 64

/-- The ring has overwritten the from-sequence of the channel and holds no later summary of it (R140). -/
def truncatedFrom (s : State) (code : Half) (start : Word) : Bool :=
  s.hall.overwritten.any (fun r => r.chan == code && decide ((start - r.first).toNat ≤ (r.last - r.first).toNat)) &&
    !s.hall.summaries.any (fun y => y.chan == code && y.seq == start)

/-- Entry k of a STATE report (R140). -/
def stateEntry (y : Summary) : List Word :=
  [y.seq, pack [(y.cmd.toNat, 16), (y.st.toNat, 12), (y.result.toNat, 8), (y.role.toNat, 6)], y.crc]

/-- The STATE payload (R140). -/
def statePayload (s : State) (code : Half) (start : Word) : List Byte :=
  let flags (trunc : Bool) := pack [(code.toNat, 16), (bit trunc, 3), (bit (openTransfer s.arch).isSome, 2),
    (bit s.hall.replayed, 1), (bit s.hall.archiveLost, 0)]
  match channel s code with
  | none =>
    wordsBytes [flags false, 0, 0, 0, pack [(pendingCues s, 8)], BitVec.ofNat 32 (journalFree s)]
  | some c =>
    let ahead := seqBelow (lastAccepted c) start
    let ys := if ahead then [] else summariesFrom s code start
    wordsBytes ([flags (!ahead && truncatedFrom s code start), c.expected, lastAccepted c, c.completed,
      pack [(undispatched s code, 24), (c.held.length, 16), (pendingCues s, 8), (ys.length, 0)],
      BitVec.ofNat 32 (journalFree s)] ++ ys.flatMap stateEntry)

/-- The snapshot of a channel, taken at dispatch; a channel that is not kept gives result 3 (R140). -/
def stateQuery (m : Msg) (s : State) : State :=
  let code := halfAt m.body 0
  let result : BitVec 4 := if (channel s code).isSome then 0 else 3
  answerWith s m result [{ rtype := 0x0020, payload := statePayload s code (wordAt m.body 4) }]

/-- STATE_QUERY (R140). -/
def execStateQuery (s : State) : Result := dispatch s 0x0001 stateQuery

/-! ### GROUP_SET (R136) -/

/-- A channel joined or rebased: its held messages are discarded, and its counters follow the base (R136). -/
def rebase (s : State) (code : Half) (base : Word) : State :=
  let s := discardHeld s code
  let c : Channel := { code := code, expected := base, completed := base - 1, held := [] }
  if (channel s code).isSome then setChannel s c
  else { s with hall := { s.hall with channels := s.hall.channels ++ [c] } }

/-- A group left: its held messages are discarded and its channel goes (R136). -/
def leaveGroup (s : State) (code : Half) : State :=
  let s := discardHeld s code
  { s with hall := { s.hall with channels := s.hall.channels.filter fun c => c.code != code } }

/-- One entry of a GROUP_SET, with whether it was applied (R136). -/
def applyGroupEntry (s : State) (e : Half × Nat × Word) : State × Bool :=
  match e.2.1 with
  | 0 => (leaveGroup s e.1, true)
  | 1 => (rebase s e.1 e.2.2, true)
  | _ => if (channel s e.1).isSome then (rebase s e.1 e.2.2, true) else (s, false)

/-- The entries applied in order, with whether all were applied (R136). -/
def applyGroupEntries : State → List (Half × Nat × Word) → State × Bool
  | s, [] => (s, true)
  | s, e :: es =>
    let r := applyGroupEntry s e
    let t := applyGroupEntries r.1 es
    (t.1, r.2 && t.2)

def groupSet (m : Msg) (s : State) : State :=
  let r := applyGroupEntries s (groupEntries ((wordAt m.body 0).toNat % 256) (m.body.drop 4))
  doneWith r.1 m (if r.2 then 0 else 3)

/-- GROUP_SET (R136). -/
def execGroupSet (s : State) : Result := dispatch s 0x0003 groupSet

/-! ### ADDRESS_PIN (R137) -/

/-- The op field of a command's first word, bits 31 to 28 (R137, R168). -/
def opField (m : Msg) : Nat := field (wordAt m.body 0) 31 28

/-- ADDRESS_PIN with op 1: the pin in the Archive, for the next ADDRESS_ASSIGN (R137). -/
def execAddressPin (s : State) : Result :=
  dispatchIf s 0x0004 (fun m => opField m == 1) fun m s =>
    doneWith { s with arch := { s.arch with pin := some (BitVec.ofNat 12 (field (wordAt m.body 0) 11 0)) } } m 0

/-- ADDRESS_PIN with op 0: the pin cleared (R137). -/
def execAddressPinClear (s : State) : Result :=
  dispatchIf s 0x0004 (fun m => opField m == 0) fun m s =>
    doneWith { s with arch := { s.arch with pin := none } } m 0

/-! ### KEY_ENROL (R150 to R153) -/

/-- KEY_ENROL's target and op (R150). -/
def keyTarget (m : Msg) : Nat := field (wordAt m.body 0) 31 30

def keyOp (m : Msg) : Nat := field (wordAt m.body 0) 29 28

/-- A KEY_ENROL done, whose completion record puts a key in force (R152). -/
def keyDone (s : State) (m : Msg) (key : Option Block) : State :=
  let s := doneWith s m 0
  { s with
    hall := { s.hall with
      done := s.hall.done.map fun d =>
        if d.no == m.no then { d with key := some (keyTarget m, key) } else d } }

/-- Another role holds a key in force with this fingerprint (R152). -/
def fingerprintTaken (s : State) (target : Nat) (fp : Long) : Bool :=
  [0, 1, 2].any fun r => r != target && (roleKey s r).isSome && s.arch.prints.getD r 0 == fp

/-- The enrolment at dispatch: unwrap under the signing role's key in force, integrity, then fingerprint (R152). -/
def keyEnrol (m : Msg) (s : State) : State :=
  match roleKey s m.role.toNat with
  | none => doneWith s m 7
  | some kek =>
    match keyUnwrap kek ((m.body.drop 4).take 24) with
    | none => doneWith s m 7
    | some key =>
      let fp := longAt m.body 28
      if fingerprint key != fp then doneWith s m 7
      else if fingerprintTaken s (keyTarget m) fp then doneWith s m 3
      else keyDone s m (some key)

/-- KEY_ENROL with op 1 (R152). -/
def execKeyEnrol (s : State) : Result := dispatchIf s 0x0050 (fun m => keyOp m == 1) keyEnrol

/-- KEY_ENROL with op 0: the operator or installer key revoked by its completion record (R151, R152). -/
def execKeyRevoke (s : State) : Result := dispatchIf s 0x0050 (fun m => keyOp m == 0) fun m s => keyDone s m none

/-! ### AUDIT_READ (R159) -/

/-- The payload of a QUERY report: item, status, argument, data (R141). -/
def queryPayload (item : Half) (status : Nat) (arg : Word) (data : List Word) : List Byte :=
  wordsBytes (pack [(item.toNat, 16), (status, 8)] :: arg :: data)

/-- The snapshot of the audit log from a serial, at most 42 entries (R159). Serials compare as sequences do in R140: the spec does
not say what a serial not yet written draws; one at most 2^31 - 1 ahead of the log gives no entry, and one farther ahead reads as
overwritten, so the list starts at the oldest (log 94, DESIGN CHOICE). -/
def auditSnapshot (s : State) (start : Word) : List Word :=
  let log := s.arch.audit
  let newest := s.arch.auditNext - 1
  let oldest := match log with
    | e :: _ => e.serial
    | [] => newest
  newest :: oldest :: ((log.filter fun e => !seqBelow e.serial start).take 42).flatMap auditWords

/-- AUDIT_READ (R159). -/
def execAuditRead (s : State) : Result :=
  dispatch s 0x0051 fun m s =>
    let start := wordAt m.body 0
    answerWith s m 0
      [{ rtype := 0x0021, payload := queryPayload 0x0202 0 start (auditSnapshot s start) }]

end Sys2Proof.Machine
end

