-- ==== Sys2Proof/WellFormed.lean ====
section
/-! DEFINITION. Which commands are well formed: the operands that the manual's ring, buses and pins can present. A command that is not well formed is one no pin, port or bus of the block can give it; its meaning is still total. -/

namespace Sys2Proof

/-- A folio's payload is no longer than its len field can say; a longer one than 1,024 bytes is a malformed folio, not an
ill-formed command (R83, R88). -/
def Folio.wf (f : Folio) : Bool := decide (f.payload.length ≤ 2047)

/-- A unit as a port can receive it. -/
def RxUnit.wf : RxUnit → Bool
  | .whole f => f.wf
  | .short | .cut | .errorEnded => true

/-- A classical frame carries at most 8 bytes of data, an FD frame at most 64 (R327). -/
def ServiceFrame.wf (f : ServiceFrame) : Bool := decide (f.data.length ≤ if f.fd then 64 else 8)

/-- The kinds that R333 reserves. -/
def reservedKind (k : BitVec 4) : Bool := k == 0 || k == 5 || k == 6 || k == 7 || k == 13 || k == 14 || k == 15

/-- An RDM request carries at most 231 bytes of parameter data. -/
def RdmRequest.wf (r : RdmRequest) : Bool := decide (r.data.length ≤ 231)

/-- A comparator reading names one of the 192 sinks (R307). -/
def Reading.wf (r : Reading) : Bool := decide (r.sink < 192)

/-- The operands of a command as the block can meet them. -/
def Instr.wf : Instr → Bool
  | .strapSample codes irefPa => codes.length == 12 && codes.all (·.length == 16) && irefPa.length == 4
  | .deskew _ d => decide (d.lane0Ps ≤ 40000)
  | .folioForward _ u _ => u.wf
  | .merge _ c => c.unit.wf && (match c.other with | some x => x.wf | none => true)
  | .addressAssign _ _ entries => decide (1 ≤ entries.length) && decide (entries.length ≤ 63)
  | .ringMap _ _ size inserted => decide (1 ≤ size) && decide (size ≤ 1024) && decide (inserted.length ≤ 1024)
  | .rowSlot r _ => r.opens.all (·.wf) && r.shorts.all (·.wf)
  | .larderEccError w _ => decide (1 ≤ w.region) && decide (w.region ≤ 12)
  | .watermarkReport q => q != 0
  | .tripInputAssert id _ _ => decide (id < 10)
  | .tripInputDeassert id => decide (id < 10)
  | .tripEpisodeEnd id => decide (id < 10)
  | .delayLineUnlock sink _ => decide (sink < 192)
  | .delayLineRelock sink => decide (sink < 192)
  | .archiveEccError w _ => decide (1 ≤ w.region) && decide (w.region ≤ 9) && decide (w.offset.toNat < 0x100000)
  | .readerFieldPresent pj => decide (pj ≤ 4320)
  | .inventory _ _ maskLen _ => decide (maskLen ≤ 64)
  | .readMultipleBlocks _ _ n => decide (1 ≤ n) && decide (n ≤ 256)
  | .writeSingleBlock _ _ _ data => data.length == 32
  | .dmxPacket _ _ _ slots _ => decide (slots.length ≤ 512)
  | .daliForwardFrame nbits _ => nbits == 16 || nbits == 24
  | .carryDown _ u _ => u.wf
  | .pixels _ _ data => decide (data.length ≤ 2048)
  | .vacancyFill _ f | .carryUp _ f _ => f.wf
  | .announce _ f | .psuFault f | .overtemp f | .fanFault f | .peerFault f | .temp f | .psuStatus f
  | .fanStatus f | .peerStatus f => f.wf
  | .reservedKindFrame f => f.frame.wf && (f.base || f.remote || reservedKind f.kind)
  | .unknownPid r _ | .discMute r | .discUnMute r | .supportedParameters r | .deviceInfo r | .deviceModelDescription r
  | .manufacturerLabel r | .deviceLabelGet r | .deviceLabelSet r | .softwareVersionLabel r | .dmxPersonalityGet r
  | .dmxPersonalitySet r | .dmxPersonalityDescription r | .dmxStartAddressGet r | .dmxStartAddressSet r | .deviceHours r
  | .identifyDeviceGet r | .identifyDeviceSet r => r.wf
  | .powerUp _ | .firstLight | .resetN | .vddIoBrownout | .powerFailDetect _ _ | .archiveIsolate | .supplyBrownout _ _
  | .supplyRestored _ | .portSignalDetect _ | .portAcquired _ | .fastAcquireFallback _ | .blockLock _ | .confirm _ _ _
  | .portLoss _ _ _ | .rateSuspectTimeout _ | .identSend _ | .identReceive _ _ | .leaveReceive _ | .fastAcquireEnd _
  | .mergeEntryExpire | .ctlJudge | .journalCommit _ | .completionRecord | .stateQuery | .query | .groupSet | .addressPin
  | .addressPinClear | .cue | .powerTolerance | .censusAt | .censusRead | .feedLossPolicy | .presentationDelay | .objBegin
  | .objData | .objCommit | .objCommitCopyEnd | .timingSet | .timingSetApply | .forceOutput | .forceOutputRelease
  | .forceSetApply | .forceLimitExpire | .tripClear | .tripClearRelease | .timeSourceRingMaster | .timeSourceSyncIn
  | .timeSourceFreeRun | .asymmetrySet | .keyEnrol | .keyRevoke | .auditRead | .busResume | .busResumeTimeout | .legacyHouse
  | .jtagEnable | .jtagDisable | .jtagEnableExpire | .extest | .samplePreload | .highz | .freeze | .bypass | .tapReset
  | .updateDr _ | .captureDr _ | .enumStart _ _ _ | .spliceWindow _ _ _ _ _ _ | .spliceWindowStart | .spliceReturn
  | .spliceWindowEnd | .bypassInsert | .bypassRelease | .bypSenseSample _ _ | .bypassRetry | .selfTest _ _ _ _ _
  | .selfTestRetry | .sync _ _ _ _ _ _ | .followUp _ _ _ | .delayResp _ _ _ _ _ | .delayReqSend _ | .masterLossTimeout
  | .syncInEdge _ | .mantelStep | .holdEnd | .rtcSet | .refreshSeam _ | .plateCutoff | .handleArrive | .renderPoint | .passEnd
  | .passAbandon | .workingCopyLoad | .workingCopyLoadEnd | .wearGainRecompute | .slateCacheFill _ | .feedLossExpiry
  | .feedLossHoldEnd | .reportSecondEnd | .eventReportForm | .censusLatch | .censusCopyDone | .censusAge | .pclkLoss
  | .pclkRestore | .collatorDetection | .defectReportSend | .collatorExclusionEnd | .wearPersist | .watchdogKick
  | .watchdogWarning | .watchdogExpiry | .tamperSample _ | .cellStateChange _ _ _ | .readerFieldLoss | .stayQuiet _ | .select _
  | .resetToReady _ | .readSingleBlock _ _ | .getSystemInformation _ | .challengeExpire | .stateEntry | .stateEntryDrop
  | .wakeAlarm | .sbRxWake | .s4ReturnAlarm | .wakeReady | .maintenanceWake | .dieTempMeasure _ | .correlationStrobe _
  | .busIntegrated | .porterStop | .serviceBusIdle | .serviceFrameSent | .serviceBusError _ _ _ _ _ | .busOffRecovery _
  | .peerStatusSend | .announceSend | .stationChoose | .dmxLoss | .discUniqueBranch _ _ | .identifyToggle | .legacyBlockWrite
  | .daliSystemFailure | .leafHopUp _ _ _ | .leafHopDown _ | .leafHello _ _ _ | .leafQueueSend | .time _ _ _ _ _
  | .leafTimeSend | .leafTimeTimeout | .pdelayReq _ _ _ | .pdelayReqSend | .pdelayResp _ _ _ | .latch _ _ _ | .gain _ _ _ _
  | .count _ | .statusReq _ | .ringPllLoss | .cellarResetHoldEnd | .daliBusReturn | .readerCommandNotSupported => true

end Sys2Proof
end

