-- ==== Sys2Proof/Machine/Backstair.lean ====
section
/-! DEFINITION. The Backstair: participation, received frames, station choice, transmit buffers and error confinement (R327 to R350). -/

namespace Sys2Proof.Machine

open Sys2Proof

def countBack (s : State) (i : Nat) : State := { s with back := { s.back with counts := bump s.back.counts i } }

/-- SVC is on and the straps are read, so the Backstair leaves OFF (R331, R396, R398). -/
def svcOn (s : State) : Bool := s.straps.svcOn && running s && s.power.st != .s4

/-! ### Bit timing (R40, R329) -/

/-- The arbitration and data rates in kb/s by CFG_SVC level[2:0] (R40). -/
def busRates : Nat → Nat × Nat
  | 0 => (1000, 5000)
  | 1 => (1000, 4000)
  | 2 => (1000, 2000)
  | 3 => (500, 5000)
  | 4 => (500, 2000)
  | 5 => (500, 1000)
  | 6 => (250, 1000)
  | _ => (500, 500)

/-- The segments of a bit in quanta of 12.5 ns: up to the sample point, seg2, and the jump width (R329). -/
structure BitTiming where
  toSample : Nat
  seg2 : Nat
  sjw : Nat
  deriving DecidableEq, Repr

/-- The arbitration phase at a rate in kb/s: 80 % (R329). -/
def arbTiming (kbps : Nat) : BitTiming := { toSample := 64000 / kbps, seg2 := 16000 / kbps, sjw := 16000 / kbps }

/-- The data phase at a rate in kb/s: 75 % (R329). -/
def dataTiming (kbps : Nat) : BitTiming := { toSample := 60000 / kbps, seg2 := 20000 / kbps, sjw := 20000 / kbps }

/-- Transmitter delay compensation: above 1 Mb/s (R327, R329). -/
def delayCompensated (kbps : Nat) : Bool := decide (1000 < kbps)

/-- One bit of the arbitration phase in ns (R329). -/
def arbBitNs (s : State) : Nat := 1000000 / (busRates (strapField s 8 2 0)).1

/-- The node sends FD frames with BRS, but classical ones at level 111 (R327, R328). -/
def sendsFd (s : State) : Bool := !classicalOnly s

/-! ### Participation (R331) -/

/-- Porter runs: the Backstair integrates, a frame that Porter's stop had left to finish given up for its buffer (R331). -/
def porterStart (s : State) : State :=
  if s.back.pstate == .silent || s.back.pstate == .off || s.back.finishing then
    { s with back := { s.back with pstate := .integrating, finishing := false, offered := none, cancelled := false } }
  else s

/-- Porter stops: SILENT once the frame it is sending has ended (R331, R350). -/
def porterStop (s : State) : State :=
  match s.back.pstate, s.back.offered with
  | .active, some _ => { s with back := { s.back with finishing := true } }
  | .active, none | .integrating, _ => { s with back := { s.back with pstate := .silent } }
  | _, _ => s

/-- PORTER_STOP (R331). -/
def execPorterStop (s : State) : Result := .next (porterStop s)

/-- 11 recessive bits seen: ACTIVE; the first ANNOUNCE is due 100 ms after the first entry (R331, R336). -/
def execBusIntegrated (s : State) : Result :=
  if s.back.pstate == .integrating then
    let first := s.back.firstActive.isNone
    .next { s with
      back := { s.back with
        pstate := .active
        excepted := false
        firstActive := some (s.back.firstActive.getD s.now)
        announceDue := if first then some (s.now + 100 * msNs) else s.back.announceDue } }
  else .next s

/-! ### Error confinement (R344, R346) -/

def confineCode : Confine → Nat
  | .active => 0
  | .passive => 1
  | .busOff => 2

def classOf (s : State) (chatter : Bool) : ClassS := if chatter then s.back.chatter else s.back.alarm

def setClass (s : State) (chatter : Bool) (c : ClassS) : State :=
  if chatter then { s with back := { s.back with chatter := c } } else { s with back := { s.back with alarm := c } }

/-- The state that a class's counters give (R344). -/
def confined (c : ClassS) : Confine :=
  match c.st with
  | .active => if 128 ≤ c.txc ∨ 128 ≤ c.rxc then .passive else .active
  | .passive => if 255 < c.txc then .busOff else if c.txc < 128 ∧ c.rxc < 128 then .active else .passive
  | .busOff => .busOff

/-- A class with new counters, and EVENT 0x0902 when its state changes (R344, R347). -/
def putClass (s : State) (chatter : Bool) (c : ClassS) : State :=
  let st := confined c
  let s' := setClass s chatter { c with st := st }
  if st == c.st then s'
  else
    let s' := if st == .busOff then countBack s' (if chatter then 19 else 18) else s'
    raise s' 0x0902 (pack [(bit chatter, 8), (confineCode st, 0)] |>.setWidth 16) (pack [(sat 16 c.txc, 16), (sat 16 c.rxc, 0)])

/-- The node acknowledges unless both classes are BUS_OFF (R344). -/
def acknowledges (s : State) : Bool :=
  s.back.pstate == .active && !(s.back.alarm.st == .busOff && s.back.chatter.st == .busOff)

/-- Lone-node status left: EVENT 0x0903 with arg0 0 (R346). -/
def leaveLone (s : State) : State :=
  let n := s.back.ackRun
  let s' := { s with back := { s.back with ackRun := 0, lone := false } }
  if s.back.lone then raise s' 0x0903 0 (BitVec.ofNat 32 n) else s'

/-- A receive counter after a good frame of its class: one less, or a value of 119 to 127 from above 127, which ISO 11898-1
leaves open (R344; log 3). -/
def creditReceive (s : State) (chatter : Bool) : State :=
  let c := classOf s chatter
  if c.st == .busOff then s
  else if 127 < c.rxc then
    let (u, s) := freeBelow s 8
    putClass s chatter { c with rxc := 119 + u }
  else putClass s chatter { c with rxc := c.rxc - 1 }

/-! ### Stamps (R339, R340) -/

/-- A start-of-frame stamp as Mantel time in ns, with the newest pair whose count is at or before it; with no pair, the time
now; with one pair alone, the nominal 80,000 counts a ms (R339, R340). -/
def stampTime (s : State) (c : Word) : Nat :=
  match s.back.pairs with
  | [] => mNs s
  | [(ck, m)] => m + rdivN ((c - ck).toNat * 1000000) 80000
  | (c0, m0) :: (c1, m1) :: rest =>
    let d0 := (c - c0).toNat
    let r0 := (c0 - c1).toNat
    if d0 < 2 ^ 31 then m0 + rdivN (d0 * 1000000) r0
    else
      let r1 := match rest with
        | (c2, _) :: _ => (c1 - c2).toNat
        | [] => 80000
      m1 + rdivN ((c - c1).toNat * 1000000) r1

/-- The free-running counter: 80 counts a us of the node's REFCLK, from which the service clock comes, since it read `counter`
(R22, R339; log 35). -/
def counterNow (s : State) : Word := s.back.counter + BitVec.ofNat 32 ((s.now - s.back.countedAt) * 2 / 25)

/-- A start-of-frame stamp: the counter on the cycle that saw the edge, f.stamp counts before the frame's end, less the two cycles
of the synchroniser (R339). -/
def sofStamp (s : State) (f : ServiceFrame) : Word := counterNow s - f.stamp - 2

/-- A correlation pair: the counter on the strobe's arrival, `crossing` counts after the strobe, less its three counts of crossing;
strobes come at whole ms of Mantel time (R339). -/
def execCorrelationStrobe (crossing : Word) (s : State) : Result :=
  if coreOn s && svcOn s then
    let t := mNs s
    let s := if t % msNs = 0 then s else advanceToMantel s ((t / msNs + 1) * msNs)
    .next { s with
      back := { s.back with pairs := ((counterNow s + crossing - 3, mNs s / msNs * msNs) :: s.back.pairs).take 3 } }
  else .next s

/-! ### Transmit buffers (R335, R341 to R343) -/

/-- A service identifier (R332). -/
def serviceId (cls kind src dest item : Nat) : BitVec 29 :=
  BitVec.ofNat 29 (cls * 2 ^ 28 + kind * 2 ^ 24 + src * 2 ^ 16 + dest * 2 ^ 8 + item)

/-- Alarms pending, the one in buffer 0 included (R341, R348). -/
def alarmsPending (s : State) : Nat := s.back.alarms.length + bit s.back.buf0.isSome

/-- The next alarm loaded into buffer 0 (R341). -/
def loadAlarm (s : State) : State :=
  match s.back.buf0, s.back.alarms with
  | none, f :: r => { s with back := { s.back with buf0 := some f, alarms := r } }
  | _, _ => s

/-- PEER_FAULT queued with its cause and input id, once the node holds a station; a ninth is dropped (R333, R335, R341). -/
def queueAlarm (s : State) (cause input : Nat) : State :=
  if s.back.station == 0 || !svcOn s then s
  else if 8 ≤ alarmsPending s then raise (countBack s 17) 0x0907 (BitVec.ofNat 16 cause) (BitVec.ofNat 32 input)
  else
    let f : TxFrame :=
      { id := serviceId 0 4 s.back.station.toNat 0xFF 0, data := [BitVec.ofNat 8 cause, BitVec.ofNat 8 input] }
    loadAlarm { s with back := { s.back with alarms := s.back.alarms ++ [f] } }

/-- A newer frame for buffer 1 or 2 cancels the pending one. Whether a frame on the bus had won arbitration by then shows in what
comes next: it is sent despite the cancel, or the bus is idle again and the cancel was honoured (R341, R343). -/
def replaceBuffer (s : State) (i : Nat) (f : TxFrame) : State :=
  let pending := if i = 1 then s.back.buf1.isSome else s.back.buf2.isSome
  let onBus := match s.back.offered with | some (j, _) => j == i | none => false
  let s := if onBus then { s with back := { s.back with cancelled := true } }
    else if pending then countBack s 5 else s
  if i = 1 then { s with back := { s.back with buf1 := some f } } else { s with back := { s.back with buf2 := some f } }

def bufferAt (s : State) : Nat → Option TxFrame
  | 0 => s.back.buf0
  | 1 => s.back.buf1
  | _ => s.back.buf2

/-- Buffer i may be offered: it holds a frame whose class is not BUS_OFF, and with no station only ANNOUNCE leaves (R335, R342,
R344). -/
def offerable (s : State) (i : Nat) : Option (Nat × TxFrame) :=
  match bufferAt s i with
  | none => none
  | some f =>
    if (classOf s (f.id.getLsbD 28)).st == .busOff || (s.back.station == 0 && i != 2) then none else some (i, f)

/-- The buffer offered at bus idle: the lowest identifier, or the lowest number (R342). -/
def offerChoice (s : State) : Option (Nat × TxFrame) :=
  let all := [0, 1, 2].filterMap (offerable s)
  if byBuffer s then all.head?
  else all.foldl (fun (a : Option (Nat × TxFrame)) x =>
    match a with
    | some y => if x.2.id < y.2.id then some x else a
    | none => some x) none

/-- A frame offered before and not sent lost arbitration, or its cancel stopped it (R342, R343; log 102, DESIGN CHOICE). -/
def endOffer (s : State) : State :=
  let s := if s.back.offered.isNone then s else if s.back.cancelled then countBack s 5 else countBack s 4
  { s with back := { s.back with offered := none, cancelled := false, excepted := false } }

/-- A PASSIVE class that transmitted last suspends transmission for 8 bits after the bus is idle (R344). -/
def waitSuspend (s : State) : State :=
  if s.back.suspend then
    let s := advanceTo s (s.now + 8 * arbBitNs s)
    { s with back := { s.back with suspend := false } }
  else s

/-- Bus idle: the offer before has ended, and one pending buffer is offered (R342); once Porter has stopped, none is and the Backstair
goes SILENT (R331). -/
def execServiceBusIdle (s : State) : Result :=
  if s.back.pstate == .active then
    let s := endOffer s
    if s.back.finishing then .next { s with back := { s.back with pstate := .silent, finishing := false } }
    else
      let s := waitSuspend s
      .next { s with back := { s.back with offered := offerChoice s } }
  else .next s

/-- Buffer i after its frame was sent: empty, unless a replacement waits in it. -/
def clearBuffer (s : State) (i : Nat) : State :=
  if s.back.cancelled then s
  else match i with
    | 0 => { s with back := { s.back with buf0 := none } }
    | 1 => { s with back := { s.back with buf1 := none } }
    | _ => { s with back := { s.back with buf2 := none } }

/-- The frame on the bus has been sent and acknowledged: counters, the despite-cancel count, the next alarm, and SILENT when
Porter has stopped (R331, R341, R343, R344, R346). -/
def frameSent (s : State) (i : Nat) (f : TxFrame) : State :=
  let chatter := f.id.getLsbD 28
  let c := classOf s chatter
  let s := countBack (send s (.service f.id f.data (sendsFd s))) 3
  let s := { s with back := { s.back with suspend := c.st == .passive } }
  let s := putClass s chatter { c with txc := c.txc - 1 }
  let s := leaveLone s
  let s := if s.back.cancelled then
      countBack { s with
        back := { s.back with secDespite := s.back.secDespite + 1, despiteMask := s.back.despiteMask ||| 2 ^ i } } 6
    else s
  let s := if i = 2 then { s with back := { s.back with announceFails := 0 } } else s
  let s := loadAlarm (clearBuffer s i)
  let s := { s with back := { s.back with offered := none, cancelled := false } }
  if s.back.finishing then { s with back := { s.back with pstate := .silent, finishing := false } } else s

/-- SERVICE_FRAME_SENT. -/
def execServiceFrameSent (s : State) : Result :=
  match s.back.offered with
  | none => .next s
  | some (i, f) => if s.back.pstate == .active && !s.back.excepted then .next (frameSent s i f) else .next s

/-- PEER_STATUS data (R333); u fills its reserved bits. -/
def restAndFeed (s : State) : Byte :=
  let f := match s.larder.fstate with
    | .await => 0
    | .live => 1
    | .lost => 2
  BitVec.ofNat 8 (restCode s.power.st * 16 + f)

/-- Inputs in force, bit n for input n (R304 word 0). -/
def inForceMask (s : State) : Nat :=
  ((List.range 10).map fun i => bit (s.prot.inputs.getD i TripInput.clear).inForce * 2 ^ i).sum

def peerStatusData (s : State) : List Byte :=
  halfBytes (BitVec.ofInt 16 s.back.dieTemp) ++ [restAndFeed s] ++ halfBytes (BitVec.ofNat 16 (inForceMask s * 64)) ++
    halfBytes (BitVec.ofNat 16 (s.addr.addr.toNat * 16)) ++ [0]

/-- PEER_STATUS queued every 250 ms, once the node holds a station (R335). -/
def execPeerStatusSend (s : State) : Result :=
  if s.back.pstate == .active && s.back.station != 0 then
    let s := advanceTo s s.back.statusDue
    let f : TxFrame := { id := serviceId 1 0xC s.back.station.toNat 0xFF 0, data := peerStatusData s }
    .next (replaceBuffer { s with back := { s.back with statusDue := s.now + 250 * msNs } } 1 f)
  else .next s

/-- ANNOUNCE queued 100 ms after first ACTIVE and then every 1 s (R336). -/
def execAnnounceSend (s : State) : Result :=
  match s.back.announceDue with
  | none => .next s
  | some t =>
    if s.back.pstate == .active && !s.back.announceStopped then
      let s := advanceTo s t
      let f : TxFrame :=
        { id := BitVec.ofNat 29 (0x18000000 + Config.serialFuses.toNat % 2 ^ 24), data := longBytes Config.serialFuses }
      .next (replaceBuffer { s with back := { s.back with announceDue := some (s.now + second) } } 2 f)
    else .next s

/-! ### Station choice (R336) -/

/-- The peer table without the serials unheard for 5 s; its own stays. A frame on the last cycle counts first (R28, R336). -/
def livePeers (s : State) : List Peer := s.back.peers.filter fun p => decide (s.now ≤ p.heard + 5 * second)

/-- The peer table pruned; its change dates from the end of the last 5 s that ran out (R336). -/
def prunePeers (s : State) : State :=
  let ps := livePeers s
  let gone := s.back.peers.filter fun p => decide (p.heard + 5 * second < s.now)
  if gone.isEmpty then s
  else { s with
    back := { s.back with peers := ps, peersSince := gone.foldl (fun t p => max t (p.heard + 5 * second)) s.back.peersSince } }

/-- The serials ranked: those heard and the node's own (R336). -/
def rankedSerials (s : State) : List Long :=
  let heard := (livePeers s).map (·.serial)
  if heard.contains Config.serialFuses then heard else Config.serialFuses :: heard

/-- The station of the node's rank, or none (R336). -/
def stationOf (s : State) : Byte :=
  let k := ((rankedSerials s).filter fun x => x < Config.serialFuses).length
  if s.back.announceStopped || decide (8 ≤ k) then 0 else BitVec.ofNat 8 (0x10 + k)

/-- A frame with another station as its source (R332). -/
def fromStation (n : Byte) (f : TxFrame) : TxFrame :=
  { f with id := (f.id &&& ~~~(0xFF#29 <<< 16)) ||| (n.setWidth 29 <<< 16) }

/-- Alarms that wait, buffer 0 among them unless it is on the bus, are sent from the station then held (R332, R335). -/
def restationAlarms (s : State) (n : Byte) : State :=
  let onBus := match s.back.offered with | some (i, _) => i == 0 | none => false
  { s with
    back := { s.back with
      alarms := s.back.alarms.map (fromStation n)
      buf0 := if onBus then s.back.buf0 else s.back.buf0.map (fromStation n) } }

/-- A station taken: EVENT 0x0904 when it changes, and a pending PEER_STATUS takes the new source (R336, R350). -/
def takeStation (s : State) (n : Byte) : State :=
  if s.back.station == n then s
  else
    let was := s.back.buf1
    let s := { s with
      back := { s.back with
        station := n, statusDue := if s.back.station == 0 then s.now else s.back.statusDue } }
    let s := match was with
      | some f =>
        if n == 0 then { s with back := { s.back with buf1 := none } }
        else replaceBuffer s 1 { f with id := serviceId 1 0xC n.toNat 0xFF 0 }
      | none => s
    let s := if n == 0 then s else restationAlarms s n
    raise s 0x0904 (n.setWidth 16) (BitVec.ofNat 32 (rankedSerials s).length)

/-- STATION_CHOOSE: the table, kept in INTEGRATING and ACTIVE, has stood unchanged for 3 s (R336). -/
def execStationChoose (s : State) : Result :=
  if s.back.pstate == .active || s.back.pstate == .integrating then
    let s := prunePeers (advanceTo s (s.back.peersSince + 3 * second))
    if s.now < s.back.peersSince + 3 * second then .next s else .next (takeStation s (stationOf s))
  else .next s

/-! ### Reception (R333, R337, R338) -/

/-- A protocol exception: counted, no error flag, and the controller waits for bus idle (R327, R328). -/
def protocolException (s : State) : State :=
  let s := countBack s 12
  { s with back := { s.back with excepted := true } }

/-- A valid frame received while ACTIVE: counted, acknowledged, and it ends lone-node status and a suspended transmission (R331,
R344, R346, R349). -/
def received (s : State) (chatter : Bool) : State :=
  let s := leaveLone (countBack s 0)
  let s := if acknowledges s then send s .serviceAck else s
  creditReceive { s with back := { s.back with suspend := false } } chatter

/-- The identifier of a received frame of a kind (R332); ANNOUNCE has serial bits in place of the station fields (R336). -/
def receivedId (f : ServiceFrame) (kind : BitVec 4) : BitVec 29 :=
  serviceId (bit f.chatter) kind.toNat f.src.toNat f.dest.toNat f.item.toNat

def kindOf (id : BitVec 29) : Nat := (id >>> 24 &&& 0xF#29).toNat

def srcOf (id : BitVec 29) : Byte := (id >>> 16).setWidth 8

def destOf (id : BitVec 29) : Byte := (id >>> 8).setWidth 8

def itemOf (id : BitVec 29) : Byte := id.setWidth 8

/-- Acceptance filter n of 0 to 7 on an extended identifier (R337). -/
def filterMatches (s : State) (id : BitVec 29) (n : Nat) : Bool :=
  let alarm := !id.getLsbD 28
  let kind := kindOf id
  match n with
  | 0 => alarm && s.back.station != 0 && destOf id == s.back.station
  | 1 => alarm && destOf id == 0xFF
  | 2 => !alarm && kind == 9
  | 3 => !alarm && kind == 10
  | 4 => !alarm && kind == 11
  | 5 => !alarm && kind == 12 && !(s.back.station != 0 && srcOf id == s.back.station)
  | 6 => !alarm && kind == 8
  | 7 => reservedKind (BitVec.ofNat 4 kind)
  | _ => match s.back.patterns.getD (n - 8) none with
    | some p => id &&& p.1 == p.2 &&& p.1
    | none => false

/-- The lowest-numbered filter that matches an extended identifier (R337). -/
def filterOf (s : State) (id : BitVec 29) : Option Nat := (List.range 32).find? (filterMatches s id)

/-- The class and the least data length of a kind; a reserved kind has neither (R333). -/
def kindForm : Nat → Option (Bool × Nat)
  | 1 | 2 | 4 => some (false, 2)
  | 3 => some (false, 1)
  | 8 | 10 | 12 => some (true, 8)
  | 9 => some (true, 2)
  | 11 => some (true, 4)
  | _ => none

/-- EVENT 0x0901 of an ALARM frame at its stamp; a dropped one has no data, and a reserved kind is ignored (R333, R338, R347). -/
def reportAlarm (s : State) (x : StoredFrame) (dropped : Bool) : State :=
  if (kindForm (kindOf x.id)).isNone then s
  else raiseAt s (stampTime s x.stamp) 0x0901
    (pack [((srcOf x.id).toNat, 8), (kindOf x.id, 4), (bit dropped, 3)] |>.setWidth 16)
    (pack [((itemOf x.id).toNat, 24), (if dropped then 0 else beNat ((x.data ++ [0, 0, 0]).take 3), 0)])

/-- A frame whose class and kind do not match the table, or whose data is too short (R333). -/
def malformedFrame (x : StoredFrame) : Bool :=
  match kindForm (kindOf x.id) with
  | some (chatter, len) => x.id.getLsbD 28 != chatter || decide (x.data.length < len)
  | none => false

/-- A kept frame in its place, by index and source. -/
def keepFrame (ks : List Kept) (k : Kept) : List Kept :=
  match ks with
  | [] => [k]
  | x :: xs =>
    if x.index = k.index ∧ x.src = k.src then k :: xs
    else if k.index < x.index ∨ (k.index = x.index ∧ k.src < x.src) then k :: x :: xs
    else x :: keepFrame xs k

/-- A frame as it is kept; a sensor's last valid reading and stamp stay through a failed one (R333, R334). -/
def keptOf (s : State) (x : StoredFrame) (index : Nat) (valid : Bool) : Kept :=
  let before := (s.back.sensors.find? fun k => k.index == index).bind (·.good)
  { index := index, src := srcOf x.id, data := x.data.take 8, time := s.now, stamp := x.stamp, valid := valid
    good := if kindOf x.id != 9 then none else if valid then some (halfAt x.data 0, x.stamp) else before }

/-- TEMP: the last frame of sensors 0 to 63; 0x8000 marks a failed sensor (R333, R334). -/
def takeTemp (s : State) (x : StoredFrame) : State :=
  let bad := halfAt x.data 0 == 0x8000
  let s := if bad then countBack s 21 else s
  let i := (itemOf x.id).toNat
  if 64 ≤ i then s
  else
    let others := s.back.sensors.filter fun k => k.index != i
    { s with back := { s.back with sensors := keepFrame others (keptOf s x i (!bad)) } }

/-- A serial heard; a new one changes the table, which holds 16 with the node's own (R336). -/
def hearPeer (s : State) (serial : Long) : State :=
  let s := prunePeers s
  let known := s.back.peers.any fun p => p.serial == serial
  if known then
    { s with
      back := { s.back with peers := s.back.peers.map fun p => if p.serial == serial then { p with heard := s.now } else p } }
  else if 15 ≤ s.back.peers.length || serial == Config.serialFuses then s
  else { s with
    back := { s.back with peers := s.back.peers ++ [{ serial := serial, heard := s.now }], peersSince := s.now } }

/-- What Porter does with a frame it takes from a queue: nothing with a malformed one, which is counted (R333). A peer's index is its
station less 0x10. -/
def porterTake (s : State) (x : StoredFrame) : State :=
  if malformedFrame x then countBack s 13
  else if !x.id.getLsbD 28 then reportAlarm s x false
  else
    match kindOf x.id with
    | 9 => takeTemp s x
    | 10 => { s with back := { s.back with supplies := keepFrame s.back.supplies (keptOf s x (itemOf x.id).toNat true) } }
    | 11 => { s with back := { s.back with fans := keepFrame s.back.fans (keptOf s x (itemOf x.id).toNat true) } }
    | 12 =>
      { s with
        back := { s.back with peerStatus := keepFrame s.back.peerStatus (keptOf s x ((srcOf x.id).toNat - 0x10) true) } }
    | 8 => hearPeer s (longAt x.data 0)
    | _ => s

/-- Porter pops the head of the priority buffer. -/
def popPriority (s : State) : State :=
  match s.back.priority with
  | [] => s
  | x :: r => porterTake { s with back := { s.back with priority := r } } x

/-- Porter pops the head of the receive FIFO. -/
def popFifo (s : State) : State :=
  match s.back.fifo with
  | [] => s
  | x :: r => porterTake { s with back := { s.back with fifo := r } } x

/-- Porter pops a queue that a push finds full on that very cycle, or not: which, the manual leaves open (R206, R338; log 35). -/
def popsNow (s : State) (full : Bool) : Bool × State :=
  if full then
    let (u, s) := freeBelow s 1
    (u == 1, s)
  else (false, s)

/-- A frame pushed into the priority buffer of 4 places: after Porter's pop where both meet at a full buffer (R206, R350), or, with
no pop, dropped, counted and reported as dropped (R338). -/
def pushPriority (s : State) (x : StoredFrame) : State :=
  let (pop, s) := popsNow s (decide (4 ≤ s.back.priority.length))
  let s := if pop then popPriority s else s
  if 4 ≤ s.back.priority.length then reportAlarm (countBack s 15) x true
  else { s with back := { s.back with priority := s.back.priority ++ [x] } }

/-- A frame pushed into the receive FIFO of 32 places: after Porter's pop where both meet at a full FIFO (R206), or, with no pop,
dropped and counted (R338). -/
def pushFifo (s : State) (x : StoredFrame) : State :=
  let (pop, s) := popsNow s (decide (32 ≤ s.back.fifo.length))
  let s := if pop then popFifo s else s
  if 32 ≤ s.back.fifo.length then countBack s 16 else { s with back := { s.back with fifo := s.back.fifo ++ [x] } }

/-- Porter takes what waits, the priority buffer first: before the next frame can end, within its 20 us (R338; log 35). -/
def porterServe (s : State) : State :=
  let s := s.back.priority.foldl porterTake { s with back := { s.back with priority := [] } }
  s.back.fifo.foldl porterTake { s with back := { s.back with fifo := [] } }

/-- Where the filter that a frame matches sends it (R337, R349): a frame that matches none, or only a pattern of the patch, is not
stored, but a malformed one is counted wherever it goes. -/
def storeFrame (s : State) (x : StoredFrame) : State :=
  match filterOf s x.id with
  | some 0 | some 1 => pushPriority (countBack s 1) x
  | some 2 | some 3 | some 4 | some 5 | some 6 => pushFifo (countBack s 1) x
  | some 7 => countBack s 14
  | _ => if malformedFrame x then countBack s 13 else s

/-- A frame of a kind with its end on the bus: an FD frame at CFG_SVC level 111 is a protocol exception (R328); another is received,
acknowledged and filtered, and Porter takes what it left in a queue (R333, R337, R338). -/
def receiveFrame (s : State) (kind : BitVec 4) (f : ServiceFrame) : Result :=
  if s.back.pstate != .active || s.back.excepted then .next s
  else if classicalOnly s && f.fd then .next (protocolException s)
  else
    let s := received s f.chatter
    let s := if f.chatter then s else countBack s 2
    .next (porterServe (storeFrame s { id := receivedId f kind, data := f.data, stamp := sofStamp s f }))

/-- PSU_FAULT (R333). -/
def execPsuFault (f : ServiceFrame) (s : State) : Result := receiveFrame s 1 f

/-- OVERTEMP (R333). -/
def execOvertemp (f : ServiceFrame) (s : State) : Result := receiveFrame s 2 f

/-- FAN_FAULT (R333). -/
def execFanFault (f : ServiceFrame) (s : State) : Result := receiveFrame s 3 f

/-- PEER_FAULT from another FZ7216 (R333). -/
def execPeerFault (f : ServiceFrame) (s : State) : Result := receiveFrame s 4 f

/-- TEMP (R333, R334). -/
def execTemp (f : ServiceFrame) (s : State) : Result := receiveFrame s 9 f

/-- PSU_STATUS (R333). -/
def execPsuStatus (f : ServiceFrame) (s : State) : Result := receiveFrame s 10 f

/-- FAN_STATUS (R333). -/
def execFanStatus (f : ServiceFrame) (s : State) : Result := receiveFrame s 11 f

/-- PEER_STATUS, kept of any source but the node's own station (R333, R337). -/
def execPeerStatus (f : ServiceFrame) (s : State) : Result := receiveFrame s 12 f

/-- ANNOUNCE, whose identifier holds serial bits in place of the station fields (R332, R336). -/
def execAnnounce (idLow : BitVec 24) (f : ServiceFrame) (s : State) : Result :=
  receiveFrame s 8 { f with src := (idLow >>> 16).setWidth 8, dest := (idLow >>> 8).setWidth 8, item := idLow.setWidth 8 }

/-- A base identifier, a reserved kind or a remote frame: each acknowledged; a remote frame is then ignored, a base identifier counted
by filter 7 and discarded, and an extended frame of a reserved kind goes by the filters and is ignored by Porter (R327, R333, R337,
R338, R349; log 101, DEDUCED). -/
def execReservedKindFrame (f : OddFrame) (s : State) : Result :=
  if f.remote || f.base then
    if s.back.pstate != .active || s.back.excepted then .next s
    else if classicalOnly s && f.frame.fd then .next (protocolException s)
    else
      let s := received s f.frame.chatter
      .next (if f.remote then s else countBack s 14)
  else receiveFrame s f.kind f.frame

/-! ### Errors (R344, R346) -/

def errorCount : BusErrorKind → Nat
  | .ack => 7
  | .bit => 8
  | .stuff => 9
  | .form => 10
  | .crc => 11
  | .protocolException => 12

/-- What an error adds to a counter by ISO 11898-1 (R344): a sender's transmit counter 8, but nothing for an acknowledgement error
while error-passive with no dominant bit in its flag, nor for a stuff error in arbitration at a stuff bit sent recessive; a receiver's
receive counter 1; 8 more for a dominant bit right after a receiver's flag or a bit error in the flag; and 8 more, sender and
receiver alike, for each 8 dominant bits in a row behind a flag (an active flag's own six make the eighth the 14th). A bit error in
an overload flag is 8 to either. -/
def errorCharge (kind : BusErrorKind) (after : AfterFlag) (transmitting passive : Bool) : Nat :=
  let spared := (kind == .ack && passive && after == .nothing) || (kind == .stuff && after == .arbitrationStuff)
  match after with
  | .inOverload => 8
  | .overloadRun n => n / 8 * 8
  | .dominantRun n => (if transmitting then 8 else if n = 0 then 1 else 9) + n / 8 * 8
  | .flagError => if transmitting then 16 else 9
  | .dominant => if transmitting then 8 else 9
  | _ => if !transmitting then 1 else if spared then 0 else 8

/-- One increment of a counter of a class, none in BUS_OFF (R344). -/
def increment (transmitting chatter : Bool) (s : State) (n : Nat) : State :=
  let c := classOf s chatter
  if c.st == .busOff then s
  else if transmitting then putClass s chatter { c with txc := c.txc + n }
  else putClass s chatter { c with rxc := c.rxc + n }

/-- The increments that make up a charge: a receiver's 1 first, then 8 at a time (R344). -/
def increments (n : Nat) : List Nat := (if n % 8 = 0 then [] else [n % 8]) ++ List.replicate (n / 8) 8

/-- An error charged to one class, whose state follows each increment (R344). -/
def charge (s : State) (kind : BusErrorKind) (after : AfterFlag) (transmitting chatter : Bool) : State :=
  (increments (errorCharge kind after transmitting ((classOf s chatter).st == .passive))).foldl (increment transmitting chatter) s

/-- The worse of two confinement states (R344). -/
def worse : Confine → Confine → Confine
  | .busOff, _ | _, .busOff => .busOff
  | .passive, _ | _, .passive => .passive
  | .active, .active => .active

/-- The error flag that the class of the frame has the node send, before the class bit the worse of the two classes; none in BUS_OFF
(R344). -/
def sendFlag (s : State) (beforeClass chatter : Bool) : State :=
  match if beforeClass then worse s.back.alarm.st s.back.chatter.st else (classOf s chatter).st with
  | .active => send s (.errorFlag false)
  | .passive => send s (.errorFlag true)
  | .busOff => s

/-- The 16th consecutive acknowledgement failure: lone-node status (R346). -/
def ackFailure (s : State) : State :=
  let n := s.back.ackRun + 1
  let s := { s with back := { s.back with ackRun := n } }
  if 16 ≤ n && !s.back.lone then
    raise (countBack { s with back := { s.back with lone := true } } 20) 0x0903 1 (BitVec.ofNat 32 n)
  else s

/-- A bit error in the data field of the node's own ANNOUNCE, three times in a row: no station until start-up (R336). -/
def announceError (s : State) : State :=
  let n := s.back.announceFails + 1
  let s := { s with back := { s.back with announceFails := n } }
  if 3 ≤ n then
    let s := { s with back := { s.back with announceStopped := true, buf2 := none } }
    raise (takeStation s 0) 0x0905 0 (BitVec.ofNat 32 (Config.serialFuses.toNat % 2 ^ 24))
  else s

/-- The frame on the bus is the node's own ANNOUNCE. -/
def announcing (s : State) : Bool :=
  match s.back.offered with
  | some (i, _) => i == 2
  | none => false

/-- What an error does to the node's own ANNOUNCE: a bit error in its data field is one more in a row, another error ends the run
(R336). -/
def noteAnnounce (s : State) (kind : BusErrorKind) (dataField : Bool) : State :=
  if !announcing s then s
  else if kind == .bit && dataField then announceError s
  else { s with back := { s.back with announceFails := 0 } }

/-- The frame on the bus has failed: it is offered again, or its replacement, or the Backstair goes SILENT when Porter has stopped
(R331, R342, R343); a PASSIVE class then suspends transmission (R344). -/
def frameFailed (s : State) (passive : Bool) : State :=
  let s := { s with back := { s.back with offered := none, cancelled := false, suspend := passive } }
  if s.back.finishing then { s with back := { s.back with pstate := .silent, finishing := false } } else s

/-- Dominant bits behind an overload flag, which is no error of a frame. -/
def overloadRun : AfterFlag → Bool
  | .overloadRun _ => true
  | _ => false

/-- A bus error, a protocol exception, or dominant bits behind an overload flag (R327, R344). -/
def execServiceBusError (e : BusError) (beforeClass chatter transmitting dataField : Bool) (s : State) : Result :=
  if s.back.pstate != .active || s.back.excepted then .next s
  else if e.kind == .protocolException then .next (protocolException s)
  else if overloadRun e.after then .next (charge s e.kind e.after transmitting chatter)
  else
    let passive := (classOf s chatter).st == .passive
    let s := sendFlag (countBack s (errorCount e.kind)) beforeClass chatter
    let s := if beforeClass then charge (charge s e.kind e.after transmitting false) e.kind e.after transmitting true
      else charge s e.kind e.after transmitting chatter
    let s := if transmitting && e.kind == .ack then ackFailure s else { s with back := { s.back with ackRun := 0 } }
    .next (if transmitting then frameFailed (noteAnnounce s e.kind dataField) passive else s)

/-- A class leaves BUS_OFF with both counters 0 (R344). -/
def recoverClass (s : State) (chatter : Bool) : State :=
  let s := setClass s chatter { st := .active, txc := 0, rxc := 0, recovering := false }
  raise s 0x0902 (pack [(bit chatter, 8), (0, 0)] |>.setWidth 16) 0

/-- 128 occurrences of 11 recessive bits: CHATTER recovers; ALARM only after BUS_RESUME, which completes with result 0 (R344,
R345). -/
def execBusOffRecovery (chatter : Bool) (s : State) : Result :=
  let c := classOf s chatter
  if c.st == .busOff && (chatter || c.recovering) && svcOn s then
    let s := recoverClass s chatter
    if chatter then .next s
    else .next (s.back.resume.foldl (fun s r => reportDone s r.1 r.2.1 r.2.2.1 0 []) { s with back := { s.back with resume := [] } })
  else .next s

/-- BUS_RESUME at dispatch: refused unless ALARM is BUS_OFF; else its recovery starts (R345). -/
def execBusResume (s : State) : Result :=
  dispatch s 0x0060 fun m s =>
    if s.back.alarm.st == .busOff then
      { s with
        back := { s.back with
          alarm := { s.back.alarm with recovering := true }, resume := s.back.resume ++ [(m.chan, m.seq, m.no, s.now)] } }
    else doneWith s m 6

/-- 10 s pass without ALARM recovering: result 7, and ALARM stays BUS_OFF, its recovery standing while another BUS_RESUME waits
(R345). -/
def execBusResumeTimeout (s : State) : Result :=
  match s.back.resume with
  | [] => .next s
  | (ch, q, no, t) :: rest =>
    let s := advanceTo s (t + 10 * second)
    let s := { s with
      back := { s.back with resume := rest, alarm := { s.back.alarm with recovering := !rest.isEmpty && s.back.alarm.recovering } } }
    .next (reportDone s ch q no 7 [])

/-! ### Die temperature (R334, R335) -/

/-- The die is measured every 10 ms; a rise to 120 degrees C or above queues PEER_FAULT cause 3 (R334, R335). -/
def execDieTempMeasure (temp16 : Int) (s : State) : Result :=
  if svcOn s then
    let s := if s.back.dieMeasured then advanceTo s (s.back.dieTempAt + 10 * msNs) else s
    let rise := decide (1920 ≤ temp16) && (!s.back.dieMeasured || decide (s.back.dieTemp < 1920))
    let s := { s with back := { s.back with dieTemp := temp16, dieTempAt := s.now, dieMeasured := true } }
    .next (if rise then queueAlarm s 3 0xFF else s)
  else .next s

end Sys2Proof.Machine
end

