-- ==== Sys2Proof/Machine/Grid.lean ====
section
/-! DEFINITION. The grids of time: refresh seams, frame seams, slots, fade progress, the geometry of a row slot, and the wear of its pulses
(R177, R178, R249, R263 to R265, R382). -/

namespace Sys2Proof.Machine

open Sys2Proof

/-! ### Frame seams (R178, R264) -/

/-- The number of the seam of 15,360 a second at a seam time kept in whole ns; every refresh seam has one (R177). -/
def tickOf (ns : Nat) : Nat := seamAfter 15360 ns

def tickNs (t : Nat) : Nat := seamNs 15360 t

/-- The time of the seam whose whole ns are t, computed to 2^-16 ns (R177). -/
def seam16 (t : Nat) : Nat := tickOf t / 15360 * (second * 65536) + tickOf t % 15360 * (second * 65536) / 15360

/-- The clocks moved on to the seam whose whole ns are t, at its time to 2^-16 ns (R177). -/
def advanceToSeam (s : State) (t : Nat) : State := advanceToUnits s (seam16 t * 65536)

/-- The seam of the idle grid of 120 a second at or after a tick: 128 ticks apart (R264). -/
def idleAfter (t : Nat) : Nat := (t + 127) / 128 * 128

/-- A hold runs: Mantel time lies below P (R175). -/
def holding (s : State) : Bool := s.mantel.hold

/-- The render lead of R179. -/
def renderLead : Nat := 250000

/-- Quires not yet on light have their frame seams designated (R178, R195). -/
def designates (x : Slot) : Bool := x.st == .receiving || x.st == .ready || x.st == .bound

/-- A frame seam has been planned or has fallen at this time. -/
def lastFrame (s : State) : Option Nat :=
  match s.press.frameSeamSeen, s.press.renderedFor with
  | true, some r => some (max r s.press.lastFrameSeam)
  | true, none => some s.press.lastFrameSeam
  | false, r => r

/-- The first frame seam whose render point has not passed at Mantel time m and that follows the last one (R178, R179,
R264): a designated seam of a quire, or the idle grid. -/
def nextFrameSeam (s : State) : Nat :=
  let start := mNs s + renderLead
  let base := lastFrame s
  let fresh := fun t => decide (start ≤ t) && (match base with | some b => decide (b < t) | none => true)
  let quires := ((s.larder.slots.filter fun x => x.st == .receiving || x.st == .ready).map
    fun x => frameSeam s x.pres).filter fresh
  let from' := match base with
    | some b => max (seamAfter 15360 start) (tickOf b + 128)
    | none => seamAfter 15360 start
  (tickNs (idleAfter from') :: quires).foldl min (tickNs (idleAfter from'))

/-- A refresh seam is a frame seam designated for a quire: of a slot, or of the last render point (R178, R264). -/
def seamDesignated (s : State) (t : Nat) : Bool :=
  s.larder.slots.any (fun x => designates x && frameSeam s x.pres == t)

/-- A refresh seam is an idle frame seam (R264). -/
def seamIdle (s : State) (t : Nat) : Bool :=
  tickOf t % 128 == 0 &&
    (!s.press.frameSeamSeen || decide (tickOf s.press.lastFrameSeam + 128 ≤ tickOf t))

/-! ### Fade progress (R249) -/

/-- x16 of a fade of ms from seam f0 at seam f, taken exactly on the 1/15,360 s grid (R249). -/
def progress (f0 f ms : Nat) : Nat :=
  if ms = 0 then 65536 else min 65536 ((tickOf f - tickOf f0) * 65536 * 1000 / (15360 * ms))

/-! ### Slot geometry (R263, R265) -/

/-- Whole PCLK cycles of 1.6 ns in a slot: 625,000,000 a second (R263). -/
def slotCycles (s : State) : Nat := 625000000 / (refreshHz s * scanRows s)

/-- Dead cycles of a dead time in ns (R265). -/
def deadCycles (deadNs : Nat) : Nat := (deadNs * 5 + 7) / 8

def skewCycles (s : State) : Nat := if groupSkew s then 7 else 0

/-- L_c: the on-window of a sink group in cycles at a dead time (R265). -/
def windowCycles (s : State) (deadNs : Nat) : Nat := slotCycles s - deadCycles deadNs - skewCycles s

/-- L: the on-window in fine steps of 50 ps (R265). -/
def windowSteps (s : State) (deadNs : Nat) : Nat := 32 * windowCycles s deadNs

/-- L at the timing set in force. -/
def windowNow (s : State) : Nat := windowSteps s s.press.timing.deadNs

/-- The PCLK edge nearest the seam of a refresh lies so many ps after it: the error that the Press measured there, within half a cycle
of 1.6 ns (R262, R263). -/
def edgePhase (s : State) : Int := (s.press.seamErrorPs + 799) % 1600 - 799

/-- The PCLK edge nearest j T_slot after the seam, in cycles from the edge nearest the seam; for j = s it is that of the next seam
(R263). -/
def slotEdge (s : State) (j : Nat) : Nat :=
  let n : Int := refreshHz s * scanRows s
  (rdiv (j * 10 ^ 12 - edgePhase s * n) (1600 * n)).toNat

/-- The start of slot j of the refresh at a seam, in ns (R263). -/
def slotStart (s : State) (seam j : Nat) : Nat := ((seam : Int) + (slotEdge s j * 1600 + edgePhase s) / 1000).toNat

/-- The cycles that slot j lasts: n_slot or n_slot + 1 (R263). -/
def slotLength (s : State) (j : Nat) : Nat := slotEdge s (j + 1) - slotEdge s j

/-- The dark cycles after the last window of slot j: one in a slot of n_slot + 1 cycles (R265). -/
def extraCycles (s : State) (j : Nat) : Nat := slotLength s j - slotCycles s

/-- The cycle at which the window of sink group g starts (R265). -/
def windowStart (s : State) (deadNs g : Nat) : Nat := deadCycles deadNs + g * (skewCycles s / 7)

/-- The cycle at which the row of a slot is driven on (R266). -/
def rowOnCycle (deadNs : Nat) : Nat := (deadCycles deadNs + 1) / 2

/-- The next refresh seam of the running grid: the one after the last, or the first not yet passed (R177, R263). -/
def nextSeam (s : State) : Nat :=
  let f := refreshHz s
  if s.press.seamSeen then seamNs f (seamAfter f s.press.lastSeam + 1) else seamNs f (seamAfter f (mNs s))

/-- The first refresh seam at or after a time (R177). -/
def seamFrom (s : State) (t : Nat) : Nat := frameSeam s t

/-- Emitters of one row: sinks, or channels when paired (R270). -/
def rowWidth (s : State) : Nat := columns s

/-- Emitters the arrangement drives (R215). -/
def emitterCount (s : State) : Nat := rowWidth s * scanRows s

/-! ### Sinks and positions (R296) -/

/-- The position of a pixel and component in the arrangement (R39). -/
def positionOf (s : State) (pixel comp : Nat) : Nat :=
  match arrangement s with
  | 0 | 2 | 4 => pixel * components s + comp
  | 6 | 7 => pixel
  | _ => comp * pixelsPerRow s + pixel

/-- What drives a physical sink or channel: the pixel column, the data component, and the colour group (R296). -/
structure Driven where
  pixel : Nat
  comp : Nat
  group : Nat
  deriving DecidableEq, Repr

/-- The inverse of the map of R296: the swap and the reversal undone carry the colour group; red and blue exchange data
alone. -/
def drivenBy (s : State) (k : Nat) : Driven :=
  let p1 := if orderSwapped s then (if k % 2 = 0 then k + 1 else k - 1) else k
  let c1 := columnPixel s p1
  let comp := columnColour s p1
  let c := if orderReversed s then pixelsPerRow s - 1 - c1 else c1
  let data := if orderRedBlue s then (if comp = 0 then 2 else if comp = 2 then 0 else comp) else comp
  { pixel := c, comp := data, group := columnIref s (positionOf s c comp) }

/-- The sinks that a sink or channel of the arrangement drives (R39). -/
def sinksOf (s : State) (k : Nat) : List Nat := if paired s then [2 * k, 2 * k + 1] else [k]

/-- The sink group of a sink: eight groups of 24 (R38, R296). -/
def sinkGroup (sink : Nat) : Nat := sink / 24

/-! ### Wear (R46, R382) -/

/-- The IREF status and IFS in uA of the colour group that drives a sink or channel (R47). -/
def irefOf (s : State) (k : Nat) : Nat × Nat :=
  let w := s.straps.irefWords.getD (drivenBy s k).group 0
  (field w 15 12, field w 31 16)

/-- A row's entries put in the place of the old ones of a list by emitter. -/
def putRow {α : Type} (all : List α) (row : List α) (at' : Nat) : List α :=
  all.take at' ++ row ++ all.drop (at' + row.length)

/-- One mA s in units of 1 uA x 50 ps / 256. -/
def wearUnit : Nat := 5120000000000000

/-- The charge of a pulse: sink current under R46 times on-time, both pins of a pair (R382). -/
def chargeOf (s : State) (k w : Nat) : Nat :=
  let t := max 31 (s.press.timing.trims.getD (drivenBy s k).group 255)
  (irefOf s k).2 * (t + 1) * w * (sinksOf s k).length

/-- The integral and remainder of an emitter after a charge; it stops at 0xFFFF_FFFF (R382). -/
def addWear (integral rest charge : Nat) : Nat × Nat :=
  if 0xFFFFFFFF ≤ integral then (integral, rest)
  else (min 0xFFFFFFFF (integral + (rest + charge) / wearUnit), (rest + charge) % wearUnit)

/-- A list by emitter, filled out with zeros. -/
def filled (l : List Nat) (n : Nat) : List Nat := l ++ List.replicate (n - l.length) 0

/-- The fine steps of 50 ps since the slot in progress began. -/
def slotElapsed (s : State) : Nat := 20 * (mNs s - slotStart s s.press.lastSeam (s.press.slot - 1))

/-- The on-time of the pulse of a sink or channel whose width is w, cut at this instant: from its window's start until now (R265,
R382). -/
def onTime (s : State) (k w : Nat) : Nat :=
  min w (slotElapsed s - 32 * windowStart s s.press.timing.deadNs (sinkGroup ((sinksOf s k).headD 0)))

/-- An integral and its remainder less a charge not emitted; one that stands at 0xFFFF_FFFF counts no further (R382). -/
def takeWear (integral rest charge : Nat) : Nat × Nat :=
  if 0xFFFFFFFF ≤ integral then (integral, rest)
  else ((integral * wearUnit + rest - charge) / wearUnit, (integral * wearUnit + rest - charge) % wearUnit)

/-- The pulses of the row on are cut at the sinks or channels named: the charge counted at the slot's start for what they no longer
emit is taken back (R382). -/
def cutWear (s : State) (cut : Nat → Bool) : State :=
  match s.press.rowOn with
  | none => s
  | some j =>
    let at' := j * rowWidth s
    let wear := filled s.arch.wear (emitterCount s)
    let rest := filled s.arch.wearRest (emitterCount s)
    let new := (List.range (rowWidth s)).map fun k =>
      let w := s.press.widths.getD k 0
      takeWear (wear.getD (at' + k) 0) (rest.getD (at' + k) 0)
        (if cut k then chargeOf s k w - chargeOf s k (onTime s k w) else 0)
    { s with
      arch := { s.arch with
        wear := putRow wear (new.map (·.1)) at', wearRest := putRow rest (new.map (·.2)) at' } }

/-- The row on goes off: every pulse is cut (R284, R382). -/
def rowCutOff (s : State) : State :=
  let s := cutWear s fun _ => true
  { s with press := { s.press with rowOn := none, widths := [] } }

end Sys2Proof.Machine
end

