-- ==== Sys2Proof/Machine/Objects.lean ====
section
/-! DEFINITION. Objects: the shadow and its one open transfer, the checks at commit, and the copy into place (R138, R139, R231, R232, R243, R244, R247, R380, R381). -/

namespace Sys2Proof.Machine

open Sys2Proof

/-! ### The places of objects in the Archive (R376) -/

/-- Words rewritten from an offset are readable again (R378). -/
def heal (s : State) (lo size : Nat) : State :=
  { s with arch := { s.arch with badWords := s.arch.badWords.filter fun o => !(decide (lo ≤ o) && decide (o < lo + size)) } }

/-- The object shadow of the spare region (R376). -/
def shadowPlace : Nat := 0xD0800

def shadowSize : Nat := 0x20000

/-- The words that the copy of an object rewrites (R376, R381). -/
def healObject (s : State) (t : Transfer) : State :=
  match t.cls.toNat with
  | 1 => heal s (0x1E800 + t.index.toNat * 0x7800) t.size
  | 2 => heal s (0x78800 + t.index.toNat * 0x2000) t.size
  | 3 => heal s 0 t.size
  | 4 => heal (heal s 0xF0800 6144) 0 (t.size - 6144)
  | 5 => heal s 0xA1800 t.size
  | _ => heal (heal s 0x90800 0x1000) 0xF2000 0x1000

/-! ### OBJ_BEGIN and OBJ_DATA (R139) -/

/-- The transfer an OBJ_BEGIN opens (R139). -/
def beginTransfer (m : Msg) : Transfer :=
  { cls := byteAt m.body 0, index := byteAt m.body 1, size := (wordAt m.body 4).toNat, check := wordAt m.body 8,
    identity := wordAt m.body 12, chan := m.chan, seq := m.seq, no := m.no, covered := [], received := 0 }

/-- An OBJ_BEGIN at dispatch: one that finds open the transfer it opened itself changes nothing; another open transfer is
abandoned with EVENT 0x0204 and result 4; the shadow is cleared (R139). -/
def objBegin (m : Msg) (s : State) : State :=
  let opened := { heal s shadowPlace shadowSize with
    arch := { (heal s shadowPlace shadowSize).arch with transfer := some (beginTransfer m), closing := none, shadow := [] } }
  match s.arch.transfer with
  | none => doneWith opened m 0
  | some t =>
    if t.chan == m.chan && t.seq == m.seq && t.no == m.no then doneWith s m 0
    else doneWith (raise opened 0x0204 (t.cls ++ t.index) (BitVec.ofNat 32 t.received)) m 4

/-- OBJ_BEGIN (R139); it waits for a running commit copy. -/
def execObjBegin (s : State) : Result := dispatch s 0x0020 objBegin

/-- A body names the open transfer: its object word and identity (R139). -/
def namesTransfer (t : Transfer) (b : List Byte) : Bool :=
  byteAt b 0 == t.cls && byteAt b 1 == t.index && wordAt b 4 == t.identity

/-- The stretches of a shadow marked valid, rising and apart, with one more. -/
def cover : List (Nat × Nat) → Nat → Nat → List (Nat × Nat)
  | [], lo, hi => [(lo, hi)]
  | (a, b) :: r, lo, hi =>
    if hi < a then (lo, hi) :: (a, b) :: r
    else if b < lo then (a, b) :: cover r lo hi
    else cover r (min a lo) (max b hi)

/-- A transfer after its data at an offset is marked valid. The bytes received, as EVENT 0x0204 gives them, are the bytes marked
valid: a byte that two pieces carry, or that a replay copies again, counts once (R127, R132, R139; log 92, DESIGN CHOICE). -/
def markValid (t : Transfer) (off n : Nat) : Transfer :=
  let c := cover t.covered off (off + n)
  { t with covered := c, received := (c.map fun x => x.2 - x.1).sum }

/-- An OBJ_DATA at dispatch (R139). While a commit copy runs the shadow stays unchanged (R132), so no transfer is open to
data. -/
def objData (m : Msg) (s : State) : State :=
  match s.arch.transfer with
  | none => doneWith s m 1
  | some t =>
    let off := (wordAt m.body 8).toNat
    let data := m.body.drop 12
    if !namesTransfer t m.body then doneWith s m 1
    else if t.size < off + data.length then doneWith s m 3
    else
      doneWith { s with
        arch := { s.arch with
          shadow := Memory.writeBytes s.arch.shadow off data
          transfer := some (markValid t off data.length) } } m 0

/-- OBJ_DATA (R139). -/
def execObjData (s : State) : Result := dispatch s 0x0021 objData

/-! ### The checks at commit -/

/-- The slate sizes of R243: S at depths 8, 10, 12 and 16. -/
def slateSizes (s : State) : List Nat := [0, 1, 2, 3].map fun d => sigSize s 0 d

/-- The wear points e[0] to e[32] of colour group c in a factory block (R231). -/
def wearPoints (b : List Byte) (c : Nat) : List Nat :=
  (List.range 33).map fun j => (halfAt b (56 + 66 * c + 2 * j)).toNat

/-- The ranges of a factory block (R231). -/
def factoryRanges (b : List Byte) : Bool :=
  decide (32768 ≤ field (wordAt b 4) 15 0) &&
    [0, 1, 2, 3].all fun c => (wearPoints b c).all fun e => decide (2048 ≤ e)

/-- The reason that refuses a class 0x03 or 0x04 object, in the order of R232. -/
def calibrationReason (s : State) (cls : Nat) (bytes : List Byte) (size : Nat) : Option Nat :=
  if cls == 3 then imageReason s bytes (size == 2048 + arraySize s)
  else
    if byteAt bytes 0 != 1 then some 1
    else
      match imageReason s ((bytes.drop 6144).take 28) (size == 6144 + 2048 + arraySize s) with
      | some r => some r
      | none => if factoryRanges bytes then none else some 5

/-- The header of a firmware patch (R380): format, revision and a length word that agrees with the size. -/
def patchOk (b : List Byte) (size : Nat) : Bool :=
  let len := (wordAt b 4).toNat
  byteAt b 0 == 1 && byteAt b 1 == 0x42 && len + 32 == size && len % 4 == 0

/-- An object that passed its CRC but whose content is refused: the state after the EVENT of its class (R232, R243, R247,
R380, R381). -/
def refusedContent (s : State) (t : Transfer) : Option State :=
  let size := BitVec.ofNat 32 t.size
  match t.cls.toNat with
  | 1 => if (slateSizes s).contains t.size then none else some (raise s 0x0603 (t.cls ++ t.index) size)
  | 2 => if t.size == 8192 then none else some (raise s 0x0603 (t.cls ++ t.index) size)
  | 5 => if patchOk (Memory.bytes s.arch.shadow 32) t.size then none else some (raise s 0x0B05 2 t.identity)
  | 6 => if byteAt (Memory.bytes s.arch.shadow 1) 0 == 1 && decide (80 ≤ t.size) then none else some s
  | cls =>
    match calibrationReason s cls (Memory.bytes s.arch.shadow (6144 + 28)) t.size with
    | some r => some (raise s 0x0505 (BitVec.ofNat 16 r) t.identity)
    | none => none

/-- The cache entries that hold a slate are invalidated (R244). -/
def invalidateCache (s : State) (n : Nat) : State :=
  { s with
    screen := { s.screen with
      cache := s.screen.cache.map fun e => if e.slate == n then { e with st := 0 } else e } }

/-- The copy that runs or waits begins; a slate's cache entry is then invalid (R244). -/
def beginCopy (s : State) : State :=
  match s.arch.copying with
  | none => s
  | some (t, _, _) =>
    if s.arch.copyBegun then s
    else
      let s := { s with arch := { s.arch with copyBegun := true } }
      if t.cls == 1 then invalidateCache s t.index.toNat else s

/-- The copy of a checked object starts, that of a slate only once no pass runs (R139, R244). -/
def startCopy (s : State) (t : Transfer) (m : Msg) : State :=
  let s := { s with arch := { s.arch with transfer := none, copying := some (t, m.chan, m.seq, m.no), copyBegun := false } }
  if t.cls == 1 && s.bindery.pass.isSome then s else beginCopy s

/-- An OBJ_COMMIT at dispatch: match, CRC-32C of the shadow, content, then the copy (R139). -/
def objCommit (m : Msg) (s : State) : State :=
  match s.arch.transfer with
  | none => doneWith s m 1
  | some t =>
    if !namesTransfer t m.body then doneWith s m 1
    else
      let closed := { s with arch := { s.arch with transfer := none, closing := some (t, m.no) } }
      if crc32c (Memory.bytes s.arch.shadow t.size) != t.check then doneWith closed m 2
      else
        match refusedContent closed t with
        | some s => doneWith s m 3
        | none => startCopy s t m

/-- OBJ_COMMIT (R139). -/
def execObjCommit (s : State) : Result := dispatch s 0x0022 objCommit

/-! ### The end of a commit copy -/

def objOf (data : Memory) (size : Nat) (identity : Word) : Obj :=
  { data := Memory.below data size, size := size, identity := identity, valid := true }

/-- A stored object's bytes from an offset, as an object of its own. -/
def objFrom (data : Memory) (off size : Nat) (identity : Word) : Obj :=
  { data := (data.filter fun c => decide (off ≤ c.1) && decide (c.1 < off + size)).map fun c => (c.1 - off, c.2),
    size := size, identity := identity, valid := true }

/-- The maker's fields of a colophon object: bytes 0 to 3 and 16 to 79 (R381). -/
def colophonOf (b : List Byte) : Colophon :=
  { format := byteAt b 0, date := wordAt b 16, esta := halfAt b 20, gtin := BitVec.ofNat 48 (beNat ((b.drop 26).take 6)),
    daliId := longAt b 32, makerName := (b.drop 40).take 32, rtcTrim := (wordAt b 72).toInt
    spare := (b.drop 1).take 3 ++ (b.drop 22).take 4 ++ (b.drop 76).take 4 }

/-- A load asked for after a commit: of the image, of the factory values, of the curve tables (R233). -/
def askLoad (s : State) (cal fact curves : Bool) : State :=
  { s with
    bindery := { s.bindery with
      loadDue := some (s.bindery.loadDue.getD s.now), loadCal := s.bindery.loadCal || cal
      loadFactory := s.bindery.loadFactory || fact, loadCurves := s.bindery.loadCurves || curves } }

def countShow (s : State) (i : Nat) : State := { s with screen := { s.screen with counts := bump s.screen.counts i } }

/-- A slate that feeds a lane: it is the picture source or the target of the fade in progress (R244). -/
def slateFeeds (s : State) (n : Nat) : Bool :=
  s.screen.picture == .slate n || (match s.screen.fade with | some f => f.target == .slate n | none => false)

/-- A factory commit clears the defect map and the disabled mask: EVENT 0x0802 (R320). A sink then starts HEALTHY. -/
def clearMap (s : State) : State :=
  let n := s.arch.mapRecords.length
  let k := s.arch.disabled.length
  let s := { s with
    arch := { s.arch with mapRecords := [], disabled := [] }
    coll := { s.coll with
      emitters := s.coll.emitters.filter fun e => decide (e.2.count < 3)
      columns := s.coll.columns.filter fun e => decide (e.2.count < 3)
      rows := s.coll.rows.filter fun e => decide (e.2.count < 3) } }
  raise s 0x0802 (BitVec.ofNat 16 n) (BitVec.ofNat 32 k)

/-- The object of an ended copy in its place, with what follows from its class (R233, R244, R247, R380, R381). -/
def placeObject (s : State) (t : Transfer) : State :=
  let s := healObject s t
  let sh := s.arch.shadow
  let i := t.index.toNat
  match t.cls.toNat with
  | 1 =>
    let s := { s with arch := { s.arch with slates := s.arch.slates.set i (some (objOf sh t.size t.identity)) } }
    let s := { s with bindery := { s.bindery with passWanted := s.bindery.passWanted || slateFeeds s i } }
    countShow { s with
      screen := { s.screen with
        cache := s.screen.cache.map fun e => if e.slate == i then { e with st := 1 } else e } } 8
  | 2 =>
    let s := { s with arch := { s.arch with curves := s.arch.curves.set i (some (objOf sh t.size t.identity)) } }
    countShow (askLoad s false false true) 9
  | 3 =>
    askLoad { s with
      arch := { s.arch with calibration := some (objOf sh t.size t.identity) } } true false false
  | 4 =>
    clearMap (askLoad { s with
      arch := { s.arch with
        factory := some (objFrom sh 0 6144 t.identity)
        calibration := some (objFrom sh 6144 (t.size - 6144) t.identity) } } true true false)
  | 5 => { s with arch := { s.arch with patch := some (objOf sh t.size t.identity) } }
  | _ => { s with arch := { s.arch with colophon := colophonOf (Memory.bytes sh 80) } }

/-- The copy of a slate waits for the pass that ran when its commit was dispatched (R244). -/
def copyHeld (s : State) : Bool := !s.arch.copyBegun && s.bindery.pass.isSome

/-- A commit copy ends: the object is in place, its identity recorded, the transfer closed and the commit done with result
0 (R139); until its completion record a replay runs the copy again (R132, R143). -/
def execObjCommitCopyEnd (s : State) : Result :=
  match s.arch.copying with
  | none => .next s
  | some (t, chan, seq, no) =>
    if !hallDispatches s || copyHeld s then .next s
    else
      let s := beginCopy s
      .next (reportDone (placeObject { s with arch := { s.arch with copying := none, closing := some (t, no) } } t) chan seq no
        0 [])

end Sys2Proof.Machine
end

