-- ==== Sys2Proof/Machine/Bindery.lean ====
section
/-! DEFINITION. The Bindery: the nine stages from input code to drive unit, its gains and its working copies (R217 to R234). -/

namespace Sys2Proof.Machine

open Sys2Proof

def countBindery (s : State) (i n : Nat) : State :=
  { s with bindery := { s.bindery with counts := bumpBy s.bindery.counts i n } }

/-! ### Input codes (R93, R220) -/

/-- Sample n of d bits of a packed bit string, most significant bit first (R93). -/
def sampleAt (bytes : Array Byte) (d n : Nat) : Nat :=
  let bitAt := n * d
  let o := bitAt / 8
  let v := (bytes.getD o 0).toNat * 65536 + (bytes.getD (o + 1) 0).toNat * 256 + (bytes.getD (o + 2) 0).toNat
  v / 2 ^ (24 - d - bitAt % 8) % 2 ^ d

/-- Stage 1: bit replication to 16 bits (R220). -/
def widen (d c : Nat) : Nat :=
  match d with
  | 8 => c * 257
  | 10 => c * 64 + c / 16
  | 12 => c * 16 + c / 256
  | _ => c

/-! ### Transfer functions (R218, R221 to R223) -/

/-- The curve word nearest to 2^24 x (num/den)^(1/n): the built-in tables of R221 hold curve words rounded to nearest. -/
def rootWord (n num den : Nat) : Half :=
  let v := rootRound n fullE num den
  if v < 4096 then curveWord v
  else
    let j := Nat.log2 v - 12
    curveWord (rootRound n (2 ^ (24 - j)) num den * 2 ^ j)

/-- Entry i of the BT.1886 table: (i / 4,095)^2.4 (R221). -/
def romBt1886 (i : Nat) : Half := rootWord 5 (i ^ 12) (4095 ^ 12)

/-- (i / 4,095)^(1/m2) of SMPTE ST 2084 in units of 2^-60, with m2 = 2,523/32 (R221; PRESUMED from the standard, log 7). -/
def pqRoot (i : Nat) : Nat := rootRound 2523 (2 ^ 60) (i ^ 32) (4095 ^ 32)

/-- Entry i of the PQ table, Y / 10,000 cd/m2 of ST 2084: ((V - c1) / (c2 - c3 V))^(1/m1) with c1 = 107/128,
c2 = 2,413/128, c3 = 2,392/128 and m1 = 1,305/8,192 (R221; PRESUMED from the standard, log 7). -/
def romPq (i : Nat) : Half :=
  let v := pqRoot i
  rootWord 1305 ((128 * v - 107 * 2 ^ 60) ^ 8192) ((2413 * 2 ^ 60 - 2392 * v) ^ 8192)

/-- exp of x by its series, both in units of 2^-80. -/
def expSeries (x : Int) : Int :=
  ((List.range 40).foldl (fun (a : Int × Int) k =>
    let t := a.2 * x / (((k : Nat) + 1 : Int) * 2 ^ 80)
    (a.1 + t, t)) (2 ^ 80, 2 ^ 80)).1

/-- Entry i of the HLG table: the inverse OETF of BT.2100 to the power 1.2. Up to E' = 1/2 it is E'^2 / 3, above it
(4a exp((E' - 1/2) / a) + 1 - 4a) / 12 with a = 0.17883277 (R221; PRESUMED from the standard, log 7). -/
def romHlg (i : Nat) : Half :=
  if 2 * i ≤ 4095 then rootWord 5 (i ^ 12) ((3 * 4095 ^ 2) ^ 6)
  else
    let x : Int := (2 * i - 4095 : Int) * 100000000 * 2 ^ 80 / (8190 * 17883277)
    let y := 71533108 * expSeries x + 28466892 * 2 ^ 80
    rootWord 5 (y.toNat ^ 6) ((1200000000 * 2 ^ 80) ^ 6)

/-- Entry i of the identity ramp (R247). -/
def rampWord (i : Nat) : Half := curveWord (rdivN (i * fullE) 4095)

/-- Entry i of curve table t of region 5; a table never committed holds the identity ramp (R247). -/
def tableWord (curves : List (List Half)) (t i : Nat) : Half :=
  match curves.getD t [] with
  | [] => rampWord i
  | ws => ws.getD i 0

/-- Entry i of the table of transfer code 1 to 11 (R221). -/
def transferWord (curves : List (List Half)) (code i : Nat) : Half :=
  match code with
  | 1 => romBt1886 i
  | 2 => romPq i
  | 3 => romHlg i
  | c => tableWord curves (c - 4) i

/-- A table read between entries i and i + 1 at sixteenths f (R222). -/
def readBetween (entry : Nat → Half) (i f : Nat) : Int :=
  let a : Int := curveValue (entry i)
  let b : Int := if i < 4095 then curveValue (entry (i + 1)) else a
  a + rdiv ((b - a) * f) 16

/-- A table read at x16 (R222). -/
def readTable (entry : Nat → Half) (x16 : Nat) : Int :=
  let p := (x16 * 65520 + 32767) / 65535
  readBetween entry (p / 16) (p % 16)

/-- k of the PQ scale to 2^-16, rounded to nearest (R223; log 111, DESIGN CHOICE). -/
def pqScale (peak : Nat) : Nat := if peak = 0 then 65536 else rdivN (10000 * 65536) peak

/-- Stage 2: linear light of an x16 under a transfer code, before the clamp (R221 to R223). -/
def transfer (curves : List (List Half)) (code peak x16 : Nat) : Int :=
  if code = 0 then rdivN (x16 * fullE) 65535
  else
    let e := readTable (transferWord curves code) x16
    if code = 2 then rdiv (e * pqScale peak) 65536 else e

/-- A stage result with the clamps it met: below 0 and above full scale (R217, R237). -/
structure Clamped where
  value : Nat
  low : Nat
  high : Nat
  deriving DecidableEq, Repr

def clampStage (i : Int) : Clamped :=
  { value := clampE i, low := bit (decide (i < 0)), high := bit (decide ((fullE : Int) < i)) }

/-! ### Sources (R92, R239, R243) -/

/-- What a lane reads: the packed bytes, the depth, the components per pixel and the transfer code. -/
structure LaneData where
  bytes : Array Byte
  depth : Nat
  comps : Nat
  extract : Bool
  tf : Nat

/-- The depth in bits that a slate's size fixes (R243). -/
def slateDepth (s : State) (size : Nat) : Option Nat :=
  ([0, 1, 2, 3].find? fun d => sigSize s (0 : BitVec 2) (BitVec.ofNat 2 d) == size).map fun d =>
    depthBits (BitVec.ofNat 2 d)

/-- Slate n is stored: committed, and its copy passes its check (R243). -/
def slateStored (s : State) (n : Nat) : Bool :=
  match s.arch.slates.getD n none with
  | some o => o.valid && (slateDepth s o.size).isSome
  | none => false

/-- A slate's bytes: from the shadow while its commit copy runs, else from its live copy (R244). -/
def slateBytes (s : State) (n : Nat) (fromShadow : Bool) : Option (List Byte) :=
  match fromShadow, s.arch.copying with
  | true, some (t, _, _) =>
    if t.cls == 1 && t.index.toNat == n then some (Memory.bytes s.arch.shadow t.size)
    else (s.arch.slates.getD n none).map fun o => Memory.bytes o.data o.size
  | _, _ => (s.arch.slates.getD n none).map fun o => Memory.bytes o.data o.size

/-- The data of a lane; DARK reads nothing (R239). -/
def laneData (s : State) : LaneSrc → Option LaneData
  | .dark => none
  | .slot k =>
    let x := s.larder.slots.getD k Slot.empty
    some { bytes := (Memory.bytes x.data (sigSize s x.cfmt x.depth)).toArray, depth := depthBits x.depth
           comps := cfmtComponents s x.cfmt, extract := x.cfmt == 1, tf := s.bindery.params.streamTf }
  | .slate n sh =>
    match slateBytes s n sh with
    | none => none
    | some bs =>
      match slateDepth s bs.length with
      | none => none
      | some d =>
        some { bytes := bs.toArray, depth := d, comps := components s, extract := false, tf := s.bindery.params.slateTf }

/-! ### Stages 2 to 4 for one pixel -/

/-- Stage 3: white extraction (R224). -/
def extractWhite (kw : Nat) (es : List Nat) : List Nat :=
  let w := rdivN (kw * es.foldl min fullE) 32768
  es.map (· - w) ++ [w]

/-- Coefficient c_ij of a pixel's matrix; the identity under the fallback (R231, R234). -/
def coefficient (s : State) (mats : Array Byte) (pixel i j : Nat) : Int :=
  if s.bindery.fallback then (if i = j then 16384 else 0)
  else
    let k := components s
    let o := ((pixel * k + i) * k + j) * 2
    (BitVec.ofNat 16 ((mats.getD o 0).toNat * 256 + (mats.getD (o + 1) 0).toNat)).toInt

/-- Stage 4 for output emitter i of a pixel: exact sum, one rounding (R225). -/
def matrixOut (s : State) (mats : Array Byte) (pixel i : Nat) (es : List Nat) : Int :=
  rdiv (((List.range es.length).map fun j => coefficient s mats pixel i j * ((es.getD j 0 : Nat) : Int)).sum) 16384

/-- Stages 1 to 4 of one pixel: its emitters' E, with the clamps (R219 to R225). -/
def pixelStages (s : State) (mats : Array Byte) (d : LaneData) (pixel : Nat) : List Clamped × Nat :=
  let ins := (List.range d.comps).map fun k =>
    clampStage (transfer s.bindery.curves d.tf s.bindery.params.pqPeak
      (widen d.depth (sampleAt d.bytes d.depth (pixel * d.comps + k))))
  let es := ins.map (·.value)
  let es := if d.extract then extractWhite s.bindery.params.kw es else es
  ((List.range (components s)).map fun i => clampStage (matrixOut s mats pixel i es), (ins.map (·.high)).sum)

/-! ### Stages 5 to 9 -/

/-- Stages 5 to 7 on one emitter: level and white point, wear, temperature (R226 to R228); the value and the clamps at full
scale. -/
def levelStages (lam w wear temp e : Nat) : Nat × Nat :=
  let a := clampStage (rdivN (e * (lam * w)) (2 ^ 30))
  let b := clampStage (rdivN (a.value * wear) 32768)
  let c := clampStage (rdivN (b.value * temp) 32768)
  (c.value, a.high + b.high + c.high)

/-- Stage 8 (R229). -/
def mixStage (alpha a b : Nat) : Nat := rdivN ((65536 - alpha) * a + alpha * b) 65536

/-- Stage 9's output curve: 0 the identity, t + 1 curve table t (R230). -/
def outputCurve (curves : List (List Half)) (oc e : Nat) : Nat :=
  if oc = 0 then e
  else
    let w := (curveWord e).toNat
    clampE (readBetween (tableWord curves (oc - 1)) (w / 16) (w % 16))

/-- The drive unit of E' (R230). -/
def driveUnit (e : Nat) : Nat := rdivN (e * 1048575) fullE

/-- The stage 4 results of every pixel of a lane: emitter values in pixel order, negative results, clamps high. -/
def laneStages (s : State) (src : LaneSrc) : Option (Array Nat × Nat × Nat) :=
  match laneData s src with
  | none => none
  | some d =>
    let mats := s.bindery.matrices.toArray
    let n := pixelsPerRow s * scanRows s
    let all := (List.range n).map (pixelStages s mats d)
    some ((all.flatMap fun p => p.1.map (·.value)).toArray, (all.map fun p => (p.1.map (·.low)).sum).sum,
      (all.map fun p => p.2 + (p.1.map (·.high)).sum).sum)

/-- One lane's value at an emitter after stage 7. -/
def laneEmitter (s : State) (p : Pass) (lane : Option (Array Nat × Nat × Nat)) (row k : Nat) : Nat × Nat :=
  match lane with
  | none => (0, 0)
  | some (es, _, _) =>
    let d := drivenBy s k
    let e := es.getD ((row * pixelsPerRow s + d.pixel) * components s + d.comp) 0
    levelStages p.lambda (s.bindery.params.w.getD d.group 0) (s.bindery.wearGains.getD (row * rowWidth s + k) 32768)
      (p.gains.getD d.group 32768) e

/-- The drive units of a pass in emitter order r x W + k, with the clamps of census words 4 and 5 (R219 to R230). -/
def renderPlate (s : State) (p : Pass) : List Nat × Nat × Nat :=
  let a := laneStages s p.laneA
  let b := laneStages s p.laneB
  let ems := (List.range (emitterCount s)).map fun i =>
    let row := i / rowWidth s
    let k := i % rowWidth s
    let ea := laneEmitter s p a row k
    let eb := laneEmitter s p b row k
    let oc := s.bindery.params.oc.getD (drivenBy s k).group 0
    (driveUnit (outputCurve s.bindery.curves oc (mixStage p.alpha ea.1 eb.1)), ea.2 + eb.2)
  let low := (match a with | some x => x.2.1 | none => 0) + (match b with | some x => x.2.1 | none => 0)
  let high := (match a with | some x => x.2.2 | none => 0) + (match b with | some x => x.2.2 | none => 0)
  (ems.map (·.1), low, high + (ems.map (·.2)).sum)

/-! ### Wear gains (R227) -/

/-- The wear gain of an integral under the points e[0] to e[32] and the cap (R227). -/
def wearGain (points : List Nat) (cap integral : Nat) : Nat :=
  let j := integral / 2 ^ 27
  let f : Nat := integral % 2 ^ 27
  let e0 : Int := points.getD j 0
  let e1 : Int := points.getD (j + 1) 0
  let eff := (e0 + rdiv ((e1 - e0) * (f : Int)) (2 ^ 27)).toNat
  min cap (rdivN (2 ^ 30) eff)

def wearCap (s : State) : Nat := field (wordAt s.bindery.factoryBlock 4) 15 0

/-- Every wear gain from region 6; 32,768 without a valid factory block (R227). -/
def wearGainList (s : State) : List Nat :=
  if !s.bindery.factoryOk then []
  else
    let points := (List.range 4).map (wearPoints s.bindery.factoryBlock)
    (List.range (emitterCount s)).map fun i =>
      wearGain (points.getD (drivenBy s (i % rowWidth s)).group []) (wearCap s) (s.arch.wear.getD i 0)

/-- A recompute of every wear gain: EVENT 0x0506 when the number at the cap changes, and a pass (R213, R227). -/
def recomputeWear (s : State) : State :=
  let gains := wearGainList s
  let n := (gains.filter fun g => g == wearCap s).length
  let changed := n != s.bindery.atCap
  let s := countBindery s 9 1
  let s := { s with
    bindery := { s.bindery with
      wearGains := gains, atCap := n, recomputeDue := false, passWanted := true
      counts := s.bindery.counts.set 11 (BitVec.ofNat 32 n) } }
  if changed then raise s 0x0506 0 (BitVec.ofNat 32 n) else s

/-- After a pass ends, the wear gains are recomputed from the integrals (R227, R238). -/
def execWearGainRecompute (s : State) : Result :=
  if coreOn s && s.bindery.recomputeDue && s.bindery.pass.isNone then .next (recomputeWear s) else .next s

/-! ### Temperature (R228) -/

/-- The readings of the calibration's tile sensors that are at most 5 s old and not failed (R228, R333). DESIGN CHOICE (log 123): a
sensor named more than once counts once for each naming; R228 does not say. -/
def freshReadings (s : State) : List Int :=
  s.bindery.params.sensors.filterMap fun n =>
    if n = 0xFF then none
    else
      match s.back.sensors.find? fun k => k.index == n with
      | some k => if k.valid && decide (s.now ≤ k.time + 5 * second) then some (halfAt k.data 0).toInt else none
      | none => none

/-- The first temperature source available, 0 tile sensors, 1 die, 2 none, with T in 1/16 degrees C (R228, R234). -/
def temperature (s : State) : Nat × Int :=
  let rs := freshReadings s
  if !s.bindery.factoryOk then (2, 0)
  else if !rs.isEmpty then (0, rdiv rs.sum rs.length)
  else if s.back.dieMeasured then
    (1, s.back.dieTemp - (BitVec.ofNat 16 (field (wordAt s.bindery.factoryBlock 4) 31 16)).toInt)
  else (2, 0)

/-- The target gain of colour group c at T (R228). -/
def targetGain (s : State) (src : Nat) (t : Int) (c : Nat) : Nat :=
  if src = 2 then 32768
  else
    let b := s.bindery.factoryBlock
    let dt := t - (halfAt b (8 + 12 * c)).toInt
    let k1 := (wordAt b (12 + 12 * c)).toInt
    let k2 := (wordAt b (16 + 12 * c)).toInt
    (max 16384 (min 65535 (rdiv (32768 * 2 ^ 17 + k1 * dt * 2 ^ 8 + k2 * dt * dt) (2 ^ 17)))).toNat

def targetGains (s : State) (src : Nat) (t : Int) : List Nat := [0, 1, 2, 3].map (targetGain s src t)

/-- A gain moved toward its target by at most 32 units (R228). -/
def moveGain (g target : Nat) : Nat := if g ≤ target then min target (g + 32) else max target (g - 32)

/-- The estimate formed at a render point: a change of source raises EVENT 0x0503 (R228). With no source T has no stated
value, so it is left free (log 3). -/
def formEstimate (s : State) : State :=
  let (src, t) := temperature s
  let fresh := (freshReadings s).length
  if src == s.bindery.tsrc then
    { s with bindery := { s.bindery with temp := if src = 2 then s.bindery.temp else t, fresh := fresh } }
  else
    let (u, s) := freeValue s
    let t := if src = 2 then (BitVec.ofNat 16 u).toInt else t
    let s := countBindery { s with bindery := { s.bindery with tsrc := src, temp := t, fresh := fresh } } 8 1
    raise s 0x0503 (BitVec.ofNat 16 src) (sword t)

/-- The gains of the next pass: at once on the first pass, else a move (R228). -/
def nextGains (s : State) : List Nat :=
  let targets := targetGains s s.bindery.tsrc s.bindery.temp
  if s.bindery.firstPass then targets else List.zipWith moveGain s.bindery.gains targets

/-- A gain would move by at least one unit, and no pass ran in the last 1 s (R213). -/
def gainDue (s : State) : Bool :=
  decide (s.bindery.lastPass + second ≤ s.now) && nextGains s != s.bindery.gains

/-! ### Levels and slots in force (R213, R226) -/

/-- The level shown: identify alternates it in the standalone modes (R357). -/
def lambdaShown (s : State) : Nat :=
  if s.legacy.identify && mode s == .standalone then (if s.legacy.identifyDark then 0 else 32768) else s.screen.lambda

/-- The level in force with the house level (R226). -/
def lambdaEff (s : State) : Nat := min (lambdaShown s + s.bindery.lambdaHouse) 32768

/-- The slot that STREAM reads outside a render point: the BOUND slot if there is one, else the PRESENTING slot (R213). -/
def currentSlot (s : State) : Option Nat :=
  match s.larder.slots.findIdx? fun x => x.st == .bound with
  | some i => some i
  | none => s.larder.slots.findIdx? fun x => x.st == .presenting

/-! ### What a working-copy load brings in (R233, R234) -/

/-- The header values of an image (R231). -/
def paramsOf (h : List Byte) : CalParams :=
  { streamTf := field (wordAt h 4) 31 28, slateTf := field (wordAt h 4) 27 24, pqPeak := field (wordAt h 4) 15 0
    w := [field (wordAt h 8) 31 16, field (wordAt h 8) 15 0, field (wordAt h 12) 31 16, field (wordAt h 12) 15 0]
    kw := field (wordAt h 16) 31 16
    oc := [field (wordAt h 20) 31 28, field (wordAt h 20) 27 24, field (wordAt h 20) 23 20, field (wordAt h 20) 19 16]
    sensors := [(byteAt h 24).toNat, (byteAt h 25).toNat, (byteAt h 26).toNat, (byteAt h 27).toNat] }

/-- Region 3 and the parameter words from the live image; the fallback when it is invalid, absent, or made for other straps
(R233, R234). -/
def loadImage (s : State) : State :=
  let fallback := { s with
    bindery := { s.bindery with
      fallback := true, params := CalParams.fallback, matrices := [], liveIdentity := 0 } }
  match liveImage s with
  | none => fallback
  | some o =>
    { s with
      bindery := { s.bindery with
        fallback := false, params := paramsOf (Memory.bytes o.data 28)
        matrices := Memory.bytesFrom (arraySize s) 2048 (o.data.filter fun c => decide (2048 ≤ c.1))
        liveIdentity := o.identity } }

/-- The factory values (R231, R234). -/
def loadFactory (s : State) : State :=
  match s.arch.factory with
  | some o =>
    if o.valid then
      { s with bindery := { s.bindery with factoryOk := true, factoryBlock := Memory.bytes o.data 320 } }
    else { s with bindery := { s.bindery with factoryOk := false, factoryBlock := [] } }
  | none => { s with bindery := { s.bindery with factoryOk := false, factoryBlock := [] } }

/-- The curve words of a stored table (R247). -/
def wordsOf : Nat → List Byte → List Half
  | 0, _ => []
  | n + 1, b => halfAt b 0 :: wordsOf n (b.drop 2)

/-- Region 5 from the Archive: a table never committed, or failing its check, holds the identity ramp (R247). -/
def loadCurves (s : State) : State :=
  { s with
    bindery := { s.bindery with
      curves := s.arch.curves.map fun c =>
        match c with
        | some o => if o.valid then wordsOf 4096 (Memory.bytes o.data 8192) else []
        | none => [] } }

end Sys2Proof.Machine
end

