-- ==== Sys2Proof/Machine/Spine.lean ====
section
/-! DEFINITION. The Spine: port training, forwarding, vacancies, the bypass switch and the self-test (R52 to R74). -/

namespace Sys2Proof.Machine

open Sys2Proof

/-! ### Port states (R57, R106) -/

/-- The ports may train: RING is on, the mode is a ring mode, and all twelve straps are read (R51, R57). -/
def portsTrain (s : State) : Bool := ringOn s && ringMode s && s.straps.read

/-- A port enters a state, and LINK reports the change (R57, R106). -/
def enterPort (s : State) (p : Port) (x : PortS) (st : PortState) : State :=
  queueLink (setPort s p { x with st := st, since := s.now }) 2

/-- A port goes DOWN: from UP it is a port-down event (R57, R110); copies due on it are discarded (R63). The in-window flag is of the
last port-down event: a fall from training, which is none, clears it, and R75 does not say when it ends (log 115, DESIGN
CHOICE). -/
def portDown (s : State) (p : Port) : State :=
  let x := getPort s p
  if x.st == .down then s
  else
    let up := x.st == .up
    let y := { x with
      counts := if up then bump x.counts 7 else x.counts
      downAt := if up then s.now else x.downAt
      inWindow := up && x.windowEnd.isSome
      degraded := false
      rateSuspected := false
      nbrSerial := none }
    settleAdmit (enterPort s p y .down)

/-- The port holds fast-acquire now, the last instant of a hold included: an arrival comes before the timer of its cycle (R28,
R75). -/
def fastHeld (s : State) (x : PortS) : Bool :=
  (x.fastUntil != 0 && decide (s.now ≤ x.fastUntil)) ||
    (match x.windowEnd with | some e => decide (mNs s ≤ e) | none => false)

/-- Signal on every used lane of a DOWN port: ACQUIRE (R57). -/
def execPortSignalDetect (p : Port) (s : State) : Result :=
  let x := getPort s p
  if portsTrain s && x.st == .down then
    let fast := fastHeld s x
    .next (enterPort s p { x with
      fastNow := fast, twoLanes := twoLanesStrapped s, laneMismatch := false
      eqLong := if fast then x.eqLong else longCables s } .acquire)
  else .next s

/-- Every used lane locked: BLOCK_LOCK (R57). -/
def execPortAcquired (p : Port) (s : State) : Result :=
  let x := getPort s p
  if portsTrain s && x.st == .acquire then .next (enterPort s p { x with rateSuspected := false } .blockLock)
  else .next s

/-- A fast-acquire not locked 200 us after entering ACQUIRE falls back to full acquisition (R57). -/
def execFastAcquireFallback (p : Port) (s : State) : Result :=
  let x := getPort s p
  if portsTrain s && x.st == .acquire && x.fastNow then
    .next (setPort (advanceTo s (x.since + 200 * usNs)) p { x with fastNow := false })
  else .next s

/-- All used lanes in block lock: DESKEW (R57). -/
def execBlockLock (p : Port) (s : State) : Result :=
  let x := getPort s p
  if portsTrain s && x.st == .blockLock then .next (enterPort s p x .deskew) else .next s

/-- The markers of the two lanes stand at most 40 ns apart (R53). -/
def skewTolerated (x : PortS) (skewPs : Nat) : Bool := !x.twoLanes || decide (skewPs ≤ 40000)

/-- Markers seen with the same skew: the lanes are aligned when they stand at most 40 ns apart, and the port is in CONFIRM with the
lane-0 deskew delay measured and four HELLO blocks sent (R53, R57, R165). -/
def execDeskew (p : Port) (d : LaneDelays) (s : State) : Result :=
  let x := getPort s p
  if portsTrain s && x.st == .deskew && skewTolerated x d.skewPs then
    let s := setSync s p { portSync s p with lane0Ps := d.lane0Ps }
    let s := enterPort s p { x with skewPs := if x.twoLanes then d.skewPs else 0 } .confirm
    let hello := Sent.hello p x.twoLanes (BitVec.ofNat 16 Config.serialFuses.toNat)
    .next { s with wire := List.replicate 4 hello ++ s.wire }
  else .next s

/-- The node is spliced: its switch is inserted and both links are UP. -/
def spliced (s : State) : Bool := s.spine.bypHold && portUp s .east && portUp s .west

/-- The wake from S4 has ended once the Hall is ready and, for the first time since, both links are UP: the Cellar raises EVENT
0x0C01, reported behind what it kept, with its count and the state left (R376, R398, R407 to R409). -/
def reportS4 (s : State) : State :=
  if s.start.cause == .s4Wake && s.hall.ready && spliced s && s.power.counts.getD 10 0 == 0 then
    let s := reportHeld (raiseKept s 0x0C01 (stateChange .s4 .s0) (stateArg s 7))
    countPower { s with power := { s.power with lastSt := .s4, lastCause := 7 } } 10
  else s

/-- Start-up step 8 ends as both links are UP for the first time with the switch inserted (R414, R420). -/
def noteSplice (s : State) : State :=
  if spliced s && s.start.stepUs.getD 3 0 == 0 then
    { s with
      start := { s.start with stepUs := s.start.stepUs.set 3 (BitVec.ofNat 32 (sat 32 ((s.now - s.start.s) / usNs))) } }
  else s

/-- HELLO blocks exchanged: the lane counts are compared and the port is UP; IDENT is due (R57, R58, R101). -/
def execConfirm (p : Port) (peerTwoLanes : Bool) (peerLow : BitVec 16) (s : State) : Result :=
  let x := getPort s p
  if portsTrain s && x.st == .confirm then
    let mismatch := x.twoLanes != peerTwoLanes
    let wasDown := (x.counts.getD 7 0) != 0
    let y := { x with
      twoLanes := x.twoLanes && peerTwoLanes
      laneMismatch := mismatch
      nbrLow := peerLow
      fastNow := false
      outageUs := if wasDown then BitVec.ofNat 32 (sat 32 ((s.now - x.downAt) / usNs)) else x.outageUs
      nextIdent := s.now }
    let s := reportS4 (noteSplice (enterPort s p y .up))
    .next (if mismatch then raise s 0x0103 (BitVec.ofNat 16 (portCode p)) 0 else s)
  else .next s

/-- An own transmission cut as its port left UP is discarded and counted there (R62). -/
def countCut (s : State) (p : Port) (cutTx : Bool) : State := if cutTx then countPort s p 4 else s

/-- A reception cut partway: it is truncated at its port, and the forwarded copy ends in an error control block, or was
discarded at an opposite port that is not UP (R60, R62). -/
def endReception (s : State) (p : Port) (cutRx : Bool) : State :=
  if !cutRx then s
  else if portUp s (otherPort p) then send (countPort s p 2) (.errorEnded (otherPort p))
  else countPort (countPort s p 2) (otherPort p) 4

/-- A used lane lost: the port goes DOWN. A folio being received is truncated and its forwarded copy ends in an error
control block; one being sent counts as discarded (R57, R62). -/
def execPortLoss (p : Port) (cutRx cutTx : Bool) (s : State) : Result :=
  if portsTrain s && portUp s p then
    .next (portDown (countCut (endReception s p cutRx) p cutTx) p)
  else if portsTrain s then .next (portDown s p)
  else .next s

/-- ACQUIRE held for 10 s: no link, rate suspected (R58). -/
def execRateSuspectTimeout (p : Port) (s : State) : Result :=
  let x := getPort s p
  if portsTrain s && x.st == .acquire && !x.rateSuspected then
    let s := setPort (advanceTo s (x.since + 10 * second)) p { x with rateSuspected := true }
    .next (raise s 0x0104 (BitVec.ofNat 16 (portCode p)) 0)
  else .next s

/-- IDENT on an UP port, on entering UP and every 1 s (R101). -/
def execIdentSend (p : Port) (s : State) : Result :=
  let x := getPort s p
  if portsTrain s && x.st == .up then
    let s := setPort (advanceTo s x.nextIdent) p { x with nextIdent := max s.now x.nextIdent + second }
    .next (send s (.ident p Config.serialFuses))
  else .next s

/-- IDENT received: the neighbour serial (R101). -/
def execIdentReceive (p : Port) (serial : Long) (s : State) : Result :=
  let x := getPort s p
  if portsTrain s && x.st == .up then .next (setPort s p { x with nbrSerial := some serial }) else .next s

/-- LEAVE received: the port holds fast-acquire for the next 10 ms (R75). -/
def execLeaveReceive (p : Port) (s : State) : Result :=
  let x := getPort s p
  if portsTrain s then
    .next (setPort s p { x with
      fastUntil := max x.fastUntil (s.now + 10 * msNs), fastNow := x.fastNow || x.st == .acquire })
  else .next s

/-- A fast-acquire hold by LEAVE ends; a splice window in force holds the port on (R75). -/
def execFastAcquireEnd (p : Port) (s : State) : Result :=
  let x := getPort s p
  if portsTrain s && x.fastUntil != 0 then
    let s := advanceTo s x.fastUntil
    let y : PortS := { x with fastUntil := 0 }
    .next (setPort s p { y with fastNow := y.fastNow && fastHeld s y })
  else .next s

/-! ### Forwarding (R60 to R62, R99) -/

/-- The TIM messages that take residence time: Sync, Delay_Req, Pdelay_Req, Pdelay_Resp (R99). -/
def corrected (f : Folio) : Bool := Folio.kind f == 4 && decide (Folio.spec f % 16 ≤ 3)

/-- Residence in 2^-16 ns added to the correctionField, payload bytes 8 to 15 (R23, R99). -/
def addResidence (f : Folio) (residence : Nat) : Folio :=
  let c : Long := longAt f.payload 8 + BitVec.ofNat 64 residence
  { f with payload := f.payload.take 8 ++ longBytes c ++ f.payload.drop 16 }

/-- A folio as it leaves the opposite port (R60, R61, R99): residence added to a TIM that no malformed cause marks, a good
CRC recomputed over it, a failed one stamped. -/
def forwardedFolio (s : State) (f : Folio) (residence : Nat) : Folio :=
  let g := if corrected f && (malformed s f).isNone then addResidence f residence else f
  if Folio.crcOk f then { g with crc := Folio.goodCrc g }
  else { g with crc := Folio.goodCrc g ^^^ 0xFFFFFFFF#32 }

/-- What leaves the opposite port for a unit (R60 to R62). -/
def forwardedUnit (s : State) (q : Port) (residence : Nat) : RxUnit → Sent
  | .whole f => .forwarded q (forwardedFolio s f residence)
  | .short | .cut | .errorEnded => .errorEnded q

/-- A unit received on an UP port leaves the opposite port, or is discarded there and counted when that port is not
UP (R60, R62). -/
def execFolioForward (p : Port) (u : RxUnit) (residence : Nat) (s : State) : Result :=
  if portsTrain s && portUp s p then
    if portUp s (otherPort p) then .next (send s (forwardedUnit s (otherPort p) residence u))
    else .next (countPort s (otherPort p) 4)
  else .next s

/-- A unit that has crossed from a port that is UP (R69). -/
def mergeFrom (s : State) (p : Port) (u : RxUnit) : State := if portUp s p then mergeUnit s p u else s

/-- MERGE: a unit whose last block has crossed into CCLK, and the other port's unit when its last block crossed on the same
cycle; the copy received on EAST is then processed first (R69, R70). -/
def execMerge (p : Port) (c : Arrival) (s : State) : Result :=
  if portsTrain s && portUp s p then
    match c.other, p with
    | none, _ => .next (mergeUnit s p c.unit)
    | some v, .east => .next (mergeFrom (mergeUnit s .east c.unit) .west v)
    | some v, .west => .next (mergeUnit (mergeFrom s .east v) .west c.unit)
  else .next s

/-- A merge-memory entry expires 1 ms after it was written, an arrival on that cycle first (R67, R81). -/
def execMergeEntryExpire (s : State) : Result :=
  match s.spine.mergeMem.getLast? with
  | none => .next s
  | some m =>
    let s := advanceTo s (m.time + msNs)
    .next { s with spine := { s.spine with mergeMem := s.spine.mergeMem.dropLast } }

/-- A vacancy passes out of port p (R63). -/
def execVacancyFill (p : Port) (vacancy : Folio) (s : State) : Result :=
  if portsTrain s then .next (fillVacancy s p vacancy) else .next s

/-! ### The bypass switch (R71, R72, R74) -/

/-- BYP_HOLD driven to a level: an edge takes both ports DOWN and sets the next sense sample (R57, R72). -/
def setByp (s : State) (high : Bool) : State :=
  if s.spine.bypHold == high then s
  else
    let s := portDown (portDown s .east) .west
    { s with spine := { s.spine with bypHold := high, senseDue := s.now + settleNs s } }

/-- The Cellar releases BYP_HOLD: its watchdog has expired, or VDD_CORE or VDD_SD has failed (R16, R71). -/
def cellarReleases (s : State) : Bool :=
  s.cellar.darkWatchdog || s.cellar.failAt.isSome || !s.start.coreGood || !s.start.sdGood

/-- The senses have agreed with BYP_HOLD, and no failed insertion waits for its retry (R72). -/
def senseConsistent (s : State) : Bool := !s.spine.stuck && !s.spine.switchFailed && s.spine.retryDue.isNone

/-- EXTEST drives BYP_HOLD from its cell, whatever R71 asks, until the Cellar releases it (R16, R301, R302). -/
def cellDrives (s : State) : Bool := s.prot.tap == .extest && !cellarReleases s

/-- BYP_HOLD released by a rule of R71, R72 or R77: the pin keeps its cell's level under EXTEST (R301, R302). -/
def releaseByp (s : State) : State := if cellDrives s then s else setByp s false

/-- Every condition of R71 holds; a self-test that fails keeps the node bridged (R73), and EXTEST and HIGHZ take the pin
(R301). -/
def insertAllowed (s : State) : Bool :=
  ringOn s && ringMode s && s.spine.pllLocked && s.spine.selfTestPassed && !s.spine.selfTestFailed &&
    !cellarReleases s && s.spine.leftAt.isNone && senseConsistent s && s.prot.tap != .highz && s.prot.tap != .extest

/-- A node that woke from S4 waits for its return time, held by the Cellar RTC, before it inserts (R405, R414, R418). -/
def awaitsReturn (s : State) : Bool :=
  s.start.cause == .s4Wake && s.cellar.rtcAlarm.isSome && !s.power.uncoordinated

/-- A node that returns though its window was too short reports it: EVENT 0x0106 with W in us (R76, R112). -/
def raiseUncoordinated (s : State) (lenNs : Nat) : State :=
  if s.power.uncoordinated then
    raise { s with power := { s.power with uncoordinated := false } } 0x0106 0 (BitVec.ofNat 32 (lenNs / usNs))
  else s

/-- An uncoordinated return from S4 is reported as it inserts, and its alarm is over: a later insertion of this start-up awaits no
return time (R74, R76, R418). -/
def reportS4Return (s : State) : State :=
  if s.start.cause == .s4Wake && s.power.uncoordinated then
    let s := raiseUncoordinated s s.power.returnLen
    { s with cellar := { s.cellar with rtcAlarm := none } }
  else s

/-- The switch inserts, uncoordinated, once every condition holds (R74, R418). -/
def tryInsert (s : State) : State :=
  if insertAllowed s && !awaitsReturn s && !s.spine.bypHold then setByp (reportS4Return s) true else s

/-- BYP_HOLD high once every condition of R71 holds (R74). -/
def execBypassInsert (s : State) : Result := .next (tryInsert s)

/-- BYP_HOLD low when a condition of R71 fails. After a power fail LEAVE goes first, GSP having gone at detect; EXTEST keeps its
own level there unless the Cellar releases (R16, R71, R301, R386). -/
def execBypassRelease (s : State) : Result :=
  if s.spine.bypHold && !insertAllowed s && !cellDrives s then
    .next (setByp (if s.cellar.failAt.isSome then sendLeave s else s) false)
  else .next s

/-- One more switch fault: log entry, case page count and EVENT 0x0105 (R72, R112). -/
def switchFault (s : State) (outcome : Nat) : State :=
  let s := { s with
    spine := { s.spine with
      switchFaultSeen := true, switchFaultsLogged := s.spine.switchFaultsLogged + 1 } }
  raise s 0x0105 (BitVec.ofNat 16 outcome) (BitVec.ofNat 32 s.spine.switchRetries)

/-- The sense inputs against BYP_HOLD (R72): high with a low sense releases it and retries at most three times; low with a
high sense is a switch stuck inserted, reported when it is found. The finding ends only at a sample with BYP_HOLD low and both
senses low: R72 does not say when it ends (log 86, DESIGN CHOICE). -/
def judgeSense (s : State) (east west : Bool) : State :=
  if s.spine.bypHold then
    if east && west then { s with spine := { s.spine with switchRetries := 0 } }
    else
      let s := switchFault (releaseByp s) 1
      if s.spine.switchRetries < 3 then
        { s with spine := { s.spine with retryDue := some (s.now + second) } }
      else { s with spine := { s.spine with switchFailed := true } }
  else if east || west then
    if s.spine.stuck then s else { switchFault s 2 with spine := { (switchFault s 2).spine with stuck := true } }
  else { s with spine := { s.spine with stuck := false } }

/-- A sample of both sense inputs at the settle time after an edge and every second after it (R72). -/
def execBypSenseSample (east west : Bool) (s : State) : Result :=
  if portsTrain s && switchFitted s then
    let s := advanceTo s s.spine.senseDue
    .next (judgeSense { s with spine := { s.spine with senseDue := s.now + second } } east west)
  else .next s

/-- The insertion is retried 1 s after a switch fault (R72). -/
def execBypassRetry (s : State) : Result :=
  match s.spine.retryDue with
  | none => .next s
  | some t =>
    let s := advanceTo s t
    .next (tryInsert { s with
      spine := { s.spine with retryDue := none, switchRetries := s.spine.switchRetries + 1 } })

/-- The RING PLL loses lock: the bypass closes within 1 us (R71). -/
def execRingPllLoss (s : State) : Result :=
  if ringOn s then .next (releaseByp { s with spine := { s.spine with pllLocked := false } }) else .next s

/-! ### The self-test (R73, R417) -/

/-- The loopback self-test passes with no CRC failure and delays within 2 ns (R73). -/
def selfTestOk (crcFailures eastPs westPs : Nat) : Bool :=
  crcFailures == 0 && decide ((if eastPs ≤ westPs then westPs - eastPs else eastPs - westPs) ≤ 2000)

/-- A failed self-test's record: logged, and kept for the EVENT reports that follow the next JOIN (R376, R417). -/
def raiseUntold (s : State) (code arg0 : Half) (arg1 : Word) : State :=
  let e : EventRec := { code := code, arg0 := arg0, tsec := tsecOf (mNs s), tns := tnsOf (mNs s), arg1 := arg1 }
  let s := logEvent s e
  { s with spine := { s.spine with untold := s.spine.untold ++ [e] } }

/-- The loopback delay of each port goes to the asymmetry table (R73, R165). -/
def keepLoopback (s : State) (eastPs westPs : Nat) : State :=
  { s with
    mantel := { s.mantel with
      east := { s.mantel.east with loopbackPs := eastPs }
      west := { s.mantel.west with loopbackPs := westPs } } }

/-- The end of a loopback self-test with BYP_HOLD low, at start-up from the end of steps 2 and 3 on (R73, R414): on a pass the switch
inserts, unless a leave holds the node bridged; on a failure the node stays bridged, EVENT 0x0D03 is raised (R417, R419), and the
test is due again in 10 s. -/
def execSelfTest (port lane : Byte) (crcFailures eastPs westPs : Nat) (s : State) : Result :=
  if portsTrain s && !s.spine.bypHold then
    let s := keepLoopback s eastPs westPs
    let s := { s with spine := { s.spine with internalSelfTest := !switchFitted s } }
    let again := some (s.now + 10 * second)
    if selfTestOk crcFailures eastPs westPs then
      let s := { s with
        spine := { s.spine with
          selfTestPassed := true, selfTestFailed := false, selfTestDue := if s.spine.leftAt.isSome then again else none } }
      .next (tryInsert s)
    else
      let diff := if eastPs ≤ westPs then westPs - eastPs else eastPs - westPs
      let s := { s with
        spine := { s.spine with selfTestFailed := true, selfTestDue := again }
        start := { s.start with
          selfTestFailures := s.start.selfTestFailures + bit (!s.spine.selfTestPassed)
          selfTestsSinceBoot := s.start.selfTestsSinceBoot + 1 } }
      .next (raiseUntold s 0x0D03 (port ++ lane) (pack [(sat 16 crcFailures, 16), (sat 16 diff, 0)]))
  else .next s

/-- A failed or bridged self-test starts again after 10 s (R73, R77). -/
def execSelfTestRetry (s : State) : Result :=
  match s.spine.selfTestDue with
  | none => .next s
  | some t =>
    let s := advanceTo s t
    .next { s with spine := { s.spine with selfTestDue := none } }

end Sys2Proof.Machine
end

