-- ==== Sys2Proof/Machine/Ring.lean ====
section
/-! DEFINITION. Ring management: enumeration, addresses, the ring map, and splices (R75 to R79, R101 to R104). -/

namespace Sys2Proof.Machine

open Sys2Proof

/-- The Spine handles head SPL folios in S0 to S3, in the ring modes; a native leaf those that its head carries (R101, R426,
R429). -/
def splHeard (s : State) : Bool := ringOn s && (ringMode s || mode s == .leaf)

/-- A head SPL sequence already acted on is a twin (R101). -/
def splTwin (s : State) (q : Word) : Bool := s.spine.splSeen.contains q

/-- The Spine keeps the last 64 SPL sequences acted on (R101). -/
def splNote (s : State) (q : Word) : State :=
  { s with spine := { s.spine with splSeen := (q :: s.spine.splSeen).take 64 } }

/-- A head SPL folio acted on once (R101). -/
def actOnce (s : State) (q : Word) (f : State → State) : Result :=
  if splHeard s && !splTwin s q then .next (f (splNote s q)) else .next s

/-- A neighbour serial reads as zero while its port is not UP (R102). -/
def nbrSerial (s : State) (p : Port) : Long := if portUp s p then (getPort s p).nbrSerial.getD 0 else 0

def pinWord (s : State) : Word :=
  match s.arch.pin with
  | some a => pack [(1, 31), (a.toNat, 0)]
  | none => 0

/-- The WEST neighbour serial of a claim, at a leaf its upstream chip's (R102, R429). -/
def westSerial (s : State) : Long := if mode s == .leaf then s.leaf.upSerial else nbrSerial s .west

/-- The EAST neighbour serial of a claim, at a leaf all ones (R102, R429). -/
def eastSerial (s : State) : Long := if mode s == .leaf then 0xFFFFFFFFFFFFFFFF else nbrSerial s .east

/-- The ENUM_CLAIM payload (R102). -/
def claimPayload (s : State) (epoch : Word) : List Byte :=
  wordBytes epoch ++ longBytes Config.serialFuses ++ longBytes (westSerial s) ++ longBytes (eastSerial s) ++
    wordBytes (pinWord s) ++ wordBytes (BitVec.ofNat 32 s.addr.addr.toNat)

/-- Step 6 of start-up has not ended: claim and JOIN wait for it, so that they carry the pin (R421). -/
def beforeChecks (s : State) : Bool := s.start.stage == 2 || s.start.stage == 4 || s.start.stage == 5 || s.start.stage == 6

/-- An enumeration starts: with reassign an unpinned node drops its address, and ENUM_CLAIM is queued once the self-test
has passed and step 6 has ended (R102, R103, R421). -/
def enumStart (s : State) (epoch : Word) (reassign : Bool) : State :=
  let drop := reassign && s.arch.pin.isNone
  let s := { s with
    addr := { s.addr with epoch := epoch, addr := if drop then 0xFFF else s.addr.addr } }
  if !(s.spine.selfTestPassed || mode s == .leaf) then s
  else if beforeChecks s then { s with start := { s.start with claimDue := some epoch } }
  else queueSpl s 2 (claimPayload s epoch)

/-- ENUM_START (R103). -/
def execEnumStart (splSeq epoch : Word) (reassign : Bool) (s : State) : Result :=
  actOnce s splSeq fun s => enumStart s epoch reassign

/-- An address a node may take (R104). -/
def takeable (a : BitVec 12) : Bool := a != 0x000 && a != 0xFFF

/-- The address a node takes from its entry: an address of 0x000 or 0xFFF is ignored; a pinned node takes its pin unless
the entry says pinconflict (R104). -/
def assignedAddress (s : State) (e : AssignEntry) : BitVec 12 :=
  if !takeable e.addr then s.addr.addr
  else
    match s.arch.pin with
    | some pin => if e.pinconflict then e.addr else pin
    | none => e.addr

/-- The next Delay_Req of each port falls at a random phase of the second (R169, R414). -/
def phaseDelayReq (s : State) : State :=
  let (a, s) := freeBelow s (second - 1)
  let (b, s) := freeBelow s (second - 1)
  { s with
    mantel := { s.mantel with
      east := { s.mantel.east with reqDue := s.now + a }
      west := { s.mantel.west with reqDue := s.now + b } } }

/-- The records of failed self-tests go to the EVENT reports that follow a JOIN (R417). -/
def tellUntold (s : State) : State := s.spine.untold.foldl queueEvent { s with spine := { s.spine with untold := [] } }

/-- JOIN queued; its tamper flag tells of events since the last JOIN (R103, R109). -/
def queueJoin (s : State) : State :=
  let s := queueReport s 0x0010 (joinPayload s)
  tellUntold { s with addr := { s.addr with tamperSinceJoin := false } }

/-- The node named in an entry takes its position and its address, and queues JOIN, before step 6 ends only then (R103, R104,
R421). -/
def takeEntry (s : State) (e : AssignEntry) : State :=
  let was := assigned s
  let a := assignedAddress s e
  let s := { s with
    addr := { s.addr with
      addr := a, pos := e.pos, pinConflict := s.arch.pin.isSome && e.pinconflict
      lastAddr := if a == 0xFFF then s.addr.lastAddr else a, lastPos := e.pos } }
  let s := if was then s else phaseDelayReq s
  let s := settleAdmit s
  if beforeChecks s then { s with start := { s.start with joinDue := true } } else queueJoin s

/-- ADDRESS_ASSIGN with 1 to 63 entries (R102, R104); a node named in none keeps its address and position. -/
def execAddressAssign (splSeq epoch : Word) (entries : List AssignEntry) (s : State) : Result :=
  if 1 ≤ entries.length && entries.length ≤ 63 then
    actOnce s splSeq fun s =>
      let s := { s with addr := { s.addr with epoch := epoch } }
      match entries.find? fun e => e.serial == Config.serialFuses with
      | some e => takeEntry s e
      | none => s
  else .next s

/-- RING_MAP with a count of 1 to 1,024 is stored (R79, R102). -/
def execRingMap (splSeq epoch : Word) (size : Nat) (inserted : List Bool) (s : State) : Result :=
  if 1 ≤ size && size ≤ 1024 then
    actOnce s splSeq fun s =>
      { s with
        spine := { s.spine with
          ringMap := some { epoch := epoch, size := size, inserted := inserted.take size } } }
  else .next s

/-! ### Runs and refusals (R72, R77, R79, R102) -/

def insertedAt (m : RingMap) (p : Nat) : Bool := m.inserted.getD (p - 1) false

/-- Consecutive bypassed positions going up from p, on fuel. -/
def bypassedUp (m : RingMap) : Nat → Nat → Nat
  | 0, _ => 0
  | n + 1, p => if 1 ≤ p && p ≤ m.size && !insertedAt m p then bypassedUp m n (p + 1) + 1 else 0

/-- Consecutive bypassed positions going down from p, on fuel. -/
def bypassedDown (m : RingMap) : Nat → Nat → Nat
  | 0, _ => 0
  | n + 1, p => if 1 ≤ p && p ≤ m.size && !insertedAt m p then bypassedDown m n (p - 1) + 1 else 0

/-- The run this node's own bypass would join: itself and the bypassed positions next to it (R79). -/
def ownRun (s : State) (m : RingMap) : Nat :=
  1 + bypassedUp m 1024 (s.addr.pos.toNat + 1) + bypassedDown m 1024 (s.addr.pos.toNat - 1)

/-- The own bypass would exceed the run limit of CFG_BYPASS (R79). Under policy 10 there is no limit. -/
def overLimit (s : State) : Option (Nat × Nat) :=
  match runLimit s, s.spine.ringMap with
  | some l, some m => if l < ownRun s m then some (ownRun s m, l) else none
  | _, _ => none

/-- The first cause that refuses a bypass, in the order 3, 2, 6, 4, 7, 1 (R102); past says T_w is past. -/
def bypassRefusal (s : State) (past : Bool) : Option Nat :=
  if !switchFitted s then some 3
  else if s.spine.stuck then some 2
  else if neverBypass s then some 6
  else if past then some 4
  else if (runLimit s).isSome && s.spine.ringMap.isNone then some 7
  else if (overLimit s).isSome then some 1
  else none

/-- SPL_ANSWER (R102). -/
def queueAnswer (s : State) (q stype : Word) (result : Nat) : State :=
  queueSpl s 6 (wordsBytes [q, stype, BitVec.ofNat 32 result])

/-- A run-limit refusal raises EVENT 0x0107 (R79, R112). -/
def raiseRun (s : State) : State :=
  match overLimit s with
  | some (run, l) => raise s 0x0107 (BitVec.ofNat 16 run) (BitVec.ofNat 32 l)
  | none => s

/-- Under CFG_BYPASS policy 10 a run of more than one bypassed node that the node's own bypass makes is reported only: EVENT 0x0107
with its length and no limit, 0. R40 does not say in which report the run appears (R40; log 87, DESIGN CHOICE). -/
def reportRun (s : State) : State :=
  match s.spine.ringMap with
  | some m =>
    if strapField s 7 1 0 == 2 && decide (1 < ownRun s m) then raise s 0x0107 (BitVec.ofNat 16 (ownRun s m)) 0 else s
  | none => s

/-- A SPLICE_WINDOW that names this node: held, replacing one of the same action, or refused (R77, R102). Only a leave
asks for a bypass, so only a leave meets the causes of R72 and R79; a T_w already past refuses either action. -/
def ownWindow (s : State) (q action : Word) (w : Window) : State :=
  let past := decide (w.tw < mNs s)
  let refusal := if action == 1 then bypassRefusal s past else if past then some 4 else none
  match refusal with
  | some r => queueAnswer (if r == 1 then raiseRun s else s) q 5 r
  | none =>
    let s := if action == 1 then { s with spine := { s.spine with leaveWin := some w } }
      else { s with spine := { s.spine with returnWin := some w } }
    queueAnswer s q 5 0

/-- SPLICE_WINDOW (R75, R77); an action other than 1 and 2 is malformed and does nothing (R102). -/
def execSpliceWindow (splSeq : Word) (target : Long) (pos : BitVec 16) (action : Word) (tw : Nat) (wUs : Word)
    (s : State) : Result :=
  if action == 1 || action == 2 then
    actOnce s splSeq fun s =>
      let w : Window := { tw := tw, len := wUs.toNat * usNs, seq := splSeq }
      if target == Config.serialFuses then ownWindow s splSeq action w
      else if !ringMode s then s
      else { s with spine := { s.spine with watched := s.spine.watched ++ [(pos, w)] } }
  else .next s

/-- The port that faces a spliced position: EAST when this node is the nearest inserted one on its lower side, WEST on its
upper side (R75). -/
def facingPort (s : State) (pos : Nat) : Option Port :=
  let me := s.addr.pos.toNat
  match s.spine.ringMap with
  | none => if me + 1 == pos then some .east else if me == pos + 1 then some .west else none
  | some m =>
    if me < pos && me + 1 + bypassedDown m 1024 (pos - 1) == pos then some .east
    else if pos < me && pos + 1 + bypassedUp m 1024 (pos + 1) == me then some .west
    else none

/-- A port that faces a spliced position holds fast-acquire until the window's end, or the later end of one it holds (R75). -/
def holdWindow (s : State) (w : Half × Window) : State :=
  match facingPort s w.1.toNat with
  | some p =>
    let x := getPort s p
    setPort s p { x with windowEnd := some (max (x.windowEnd.getD 0) (w.2.tw + w.2.len)), fastNow := x.fastNow || x.st == .acquire }
  | none => s

/-- The W that a return needs for the RTC's drift over d ns: 2 x (100 ppm x d + 61 us) + 1 ms; 100 ppm of d in whole ns, rounded
down, a precision that R76 does not state (R76; log 116, DESIGN CHOICE). -/
def neededWindow (d : Nat) : Nat := 2 * (d / 10000 + 61 * usNs) + msNs

/-- A head-requested bypass begins: GSP with cause 0x06, LEAVE, and BYP_HOLD low (R71, R77). A return window too short for
the time bridged makes the return uncoordinated (R76). -/
def leaveRing (s : State) : State :=
  let s := sendLeave (sendGsp (reportRun s) 6)
  let s := { releaseByp s with
    spine := { (releaseByp s).spine with
      leaveWin := none, leftAt := some s.now, selfTestDue := some (s.now + 10 * second) } }
  match s.spine.returnWin with
  | none => s
  | some r =>
    let d := r.tw + r.len / 2 - mNs s
    { s with power := { s.power with uncoordinated := decide (r.len < neededWindow d) } }

/-- The earliest T_w that the node waits for. -/
def nextWindowStart (s : State) : Option Nat :=
  ((match s.spine.leaveWin with | some w => [w.tw] | none => []) ++ s.spine.watched.map fun w => w.2.tw).min?

/-- At T_w the target releases BYP_HOLD for a leave, and facing nodes hold fast-acquire (R75). -/
def execSpliceWindowStart (s : State) : Result :=
  match nextWindowStart s with
  | none => .next s
  | some t =>
    if !splHeard s then .next s
    else
      let s := advanceToMantel s t
      let now := s.spine.watched.filter fun w => w.2.tw == t
      let s := { s with spine := { s.spine with watched := s.spine.watched.filter fun w => w.2.tw != t } }
      let s := now.foldl holdWindow s
      match s.spine.leaveWin with
      | some w => if w.tw == t then .next (leaveRing s) else .next s
      | none => .next s

/-- The return from a leave: BYP_HOLD high when the other conditions of R71 hold (R77). -/
def returnRing (s : State) (w : Window) : State :=
  let s := raiseUncoordinated s w.len
  let s := { s with spine := { s.spine with leftAt := none, returnWin := none } }
  if insertAllowed s then setByp s true else s

/-- At T_w + W/2 by its own clock the node drives BYP_HOLD high: Mantel's after a leave (R77), the Cellar RTC's after S4
(R75, R405). R77 is silent on a return window whose middle has passed when the leave begins: the node returns at once (log 19,
DEDUCED). -/
def execSpliceReturn (s : State) : Result :=
  if !splHeard s then .next s
  else
    match s.spine.leftAt, s.spine.returnWin, s.cellar.rtcAlarm with
    | some _, some w, _ => .next (returnRing (advanceToMantel s (w.tw + w.len / 2)) w)
    | none, _, some a =>
      if !awaitsReturn s then .next s
      else
      let s := advanceTo s (s.now + rtcWait s (a + 690 * msNs))
      let s := { s with cellar := { s.cellar with rtcAlarm := none } }
      .next (if insertAllowed s then setByp s true else s)
    | _, _, _ => .next s

/-- A port whose window ends returns to normal acquisition; one still down is reported as a break (R75, R81). -/
def endWindow (s : State) (p : Port) : State :=
  let x := getPort s p
  match x.windowEnd with
  | none => s
  | some e =>
    if mNs s < e then s
    else
      let y : PortS := { x with windowEnd := none, inWindow := x.inWindow && x.st == PortState.up }
      let s := setPort s p { y with fastNow := y.fastNow && fastHeld s y }
      if x.st == .up then s else queueLink s 2

/-- At T_w + W (R75). A return window of the node's own that passed unused is held no longer. -/
def execSpliceWindowEnd (s : State) : Result :=
  match (s.spine.east.windowEnd.toList ++ s.spine.west.windowEnd.toList).min? with
  | none => .next s
  | some t => if splHeard s then .next (endWindow (endWindow (advanceToMantel s t) .east) .west) else .next s

end Sys2Proof.Machine
end

