-- ==== Sys2Proof/Machine/Show.lean ====
section
/-! DEFINITION. The show: fade shapes and progress, the level, the cues that fire at a render point, the target and its overlays, the slate cache, and the legacy level (R239 to R261, R353 to R355, R357, R360, R362). -/

namespace Sys2Proof.Machine

open Sys2Proof

/-! ### Fades (R249 to R251) -/

/-- A fade's shape applied to its progress (R249). -/
def shapeValue (curves : List (List Half)) (shape x16 : Nat) : Nat :=
  if 65536 ≤ x16 then 65536
  else if shape = 0 then x16
  else if shape = 1 then rdivN (3 * x16 ^ 2 * 65536 - 2 * x16 ^ 3) (2 ^ 32)
  else rdivN (clampE (readTable (tableWord curves (shape - 2)) x16)) 256

def sourceX16 (f : SourceFade) (seam : Nat) : Nat := progress f.start seam f.ms

def levelX16 (f : LevelFade) (seam : Nat) : Nat := progress f.start seam f.ms

/-- The arc position of a mode 1 fade at shape value v, in 8.8 form (R251). -/
def arcBetween (n0 target v : Nat) : Nat := ((n0 : Int) + rdiv (((256 * target : Nat) - (n0 : Int)) * v) 65536).toNat

/-- The level of a fade at shape value v, with its arc position in mode 1 (R251). -/
def levelBetween (f : LevelFade) (v : Nat) : Nat × Option Nat :=
  if f.mode = 1 then (arcFraction (arcBetween f.n0 f.target v), some (arcBetween f.n0 f.target v))
  else (((f.l0 : Int) + rdiv (((f.target : Int) - f.l0) * v) 65536).toNat, none)

/-- The level a cue's target stands for: U1.15 in mode 0, an arc level in mode 1 (R251, R253). -/
def targetLevel (mode target : Nat) : Nat := if mode = 1 then arcLevel target else target

/-- The arc position a mode 1 fade starts from: the one in force when the level was last set in mode 1, else the smallest
whole arc level whose level is at least the level in force (R251). -/
def arcStart (s : State) : Nat :=
  match s.screen.arc with
  | some a => a
  | none => 256 * arcAtLeast s.screen.lambda 254 0

/-- The level moved on to a frame seam; at progress 65,536 the fade ends (R251). -/
def levelTo (s : State) (seam : Nat) : State :=
  match s.screen.level with
  | none => s
  | some f =>
    let x := levelX16 f seam
    let (lam, arc) := levelBetween f (shapeValue s.bindery.curves f.shape x)
    { s with
      screen := { s.screen with
        lambda := lam, arc := arc, level := if 65536 ≤ x then none else some f } }

/-- A level cue's fade starts at a frame seam, whose level is the fade's own at progress 0; a target already on light, or a time of
0, leaves the level at its target (R251, R254). -/
def startLevel (s : State) (seam mode target ms shape : Nat) : State :=
  let l1 := targetLevel mode target
  let n0 := arcStart s
  let sc := { s.screen with mode := mode, lambdaTarget := l1 }
  if ms = 0 ∨ (s.screen.level.isNone ∧ s.screen.lambda = l1) then
    { s with
      screen := { sc with level := none, lambda := l1, arc := if mode = 1 then some (256 * target) else none } }
  else
    levelTo (countShow { s with
      screen := { sc with
        level := some { mode := mode, l0 := s.screen.lambda, n0 := n0, target := target, start := seam, ms := ms
                        shape := shape } } } 3) seam

/-- The level as though its fade had ended (R252, R256). -/
def endLevel (s : State) : State :=
  match s.screen.level with
  | none => s
  | some f =>
    { s with
      screen := { s.screen with
        level := none, lambda := targetLevel f.mode f.target
        arc := if f.mode = 1 then some (256 * f.target) else none } }

/-- The source fade moved on to a frame seam: its mix, and its end at progress 65,536 (R250). -/
def sourceTo (s : State) (seam : Nat) : State :=
  match s.screen.fade with
  | none => { s with screen := { s.screen with alpha := 0 } }
  | some f =>
    let x := sourceX16 f seam
    if 65536 ≤ x then { s with screen := { s.screen with picture := f.target, fade := none, alpha := 0 } }
    else { s with screen := { s.screen with alpha := shapeValue s.bindery.curves f.shape x } }

/-- The source fade ended early: its target is the picture source, and EVENT 0x0604 is raised (R240, R252, R258). -/
def cutSource (s : State) (cause : Nat) : State :=
  match s.screen.fade with
  | none => s
  | some f =>
    let s := countShow s 2
    raise { s with screen := { s.screen with picture := f.target, fade := none } } 0x0604 (BitVec.ofNat 16 cause)
      (BitVec.ofNat 32 s.screen.alpha)

/-! ### The programme (R240, R242) -/

/-- The programme set at a frame seam: the feed-loss timer runs while it is STREAM, and restarts at the seam that makes it
so (R202, R242). -/
def setProgramme (s : State) (p : Source) (seam : Nat) : State :=
  let s' := { s with screen := { s.screen with programme := p } }
  if p == .stream then
    if s.screen.programme == .stream then s'
    else { s' with
      larder := { s.larder with
        feedStopped := s.larder.fstate != .live, feedRestart := s.now + (seam - mNs s) } }
  else { s' with larder := { s.larder with feedStopped := true } }

/-! ### Cues (R179 to R181, R253 to R256) -/

/-- What the cues of one render point leave to do: the time and shape of the standing source cue, the standing level cue, and
the tolerance applied after every cue. -/
structure Fired where
  src : Option (Nat × Nat)
  level : Option (Nat × Nat × Nat × Nat)
  tol : Option Nat
  deriving DecidableEq, Repr

def Fired.nothing : Fired := { src := none, level := none, tol := none }

/-- A standing source cue's time and shape: action 0 is a cut (R241, R254). -/
def sourceCause (b : List Byte) : Nat × Nat := if cueAction b = 0 then (0, 0) else (cueFade b, cueShape b)

/-- The standing values after a cue that succeeds (R256). -/
def standingAfter (v : Standing) (b : List Byte) : Standing :=
  match cueAction b with
  | 0 | 1 => { v with programme := .slate (cueSlate b) }
  | 2 =>
    { v with
      mode := cueMode b, target := cueLevel b
      arc := if cueMode b = 1 then 256 * cueLevel b else 256 * arcAtLeast (cueLevel b) 254 0 }
  | 3 => { v with programme := .stream }
  | _ => v

/-- A cue of action 0 or 1 that names a slate not stored (R254). -/
def cueLacks (s : State) (b : List Byte) : Bool := decide (cueAction b ≤ 1) && !slateStored s (cueSlate b)

/-- The programme a successful source cue selects at the seam (R254). -/
def fireProgramme (s : State) (b : List Byte) (seam : Nat) : State :=
  match cueAction b with
  | 0 | 1 => setProgramme s (.slate (cueSlate b)) seam
  | 3 => setProgramme s .stream seam
  | _ => s

/-- What a successful cue adds to the work of its render point (R181, R240, R254). -/
def Fired.add (f : Fired) (b : List Byte) : Fired :=
  match cueAction b with
  | 0 | 1 | 3 => { f with src := some (sourceCause b) }
  | 2 => { f with level := some (cueMode b, cueLevel b, cueFade b, cueShape b) }
  | _ => { f with tol := some (wordAt b 20).toNat }

/-- One cue fires: its result, the standing values and its completion record in one Archive write (R126, R254, R256). -/
def fireCue (seam : Nat) (a : State × Fired) (c : ArmedCue) : State × Fired :=
  let s := a.1
  let late := c.late
  match s.hall.entries.find? fun e => e.no == c.no with
  | none => a
  | some e =>
    let b := e.msg.body
    let s := { s with
      mantel := { s.mantel with
        counts := if late then bump (bump s.mantel.counts 9) 10 else bump s.mantel.counts 9 } }
    if cueLacks s b then
      let s := raise s 0x0602 (BitVec.ofNat 16 (cueSlate b)) c.seq
      (complete (countShow s 4) { chan := c.chan, seq := c.seq, no := c.no, result := 6, answers := [], key := none }, a.2)
    else
      let s := fireProgramme s b seam
      let s := { s with arch := { s.arch with standing := standingAfter s.arch.standing b } }
      (complete s { chan := c.chan, seq := c.seq, no := c.no, result := if late then 5 else 0, answers := [], key := none },
        a.2.add b)

/-- A cue of the last replay whose time has passed runs at the first frame seam after first light (R132, R415). -/
def waitsReplayed (s : State) (c : ArmedCue) : Bool := c.late && decide (c.no < s.start.replayNo)

/-- The cues due at a render point of a seam: T at or before it, or late. At first light a late cue of the replay waits for the next
frame seam (R132, R179, R180, R415). -/
def dueCues (s : State) (seam : Nat) (first : Bool) : List ArmedCue :=
  s.mantel.cues.filter fun c => (c.late || decide (c.t ≤ seam)) && !(first && waitsReplayed s c)

/-- Armed cues stand in acceptance order (R181). -/
def insertCue (c : ArmedCue) : List ArmedCue → List ArmedCue
  | [] => [c]
  | x :: xs => if c.no < x.no then c :: x :: xs else x :: insertCue c xs

/-- The cues due fire in acceptance order; the tolerance is set after them all (R181, R254). -/
def fireCues (s : State) (seam : Nat) (first : Bool) : State × Fired :=
  let due := dueCues s seam first
  let s := { s with mantel := { s.mantel with cues := s.mantel.cues.filter fun c => !due.contains c } }
  let r := due.foldl (fireCue seam) (s, Fired.nothing)
  match r.2.tol with
  | none => r
  | some t => ({ r.1 with arch := { r.1.arch with tolUs := t } }, r.2)

/-! ### The restore of the show (R256) -/

def sourceCode : Source → Nat
  | .slate n => n
  | .stream => 12
  | .dark => 13

/-- The legacy port rules the programme of a standalone node that it serves (R354, R360). -/
def legacyRules (s : State) : Bool := mode s == .standalone && legacyUse s != .off

/-- The journal's values applied as though every fade had ended, with EVENT 0x0605 (R256); where the legacy port rules the programme,
it alone sets it (R354, R360; log 67). -/
def restoreShow (s : State) (seam : Nat) : State :=
  let v := s.arch.standing
  let s := { s with start := { s.start with restoreDue := false } }
  let s := if legacyRules s then s else setProgramme s v.programme seam
  let lam := targetLevel v.mode v.target
  let s := countShow { s with
    screen := { s.screen with
      level := none, lambda := lam, lambdaTarget := lam, mode := v.mode
      arc := if v.mode = 1 then some v.arc else none } } 11
  raise s 0x0605 (BitVec.ofNat 16 (sourceCode v.programme)) (BitVec.ofNat 32 lam)

/-! ### The legacy port's part (R353 to R355, R359, R360, R362) -/

def standalone (s : State) : Bool := mode s == .standalone

/-- The source of a slate select slot (R353). -/
def slateSelect (v : Nat) : Source := if 8 ≤ v ∧ v < 248 then .slate ((v - 8) / 20) else .dark

/-- Slate 0, or DARK when it is not stored (R354, R360). -/
def slateZero (s : State) : Source := if slateStored s 0 then .slate 0 else .dark

/-- The DALI arc position at a frame seam, 8.8: a mode 1 fade of shape 0 (R251, R359). -/
def daliArc (s : State) (seam : Nat) : Nat :=
  let l := s.legacy
  if l.daliPending then l.daliFrom else arcBetween l.daliFrom l.daliTarget (progress l.daliFadeStart seam l.daliFadeMs)

/-- A DALI fade runs at a frame seam. -/
def daliFading (s : State) (seam : Nat) : Bool :=
  let l := s.legacy
  l.daliPending || decide (progress l.daliFadeStart seam l.daliFadeMs < 65536)

/-- The DALI actual level at a frame seam; a fade not yet begun begins there (R359, R367). -/
def daliTo (s : State) (seam : Nat) : State :=
  if legacyUse s == .dali then
    let l := s.legacy
    let s := if l.daliPending then
        { s with legacy := { l with daliPending := false, daliFadeStart := seam } } else s
    { s with legacy := { s.legacy with daliActual := daliArc s seam / 256 } }
  else s

/-- The level set at once in mode 0, with no fade (R354, R433). -/
def setLevel (s : State) (lam : Nat) : State :=
  { s with screen := { s.screen with level := none, lambda := lam, lambdaTarget := lam, mode := 0, arc := none } }

/-- The programme of a standalone node, with EVENT 0x0A07 when slate 0 turns out not stored (R354, R360). -/
def legacyProgramme (s : State) (p : Source) (seam : Nat) : State :=
  if s.screen.programme == p then s
  else
    let s := setProgramme s p seam
    if p == .dark && legacyUse s == .dali then raise s 0x0A07 0 0 else s

/-- The slate not stored that a source names. -/
def missingSlate (s : State) : Source → Option Nat
  | .slate n => if slateStored s n then none else some n
  | _ => none

/-- A selection of a slate not stored changes nothing, as a cue that names one does; its EVENT 0x0602, which has no sequence, is raised
once for as long as the selection stands (R254, R354; log 67). -/
def refuseSelect (s : State) (n : Nat) : State :=
  if s.legacy.slateTold == some n then s
  else
    let (v, s) := freeValue { s with legacy := { s.legacy with slateTold := some n } }
    raise (countShow s 4) 0x0602 (BitVec.ofNat 16 n) (BitVec.ofNat 32 v)

/-- The programme of the newest packet, with the time of its change (R354, R355). -/
def dmxProgramme (s : State) (seam : Nat) : State × Option (Nat × Nat) :=
  let l := s.legacy
  let p := if l.readAs = 3 then slateSelect l.slateSel else slateZero s
  let ms := if l.afterLoss || l.readAs != 3 then 0 else 100 * l.fadeSlot
  let changed := s.screen.programme != p || l.afterLoss
  match missingSlate s p with
  | some n => (refuseSelect s n, none)
  | none =>
    (legacyProgramme { s with legacy := { s.legacy with slateTold := none } } p seam, if changed then some (ms, 0) else none)

/-- A standalone DMX node applies its newest valid packet: the level and, after first light, which shows the AWAIT picture, the
programme (R354, R355, R415). -/
def applyDmx (s : State) (seam : Nat) (first : Bool) : State × Option (Nat × Nat) :=
  if !s.legacy.dmxSeen then (s, none)
  else
    let s := setLevel s s.legacy.dmxLevel
    if first then (s, none)
    else
      let (s, src) := dmxProgramme s seam
      ({ s with legacy := { s.legacy with afterLoss := false } }, src)

/-- A standalone DALI node shows slate 0 at its actual arc level, and at first light the AWAIT picture (R360, R415). -/
def applyDali (s : State) (seam : Nat) (first : Bool) : State :=
  let a := daliArc s seam
  let s := { s with
    screen := { s.screen with
      level := none, lambda := arcFraction a, lambdaTarget := arcLevel s.legacy.daliTarget, mode := 1, arc := some a } }
  if first then s else legacyProgramme s (slateZero s) seam

/-- The legacy port at a render point: it rules a standalone node, and only gives a level elsewhere (R354, R360, R362). -/
def applyLegacy (s : State) (seam : Nat) (first : Bool) : State × Option (Nat × Nat) :=
  let s := daliTo s seam
  if standalone s then
    match legacyUse s with
    | .dmxRdm | .dmx => applyDmx s seam first
    | .dali => (applyDali s seam first, none)
    | .off => (s, none)
  else (s, none)

/-- The legacy level at a frame seam: the DMX level, or that of the DALI actual arc level; a loss sets the DMX level to 0 (R249,
R355, R362). -/
def legacyLevel (s : State) (seam : Nat) : Nat :=
  match legacyUse s with
  | .dmxRdm | .dmx => if s.legacy.lost then 0 else s.legacy.dmxLevel
  | .dali => arcFraction (daliArc s seam)
  | .off => 0

/-- The house level of the ring modes at a frame seam (R362). -/
def houseLevel (s : State) (seam : Nat) : Nat :=
  if standalone s || !s.legacy.blk.allow then 0 else min (legacyLevel s seam) s.legacy.blk.cap

/-! ### The target and its overlays (R240, R241, R246) -/

/-- A standalone DMX node whose data is lost applies the loss policy (R355). -/
def legacyLoss (s : State) : Bool := standalone s && s.legacy.lost && s.legacy.dmxSeen

/-- The overlay of a render point: 0 none, 1 AWAIT, 2 loss (R240, R259). -/
def overlayAt (s : State) (rendered : Bool) : Nat :=
  if legacyLoss s then 2
  else if s.screen.programme == .stream && !rendered then
    match s.larder.fstate with
    | .await => 1
    | .live => 0
    | .lost => 2
  else 0

/-- The hold time of policy 3 has ended; a standalone node counts it from its 1.25 s of loss (R203, R355). -/
def holdOver (s : State) : Bool :=
  if legacyLoss s then decide (s.legacy.lastValid + 1250 * msNs + s.larder.feed.holdS * second ≤ s.now)
  else s.larder.holdEnded

/-- The loss picture of the policy in force, with its fade time; a held picture has none. Dark comes at a frame
seam, as R203 says, where R45 says a refresh seam (R203, R240, R241; log 106, DEDUCED). -/
def lossPicture (s : State) : Option (Source × Nat) :=
  match s.larder.feed.policy with
  | 0 => none
  | 1 =>
    if slateStored s s.larder.feed.slate then some (.slate s.larder.feed.slate, s.larder.feed.fadeMs)
    else some (.dark, 0)
  | 2 => some (.dark, 0)
  | _ => if holdOver s then some (.dark, 0) else none

/-- The target of a render point with the time and shape of its change, under the standing source cue's; the AWAIT overlay itself
cuts, at first light (R240, R241). DESIGN CHOICE: a loss picture that a new policy 0 or 3 takes back is cut (log 124), and a STREAM
cue that fires in LOST under policy 1 or 2 takes the policy's time (log 125); no row of R241 settles either. -/
def targetAt (s : State) (overlay seam : Nat) (src : Option (Nat × Nat)) : Source × Nat × Nat :=
  let own := (s.screen.programme, src.getD (0, 0))
  match overlay with
  | 0 => own
  | 1 => (if slateAtStart s then slateZero s else .dark, if s.screen.firstSeam == some seam then (0, 0) else src.getD (0, 0))
  | _ =>
    match lossPicture s with
    | some (p, ms) => (p, (ms, 0))
    | none => own

/-- The EVENTs of a slate an overlay names that is not stored: 0x0601 once a start-up, 0x0404 once a loss (R203, R246). -/
def overlayEvents (s : State) (overlay : Nat) : State :=
  if overlay = 1 && slateAtStart s && !slateStored s 0 && !s.start.startupSlateReported then
    raise { s with start := { s.start with startupSlateReported := true } } 0x0601 0 0
  else if overlay = 2 && s.larder.feed.policy = 1 && !slateStored s s.larder.feed.slate && !s.larder.lossSlateTold then
    raise { s with larder := { s.larder with lossSlateTold := true } } 0x0404 (BitVec.ofNat 16 s.larder.feed.slate) 0
  else s

/-- The source that the show holds or moves to (R240). -/
def pictureGoal (s : State) : Source :=
  match s.screen.fade with
  | some f => f.target
  | none => s.screen.picture

/-- A source fade, or a cut, to a target at a seam (R240, R250). -/
def startSource (s : State) (target : Source) (seam ms shape : Nat) : State :=
  if ms = 0 then countShow { s with screen := { s.screen with picture := target, fade := none, alpha := 0 } } 1
  else countShow { s with
    screen := { s.screen with
      alpha := 0, fade := some { target := target, start := seam, ms := ms, shape := shape } } } 0

/-- The choice of R240 at a render point, with the standing source cue's time and shape. -/
def chooseTarget (s : State) (seam : Nat) (rendered : Bool) (src : Option (Nat × Nat)) : State :=
  let overlay := overlayAt s rendered
  let s := overlayEvents s overlay
  let was := s.screen.overlay
  let s := if overlay ≠ 0 ∧ overlay ≠ was then countShow s 10 else s
  let s := { s with screen := { s.screen with overlay := overlay } }
  let (target, ms, shape) := targetAt s overlay seam src
  if target == pictureGoal s then s
  else
    let cause := if src.isSome then 1 else if rendered && was != 0 then 3 else 4
    startSource (cutSource s cause) target seam ms shape

/-! ### Lanes and the slate cache (R239, R244, R245) -/

/-- A slate is read from the shadow while its commit copy runs (R244). -/
def slateInCopy (s : State) (n : Nat) : Bool :=
  match s.arch.copying with
  | some (t, _, _) => t.cls == 1 && t.index.toNat == n
  | none => false

/-- What a lane reads of a source (R239). -/
def laneOf (s : State) : Source → LaneSrc
  | .slate n => .slate n (slateInCopy s n)
  | .stream => match currentSlot s with | some k => .slot k | none => .dark
  | .dark => .dark

/-- The slate of a source, if it is one. -/
def slateOf : Source → Option Nat
  | .slate n => some n
  | _ => none

/-- The slates the two cache entries hold (R245). -/
def cacheWants (s : State) : Option Nat × Option Nat :=
  let goal := s.screen.fade.bind fun f => slateOf f.target
  let w0 := if goal.isSome then goal else slateOf s.screen.picture
  let named := s.mantel.cues.filterMap fun c =>
    match s.hall.entries.find? fun e => e.no == c.no with
    | some e => if cueAction e.msg.body ≤ 1 && some (cueSlate e.msg.body) != w0 then some (c.t, cueSlate e.msg.body) else none
    | none => none
  let first := named.foldl (fun (a : Option (Nat × Nat)) c =>
    match a with
    | some x => if c.1 < x.1 then some c else a
    | none => some c) none
  let w1 := match first with
    | some c => some c.2
    | none =>
      if s.larder.feed.policy = 1 then some s.larder.feed.slate
      else if s.larder.fstate == .await && slateAtStart s then some 0 else none
  (w0, w1)

/-- A cache entry after its wanted slate is judged: a change starts a fill (R245). -/
def wantEntry (s : State) (e : CacheEntry) : Option Nat → CacheEntry
  | none => { slate := 15, st := 0 }
  | some n =>
    if e.slate = n ∧ e.st ≠ 0 then e else { slate := n, st := if slateStored s n then 1 else 0 }

/-- The slate cache judged anew; the gathered heads have none (R48, R245). -/
def judgeCache (s : State) : State :=
  if mode s == .head then s
  else
    let (w0, w1) := cacheWants s
    let e0 := s.screen.cache.getD 0 { slate := 15, st := 0 }
    let e1 := s.screen.cache.getD 1 { slate := 15, st := 0 }
    { s with screen := { s.screen with cache := [wantEntry s e0 w0, wantEntry s e1 w1] } }

/-- A slate wholly valid in the cache (R245). -/
def cached (s : State) (n : Nat) : Bool := s.screen.cache.any fun e => e.slate == n && e.st == 2

/-- The counts of a pass that reads a lane: a cache miss, or a read of the shadow, both from the Archive (R237, R244, R245, R260). -/
def countLane (s : State) : LaneSrc → State
  | .slate _ true => countBindery (countShow s 7) 10 1
  | .slate n false => if cached s n then s else countBindery (countShow s 6) 10 1
  | _ => s

/-- A fill of a cache entry ends: entry 1 when the flag is set (R245). -/
def execSlateCacheFill (entry : Bool) (s : State) : Result :=
  let i := bit entry
  let e := s.screen.cache.getD i { slate := 15, st := 0 }
  if coreOn s && e.st == 1 then
    .next (countShow { s with screen := { s.screen with cache := s.screen.cache.set i { e with st := 2 } } } 5)
  else .next s

/-! ### Cues armed (R123, R179, R253) -/

/-- A CUE at dispatch is armed on the cue wheel; armed while time is not valid it waits (R123, R179, R180). An
armed cue may want its slate in the cache (R245). -/
def armCue (m : Msg) (s : State) : State :=
  let t := timeAt m.body 4
  let c : ArmedCue :=
    { chan := m.chan, seq := m.seq, no := m.no, t := t
      late := timeValid s.mantel && decide (t * 2 ^ 32 < s.mantel.p) }
  let s := markDispatched s m.no true
  judgeCache { s with mantel := { s.mantel with cues := insertCue c s.mantel.cues } }

/-- CUE (R123, R179, R253). -/
def execCue (s : State) : Result := dispatch s 0x0010 armCue

/-! ### Steps (R175, R252) -/

/-- A re-anchor ends every fade at its target (R252). -/
def reanchorShow (s : State) : State := judgeCache (endLevel (cutSource s 2))

end Sys2Proof.Machine
end

