-- ==== Sys2Proof/Machine/Reset.lean ====
section
/-! DEFINITION. What leaves nothing running: dark forcing, the persisting of wear, the ordered stop, and what a reset keeps and loses (R374, R382, R383, R386, R411 to R413). -/

namespace Sys2Proof.Machine

open Sys2Proof

def countPress (s : State) (i : Nat) : State := { s with press := { s.press with counts := bump s.press.counts i } }

def countCellar (s : State) (i : Nat) : State := { s with cellar := { s.cellar with counts := bump s.cellar.counts i } }

/-! ### Dark forcing (R374, R303) -/

/-- The causes of dark forcing: 1 PCLK loss, 2 Cellar watchdog, 3 power fail (R374). -/
def setDark (c : Cellar) (cause : Nat) (on : Bool) : Cellar :=
  match cause with
  | 1 => { c with darkPclk := on }
  | 2 => { c with darkWatchdog := on }
  | _ => { c with darkPower := on }

/-- The Cellar forces dark for a cause: one forcing while any cause holds (R395), with its EVENT, its counts and the alarm to
the peers (R303, R305, R335, R374, R394). -/
def forceDark (s : State) (cause : Nat) : State :=
  let was := cellarDark s
  let s := rowCutOff { s with cellar := setDark s.cellar cause true }
  if was then s
  else
    let s := countPress (countCellar s 4) 30
    queueAlarm (raiseCellar s 0x070B 1 (BitVec.ofNat 32 cause)) 2 0xFF

/-- A cause of dark forcing ends. With the last one the Cellar releases: EVENT 0x070B, the residues are preset, and the outputs
stay dark until a refresh seam (R271, R279, R303, R374). -/
def releaseDark (s : State) (cause : Nat) : State :=
  let was := cellarDark s
  let s := { s with cellar := setDark s.cellar cause false }
  if was && !cellarDark s then
    raiseCellar { s with press := { s.press with residues := [] }, prot := { s.prot with resumeAtSeam := true } }
      0x070B 0 (BitVec.ofNat 32 cause)
  else s

/-! ### Lit time and wear (R382, R383, R389) -/

/-- The show is lit from now on, or no longer: lit time is S0 with a show that is not dark (R383). -/
def noteLit (s : State) (lit : Bool) : State :=
  let a := s.arch
  match a.litFrom, lit with
  | none, true => { s with arch := { a with litFrom := some s.now } }
  | some t, false => { s with arch := { a with litFrom := none, litNs := a.litNs + (s.now - t) } }
  | _, _ => s

/-- The case page hours brought up to now (R383, R389). -/
def updateHours (s : State) : State :=
  let a := s.arch
  let powered := (s.now - a.poweredFrom) / second
  let lit := a.litNs + (match a.litFrom with | some t => s.now - t | none => 0)
  { s with
    arch := { a with
      secondsPowered := a.secondsPowered + powered, poweredFrom := a.poweredFrom + powered * second
      secondsLit := a.secondsLit + lit / second, litNs := lit % second
      litFrom := a.litFrom.map fun _ => s.now
      rtcAtPersist := BitVec.ofNat 32 (rtcSeconds s) } }

/-- A persist of every integral begins; it ends within 1 ms, at an instant left open (R383; log 3). -/
def beginPersist (s : State) : State :=
  let (n, s) := freeBelow (updateHours s) msNs
  { s with
    arch := { s.arch with wearSaved := s.arch.wear, wearOld := s.arch.wearSaved, persistEnd := s.now + n }
    bindery := { s.bindery with recomputeDue := true } }

/-- A persist that stops between two of its 32 bursts of 240 words, two emitters to a word: the words written hold their new
values, the others their old ones (R383, R384, R395; how many are written is open, log 3). -/
def cutPersist (s : State) : State :=
  if s.now < s.arch.persistEnd then
    let (k, s) := freeBelow s 32
    let n := 480 * k
    { s with
      arch := { s.arch with
        wearSaved := s.arch.wearSaved.take n ++ List.replicate (n - s.arch.wearSaved.length) 0 ++ s.arch.wearOld.drop n
        persistEnd := 0 } }
  else s

/-- The integrals and the hours persisted, in 32 bursts of 240 words: EVENT 0x0B08 with its cause, 0 hourly, 1 S3 entry, 2 S4
entry, and a recompute of the wear gains to follow (R227, R383, R392). ARCH refuses it while it takes no burst (R406), and none starts
after a power-fail detect (R395). -/
def persistWear (s : State) (cause : Nat) : State :=
  if !archiveOpen s || s.cellar.failAt.isSome then s else raise (beginPersist s) 0x0B08 (BitVec.ofNat 16 cause) 7680

/-! ### The ordered stop (R130, R413) -/

/-- Every open journal write finishes: the entry is in the journal (R130, R413). Its audit entry is rebuilt at the start-up that
follows (R158). -/
def finishWrite (s : State) : State :=
  match s.hall.writing with
  | some m => commitEntry s m
  | none => s

/-- The Hall stops judging and starts no write (R386, R413). -/
def stopHall (s : State) : State := { s with hall := { s.hall with powerFail := true } }

/-- The ordered stop: open writes finish, then LEAVE on each port and BYP_HOLD low in the ring modes (R413). -/
def orderedStop (s : State) : State :=
  let s := finishWrite (stopHall s)
  if ringMode s && ringOn s then setByp (sendLeave s) false else setByp s false

/-! ### Reset (R412) -/

/-- The journal part of the Hall, which every reset keeps (R128, R412); the held messages are lost (R122). The archive_lost flag goes
too, as what R412 does not name: R8 has the loss reported at ring join, and neither says what a reset before that JOIN does to it
(log 114, DESIGN CHOICE). The loss of the keys sets it again at each start-up (R378). -/
def journalKept (h : Hall) : Hall :=
  { Hall.reset with
    channels := h.channels.map fun c => { c with held := [] }
    entries := h.entries, summaries := h.summaries, nextNo := h.nextNo, overwritten := h.overwritten
    auditedThrough := h.auditedThrough }

/-- What CELL keeps: RTC, tamper, cell state, the reader's session and the challenge counter; the census counts of section 0x0B
clear at start-up (R394, R412). -/
def cellKept (c : Cellar) (cause : ResetCause) : Cellar :=
  { c with
    cause := some cause, watchdogArmed := false, warned := false, darkPclk := false, darkWatchdog := false
    darkPower := false, failAt := none, isolated := false, counts := zeros 14 }

/-- The Archive across a reset: every region is kept. Wear counted since the last persist is lost, and so is the working part of
the case page hours (R383, R412). -/
def archiveKept (s : State) : Archive :=
  { s.arch with wear := s.arch.wearSaved, wearRest := [], litFrom := none, litNs := 0, poweredFrom := s.now
                loggedThisSecond := 0 }

/-- The record that four words of a DEFECT report hold (R321). -/
def defectRead (p : List Byte) (at' : Nat) : DefectRec :=
  let w := wordAt p at'
  let level := wordAt p (at' + 12)
  { kind := BitVec.ofNat 4 (field w 31 28), unmapped := w.getLsbD 27, paired := w.getLsbD 26
    row := BitVec.ofNat 8 (field w 23 16), sink := BitVec.ofNat 8 (field w 7 0), tsec := wordAt p (at' + 4), tns := wordAt p (at' + 8)
    level := BitVec.ofNat 16 (field level 31 16), mapped := BitVec.ofNat 16 (field level 15 0) }

/-- The records of the DEFECT reports of which no copy has left (R326). -/
def unsentDefects (s : State) : List DefectRec :=
  ((s.larder.reports ++ s.larder.waiting).filter fun f =>
      f.kind == 3 && f.spec == 0x0030 && f.leafSrc.isNone && !f.left).flatMap fun f =>
    (List.range (wordAt f.payload 0).toNat).map fun k => defectRead f.payload (4 + 16 * k)

/-- The Collator across a reset: its declarations whose DEFECT has not left are gathered, and reported after the restart (R318, R326;
log 100, DEDUCED). -/
def collKept (s : State) : Collator :=
  let unsent := unsentDefects s
  { Collator.reset with
    gathered := unsent.map (fun r => (s.now, r)) ++ s.coll.gathered
    gatherSince := if unsent.isEmpty then s.coll.gatherSince else s.now }

/-- The pins that trip inputs hold, and nothing else of them (R291, R412). -/
def pinsKept (p : Protect) : Protect :=
  { Protect.reset with inputs := p.inputs.map fun x => { TripInput.clear with asserted := x.asserted } }

/-- The block in reset, or waiting at a phase, for a cause: whatever R412 does not name is lost, and a persist in progress stops. -/
def resetBlock (s : State) (cause : ResetCause) (phase : Phase) : State :=
  let s := cutPersist s
  { State.reset with
    now := s.now
    start := { StartUp.reset with
      phase := phase, cause := cause, coreGood := s.start.coreGood, sdGood := s.start.sdGood, ioGood := s.start.ioGood
      auxGood := s.start.auxGood, vrowGood := s.start.vrowGood }
    straps := s.straps
    addr := { Addressing.reset with
      lastAddr := s.addr.lastAddr, lastPos := s.addr.lastPos, tamperSinceJoin := s.addr.tamperSinceJoin }
    spine := { Spine.reset with switchFaultsLogged := s.spine.switchFaultsLogged }
    hall := journalKept s.hall
    coll := collKept s
    prot := pinsKept s.prot
    back := { Backstair.reset with
      pstate := if s.straps.svcOn && s.straps.read then .silent else .off, counter := s.back.counter, countedAt := s.back.countedAt }
    cellar := cellKept s.cellar cause
    arch := archiveKept s
    power := { Power.reset with auxBrownAt := s.power.auxBrownAt, vrowBrownAt := s.power.vrowBrownAt }
    wire := s.wire
    fresh := s.fresh
    pending := s.pending }

/-- A reset after the ordered stop of causes 3, 4 and 6 (R411, R413). -/
def stopAndReset (s : State) (cause : ResetCause) (phase : Phase) : State := resetBlock (orderedStop s) cause phase

end Sys2Proof.Machine
end

