-- ==== Sys2Proof/Machine/Rest.lean ====
section
/-! DEFINITION. The power states: tolerance, the dark test, the choice at a render point, the ordered entries and the wakes (R257, R398 to R410, R182). -/

namespace Sys2Proof.Machine

open Sys2Proof

/-! ### Drive (R311, R398, R406) -/

/-- DRIVE goes off: outputs dark, and the Collator judges nothing. -/
def driveOff (s : State) : State :=
  rowCutOff { s with power := { s.power with driveGood := false }, coll := { s.coll with excluded := true } }

/-- DRIVE becomes good: the outputs wait for a refresh seam, and the Collator judges nothing for 100 ms (R311). -/
def driveOn (s : State) : State :=
  { s with
    power := { s.power with driveGood := true }
    prot := { s.prot with resumeAtSeam := true }
    coll := { s.coll with excluded := true, excludeUntil := s.now + 100 * msNs } }

/-- VDD_AUX and VROW let the outputs run. -/
def auxIn (s : State) : Bool := s.start.auxGood && s.power.auxBrownAt.isNone

def vrowIn (s : State) : Bool := s.start.vrowGood && s.power.vrowBrownAt.isNone

/-! ### Tolerance and the dark test (R257, R400) -/

/-- A force set holds a sink at code 2 or 3 (R294). -/
def forcedOn (s : State) : Bool :=
  match s.prot.force with
  | some f => f.codes.any fun c => c == 2 || c == 3
  | none => false

/-- A DALI fade that moves the level shown runs at a frame seam. -/
def legacyFades (s : State) (seam : Nat) : Bool :=
  legacyUse s == .dali && (standalone s || s.legacy.blk.allow) && daliFading s seam

/-- The show is dark at a frame seam (R257, R294). -/
def darkShow (s : State) (seam : Nat) : Bool :=
  !forcedOn s &&
    ((s.screen.fade.isNone && s.screen.picture == .dark) ||
      (s.screen.level.isNone && !legacyFades s seam && lambdaEff s == 0))

/-! ### Eligibility (R401) -/

/-- Wake times in us by state (R398). -/
def wakeUs : Rest → Nat
  | .s0 => 0
  | .s1 => 60
  | .s2 => 800
  | .s3 => 30000
  | .s4 => 700000

/-- The mode lets the node rest in a state: a gathered head at most in S1, S4 in a ring mode (R400, R401). -/
def restAllowed (s : State) (d : Rest) : Bool :=
  d == .s0 || d == .s1 || mode s == .native || (d != .s4 && mode s != .head)

/-- The deepest state that tol_us admits (R408). -/
def deepestAdmitted (s : State) : Rest :=
  ([Rest.s4, .s3, .s2, .s1].find? fun d => decide (wakeUs d ≤ tolerance s)).getD .s0

/-- A census is held that is neither released nor aged (R188, R401). -/
def bankHeld (s : State) : Bool :=
  match s.mantel.bank with
  | some b => !b.released && !b.aged && decide (s.now < b.latchedAt + 60 * second)
  | none => false

/-- The held return window leaves at least 1 s (R401). -/
def returnHeld (s : State) : Bool :=
  match s.spine.returnWin with
  | some w => decide (mNs s + second ≤ w.tw)
  | none => false

/-- The reasons of R407 that block a state, beside those of the states above it. -/
def ownReasons (s : State) : Rest → List Nat
  | .s2 => (if assigned s then [] else [1]) ++ (if s.screen.programme == .stream && s.larder.fstate != .lost then [6] else [])
  | .s3 => if bankHeld s then [3] else []
  | .s4 => (if returnHeld s then [] else [4]) ++
      (if s.mantel.cues.isEmpty && s.mantel.censuses.isEmpty then [] else [5])
  | _ => []

/-- A state's own conditions hold, those of the states above it aside (R401). -/
def ownConditions (s : State) (seam : Nat) (d : Rest) : Bool :=
  decide (wakeUs d ≤ tolerance s) && darkShow s seam && restAllowed s d && (ownReasons s d).isEmpty &&
    (d != .s4 || (bypassRefusal s false).isNone)

/-- After a wake by causes 1, 2 or 4 the node stays in S0 until 5 ms after its last ACK or report (R403). -/
def staysAwake (s : State) : Bool :=
  [1, 2, 4].contains s.power.lastCause && decide (s.now < s.hall.lastQueued + 5 * msNs)

/-- The deepest eligible state for a frame seam; the quiet Hall is judged at the entry (R401, R403). -/
def eligible (s : State) (seam : Nat) : Rest :=
  if staysAwake s || !ownConditions s seam .s1 then .s0
  else if !ownConditions s seam .s2 then .s1
  else if !ownConditions s seam .s3 then .s2
  else if !ownConditions s seam .s4 then .s3
  else .s4

def nextDeeper : Rest → Rest
  | .s0 => .s1
  | .s1 => .s2
  | .s2 => .s3
  | .s3 => .s4
  | .s4 => .s4

/-- The minute that "once per minute" counts (R479). -/
def minuteOf (s : State) : Nat := reportInterval s (60 * second)

def freshMinute (s : State) (key : Nat) : Bool := mapGet s.power.blockedMinute key != some (minuteOf s)

def noteMinute (s : State) (key : Nat) : State :=
  { s with power := { s.power with blockedMinute := mapSet s.power.blockedMinute key (minuteOf s) } }

/-- EVENT 0x0C02, once a minute for each reason (R401, R407). -/
def raiseBlocked (d : Rest) (s : State) (reason : Nat) : State :=
  if freshMinute s reason then
    let s := noteMinute { s with power := { s.power with reason := reason } } reason
    raise s 0x0C02 (pack [(restCode d, 8), (reason, 0)] |>.setWidth 16) (BitVec.ofNat 32 (sat 32 (tolerance s)))
  else s

/-- A refusal of S4 under R72 or R79 is answered by SPL_ANSWER with stype 0x00, and by EVENT 0x0107 under R79 (R102, R401). The
sequence it answers is not stated, so it is left free (log 3). -/
def refuseS4 (s : State) (r : Nat) : State :=
  if freshMinute s (100 + r) then
    let s := noteMinute s (100 + r)
    let (q, s) := freeValue s
    queueAnswer (if r = 1 then raiseRun s else s) (BitVec.ofNat 32 q) 0 r
  else s

/-- The reports of a next deeper state that tolerance, mode and the show admit and that is blocked (R401). -/
def reportBlocked (s : State) (seam : Nat) (d : Rest) : State :=
  if decide (wakeUs d ≤ tolerance s) && darkShow s seam && restAllowed s d && !staysAwake s then
    let reasons := ownReasons s d
    if !reasons.isEmpty then reasons.foldl (raiseBlocked d) s
    else if d == .s4 then
      match bypassRefusal s false with
      | some r => refuseS4 s r
      | none => s
    else s
  else s

/-! ### The choice at a render point (R401, R402) -/

/-- A wake from S1, which also takes back an entry chosen from it (R402). -/
def wakeS1 (s : State) (cause : Nat) : State :=
  if s.power.st == .s1 && s.power.waking.isNone then
    if s.power.entryBegun then wake s cause
    else { s with power := { s.power with waking := some cause, wakeAt := s.now, entering := none } }
  else s

/-- A force set that holds a sink at code 2 or 3 wakes the node from S1 (R402). -/
def wakeForced (s : State) : State := if s.power.st == .s1 && forcedOn s then wakeS1 s 5 else s

/-- Rest codes order the states by depth. -/
def deeper (a b : Rest) : Bool := decide (restCode a < restCode b)

/-- The deepest eligible state is chosen, to be entered at the frame seam; from S1 the node wakes when the show is lit or the
tolerance falls (R401, R402). A node that a leave has bridged chooses as any other: R77 says that it stays powered in the state it
was in, and not whether it may choose a deeper one (log 91, DESIGN CHOICE). -/
def choosePower (s : State) (seam : Nat) : State :=
  if s.power.waking.isSome || s.power.entryBegun then s
  else
    let d := eligible s seam
    let s := reportBlocked s seam (nextDeeper d)
    if s.power.st == .s1 && !darkShow s seam then wakeS1 s 5
    else if s.power.st == .s1 && decide (tolerance s < wakeUs .s1) then wakeS1 s 6
    else if deeper s.power.st d then { s with power := { s.power with entering := some (d, seam) } }
    else s

/-! ### Entries (R399, R403, R404) -/

/-- The Hall is quiet (R403). -/
def hallQuiet (s : State) : Bool :=
  s.spine.ctlQueue.isEmpty && s.hall.writing.isNone && s.hall.done.isEmpty && s.hall.entries.all (·.dispatched) &&
    s.arch.copying.isNone && (match s.mantel.bank with | some b => b.copying.isNone | none => true) &&
    s.bindery.loading.isNone && s.larder.reports.isEmpty && s.larder.waiting.isEmpty && s.larder.events.isEmpty

/-- The state reached, with its count and time (R408, R409). -/
def enterRest (s : State) (d : Rest) : State :=
  countPower { s with
    power := { s.power with st := d, entering := none, entryBegun := false, enteredAt := s.now } } (restCode d - 1)

/-- Time spent in the present rest state goes to its count in ms (R408, R409). -/
def closeRest (s : State) : State :=
  let ms := (s.now - s.power.enteredAt) / msNs
  let i := match s.power.st with | .s1 => some 13 | .s2 => some 14 | .s3 => some 15 | _ => none
  match i with
  | some i => { s with power := { s.power with counts := bumpBy s.power.counts i ms, msInRest := ms } }
  | none => s

/-- The render point at which a cue for t fires in a node that rests: that of the first frame seam of the idle grid at or after t
(R179, R182, R264). -/
def restingRender (t : Nat) : Nat := tickNs (idleAfter (tickOf t)) - renderLead

/-- The wake alarm of R182: the earliest render point of an armed cue or armed census time, less the wake time and 100 us. -/
def wakeAlarm (s : State) (d : Rest) : Option Nat :=
  let cues := s.mantel.cues.map fun c => restingRender c.t
  let lead := wakeUs d * usNs + 100 * usNs
  ((cues ++ s.mantel.censuses.map (·.t)).min?).map fun t => t - lead

/-- Mantel hands its anchor to the Spine (R182). -/
def handAnchor (s : State) (d : Rest) : State :=
  let m := s.mantel
  { s with
    mantel := { m with
      anchor := some { ringCount := s.now, time := m.time, addend := m.addend, p := m.p, epoch := m.epoch, lock := m.lock
                       alarm := wakeAlarm s d } } }

/-- BYP_HOLD returns to the rule of R71 when EXTEST or HIGHZ ends (R301). -/
def restoreByp (s : State) : State := setByp s (insertAllowed s && !awaitsReturn s)

/-- The current TAP instruction is left: the Press resumes at the next refresh seam, and the end of a freeze has its EVENT (R298,
R300, R301, R303). -/
def leaveInstrBy (report : State → Half → Half → Word → State) (s : State) : State :=
  let was := s.prot.tap
  let s := { s with
    prot := { s.prot with
      tap := .bypass, frozen := false, frozenDark := false, resumeAtSeam := s.prot.resumeAtSeam || s.prot.frozen } }
  if was == .freeze then report s 0x070C 0 (BitVec.ofNat 32 (bit (freezeBlanks s))) else s

/-- The current TAP instruction ends, and BYP_HOLD returns to its rule after EXTEST or HIGHZ (R301). -/
def endInstrBy (report : State → Half → Half → Word → State) (s : State) : State :=
  let t := leaveInstrBy report s
  if s.prot.tap == .extest || s.prot.tap == .highz then restoreByp t else t

def endInstr (s : State) : State := endInstrBy raise s

/-- A JTAG enable ends with its cause, and the instruction it let in ends with it (R300, R303). -/
def endJtagBy (report : State → Half → Half → Word → State) (s : State) (cause : Nat) : State :=
  if s.prot.jtagOn then
    let s := endInstrBy report { s with prot := { s.prot with jtagOn := false, jtagUntil := none } }
    report s 0x070D 0 (BitVec.ofNat 32 cause)
  else s

def endJtag (s : State) (cause : Nat) : State := endJtagBy raise s cause

/-- Queue 0x01 or 0x02 flushed: the packets discarded are counted and EVENT 0x0406 is kept for a report after the wake (R207,
R376). -/
def noteFlush (s : State) (queue n : Nat) : State :=
  if n = 0 then s
  else
    raiseHeld { s with larder := { s.larder with counts := bumpBy s.larder.counts 11 n } } 0x0406
      (BitVec.ofNat 16 queue) (BitVec.ofNat 32 n)

/-- The whole Larder flushed on entry to S3 (R207). -/
def flushQueues (s : State) : State :=
  let a := s.larder.reports.length + s.larder.waiting.length
  let b := s.larder.events.length
  noteFlush (noteFlush { s with larder := { s.larder with reports := [], waiting := [], events := [] } } 1 a) 2 b

/-- Held messages of every channel discarded; their EVENTs are kept and reported after the wake, since the entry is to flush queue
0x02 (R122, R143, R376, R399). -/
def discardAllHeld (s : State) : State := (s.hall.channels.map (·.code)).foldl (discardBy raiseHeld) s

/-- The Press stops at a refresh seam, and DRIVE goes off; Porter stops (R279, R331, R403). -/
def stopCore (s : State) : State :=
  let s := if s.press.running && !s.prot.pclkLost then advanceToSeam s (nextSeam s) else s
  let s := porterStop (driveOff (noteLit s false))
  { s with
    press := { s.press with running := false, slotsDone := true, rowOn := none, widths := [] }
    bindery := { s.bindery with pass := none, waiting := none } }

/-- Steps 5 and 6 of an entry to S2 (R399, R403). -/
def enterS2 (s : State) : State := enterRest (stopCore s) .s2

/-- Steps 5 and 6 of an entry to S3: CORE goes off with every queue flushed and the JTAG enable ended, its EVENT kept for a report
after the wake (R300, R376, R399, R403). -/
def enterS3 (s : State) : State := enterRest (stopCore (flushQueues (endJtagBy raiseHeld s 2))) .s3

/-- The check of R76 at entry to S4: W against the time bridged; an uncoordinated return is answered by SPL_ANSWER result 5
(R102, R404). -/
def checkReturn (s : State) : State :=
  match s.spine.returnWin with
  | none => s
  | some w =>
    let bad := decide (w.len < neededWindow (w.tw + w.len / 2 - mNs s))
    let s := { s with power := { s.power with uncoordinated := bad, returnLen := w.len } }
    if bad then queueAnswer s w.seq 5 5 else s

/-- S4: the JTAG enable ended, GSP with cause 0x05, LEAVE, BYP_HOLD low, the return alarm in the RTC, then RING, CORE, SVC and DRIVE
off (R300, R404, R405). Which state that GSP names is not stated (R113, R404): it is the one being left, as R410 has it for a power
fail in another entry (log 117, DESIGN CHOICE). -/
def enterS4 (s : State) : State :=
  let s := endJtagBy raiseHeld s 2
  let s := setByp (sendLeave (sendGsp s 5)) false
  let alarm := match s.spine.returnWin with
    | some w => some (w.tw + w.len / 2 - 690 * msNs)
    | none => none
  let s := { s with cellar := { s.cellar with rtcAlarm := alarm } }
  let s := enterRest (stopCore s) .s4
  { s with back := { s.back with pstate := .off } }

/-- The persist that an entry makes, which counts for the hour under way (R383, R403, R404). -/
def persistEntry (s : State) (cause : Nat) : State :=
  let s := persistWear s cause
  { s with arch := { s.arch with hourDone := mNs s / (3600 * second) } }

/-- The first steps of an entry: its EVENT is queued, for S4 kept by the Cellar with its RTC time, and the Hall stops judging; for S3
the wear is persisted and the held messages are discarded; for S2 and S3 Mantel hands over its anchor (R182, R376, R403, R407). For
S4 the wear is persisted and the return checked, so that the answer can leave before GSP (R404). -/
def beginEntry (s : State) (d : Rest) : State :=
  let s := if d == .s4 then raiseKept s 0x0C01 (stateChange s.power.st d) (stateArg s 0)
    else raise s 0x0C01 (stateChange s.power.st d) (stateArg s 0)
  let s := match d with
    | .s4 => checkReturn (persistEntry (reportRun s) 2)
    | .s3 => handAnchor (discardAllHeld (persistEntry s 1)) d
    | _ => handAnchor s d
  { s with power := { s.power with entryBegun := true } }

/-- An entry ends within 2 ms of its frame seam, its last refresh included, at an instant left open (R403; log 3). -/
def entryDone (s : State) (seam : Nat) : State :=
  let (n, s) := freeBelow s (seam + 2 * msNs - second / refreshHz s - mNs s)
  advanceTo s (s.now + n)

/-- An entry to S4 that a cause of R72 or R79 has come to refuse by its seam: it is answered, and S3 is taken in its place (R102,
R410). -/
def enterS3Instead (s : State) (seam r : Nat) : State :=
  let s := refuseS4 s r
  { s with power := { s.power with entering := some (.s3, seam) } }

/-- The entry of a deeper state begins when the Hall is quiet, within 1 ms of its seam; one that comes later is judged again at the
next render point (R403; log 42). -/
def startEntry (s : State) (d : Rest) (seam : Nat) : State :=
  if seam + msNs < mNs s then { s with power := { s.power with entering := none } }
  else if !hallQuiet s then s
  else
    match d, bypassRefusal s false with
    | .s4, some r => enterS3Instead s seam r
    | _, _ => beginEntry s d

/-- STATE_ENTRY: S1 is entered at once; a deeper state's entry begins at the frame seam when the Hall is quiet, and its next
STATE_ENTRY completes it (R401, R403, R404). -/
def execStateEntry (s : State) : Result :=
  match s.power.entering with
  | none => .next s
  | some (d, seam) =>
    if s.power.waking.isSome || !coreOn s then .next s
    else
      let s := advanceToSeam s seam
      match d with
      | .s0 => .next { s with power := { s.power with entering := none } }
      | .s1 =>
        let s := raise s 0x0C01 (stateChange s.power.st .s1) (stateArg s 0)
        .next (wakeForced (enterRest (driveOff (noteLit s false)) .s1))
      | d =>
        if s.power.entryBegun then
          let s := closeRest (entryDone s seam)
          match d with
          | .s2 => .next (enterS2 s)
          | .s3 => .next (enterS3 s)
          | _ => .next (enterS4 s)
        else .next (startEntry s d seam)

/-- The Hall is not quiet within 1 ms of the frame seam: the entry is dropped (R403, R407, R409). -/
def execStateEntryDrop (s : State) : Result :=
  match s.power.entering with
  | none => .next s
  | some (d, seam) =>
    if s.power.entryBegun || !coreOn s || !deeper .s1 d then .next s
    else
      let s := advanceToMantel s (seam + msNs)
      if hallQuiet s then .next s
      else .next (raiseBlocked d (countPower { s with power := { s.power with entering := none } } 17) 2)

/-! ### Wakes (R279, R398, R399, R402) -/

/-- The wake alarm held by the Spine (R182, R402). -/
def execWakeAlarm (s : State) : Result :=
  match s.mantel.anchor with
  | some a =>
    match a.alarm with
    | some t => if s.power.st == .s2 || s.power.st == .s3 then .next (wake (advanceToMantel s t) 3) else .next s
    | none => .next s
  | none => .next s

/-- SB_RX held dominant for more than 5 us while SILENT (R402). -/
def execSbRxWake (s : State) : Result :=
  if s.back.pstate == .silent && (s.power.st == .s2 || s.power.st == .s3) then .next (wake s 4) else .next s

/-- The armed cues with those late whose time lies before P: judged as a cue is armed, as time becomes valid, and as a step passes
its time (R175, R180). -/
def lateCues (m : Mantel) : List ArmedCue :=
  m.cues.map fun c => { c with late := c.late || (timeValid m && decide (c.t * 2 ^ 32 < m.p)) }

/-- Mantel after a change that may make its time valid (R180). -/
def nowValid (was : Bool) (m : Mantel) : Mantel := if was then m else { m with cues := lateCues m }

def setLock (s : State) (l : Lock) (offsetPs : Int) : State :=
  if s.mantel.lock == l then s
  else
    let old := s.mantel.lock
    let s := { s with mantel := nowValid (timeValid s.mantel) { s.mantel with lock := l } }
    raise s 0x0301 (pack [(lockCode old, 8), (lockCode l, 0)] |>.setWidth 16) (swordSat offsetPs)

/-- An offset in 2^-16 ns as ps (R190). -/
def psOf (o : Int) : Int := rdiv (o * 1000) 65536

/-- HOLDOVER begins (R172, R182, R187, R190). -/
def enterHoldover (s : State) : State :=
  let s := setLock s .holdover (psOf s.mantel.lastOffset)
  { s with
    mantel := { s.mantel with
      holdoverSince := s.now, counts := bump s.mantel.counts 7, lockRun := 0, bigRun := 0 } }

/-- Mantel on a wake from S2 or S3: its time from the anchor at the held addend, then HOLDOVER; one that
rested in HOLDOVER goes on in it, which is no new entry (R182; log 108, DESIGN CHOICE). The next edge of SYNC_IN is a first one
(R172; log 56). -/
def wakeMantel (s : State) : State :=
  let s := { s with mantel := { s.mantel with anchor := none, lastEdge := none } }
  if s.mantel.lock == .holdover then s else enterHoldover s

/-- The census word of an input's assertions (R305). -/
def tripWord (id : Nat) : Nat := 16 + (if id < 4 then id else id - 1)

/-- What a row or sink emits after a trip takes effect: the mapped outputs are dark within 50 ns (R286, R288). -/
def cutOutputs (s : State) (d : Darkens) : State :=
  let rowCut := match s.press.rowOn with | some r => decide (d.rowLo ≤ r) && decide (r < d.rowHi) | none => false
  let cut (k : Nat) : Bool := (sinksOf s k).any fun p => d.groups.getLsbD (sinkGroup p)
  if rowCut then rowCutOff s
  else
    let s := cutWear s cut
    { s with press := { s.press with widths := s.press.widths.mapIdx fun k w => if cut k then 0 else w } }

/-- An input that takes effect starts an episode after at least 1 s released, or for the first time since start-up (R303). -/
def startsEpisode (s : State) (x : TripInput) : Bool :=
  !x.episode && (!x.seen || decide (x.quietSince + second ≤ s.now))

/-- An input takes effect: its map is dark, it is counted, and where an episode starts EVENT 0x0707 and the alarm to the peers go out
(R286, R288, R303, R305, R335). -/
def tripEffect (s : State) (id : Nat) : State :=
  match s.prot.inputs[id]? with
  | none => s
  | some x =>
    if x.inForce then s
    else
      let latched := inputLatched s id
      let starts := startsEpisode s x
      let y := { x with
        inForce := true, holding := latched, seen := true, episode := x.episode || starts
        assertions := if x.episode then x.assertions + 1 else bit starts }
      let s := cutOutputs { s with prot := { s.prot with inputs := s.prot.inputs.set id y } } (inputMap s id)
      let s := countPress s (tripWord id)
      if !starts then s
      else queueAlarm (raise s 0x0707 (BitVec.ofNat 16 id) (BitVec.ofNat 32 (bit latched))) 1 id

/-- Trip inputs judged afresh from their pins at a wake or start-up; latched trips stay only through retention (R291, R399). -/
def judgePins (s : State) (latchedKept : Bool) : State :=
  let inputs := s.prot.inputs.mapIdx fun i x =>
    let keep := latchedKept && inputLatched s i && x.inForce
    { x with
      holding := keep && x.holding, inForce := keep, episode := latchedKept && x.episode
      assertions := if latchedKept then x.assertions else 0 }
  let s := { s with prot := { s.prot with inputs := inputs } }
  (List.range 10).foldl (fun s i =>
    match s.prot.inputs[i]? with
    | some x => if x.asserted && inputPresent s i then tripEffect s i else s
    | none => s) s

/-- The trims where a lock leaves them: its comparisons, one code every 25.6 ns for up to 200 us, reach any code (R268; log 3). -/
def lockTrims (s : State) : State :=
  let (u, s) := freeValue s
  { s with press := { s.press with trims6 := (List.range 192).map fun sink => u / 64 ^ sink % 64 } }

/-- The delay lines lock within 200 us of PCLK's lock, with every output dark; when is open (R268; log 3). -/
def lockLines (s : State) : State :=
  let (u, s) := freeBelow (lockTrims s) (200 * usNs)
  { s with prot := { s.prot with linesLocked := s.now + u, resumeAtSeam := true } }

/-- A wake starts the Press again: residues preset, the delay lines locked by the time the node is ready, then light from a
refresh seam (R268, R271, R279, R398). The grid is the same; the first seam is the next that Mantel time reaches. -/
def wakePress (s : State) : State :=
  let s := lockTrims s
  { s with
    prot := { s.prot with linesLocked := s.now, resumeAtSeam := true }
    press := { s.press with running := true, residues := [], crossing := [], cutoffDone := false, chosen := none
                            slotsDone := true, darkGap := false, seamSeen := false } }

/-- The states that the defect map declares (R319, R320): every record short of a recovery stands DECLARED. -/
def declaredOf (s : State) : Collator :=
  let st (k : DefKind) : ObjState := { kind := k, count := 3, lastRefresh := 0, passes := 0, before := none }
  let recs := s.arch.mapRecords
  let w := rowWidth s
  { Collator.reset with
    emitters := recs.foldl (fun m r =>
      if r.kind == 1 then mapSet m (r.row.toNat * w + r.sink.toNat) (st .opn)
      else if r.kind == 2 then mapSet m (r.row.toNat * w + r.sink.toNat) (st .shrt) else m) []
    columns := recs.foldl (fun m r =>
      if r.kind == 4 then mapSet m r.sink.toNat (st .opn)
      else if r.kind == 3 then mapSet m r.sink.toNat (st .shrt) else m) []
    rows := recs.foldl (fun m r => if r.kind == 5 then mapSet m r.row.toNat (st .opn) else m) [] }

/-- The feed-loss policy of CFG_SAFE level[2:1] (R204). -/
def safeFeed (s : State) : FeedPolicy :=
  match safePolicy s with
  | 0 => { policy := 0, slate := 0, timeoutMs := 500, fadeMs := 0, holdS := 0 }
  | 1 => { policy := 1, slate := 1, timeoutMs := 500, fadeMs := 1000, holdS := 0 }
  | 2 => { policy := 2, slate := 0, timeoutMs := 500, fadeMs := 0, holdS := 0 }
  | _ => { policy := 3, slate := 0, timeoutMs := 500, fadeMs := 0, holdS := 10 }

/-- The working copies as start-up or a wake from S3 loads them: regions 3 to 6 and the checks of R234, with the wear gains
(R227, R233, R234, R399). -/
def loadWorkingCopies (s : State) : State :=
  let s := loadCurves (loadFactory (loadImage s))
  let s := recomputeWear { s with bindery := { s.bindery with firstPass := true, recomputeDue := false } }
  { s with bindery := { s.bindery with passWanted := true, calEventDue := true } }

/-- The Larder as S3 leaves it (R207, R399): slots, plates and bank lost, fstate AWAIT. Its queues were flushed at entry; what
they hold at the wake the Spine put there in S3, from its template (R103, R112). The loss policy is that of CFG_SAFE again (R204;
log 110, DEDUCED). -/
def larderLost (s : State) : Larder :=
  { Larder.reset with
    reports := s.larder.reports, waiting := s.larder.waiting, events := s.larder.events
    feed := safeFeed s, counts := s.larder.counts, delays := s.larder.delays, delayBase := s.larder.delayBase
    waters := s.larder.waters }

/-- The delays of a port that RING has measured and the time of its next Delay_Req: what outlives CORE (R30, R165). -/
def measuredOnly (p : PortSync) : PortSync :=
  { PortSync.reset with loopbackPs := p.loopbackPs, lane0Ps := p.lane0Ps, reqDue := p.reqDue }

/-- Mantel as S3 leaves it: what the anchor hands over, the lock with its holdover, the RTC's last setting, what was reported and the
counts; path delays, offsets, the master followed, the rate and all armed work are lost (R30, R182, R399; log 41, DEDUCED). -/
def mantelLost (m : Mantel) : Mantel :=
  { Mantel.reset with
    time := m.time, addend := m.addend, p := m.p, epoch := m.epoch, hold := m.hold, holdDepth := m.holdDepth, lock := m.lock
    validOnEntry := m.validOnEntry, holdoverSince := m.holdoverSince, holdoverLast := m.holdoverLast
    lastOffset := m.lastOffset, lastSync := m.lastSync, rtcSetAt := m.rtcSetAt, carried := m.carried
    diffReported := m.diffReported, masterReported := m.masterReported, counts := m.counts
    east := measuredOnly m.east, west := measuredOnly m.west }

/-- The timing set that no TIMING_SET made: epoch 0 (R276). -/
def startTiming (s : State) : Timing := { epoch := 0, deadNs := defaultDead s, minp := 128, trims := List.replicate 4 255 }

/-- What S3 loses and its wake rebuilds: the journal re-arms work and restores the show, and the timing set is that of a start (R30,
R276, R399). -/
def rebuildS3 (s : State) : State :=
  let s := { s with
    larder := larderLost s
    screen := { Show.reset with firstSeam := s.screen.firstSeam, counts := s.screen.counts }
    mantel := mantelLost s.mantel
    press := { s.press with
      handles := [], pendingSet := none, timing := startTiming s, lastEpoch := 0, epochE := 0, plateEpoch := 0
      pllAddend := s.mantel.addend }
    prot := { s.prot with clears := [], force := none, forceWait := [] }
    coll := { declaredOf s with
      counts := s.coll.counts, excluded := s.coll.excluded, excludeUntil := s.coll.excludeUntil
      gathered := s.coll.gathered, gatherSince := s.coll.gatherSince }
    back := { s.back with resume := [] }
    bindery := { Bindery.reset with
      counts := s.bindery.counts, longestNs := s.bindery.longestNs, lastPass := s.bindery.lastPass
      lastPassNs := s.bindery.lastPassNs }
    arch := { s.arch with wear := s.arch.wearSaved, wearRest := [] } }
  judgeCache (reportHeld (replay (loadWorkingCopies s)))

/-- The node is ready in S0, and the wake is reported (R402, R407 to R409). -/
def reportWake (s : State) (old : Rest) (cause : Nat) : State :=
  let s := raise s 0x0C01 (stateChange old .s0) (stateArg s cause)
  countPower { s with power := { s.power with lastSt := old, lastCause := cause } } (3 + cause)

/-- The node is ready within the wake time of a state, counted from the cause, at an instant left open (R398, R403; log 3). -/
def wakeDone (s : State) (d : Rest) : State :=
  let (n, s) := freeBelow s (s.power.wakeAt + wakeUs d * usNs - s.now)
  advanceTo s (s.now + n)

/-- The watchdog is armed again as CORE leaves retention or comes on, its count from then (R373). -/
def armWatchdog (s : State) : State := { s with cellar := { s.cellar with lastKick := s.now, warned := false } }

/-- WAKE_READY (R398), with what the Cellar kept in S2 or S3 reported (R376, R406). A wake that reverses an entry reports from the state
being entered and undoes its steps so far: the anchor, and what was kept of the EVENTs (R403). -/
def execWakeReady (s : State) : Result :=
  match s.power.waking with
  | none => .next s
  | some cause =>
    let begun := s.power.entryBegun
    let old := match begun, s.power.entering with
      | true, some (d, _) => d
      | _, _ => s.power.st
    let st := s.power.st
    let s := closeRest (wakeDone s old)
    let s := { s with
      power := { s.power with st := .s0, waking := none, entering := none, entryBegun := false } }
    let s := if begun then reportHeld { s with mantel := { s.mantel with anchor := none } } else s
    let s := match st with
      | .s1 => if auxIn s then driveOn s else s
      | .s2 => catchUpAudit <| reportHeld (porterStart (judgePins (wakePress (wakeMantel (armWatchdog (if auxIn s then driveOn s else s)))) true))
      | .s3 =>
        porterStart (rebuildS3 (judgePins (wakePress (wakeMantel (armWatchdog (if auxIn s then driveOn s else s)))) false))
      | _ => s
    .next (reportWake s old cause)

/-- The next persist by the whole hour of Mantel time: one that fell due and was not made comes at once (R383, R410; log 40). -/
def nextHour (s : State) : Nat :=
  let past := mNs s / (3600 * second)
  let h := if s.arch.hourDone < past then past else past + 1
  if h = s.arch.hourDone then h + 1 else h

/-- The hourly persist in S2, without an EVENT; one that fell due during the entry comes at once (R383, R399, R409, R410). -/
def execMaintenanceWake (s : State) : Result :=
  if s.power.st == .s2 && s.power.waking.isNone then
    let h := nextHour s
    let s := advanceToMantel s (h * (3600 * second))
    let s := countPower s 12
    if archiveOpen s && s.cellar.failAt.isNone then
      let s := beginPersist s
      .next { s with arch := { s.arch with hourDone := h } }
    else .next { s with arch := { s.arch with hourDone := h } }
  else .next s

/-- POWER_TOLERANCE: in force and persisted at dispatch; S1 is left when it falls below the wake time (R400, R402). -/
def execPowerTolerance (s : State) : Result :=
  dispatch s 0x0011 fun m s =>
    let s := doneWith { s with arch := { s.arch with tolUs := (wordAt m.body 0).toNat } } m 0
    if decide (tolerance s < wakeUs .s1) then wakeS1 s 6 else s

end Sys2Proof.Machine
end

