-- ==== Sys2Proof/Machine/Sense.lean ====
section
/-! DEFINITION. What holds an output dark, the widths of a row slot, proof pulses, and the two tests of the Collator (R270 to R272, R284, R288, R294, R307 to R315, R382). -/

namespace Sys2Proof.Machine

open Sys2Proof

/-! ### Causes of dark (R284, R288) -/

/-- The inputs in force, with what each darkens. -/
def inForceMaps (s : State) : List Darkens :=
  (List.range 10).filterMap fun i =>
    match s.prot.inputs[i]? with
    | some x => if x.inForce && inputPresent s i then some (inputMap s i) else none
    | none => none

/-- The sink groups dark by trip or PGOOD, one bit each (R288, R304). -/
def groupsDark (s : State) : BitVec 8 := (inForceMaps s).foldl (fun a d => a ||| d.groups) 0

/-- A row held off by a trip or PGOOD (R288). -/
def rowTripped (s : State) (r : Nat) : Bool := (inForceMaps s).any fun d => decide (d.rowLo ≤ r) && decide (r < d.rowHi)

/-- Every output is dark: Cellar dark forcing, a freeze that blanks, a resume that waits for its seam, DRIVE off, or the gap of a
Mantel step (R279, R284). -/
def allDark (s : State) : Bool :=
  cellarDark s || s.prot.frozenDark || s.prot.resumeAtSeam || !s.power.driveGood || s.press.darkGap

/-- A row is held off in its slot (R284, R406). -/
def rowOff (s : State) (r : Nat) : Bool :=
  allDark s || !vrowIn s || rowTripped s r || decide (scanRows s ≤ r) ||
    (match s.prot.force with | some f => f.rows.getD r false | none => false)

/-- The code a FORCE_OUTPUT holds a sink or channel at (R293). -/
def forceCode (s : State) (k : Nat) : Nat :=
  match s.prot.force with
  | some f => (f.codes.getD ((sinksOf s k).headD 0) 0).toNat
  | none => 0

/-- The sinks of a disabled or unused IREF are off (R47), and so are those whose resistor has opened since (R51). -/
def irefOff (s : State) (k : Nat) : Bool := decide (3 ≤ (irefOf s k).1) || s.straps.irefOpen.getLsbD (drivenBy s k).group

/-- A sink or channel is held dark (R47, R284). -/
def sinkDark (s : State) (k : Nat) : Bool :=
  (sinksOf s k).any (fun p => (groupsDark s).getLsbD (sinkGroup p) || s.arch.disabled.contains p) || irefOff s k ||
    forceCode s k == 1

/-! ### Widths (R270, R271, R294) -/

/-- M of R270. -/
def unitM : Nat := 1048575

/-- The preset of emitter i: the leaf sequence (R271). -/
def presetOf (minp i : Nat) : Int := ((rev8 (i % 256) * minp * unitM / 256 : Nat) : Int)

/-- Every residue, preset where none has been set since the last preset (R271). -/
def residuesOf (s : State) : List Int :=
  if s.press.residues.isEmpty then (List.range (emitterCount s)).map (presetOf s.press.timing.minp) else s.press.residues

/-- A sink or channel whose delay line is unlocked emits whole cycles (R269, R270). -/
def lineUnlocked (s : State) (k : Nat) : Bool := (sinksOf s k).any s.press.unlocked.contains

/-- The width of one pulse with the residue left, whether it was clipped at L and whether it was withheld (R270). -/
structure Pulse where
  w : Nat
  r : Int
  clipped : Bool
  withheld : Bool
  deriving DecidableEq, Repr

def pulseOf (limit minp drive : Nat) (unlocked : Bool) (r : Int) : Pulse :=
  let r := r + ((drive * limit : Nat) : Int)
  let want := (r / unitM).toNat
  let w := min want limit
  let w := if unlocked then 32 * ((w + 16) / 32) else w
  let wmin := if unlocked then 32 * ((minp + 31) / 32) else minp
  let out := if w < wmin then 0 else w
  { w := out, r := r - ((out * unitM : Nat) : Int), clipped := decide (limit < want), withheld := decide (0 < w ∧ w < wmin) }

/-- The drive unit on light of an emitter (R230). -/
def driveOf (s : State) (i : Nat) : Nat := (s.larder.plates.getD s.press.plateOn []).getD i 0

/-- The pulses of row j in the order of sinks or channels (R270). -/
def rowPulses (s : State) (rs : List Int) (j : Nat) : List Pulse :=
  (List.range (rowWidth s)).map fun k =>
    let i := j * rowWidth s + k
    pulseOf (windowNow s) s.press.timing.minp (driveOf s i) (lineUnlocked s k) (rs.getD i 0)

/-- The width a sink emits with its row on: content, or the forced width of R294. -/
def emitted (s : State) (k : Nat) (content : Nat) : Nat :=
  match forceCode s k with
  | 2 => windowNow s
  | 3 =>
    match s.prot.force with
    | some f => let w := min f.width (windowNow s); if w < s.press.timing.minp then 0 else w
    | none => 0
  | _ => content

/-- A forced code-3 pulse withheld below the minimum pulse (R305). -/
def forcedWithheld (s : State) (k : Nat) : Bool :=
  forceCode s k == 3 && !sinkDark s k &&
    (match s.prot.force with
     | some f => let w := min f.width (windowNow s); decide (0 < w ∧ w < s.press.timing.minp)
     | none => false)

/-! ### Proof pulses (R311, R314, R315) -/

/-- Both tests are judged on a sink or channel whose row is on (R311). -/
def judged (s : State) (k : Nat) : Bool := !s.coll.excluded && forceCode s k == 0 && !sinkDark s k

/-- The instant an emitter was last inspected; start-up stands for never (R314). -/
def lastInspected (s : State) (i : Nat) : Nat := (mapGet s.coll.inspected i).getD s.start.s

/-- An emitter under suspicion (R316). -/
def suspect (s : State) (i : Nat) : Bool :=
  match mapGet s.coll.emitters i with
  | some o => decide (o.count < 3)
  | none => false

/-- An emitter due for a proof pulse in this slot (R314). -/
def proofDue (s : State) (j k content : Nat) : Bool :=
  let i := j * rowWidth s + k
  judged s k && decide (content < 2000) && !s.coll.proofSinks.contains k &&
    (suspect s i || decide (lastInspected s i + 10 * second ≤ s.now))

/-- Placed by time since inspection, longest first. -/
def byAge (s : State) (j : Nat) (k : Nat) : List Nat → List Nat
  | [] => [k]
  | x :: xs =>
    if lastInspected s (j * rowWidth s + k) < lastInspected s (j * rowWidth s + x) then k :: x :: xs
    else x :: byAge s j k xs

/-- The sinks that receive a proof pulse in slot j, at most 24, and how many more were due (R314). -/
def proofs (s : State) (j : Nat) (widths : List Nat) : List Nat × Nat :=
  if darkShow s (mNs s) then ([], 0)
  else
    let due := (List.range (rowWidth s)).filter fun k => proofDue s j k (widths.getD k 0)
    let order := due.foldl (fun l k => byAge s j k l) []
    (order.take 24, order.length - 24)

/-! ### The tests (R307 to R313) -/

/-- What the comparators say of each pin of a sink or channel. -/
inductive PinVerdict where
  | pass
  | detect (mv : Nat)
  | disagree
  deriving DecidableEq, Repr

/-- A comparator detects: an open at a headroom below 0.10 V (R307), a short at a column at or above VROW - 0.60 V (R308). -/
def detects (kind : DefKind) (mv : Nat) : Bool :=
  match kind with
  | .opn => decide (mv < 100)
  | .shrt => decide (mv ≤ 600)

/-- The pins of a sink or channel judged as one (R310). -/
def verdict (s : State) (kind : DefKind) (readings : List Reading) (k : Nat) : PinVerdict :=
  let hits := (sinksOf s k).filterMap fun p => readings.find? fun r => r.sink == p && detects kind r.mv
  match hits with
  | [] => .pass
  | r :: _ => if hits.length = (sinksOf s k).length then .detect r.mv else .disagree

/-- Three consecutive disagreements of one kind raise EVENT 0x0804 (R310, R323). -/
def notePair (s : State) (k : Nat) (kind : DefKind) (v : PinVerdict) : State :=
  let rest := s.coll.pairRuns.filter fun r => !(r.1 == k && r.2.1 == kind)
  let n := match s.coll.pairRuns.find? fun r => r.1 == k && r.2.1 == kind with | some r => r.2.2 + 1 | none => 1
  match v with
  | .disagree =>
    if 3 ≤ n then
      raise { s with coll := { s.coll with pairRuns := rest, counts := bump s.coll.counts 12 } } 0x0804
        (BitVec.ofNat 16 k) (match kind with | .opn => 1 | .shrt => 2)
    else { s with coll := { s.coll with pairRuns := rest ++ [(k, kind, n)] } }
  | _ => { s with coll := { s.coll with pairRuns := rest } }

/-- The detections and passes of one kind over the sinks tested, with the pair runs noted. -/
def judgeKind (s : State) (kind : DefKind) (tested : List Nat) (readings : List Reading) :
    State × List Reading × List Nat :=
  tested.foldl (fun a k =>
    let v := verdict s kind readings k
    let s' := if paired s then notePair a.1 k kind v else a.1
    match v with
    | .detect mv => (s', a.2.1 ++ [{ sink := k, mv := mv }], a.2.2)
    | .pass => (s', a.2.1, a.2.2 ++ [k])
    | .disagree => (s', a.2.1, a.2.2)) (s, [], [])

def countColl (s : State) (i n : Nat) : State := { s with coll := { s.coll with counts := bumpBy s.coll.counts i n } }

/-- A slot that accuses too many is discarded for one kind (R312). -/
def discards (s : State) (kind : DefKind) (n : Nat) : Bool :=
  match kind with
  | .opn => decide ((if paired s then 8 else 16) ≤ n)
  | .shrt => decide (5 ≤ n)

def noteDiscard (s : State) (kind : DefKind) (row : Nat) : State :=
  match kind with
  | .opn => countColl { s with coll := { s.coll with secOpens := s.coll.secOpens + 1, lastDiscardRow := row } } 5 1
  | .shrt => countColl { s with coll := { s.coll with secShorts := s.coll.secShorts + 1, lastDiscardRow := row } } 6 1

/-- A detection of an emitter of this kind waits for Porter. -/
def emitterWaits (s : State) (row k : Nat) (kind : DefKind) : Bool :=
  s.coll.fifo.any fun d => match d with | .emitter j q c _ _ => j == row && q == k && c == kind | _ => false

/-- What Porter hears of one emitter: a detection, short before open, and the passes that bear on its state, a detection that still
waits counting as one (R316, R326). -/
def detectionsOf (s : State) (row : Nat) (shorts opens : List Reading) (shortPass openPass : List Nat) : List Detection :=
  let at' (k : Nat) := mapGet s.coll.emitters (row * rowWidth s + k)
  let opens := opens.filter fun r => !shorts.any fun q => q.sink == r.sink
  (shorts.map fun r => .emitter row r.sink .shrt r.mv s.press.refreshNo) ++
    (opens.map fun r => .emitter row r.sink .opn r.mv s.press.refreshNo) ++
    ((shortPass.filter fun k => emitterWaits s row k .shrt ||
        (match at' k with | some o => o.kind == .shrt && decide (o.count < 3) | none => false)).map
      fun k => .emitterPass row k .shrt) ++
    ((openPass.filter fun k => emitterWaits s row k .opn ||
        (match at' k with | some o => o.kind == .opn | none => false)).map
      fun k => .emitterPass row k .opn)

/-- The tests of slot j on the pulses emitted (R307, R308, R311, R312, R314). -/
def testSlot (s : State) (j : Nat) (widths : List Nat) (openR shortR : List Reading) : State :=
  let on := (List.range (rowWidth s)).filter (judged s)
  let openTested := on.filter fun k => decide (2000 ≤ widths.getD k 0)
  let (s, shorts, shortPass) := judgeKind s .shrt on shortR
  let (s, opens, openPass) := judgeKind s .opn openTested openR
  let s := countColl (countColl (countColl s 0 openTested.length) 1 opens.length) 2 shorts.length
  let dropO := discards s .opn opens.length
  let dropS := discards s .shrt shorts.length
  let s := if dropO then noteDiscard s .opn j else s
  let s := if dropS then noteDiscard s .shrt j else s
  let opens := if dropO then [] else opens
  let shorts := if dropS then [] else shorts
  let t : SlotTests :=
    { row := j, opens := opens, shorts := shorts, openTested := opens.map (·.sink) ++ openPass
      shortTested := shorts.map (·.sink) ++ shortPass, openDiscarded := dropO }
  { s with
    coll := { s.coll with
      tests := s.coll.tests ++ [t]
      fifo := s.coll.fifo ++ detectionsOf s j shorts opens shortPass openPass
      inspected := openTested.foldl (fun m k => mapSet m (j * rowWidth s + k) s.now) s.coll.inspected } }

/-- The rows of a refresh in which a sink was detected, with the last reading. -/
def hitsOf (ts : List SlotTests) (f : SlotTests → List Reading) (k : Nat) : Nat × Nat :=
  ts.foldl (fun a t => match (f t).find? fun r => r.sink == k with | some r => (a.1 + 1, r.mv) | none => a) (0, 0)

/-- A sink's column detection in a refresh (R313). -/
def columnOf (s : State) (k : Nat) : List Detection :=
  let ts := s.coll.tests
  let rows := scanRows s
  let (nS, mvS) := hitsOf ts (·.shorts) k
  let (nO, mvO) := hitsOf ts (·.opens) k
  let testedO := (ts.filter fun t => t.openTested.contains k).length
  if decide (min 8 rows ≤ nS) then [.column k .shrt mvS s.press.refreshNo]
  else if nO = testedO && decide (1 ≤ nO) && (decide (8 ≤ nO) || decide (rows < 8)) then
    [.column k .opn mvO s.press.refreshNo]
  else []

/-- The sinks that any slot of the refresh accused. -/
def accused (ts : List SlotTests) : List Nat :=
  (ts.flatMap fun t => t.opens.map (·.sink) ++ t.shorts.map (·.sink)).eraseDups

/-- The columns that have a state of their own, or a detection that waits for Porter, by kind. -/
def columnsHeard (s : State) : List (Nat × DefKind) :=
  ((s.coll.columns.filterMap fun c => if c.2.kind == .opn || decide (c.2.count < 3) then some (c.1, c.2.kind) else none) ++
    s.coll.fifo.filterMap fun d => match d with | .column k kind _ _ => some (k, kind) | _ => none).eraseDups

/-- Sink k passed a judged test of a kind in a slot. -/
def passedIn (t : SlotTests) (k : Nat) : DefKind → Bool
  | .opn => t.openTested.contains k && !t.opens.any (·.sink == k)
  | .shrt => t.shortTested.contains k && !t.shorts.any (·.sink == k)

/-- A column so heard of passes in a refresh in which its sink passed a test of that kind and that yields no column detection
(R316). -/
def columnPasses (s : State) (found : List Detection) : List Detection :=
  (columnsHeard s).filterMap fun c =>
    let again := found.any fun d => match d with | .column k kind _ _ => k == c.1 && kind == c.2 | _ => false
    if s.coll.tests.any (passedIn · c.1 c.2) && !again then some (.columnPass c.1 c.2) else none

/-- The row detection of a refresh: one slot, and no other, discarded for opens (R313). -/
def rowFound (s : State) : List Detection :=
  match s.coll.tests.filter (·.openDiscarded) with
  | [t] => [.row t.row s.press.refreshNo]
  | _ => []

/-- The rows under suspicion, or with a detection that waits for Porter. -/
def rowsHeard (s : State) : List Nat :=
  ((s.coll.rows.filterMap fun r => if r.2.count < 3 then some r.1 else none) ++
    s.coll.fifo.filterMap fun d => match d with | .row r _ => some r | _ => none).eraseDups

/-- A row so heard of passes in a refresh whose slot for it was open-tested and not discarded (R316). -/
def rowPasses (s : State) : List Detection :=
  (rowsHeard s).filterMap fun r =>
    if s.coll.tests.any (fun t => t.row == r && !t.openDiscarded && !t.openTested.isEmpty) then some (.rowPass r) else none

/-- A refresh ends: its column and row detections and passes go to Porter (R313, R316). -/
def endTests (s : State) : State :=
  let cols := (accused s.coll.tests).flatMap (columnOf s)
  { s with
    coll := { s.coll with
      tests := [], proofSinks := [], fifo := s.coll.fifo ++ cols ++ columnPasses s cols ++ rowFound s ++ rowPasses s } }

/-! ### Wear (R46, R382) -/

/-- The wear of the pulses emitted in row j (R382). -/
def wearRow (s : State) (j : Nat) (widths : List Nat) : State :=
  if widths.all (· == 0) then s
  else
    let at' := j * rowWidth s
    let n := emitterCount s
    let wear := filled s.arch.wear n
    let rest := filled s.arch.wearRest n
    let new := (List.range (rowWidth s)).map fun k =>
      addWear (wear.getD (at' + k) 0) (rest.getD (at' + k) 0) (chargeOf s k (widths.getD k 0))
    { s with
      arch := { s.arch with
        wear := putRow wear (new.map (·.1)) at', wearRest := putRow rest (new.map (·.2)) at' } }

end Sys2Proof.Machine
end

