-- ==== Sys2Proof/Machine/Collator.lean ====
section
/-! DEFINITION. The Collator's declarations: SUSPECT and DECLARED states, the defect map, and the DEFECT report (R311, R313, R316 to R321). -/

namespace Sys2Proof.Machine

open Sys2Proof

/-! ### Declaration (R317 to R321) -/

/-- The census word of a declaration by its kind (R324). -/
def declaredWord : Nat → Nat
  | 1 => 7
  | 2 => 8
  | 3 | 4 => 9
  | 5 => 10
  | _ => 11

/-- A DEFECT record of a kind with its time (R321). -/
def defectOf (s : State) (kind row sink mv : Nat) (unmapped : Bool) (mapped : Nat) : DefectRec :=
  { kind := BitVec.ofNat 4 kind, unmapped := unmapped, paired := paired s, row := BitVec.ofNat 8 row
    sink := BitVec.ofNat 8 sink, tsec := tsecOf (mNs s), tns := tnsOf (mNs s), level := BitVec.ofNat 16 mv
    mapped := BitVec.ofNat 16 mapped }

/-- A record gathered for the next DEFECT report, with the counts by kind (R321, R324, R389). -/
def gather (s : State) (r : DefectRec) : State :=
  let since := if s.coll.gathered.isEmpty then s.now else s.coll.gatherSince
  let s := { s with
    coll := { s.coll with gathered := s.coll.gathered ++ [(s.now, r)], gatherSince := since }
    arch := { s.arch with defectCounts := s.arch.defectCounts.modify (r.kind.toNat - 1) fun n => min 0xFFFF (n + 1) } }
  countColl s (declaredWord r.kind.toNat) 1

/-- A declared short disables its sink, or both sinks of its channel, for good (R317, R319). -/
def disable (s : State) (k : Nat) : State :=
  let new := (sinksOf s k).filter fun p => !s.arch.disabled.contains p
  { s with arch := { s.arch with disabled := s.arch.disabled ++ new } }

/-- A declaration: the mask and the map first, then the report; a full map leaves it unmapped, with EVENT 0x0805 (R318, R320). -/
def declare (s : State) (kind row sink mv : Nat) : State :=
  let s := if kind == 2 || kind == 3 then disable s sink else s
  let n := s.arch.mapRecords.length
  if n < 254 then
    let r := defectOf s kind row sink mv false (n + 1)
    gather { s with arch := { s.arch with mapRecords := s.arch.mapRecords ++ [r] } } r
  else
    gather (raise s 0x0805 (BitVec.ofNat 16 kind) (pack [(row % 256, 8), (sink % 256, 0)]))
      (defectOf s kind row sink mv true n)

/-- A declared open recovers: its record goes, and kind 6 is reported (R316, R320, R321). -/
def recover (s : State) (kind row sink : Nat) : State :=
  let keep := s.arch.mapRecords.filter fun r =>
    !(r.kind.toNat == kind && r.row.toNat == row % 256 && r.sink.toNat == sink % 256)
  gather { s with arch := { s.arch with mapRecords := keep } } (defectOf s 6 row sink 0 false keep.length)

/-! ### States (R316) -/

/-- An object's state after a detection: unchanged by a second one of its kind in one refresh; nothing moves a DECLARED object
but a detection of its kind, which breaks its run of passes. -/
def detected (o : Option ObjState) (kind : DefKind) (refresh : Nat) : ObjState :=
  match o with
  | none => { kind := kind, count := 1, lastRefresh := refresh, passes := 0, before := none }
  | some o =>
    if o.kind == kind && o.lastRefresh = refresh then (if 3 ≤ o.count then { o with passes := 0 } else o)
    else if 3 ≤ o.count then
      if o.kind == kind then { o with passes := 0, lastRefresh := refresh, before := some (o.kind, o.count, o.passes) } else o
    else if o.kind == kind then
      { o with count := o.count + 1, lastRefresh := refresh, before := some (o.kind, o.count, o.passes) }
    else { kind := kind, count := 1, lastRefresh := refresh, passes := 0, before := some (o.kind, o.count, o.passes) }

/-- The third consistent detection has just come. -/
def reached (o : Option ObjState) (n : ObjState) : Bool :=
  n.count == 3 && (match o with | some o => decide (o.count < 3) | none => true)

/-- An object's state after a pass of its kind: a SUSPECT one is HEALTHY, a DECLARED open one after 16 in a row. -/
def passed (o : ObjState) : Option ObjState × Bool :=
  if o.count < 3 then (none, false)
  else if o.kind == .shrt then (some o, false)
  else if 16 ≤ o.passes + 1 then (none, true)
  else (some { o with passes := o.passes + 1 }, false)

def putObj (m : List (Nat × ObjState)) (i : Nat) : Option ObjState → List (Nat × ObjState)
  | some o => mapSet m i o
  | none => mapErase m i

/-- An emitter of column k whose state a detection of this refresh made. -/
def madeBy (s : State) (k refresh : Nat) (e : Nat × ObjState) : Bool :=
  decide (e.1 % rowWidth s = k) && e.2.lastRefresh == refresh

/-- A detection of its last refresh has declared the object: it stood short of it before. -/
def justDeclared (o : ObjState) : Bool :=
  o.count == 3 && (match o.before with | some b => decide (b.2.1 < 3) | none => false)

/-- The rows of column k whose emitter a detection of this refresh declared, with the record's kind. -/
def declaredBy (s : State) (k refresh : Nat) : List (Nat × Nat) :=
  s.coll.emitters.filterMap fun e =>
    if madeBy s k refresh e && justDeclared e.2 then
      some (e.1 / rowWidth s, match e.2.kind with | .opn => 1 | .shrt => 2)
    else none

/-- A record is one of these declarations of column k. -/
def recordOf (k : Nat) (ds : List (Nat × Nat)) (r : DefectRec) : Bool :=
  r.sink.toNat == k % 256 && ds.any fun d => d.1 % 256 == r.row.toNat && d.2 == r.kind.toNat

/-- Another declared short still holds sink k's column dark. -/
def shortStands (recs : List DefectRec) (k : Nat) : Bool :=
  recs.any fun r => (r.kind == 2 || r.kind == 3) && r.sink.toNat == k % 256

/-- The declarations of one kind among those taken back. -/
def undoneOf (ds : List (Nat × Nat)) (kind : Nat) : Nat := (ds.filter fun d => d.2 == kind).length

/-- The declarations taken back no longer stand in the census and in the counts of the case page (R324, R389). -/
def uncount (s : State) (ds : List (Nat × Nat)) : State :=
  let opens := undoneOf ds 1
  let shorts := undoneOf ds 2
  { s with
    arch := { s.arch with defectCounts := (s.arch.defectCounts.modify 0 (· - opens)).modify 1 (· - shorts) }
    coll := { s.coll with
      counts := (s.coll.counts.modify (declaredWord 1) (· - BitVec.ofNat 32 opens)).modify (declaredWord 2)
        (· - BitVec.ofNat 32 shorts) } }

/-- The instant from which the next DEFECT report gathers (R321). -/
def gatherFrom (gathered : List (Nat × DefectRec)) (old : Nat) : Nat := match gathered with | r :: _ => r.1 | [] => old

/-- A column detection takes back what its refresh counted for the column's emitters, a broken run of passes and a declaration that
rested on it too: its map record, its counts, its report if it has not left, and the disabling of its sink (R313; log 99, DESIGN
CHOICE). -/
def takeBack (s : State) (k refresh : Nat) : State :=
  let ds := declaredBy s k refresh
  let recs := s.arch.mapRecords.filter fun r => !recordOf k ds r
  let undone := ds.any (fun d => d.2 == 2) && !shortStands recs k
  let left := s.coll.gathered.filter fun r => !recordOf k ds r.2
  let s := uncount s ds
  { s with
    arch := { s.arch with
      mapRecords := recs
      disabled := if undone then s.arch.disabled.filter fun p => !(sinksOf s k).contains p else s.arch.disabled }
    coll := { s.coll with
      gathered := left, gatherSince := gatherFrom left s.coll.gatherSince
      emitters := s.coll.emitters.filterMap fun e =>
        if madeBy s k refresh e then
          e.2.before.map fun b =>
            (e.1, { e.2 with kind := b.1, count := b.2.1, passes := b.2.2, lastRefresh := 0, before := none })
        else some e } }

/-- A pass of the kind that an object was suspected of before a detection of the other kind: should that detection be taken back,
the object is HEALTHY (R313, R316). -/
def passedBefore (o : ObjState) (kind : DefKind) : ObjState :=
  match o.before with
  | some b => if b.1 == kind && decide (b.2.1 < 3) then { o with before := none } else o
  | none => o

/-- Porter takes one detection or pass (R313, R316). -/
def takeDetection (s : State) : Detection → State
  | .emitter row k kind mv refresh =>
    let i := row * rowWidth s + k
    let o := mapGet s.coll.emitters i
    let n := detected o kind refresh
    let s := { s with coll := { s.coll with emitters := mapSet s.coll.emitters i n } }
    if reached o n then declare s (match kind with | .opn => 1 | .shrt => 2) row k mv else s
  | .emitterPass row k kind =>
    let i := row * rowWidth s + k
    match mapGet s.coll.emitters i with
    | none => s
    | some o =>
      if o.kind == kind then
        let r := passed o
        let s := { s with coll := { s.coll with emitters := putObj s.coll.emitters i r.1 } }
        if r.2 then recover s 1 row k else s
      else { s with coll := { s.coll with emitters := mapSet s.coll.emitters i (passedBefore o kind) } }
  | .column k kind mv refresh =>
    let s := takeBack s k refresh
    let o := mapGet s.coll.columns k
    let n := detected o kind refresh
    let s := { s with coll := { s.coll with columns := mapSet s.coll.columns k n } }
    if reached o n then declare s (match kind with | .opn => 4 | .shrt => 3) 0xFF k mv else s
  | .columnPass k kind =>
    match mapGet s.coll.columns k with
    | none => s
    | some o =>
      if o.kind == kind then
        let r := passed o
        let s := { s with coll := { s.coll with columns := putObj s.coll.columns k r.1 } }
        if r.2 then recover s 4 0xFF k else s
      else s
  | .row row refresh =>
    let o := mapGet s.coll.rows row
    let n := detected o .opn refresh
    let s := { s with coll := { s.coll with rows := mapSet s.coll.rows row n } }
    if reached o n then declare s 5 row 0xFF 0 else s
  | .rowPass row =>
    match mapGet s.coll.rows row with
    | some o => if o.count < 3 then { s with coll := { s.coll with rows := mapErase s.coll.rows row } } else s
    | none => s

/-- The Collator has written its map or mask. -/
def wroteMap (s t : State) : Bool := s.arch.mapRecords != t.arch.mapRecords || s.arch.disabled != t.arch.disabled

/-- COLLATOR_DETECTION (R316); what writes the map or mask needs a burst of the Archive, so it waits while ARCH takes none, and one
that the Cellar refuses after a power fail is counted and not made (R318, R384, R394, R406). -/
def execCollatorDetection (s : State) : Result :=
  match s.coll.fifo with
  | [] => .next s
  | d :: rest =>
    if !coreOn s then .next s
    else
      let u := { s with coll := { s.coll with fifo := rest } }
      let t := takeDetection u d
      if !wroteMap u t || burstGranted s 2 then .next t
      else if s.cellar.failAt.isNone then .next s
      else .next (refuseBurst u)

/-! ### Reports (R321) -/

/-- The four words of a DEFECT or map record (R321). -/
def defectWords (r : DefectRec) : List Word :=
  [pack [(r.kind.toNat, 28), (bit r.unmapped, 27), (bit r.paired, 26), (r.row.toNat, 16), (r.sink.toNat, 0)], r.tsec, r.tns,
    pack [(r.level.toNat, 16), (r.mapped.toNat, 0)]]

/-- The declarations of one report: at most 63, gathered within 1 ms of the first (R321). -/
def gatheredNow (s : State) : List (Nat × DefectRec) :=
  (s.coll.gathered.takeWhile fun r => decide (r.1 ≤ s.coll.gatherSince + msNs)).take 63

/-- DEFECT_REPORT_SEND (R321). -/
def execDefectReportSend (s : State) : Result :=
  let rs := gatheredNow s
  if rs.isEmpty || !coreOn s then .next s
  else
    let left := s.coll.gathered.drop rs.length
    let s := { s with coll := { s.coll with gathered := left, gatherSince := gatherFrom left s.now } }
    .next (queueReport s 0x0030 (wordsBytes (BitVec.ofNat 32 rs.length :: rs.flatMap fun r => defectWords r.2)))

/-- COLLATOR_EXCLUSION_END: 100 ms after DRIVE became good (R311). -/
def execCollatorExclusionEnd (s : State) : Result :=
  if coreOn s && s.power.driveGood && s.coll.excluded then
    let s := advanceTo s s.coll.excludeUntil
    .next { s with coll := { s.coll with excluded := false } }
  else .next s

end Sys2Proof.Machine
end

