-- ==== Sys2Proof/Machine/Passes.lean ====
section
/-! DEFINITION. Binder: when a pass runs and what it latches, how it ends, and the loads of the working copies (R213 to R216, R233, R244, R277). -/

namespace Sys2Proof.Machine

open Sys2Proof

/-! ### The plate and the slot of a pass (R195, R213, R277) -/

/-- The plate not on light: a plate chosen at a cut-off counts as on light (R213, R277). -/
def freePlate (s : State) : Nat :=
  1 - (match s.press.chosen with | some h => h.plate | none => s.press.plateOn)

/-- A BOUND slot whose plate another pass overwrites is freed, its quire counted as superseded (R195). -/
def freeBound (s : State) (keep : Option Nat) : State :=
  ([0, 1, 2]).foldl (fun s i =>
    if (s.larder.slots.getD i Slot.empty).st == .bound && keep != some i then supersede s i else s) s

/-- The newest epoch the Press holds (R213, R275). -/
def newestEpoch (s : State) : Half := s.press.lastEpoch

/-! ### The start of a pass (R213, R214, R277) -/

/-- What a lane reads at a render point: STREAM is the slot taken there, otherwise the PRESENTING slot, otherwise DARK
(R239). -/
def laneAt (s : State) (taken : Option Nat) (p : Source) : LaneSrc :=
  match p with
  | .stream =>
    match taken with
    | some k => .slot k
    | none => match s.larder.slots.findIdx? fun x => x.st == .presenting with | some k => .slot k | none => .dark
  | _ => laneOf s p

/-- The pass of a frame seam as it would start now. -/
def passAt (s : State) (seam : Nat) (taken : Option Nat) : Pass :=
  let a := laneAt s taken s.screen.picture
  let b := match s.screen.fade with | some f => laneAt s taken f.target | none => .dark
  let fed := match taken with
    | some k => if a == .slot k || b == .slot k then some (s.larder.slots.getD k Slot.empty).quire else none
    | none => none
  { plate := freePlate s, epoch := newestEpoch s, isFrame := true, seam := seam, start := s.now, laneA := a, laneB := b
    alpha := s.screen.alpha, lambda := lambdaEff s, gains := s.bindery.gains, slot := taken, quire := fed }

/-- A lane of a re-render: the slot that STREAM reads now, and a slate as it stands now, in its shadow while its commit copy
runs (R213, R244). -/
def refreshLane (s : State) : LaneSrc → LaneSrc
  | .slot k => match currentSlot s with | some i => .slot i | none => .slot k
  | .slate n _ => .slate n (slateInCopy s n)
  | .dark => .dark

/-- The re-render of a pass as it would start now: a stream quire goes on light with it only when it is still BOUND, since the
quire of a PRESENTING slot has gone on light already (R198, R213). -/
def reRenderOf (s : State) (p : Pass) : Pass :=
  let bound := s.larder.slots.findIdx? fun x => x.st == .bound
  { p with
    isFrame := false, laneA := refreshLane s p.laneA, laneB := refreshLane s p.laneB, slot := bound
    quire := if bound.isSome then p.quire else none }

/-- A pass begins. On its first cycle it withdraws a handle that names its plate, moves the gains, and latches the epoch, the
level and the house level (R213, R214, R277); a commit copy that waited runs before it (R244); a slate it reads from the Archive is
counted (R245); the first pass after a load raises EVENT 0x0501 (R233). A re-render leaves the pass that the next render point owes
to another trigger. -/
def beginPass (s : State) (p : Pass) : State :=
  let s := beginCopy { s with
    bindery := { s.bindery with lambdaHouse := houseLevel s (if p.isFrame then p.seam else nextFrameSeam s) } }
  let gains := nextGains s
  let plate := freePlate s
  let p := { p with plate := plate, epoch := newestEpoch s, start := s.now, lambda := lambdaEff s, gains := gains }
  let s := { s with
    bindery := { s.bindery with
      pass := some p, gains := gains, firstPass := false, passWanted := s.bindery.passWanted && !p.isFrame
      reRenderDue := false, waiting := none }
    press := { s.press with crossing := s.press.crossing ++ [.withdraw plate] } }
  let s := countLane (countLane s p.laneA) p.laneB
  let s := countBindery (countBindery s 0 1) (if p.isFrame then 1 else 2) 1
  let s := freeBound s p.slot
  if s.bindery.calEventDue then
    raise { s with bindery := { s.bindery with calEventDue := false } } 0x0501 (BitVec.ofNat 16 (bit s.bindery.fallback))
      (if s.bindery.fallback then 0 else s.bindery.liveIdentity)
  else s

/-- A pass due now begins, or waits for the seam of the cut-off taken (R213, R277). -/
def startPass (s : State) (w : PassDue) : State :=
  if s.press.cutoffDone then { s with bindery := { s.bindery with waiting := some w } }
  else
    match w, s.bindery.shown with
    | .frame seam taken, _ => beginPass s (passAt s seam taken)
    | .reRender, some p => beginPass s (reRenderOf s p)
    | .reRender, none => s

/-- The time of a load by its bound (R233). -/
def loadBound : Nat := 1500 * usNs

/-- Regions 3 to 5 are being loaded or reloaded, so the plate on light repeats (R194, R233). -/
def regionsBusy (s : State) : Bool := s.bindery.loading.isSome || decide (s.now < s.bindery.reloadUntil)

/-- A re-render of the frame on light (R213): it waits for the end of a load, of a reload or of a running pass, merges into a
render point at most 0.18 ms ahead, and needs no pass of its own where one still waits for its seam. R213 names no
wait for a load (log 112, DESIGN CHOICE). -/
def startReRender (s : State) : State :=
  if regionsBusy s then { s with bindery := { s.bindery with reRenderDue := true } }
  else if s.bindery.waiting.isSome then s
  else if timeValid s.mantel && !holding s && decide (nextFrameSeam s ≤ mNs s + renderLead + 180 * usNs) then
    { s with bindery := { s.bindery with passWanted := true } }
  else if s.bindery.pass.isSome then { s with bindery := { s.bindery with reRenderDue := true } }
  else startPass s .reRender

/-- A re-render that waited starts. -/
def takeReRender (s : State) : State :=
  if s.bindery.reRenderDue then startReRender { s with bindery := { s.bindery with reRenderDue := false } } else s

/-- After a pass, a re-render that waited starts, unless that pass already carried the newest epoch (R213). -/
def afterPass (s : State) (p : Pass) : State :=
  if p.epoch == newestEpoch s then { s with bindery := { s.bindery with reRenderDue := false } } else takeReRender s

/-! ### The end of a pass (R215, R216, R277) -/

/-- The time in ns within which a pass ends (R215). -/
def passBound (s : State) : Nat := 26400 + 10 * emitterCount s

/-- A pass ends: its plate is written and its handle handed to the Press (R215, R277), and a commit copy that waited for it runs
(R244). -/
def endPass (s : State) (p : Pass) : State :=
  let (plate, low, high) := renderPlate s p
  let took := min (s.now - p.start) (passBound s)
  let h : Handle := { plate := p.plate, epoch := p.epoch, isFrame := p.isFrame, seam := p.seam, slot := p.slot
                      quire := p.quire }
  let s := countBindery (countBindery s 4 low) 5 high
  let s := { s with
    larder := { s.larder with plates := s.larder.plates.set p.plate plate }
    bindery := { s.bindery with
      pass := none, shown := some p, lastPass := s.now, lastPassNs := took, longestNs := max s.bindery.longestNs took }
    press := { s.press with crossing := s.press.crossing ++ [.handle h] } }
  afterPass (beginCopy s) p

/-- The quire that an abandoned pass rendered is dropped and counted as a hold (R216). -/
def dropRendered (s : State) (p : Pass) : State :=
  match p.slot, p.quire with
  | some i, some _ =>
    if (s.larder.slots.getD i Slot.empty).st == .bound then
      let s := countLarder (setSlot s i Slot.empty) 1
      { s with larder := { s.larder with secHolds := s.larder.secHolds + 1 } }
    else s
  | _, _ => s

/-- A pass abandoned with a reason: EVENT 0x0504 with the quire it rendered, 0 for a re-render (R216, R235, R238). -/
def abandonPass (s : State) (p : Pass) (why : Half) : State :=
  let s := countBindery { s with bindery := { s.bindery with pass := none } } 3 1
  let s := raise (beginCopy s) 0x0504 why (if p.isFrame then p.quire.getD 0 else 0)
  if p.isFrame then dropRendered s p else s

/-- The margin before its frame seam by which a pass has ended (R216). -/
def passMargin : Nat := 20 * usNs

/-- PASS_END: at an instant the manual bounds from the pass's start (R215; log 3). A pass that has missed its margin before the
frame seam is abandoned instead (R216). -/
def execPassEnd (s : State) : Result :=
  match s.bindery.pass with
  | none => .next s
  | some p =>
    if !coreOn s then .next s
    else
      let (u, s) := freeBelow s (passBound s)
      let s := advanceTo s (p.start + u)
      if p.isFrame && decide (p.seam < mNs s + passMargin) then .next (afterPass (abandonPass s p 1) p) else .next (endPass s p)

/-- A pass not ended 20 us before its frame seam is abandoned (R216). -/
def execPassAbandon (s : State) : Result :=
  match s.bindery.pass with
  | some p =>
    if coreOn s && p.isFrame then
      let s := advanceToMantel s (p.seam - passMargin)
      .next (afterPass (abandonPass s p 1) p)
    else .next s
  | none => .next s

/-- What a refresh seam starts: the pass that its cut-off made wait (R213, R277), too late only when its own frame seam has come
within the margin (R216); and a re-render held while a region was reloaded, for which the manual names no instant (log 98). -/
def startWaiting (s : State) (seam : Nat) : State :=
  match s.bindery.waiting with
  | some w =>
    let s := { s with bindery := { s.bindery with waiting := none } }
    match w with
    | .frame f taken =>
      if f < seam + passMargin then abandonPass s (passAt s f taken) 1 else startPass s w
    | .reRender => startPass s w
  | none => if s.bindery.pass.isNone && !regionsBusy s then takeReRender s else s

/-! ### Working-copy loads (R233) -/

/-- The next render point is at least 1.6 ms away (R233). -/
def gapAhead (s : State) : Bool :=
  !timeValid s.mantel || holding s || decide (mNs s + 1600 * usNs + renderLead ≤ nextFrameSeam s)

/-- A load begins: it brings in what the Archive holds now of the objects asked for, and a commit that completes while it runs asks
for a load of its own (R233). -/
def beginLoad (s : State) (forced : Bool) : State :=
  let b := s.bindery
  { s with
    bindery := { b with
      loadDue := none, loading := some s.now, loadForced := forced, loadHolds := 0, loadCal := false, loadFactory := false
      loadCurves := false
      loadFrom := { cal := b.loadCal, fact := b.loadFactory, tables := b.loadCurves, calibration := s.arch.calibration
                    factory := s.arch.factory, curves := s.arch.curves } } }

/-- A load starts at the end of a pass with a gap of at least 1.6 ms before the next render point, or runs anyway 100 ms after it
was asked for (R233). -/
def execWorkingCopyLoad (s : State) : Result :=
  match s.bindery.loadDue with
  | none => .next s
  | some t =>
    if !coreOn s || s.bindery.pass.isSome || s.bindery.waiting.isSome || s.bindery.loading.isSome then .next s
    else
      let free := decide (s.bindery.lastPass = s.now) && gapAhead s
      .next (beginLoad (if free then s else advanceTo s (t + 100 * msNs)) !free)

/-- Working copies made by f from the objects that a load reads (R233). -/
def readLoad (s : State) (l : LoadSource) (f : State → State) : State :=
  let a := s.arch
  let s := f { s with arch := { a with calibration := l.calibration, factory := l.factory, curves := l.curves } }
  { s with arch := a }

/-- What a load brings in (R233): the first pass after the load of a calibration marks it with EVENT 0x0501. DESIGN CHOICE (log 121):
a load of curve tables alone marks no pass; R233's "under the same rule" does not say. -/
def takeLoad (s : State) : State :=
  let l := s.bindery.loadFrom
  let s := if l.cal then
      let s := readLoad s l loadImage
      { s with bindery := { s.bindery with calEventDue := true } }
    else s
  let s := if l.tables then readLoad s l loadCurves else s
  if l.fact then recomputeWear (readLoad s l loadFactory) else s

/-- A load ends: the new working copies are in force, a forced load that cost holds raises EVENT 0x0507, a pass follows at the next
render point, and a re-render that waited starts (R213, R233). DESIGN CHOICE (log 122): of a load that brought in both the calibration
and curve tables, that EVENT names region 3; R233 does not say. -/
def endLoad (s : State) : State :=
  let region : Half := if s.bindery.loadFrom.cal then 3 else 5
  let holds := s.bindery.loadHolds
  let forced := s.bindery.loadForced
  let s := takeLoad (countBindery s 6 1)
  let s := { s with
    bindery := { s.bindery with
      loading := none, loadFrom := LoadSource.empty, loadForced := false, loadHolds := 0, passWanted := true } }
  takeReRender (if forced && holds != 0 then raise s 0x0507 region (BitVec.ofNat 32 holds) else s)

/-- WORKING_COPY_LOAD_END: within 1.5 ms of the start, at an instant the manual leaves open (R233; log 3). -/
def execWorkingCopyLoadEnd (s : State) : Result :=
  match s.bindery.loading with
  | none => .next s
  | some t =>
    if !coreOn s then .next s
    else
      let (u, s) := freeBelow s loadBound
      .next (endLoad (advanceTo s (t + u)))

/-- A load whose 1.5 ms have passed has ended: at a render point the load end counts first (R233, R238). -/
def endOverdueLoad (s : State) : State :=
  match s.bindery.loading with
  | some t => if t + loadBound ≤ s.now then endLoad s else s
  | none => s

end Sys2Proof.Machine
end

