-- ==== Sys2Proof/Machine/Render.lean ====
section
/-! DEFINITION. The render point and first light (R197, R213, R214, R238 to R242, R256, R401, R415). -/

namespace Sys2Proof.Machine

open Sys2Proof

/-! ### Due slots (R197, R415) -/

/-- A slot whose quire is due at a frame seam. -/
def dueSlot (s : State) (seam : Nat) (x : Slot) : Bool :=
  (x.st == .receiving || x.st == .ready) && decide (frameSeam s x.pres ≤ seam)

/-- The newest READY slot that is due (R197). -/
def newestDue (s : State) (seam : Nat) : Option Nat :=
  s.larder.slots.findIdx? fun x => x.st == .ready && dueSlot s seam x &&
    s.larder.slots.all fun y => !(y.st == .ready && dueSlot s seam y) || !seqBelow x.quire y.quire

/-- A hold counted (R197, R216, R233). -/
def countHold (s : State) : State :=
  let s := countLarder s 1
  { s with larder := { s.larder with secHolds := s.larder.secHolds + 1 } }

/-- f on each due slot but one. -/
def overDue (s : State) (seam : Nat) (keep : Option Nat) (f : Nat → State → State) : State :=
  [0, 1, 2].foldl (fun a i => if keep != some i && dueSlot s seam (s.larder.slots.getD i Slot.empty) then f i a else a) s

/-- The due slots taken: the newest READY one becomes BOUND and every other is superseded; with none READY all are dropped and
one hold is counted, as it is for a quire that an error dropped (R194, R195, R197). -/
def takeDue (s : State) (seam : Nat) : State × Option Nat :=
  let lost := s.larder.dropped.any fun d => decide (d.2 ≤ seam)
  let s := { s with larder := { s.larder with dropped := s.larder.dropped.filter fun d => decide (seam < d.2) } }
  match newestDue s seam with
  | some k =>
    let s := freeBound (overDue s seam (some k) fun i a => supersede a i) (some k)
    (setSlot s k { s.larder.slots.getD k Slot.empty with st := .bound }, some k)
  | none =>
    if lost || s.larder.slots.any (dueSlot s seam) then
      (countHold (overDue s seam none fun i a => setSlot a i Slot.empty), none)
    else (s, none)

/-- At first light a quire whose frame seam has passed is late (R415). -/
def dropLate (s : State) (seam : Nat) : State :=
  overDue s (seam - 1) none fun i a => countLate (setSlot a i Slot.empty)

/-! ### The pass of a render point (R213, R214, R239) -/

/-- What is rendered differs from the last pass, or changes at every frame (R213). -/
def pictureMoves (s : State) (p : Pass) : Bool :=
  s.screen.fade.isSome || s.screen.level.isSome ||
    (match s.bindery.shown with
    | some q => q.laneA != p.laneA || q.alpha != p.alpha || (p.alpha != 0 && q.laneB != p.laneB) || q.lambda != p.lambda
    | none => true)

/-- A pass runs at this render point (R213). -/
def passDue (s : State) (taken : Option Nat) (first : Bool) (p : Pass) : Bool :=
  first || taken.isSome || s.bindery.passWanted || s.bindery.reRenderDue || s.bindery.pass.isSome ||
    s.bindery.waiting.isSome || pictureMoves s p || gainDue s

/-- A pass still running or waiting at a render point is abandoned; a re-render's trigger goes to this pass (R213, R238). -/
def clearPass (s : State) : State :=
  let s := match s.bindery.waiting with
    | some (.frame f taken) => abandonPass s (passAt s f taken) 1
    | _ => s
  let s := { s with bindery := { s.bindery with waiting := none } }
  match s.bindery.pass with
  | none => s
  | some p =>
    if p.isFrame then abandonPass s p 1
    else countBindery { s with bindery := { s.bindery with pass := none } } 3 1

/-- A load or reload costs a hold at a render point at which a pass would have run (R194, R233, R237). -/
def holdForLoad (s : State) : State :=
  let s := countHold { s with bindery := { s.bindery with passWanted := true } }
  if s.bindery.loading.isSome then
    countBindery { s with bindery := { s.bindery with loadHolds := s.bindery.loadHolds + 1 } } 7 1
  else s

/-- The pass of the render point, or the hold that replaces it. -/
def renderPass (s : State) (seam : Nat) (taken : Option Nat) (first : Bool) : State :=
  let p := passAt s seam taken
  if regionsBusy s then
    if passDue s (newestDue s seam) first p then holdForLoad s else s
  else if passDue s taken first p then startPass (clearPass s) (.frame seam taken)
  else s

/-! ### The render point -/

/-- The level of an FZ5140 GAIN, put in force at a render point (R433). -/
def applyFzLevel (s : State) : State :=
  match s.leaf.fzLevel with
  | some l => setLevel { s with leaf := { s.leaf with fzLevel := none } } l
  | none => s

/-- The cues that fire: none while the Hall stands still (R192, R386). -/
def fireAt (s : State) (seam : Nat) (first : Bool) : State × Fired :=
  if hallDispatches s then fireCues s seam first else (s, Fired.nothing)

/-- The show at a frame seam: fades and level moved on, the standing LEVEL cue started, the legacy port's part, then the target
of R240. -/
def renderShow (s : State) (seam : Nat) (taken : Option Nat) (fired : Fired) (first : Bool) : State :=
  let s := levelTo (sourceTo (formEstimate s) seam) seam
  let s := match fired.level with
    | some (mode, target, ms, shape) => startLevel s seam mode target ms shape
    | none => s
  let (s, legacySrc) := applyLegacy (applyFzLevel s) seam first
  let src := match fired.src with | some x => some x | none => legacySrc
  let s := judgeCache (chooseTarget s seam (taken.isSome && s.screen.programme == .stream) src)
  { s with bindery := { s.bindery with lambdaHouse := houseLevel s seam } }

/-- The render point of frame seam F in its order: restore, cues, slots, show, pass, power state (R197, R213, R240, R256, R401,
R415). DESIGN CHOICE (log 120): a quire due at a render point that a load overlaps stays in its slot, for the next render point to
take or supersede; R233 does not say. -/
def renderPoint (s : State) (seam : Nat) : State :=
  let first := s.screen.firstSeam.isNone
  let s := { s with
    press := { s.press with renderedFor := some seam, renderedQuire := seamDesignated s seam }
    screen := { s.screen with firstSeam := some (s.screen.firstSeam.getD seam) } }
  let s := if first then dropLate s seam else if s.start.restoreDue then restoreShow s seam else s
  let (s, fired) := fireAt s seam first
  let (s, taken) := if first || regionsBusy s then (s, none) else takeDue s seam
  let s := renderPass (renderShow s seam taken fired first) seam taken first
  let s := choosePower s seam
  noteLit s (s.power.st == .s0 && !darkShow s seam)

/-- A render point can occur: CORE is on, time is valid, no hold runs, and the Hall has replayed (R175, R197, R415). -/
def rendersNow (s : State) : Bool := coreOn s && timeValid s.mantel && !holding s && s.hall.ready

/-- FIRST_LIGHT: the first frame seam shows the AWAIT picture, and EVENT 0x0D02 marks it (R415, R419, R420). -/
def execFirstLight (s : State) : Result :=
  match s.screen.firstSeam with
  | none => .next s
  | some seam =>
    if !coreOn s || s.start.firstLight then .next s
    else
      let s := advanceToSeam s seam
      let us := (s.now - s.start.s) / usNs
      let s := { s with
        start := { s.start with firstLight := true, stepUs := s.start.stepUs.set 6 (BitVec.ofNat 32 (sat 32 us)) } }
      .next (raise s 0x0D02 (BitVec.ofNat 16 (bit (s.screen.picture == .slate 0)))
        (BitVec.ofNat 32 (sat 32 ((s.now - s.start.s) / msNs))))

end Sys2Proof.Machine
end

