-- ==== Sys2Proof/Machine/Slot.lean ====
section
/-! DEFINITION. What happens inside a row slot: the order of its edges, the carrier and fine delay of a pulse, ghost discharge, and the comparisons of the delay lines (R265 to R268, R297). -/

namespace Sys2Proof.Machine

open Sys2Proof

/-! ### The carrier (R267) -/

/-- A pulse of w fine steps as a whole cycles and b taps (R267). -/
structure Carrier where
  a : Nat
  b : Nat
  deriving DecidableEq, Repr

def carrierOf (w : Nat) : Carrier := { a := w / 32, b := w % 32 }

/-- A sink group's window spans these cycles of the slot, the end outside (R265). -/
def inWindow (s : State) (g cycle : Nat) : Bool :=
  let w := windowStart s s.press.timing.deadNs g
  decide (w ≤ cycle) && decide (cycle < w + windowCycles s s.press.timing.deadNs)

/-- A sink of this width is on at a tap of a cycle: from its window's start until the carrier counter reaches a, delayed by b taps,
and never past the window (R265, R267). -/
def pulseOn (s : State) (g w cycle tap : Nat) : Bool :=
  let c := carrierOf w
  let n := cycle - windowStart s s.press.timing.deadNs g
  inWindow s g cycle && decide (0 < w) && (decide (n < c.a) || (decide (n = c.a) && decide (tap < c.b)))

/-! ### The order of edges (R266) -/

/-- An edge within a slot (R266). -/
inductive SlotEdge where
  | rowOff
  | comparison (until' : Nat)
  | rowOn (row : Nat)
  | windowStart (group : Nat)
  | pulseEnd (k : Nat)
  | windowEnd (group : Nat)
  | slotEnd
  deriving DecidableEq, Repr

/-- The edges of slot j with their time from its start in fine steps of 50 ps, in the order of R266's table; pulses by the widths
emitted. Every sink's comparison falls from cycle 2 to the cycle it names. -/
def slotEdges (s : State) (j : Nat) : List (Nat × SlotEdge) :=
  let d := s.press.timing.deadNs
  let groups := List.range 8
  let ends := (s.press.widths.mapIdx fun k w => (k, w)).filterMap fun x =>
    if x.2 = 0 then none
    else some (32 * windowStart s d (sinkGroup ((sinksOf s x.1).headD 0)) + x.2, SlotEdge.pulseEnd x.1)
  [(0, .rowOff), (32 * 2, .comparison (windowStart s d 0 - 2))] ++ (match s.press.rowOn with | some r => [(32 * rowOnCycle d, .rowOn r)] | none => []) ++
    groups.map (fun g => (32 * windowStart s d g, .windowStart g)) ++ ends ++
    groups.map (fun g => (32 * (windowStart s d g + windowCycles s d), .windowEnd g)) ++ [(32 * slotLength s j, .slotEnd)]

/-! ### Ghost discharge (R297) -/

/-- A slot is running: its edges fall now. -/
def slotRunning (s : State) : Bool := coreOn s && s.press.running && decide (0 < s.press.slot) && !allDark s

/-- The pull-up is withheld from a sink that a trip, PGOOD, a forced output, its disabling, a blanking freeze or the Cellar holds
dark, a row so held off holding every sink of its slot (R284, R297, R306). -/
def ghostWithheld (s : State) (k : Nat) : Bool :=
  let row := s.press.slot - 1
  cellarDark s || s.prot.frozenDark || rowTripped s row || forceCode s k == 1 ||
    (match s.prot.force with | some f => f.rows.getD row false | none => false) ||
    (sinksOf s k).any fun p => (groupsDark s).getLsbD (sinkGroup p) || s.arch.disabled.contains p

/-- The COL pins of a sink or channel are pulled up toward V_GD, from VDD_AUX, in this cycle of the slot (R297). -/
def ghostPulls (s : State) (k cycle : Nat) : Bool :=
  ghostOn s && auxIn s && slotRunning s && decide (1 ≤ cycle) && decide (cycle + 3 ≤ rowOnCycle s.press.timing.deadNs) &&
    !ghostWithheld s k

/-! ### The delay lines (R268) -/

/-- The comparisons of a sink's line in a slot: one in the dead time, and one every 256 cycles in which the sink is off inside its
window (R268). -/
def comparisons (s : State) (w : Nat) : Nat :=
  1 + (windowCycles s s.press.timing.deadNs - (carrierOf w).a) / 256

/-- Each comparison moves a 6-bit trim by one code toward agreement (R268). Which way the line's delay asks is not in the block, so
the way a trim goes is free within its comparisons (log 3). -/
def moveTrims (s : State) (widths : List Nat) : State :=
  let (u, s) := freeValue s
  { s with
    press := { s.press with
      trims6 := s.press.trims6.mapIdx fun sink t =>
        let c := comparisons s (widths.getD (if paired s then sink / 2 else sink) 0)
        min 63 (t + u / 4096 ^ sink % (2 * c + 1) - c) } }

end Sys2Proof.Machine
end

