-- ==== Sys2Proof/Machine/Press.lean ====
section
/-! DEFINITION. The Press: refresh seams, row slots, plate cut-offs, handles, timing sets, delay lines and the loss of PCLK (R177, R178, R262 to R283, R292, R299). -/

namespace Sys2Proof.Machine

open Sys2Proof

/-- The Press runs: CORE is on, refreshes have started and PCLK is there (R263, R299). -/
def pressRuns (s : State) : Bool := coreOn s && s.press.running && !s.prot.pclkLost

/-! ### Timing sets (R274 to R276) -/

/-- The Mantel time in ns of an instant of true time. -/
def mantelOf (s : State) (t : Nat) : Nat := ((mNs s : Int) + t - s.now).toNat

/-- The start of slot s/2 of the first refresh whose one falls at or after a time (R275). -/
def midFrom (s : State) (t : Nat) : Nat :=
  let f := refreshHz s
  let k := seamAfter f t
  let j := scanRows s / 2
  let before := slotStart s (seamNs f (k - 1)) j
  if 0 < k ∧ t ≤ before then before else slotStart s (seamNs f k) j

/-- A set applies at a refresh seam: apply 0, or scan 1:1 (R275). -/
def appliesAtSeam (s : State) (p : PendingSet) : Bool := p.apply == 0 || scanRows s == 1

/-- The Mantel time of the boundary at which a pending set applies (R275). -/
def boundaryOf (s : State) (p : PendingSet) : Nat :=
  if appliesAtSeam s p then seamFrom s (mantelOf s p.due) else midFrom s (mantelOf s p.due)

/-- The set a TIMING_SET body names, with the next epoch (R274, R275). -/
def timingOf (b : List Byte) (epoch : Half) : Timing :=
  { epoch := epoch, deadNs := field (wordAt b 0) 15 0, minp := field (wordAt b 0) 25 16
    trims := [field (wordAt b 4) 31 24, field (wordAt b 4) 23 16, field (wordAt b 4) 15 8, field (wordAt b 4) 7 0] }

/-- A set takes the next epoch and is held pending, and a re-render starts (R213, R275). -/
def takeTiming (s : State) (p : PendingSet) : State :=
  startReRender { s with press := { s.press with lastEpoch := p.set.epoch, pendingSet := some p } }

/-- TIMING_SET (R275). -/
def execTimingSet (s : State) : Result :=
  dispatch s 0x0030 fun m s =>
    takeTiming s
      { set := timingOf m.body (s.press.lastEpoch + 1), apply := field (wordAt m.body 0) 31 30, due := s.now + 10 * usNs
        chan := m.chan, seq := m.seq, no := m.no, silent := false }

/-- A handle dropped for an older epoch, or beyond the hold limit, is counted (R277, R280, R282). -/
def countDrop (s : State) (i : Nat) (h : Handle) : State :=
  let s := countPress s i
  { s with press := { s.press with secDropped := s.press.secDropped + 1, lastDroppedEpoch := h.epoch } }

/-- Every held handle older than E is dropped (R277). -/
def dropOlder (s : State) : State :=
  let old := s.press.handles.filter fun h => epochOlder h.epoch s.press.epochE
  let s := { s with
    press := { s.press with handles := s.press.handles.filter fun h => !epochOlder h.epoch s.press.epochE } }
  old.foldl (fun s h => countDrop s 6 h) s

/-- A trim below 31 of a used colour group is applied as 31, counted and reported (R46, R274, R280). -/
def raiseTrims (s : State) (trims : List Nat) : State :=
  [0, 1, 2, 3].foldl (fun s g =>
    if irefUsed s g && decide (trims.getD g 0 < 31) then
      raise (countPress s 10) 0x0706 (BitVec.ofNat 16 g) (BitVec.ofNat 32 (trims.getD g 0))
    else s) s

/-- The pending set governs the slots and completes (R275, R277). -/
def applyTiming (s : State) (p : PendingSet) : State :=
  let s := raiseTrims { s with press := { s.press with timing := p.set, pendingSet := none, epochE := p.set.epoch } } p.set.trims
  let s := dropOlder (countPress s 9)
  let s := raise s 0x0701 p.set.epoch (BitVec.ofNat 32 (windowNow s))
  if p.silent then s else reportDone s p.chan p.seq p.no 0 []

/-- TIMING_SET_APPLY: at the first boundary of its kind 10 us or more after dispatch (R275); after power-fail detect the set
does not apply (R283). -/
def execTimingSetApply (s : State) : Result :=
  match s.press.pendingSet with
  | some p =>
    if coreOn s && s.press.running && s.cellar.failAt.isNone then
      let b := boundaryOf s p
      .next (applyTiming (if appliesAtSeam s p then advanceToSeam s b else advanceToMantel s b) p)
    else .next s
  | none => .next s

/-! ### Handles and cut-offs (R277, R278) -/

/-- A handle crosses: dropped when its epoch is older than E, else held, the oldest of three dropped (R277, R282). -/
def arrive (s : State) (h : Handle) : State :=
  if epochOlder h.epoch s.press.epochE then countDrop s 6 h
  else
    let s := if h.epoch == s.press.epochE then s else countPress s 5
    let hs := s.press.handles ++ [h]
    match hs with
    | o :: rest =>
      if 2 < hs.length then countDrop { s with press := { s.press with handles := rest } } 7 o
      else { s with press := { s.press with handles := hs } }
    | [] => s

/-- A withdrawal removes the held handle that names its plate (R277, R282). -/
def withdraw (s : State) (plate : Nat) : State :=
  let gone := (s.press.handles.filter fun h => h.plate == plate).length
  let s := { s with
    press := { s.press with
      handles := s.press.handles.filter (fun h => h.plate != plate), secWithdrawn := s.press.secWithdrawn + gone } }
  { s with press := { s.press with counts := bumpBy s.press.counts 8 gone } }

/-- HANDLE_ARRIVE: the oldest word of the CCLK-to-PCLK FIFO (R277). -/
def execHandleArrive (s : State) : Result :=
  match s.press.crossing with
  | [] => .next s
  | x :: rest =>
    if pressRuns s then
      let s := { s with press := { s.press with crossing := rest } }
      match x with
      | .handle h => .next (arrive s h)
      | .withdraw plate => .next (withdraw s plate)
    else .next s

/-- A held handle that the cut-off of a seam may choose (R277). -/
def candidate (s : State) (seam : Nat) (h : Handle) : Bool :=
  h.epoch == s.press.epochE && (!h.isFrame || decide (h.seam ≤ seam))

/-- The cut-off of a refresh seam: a set that applies there counts as in force, older handles drop, and the last-arrived
candidate is chosen (R277). -/
def cutoff (s : State) (seam : Nat) : State :=
  let s := match s.press.pendingSet with
    | some p =>
      if appliesAtSeam s p && boundaryOf s p == seam && s.cellar.failAt.isNone then
        { s with press := { s.press with epochE := p.set.epoch } }
      else s
    | none => s
  let s := dropOlder s
  let cs := s.press.handles.filter (candidate s seam)
  let s := { s with
    press := { s.press with
      handles := s.press.handles.filter (fun h => !candidate s seam h), chosen := cs.getLast?, cutoffDone := true } }
  cs.dropLast.foldl (fun s h => countDrop s 7 h) s

/-- PLATE_CUTOFF, 2 us before the next refresh seam (R277). -/
def execPlateCutoff (s : State) : Result :=
  if pressRuns s && !s.press.cutoffDone then
    let seam := nextSeam s
    .next (cutoff (advanceToMantel s (seam - 2 * usNs)) seam)
  else .next s

/-! ### The refresh seam (R177, R178, R195, R263, R264) -/

/-- A new stream quire is on light: LIVE, and the feed-loss timer restarts (R198, R202, R209, R211). -/
def quireOnLight (s : State) (q : Word) : State :=
  let was := s.larder.fstate
  let s := countLarder s 0
  let s := { s with
    larder := { s.larder with
      fstate := .live, feedSince := s.now, feedRestart := s.now, feedStopped := s.screen.programme != .stream
      holdEnded := false, lossSlateTold := false } }
  let s := judgeCache s
  if was == .lost then raise (countLarder s 5) 0x0402 0 q else s

/-- The BOUND slot of the plate put on light becomes PRESENTING and the old one FREE (R195); the GSP template keeps its quire
(R113). -/
def presentSlot (s : State) (k : Nat) : State :=
  let x := s.larder.slots.getD k Slot.empty
  if x.st == .bound then
    let slots := s.larder.slots.map fun y => if y.st == .presenting then Slot.empty else y
    { s with
      larder := { s.larder with
        slots := slots.set k { x with st := .presenting }, seamOnLight := some (frameSeam s x.pres) }
      spine := { s.spine with lastQuire := x.quire } }
  else s

/-- The chosen plate goes on light (R277, R278, R282). -/
def putOnLight (s : State) (h : Handle) : State :=
  let s := countPress { s with
    press := { s.press with plateOn := h.plate, plateEpoch := h.epoch, plateIsFrame := h.isFrame } }
    (if h.isFrame then 3 else 4)
  let s := match h.slot with | some k => presentSlot s k | none => s
  match h.quire with | some q => quireOnLight s q | none => s

/-- SYNC_OUT marks a frame seam on AUX0 (R178, R292). -/
def markSync (s : State) : State :=
  if !hasSyncOut s then s
  else if syncToggles s then
    send { s with press := { s.press with syncOut := !s.press.syncOut } } (.syncOut false (!s.press.syncOut))
  else send s (.syncOut true true)

/-- A cycle-by-cycle input in force releases at the first seam on which it is deasserted (R289). -/
def seamReleases (s : State) : State :=
  { s with
    prot := { s.prot with
      inputs := s.prot.inputs.mapIdx fun i x =>
        if x.inForce && !inputLatched s i && !x.asserted then { x with inForce := false, quietSince := s.now } else x } }

/-- The phase of the PCLK PLL moves by at most 20 ps a refresh toward zero error (R262). -/
def trackPll (s : State) (errorPs : Int) : State :=
  { s with press := { s.press with phasePs := s.press.phasePs - max (-20) (min 20 errorPs) } }

/-- A seam placed more than 2 ns off is counted, and reported at most once a second (R262, R280, R282). -/
def noteSeamError (s : State) (errorPs : Int) : State :=
  let s := trackPll { s with press := { s.press with seamErrorPs := errorPs } } errorPs
  if errorPs.natAbs ≤ 2000 then s
  else
    let s := countPress s 13
    if s.press.seamErrSecond == some (reportSecond s) then s
    else raise { s with press := { s.press with seamErrSecond := some (reportSecond s) } } 0x0705 0 (swordSat errorPs)

/-- The seam falls as a frame seam: designated for a quire, or idle; none falls during a hold (R175, R178, R264). -/
def frameKind (s : State) (seam : Nat) : Option Bool :=
  if holding s then none
  else if seamDesignated s seam || (s.press.renderedFor == some seam && s.press.renderedQuire) then some true
  else if seamIdle s seam || s.press.renderedFor == some seam then some false
  else none

/-- The outputs may resume: nothing is forced dark, and the delay lines have locked (R268, R279, R299). -/
def resumeReady (s : State) : Bool := !cellarDark s && decide (s.prot.linesLocked ≤ s.now) && !s.prot.frozen

/-- A refresh starts at a seam (R263, R264, R279, R282, R289). -/
def startRefresh (s : State) (seam : Nat) (errorPs : Int) : State :=
  let kind := frameKind s seam
  let s := if s.press.cutoffDone then s else cutoff s seam
  let s := endTests s
  let s := match s.press.chosen with | some h => putOnLight s h | none => s
  let s := seamReleases s
  let s := noteSeamError (countPress s 0) errorPs
  let p := s.press
  let s := { s with
    press := { p with
      chosen := none, cutoffDone := false, lastSeam := seam, seamSeen := true, refreshNo := p.refreshNo + 1
      refreshesThisFrame := if kind.isSome then 1 else p.refreshesThisFrame + 1
      framesN := if kind.isSome then p.refreshesThisFrame else p.framesN
      frameL := if kind.isSome then p.slotL else p.frameL
      lastFrameSeam := if kind.isSome then seam else p.lastFrameSeam, frameSeamSeen := p.frameSeamSeen || kind.isSome
      slot := 0, slotsDone := s.prot.frozen, darkGap := false
      rowOn := if s.prot.frozen then p.rowOn else none, widths := if s.prot.frozen then p.widths else [] }
    prot := { s.prot with resumeAtSeam := s.prot.resumeAtSeam && !resumeReady s } }
  let s := match kind with
    | some q => markSync (countPress s (if q then 1 else 2))
    | none => s
  startWaiting s seam

/-- A hold ends with EVENT 0x0303 (R175, R191). -/
def endHold (s : State) : State :=
  raise { s with mantel := { s.mantel with hold := false } } 0x0303 0 (BitVec.ofNat 32 (sat 32 s.mantel.holdDepth))

/-- A hold whose P Mantel time has reached ends before the seam of that instant is judged (R192). -/
def endPassedHold (s : State) : State := if holding s && decide (s.mantel.p ≤ s.mantel.time) then endHold s else s

/-- REFRESH_SEAM: the next refresh seam of the grid, with the placement error the Press measures there (R262, R263). -/
def execRefreshSeam (errorPs : Int) (s : State) : Result :=
  if pressRuns s then
    let seam := nextSeam s
    .next (startRefresh (endPassedHold (advanceToSeam s seam)) seam errorPs)
  else .next s

/-! ### The row slot (R263 to R272, R307 to R315) -/

/-- A row slot: widths and residues in every case; pulses, proof pulses and tests when its row is on (R270, R284, R314). -/
def runSlot (s : State) (j : Nat) (openR shortR : List Reading) : State :=
  let rs := residuesOf s
  let ps := rowPulses s rs j
  let off := rowOff s j
  let c := s.press.counts
  let c := bumpBy (bumpBy c 14 (ps.filter (·.clipped)).length) 15 (ps.filter (·.withheld)).length
  let held := if off then 0 else ((List.range (rowWidth s)).filter (forcedWithheld s)).length
  let content := ps.map (·.w)
  let (proofed, more) := if off then ([], 0) else proofs s j content
  let widths := (List.range (rowWidth s)).map fun k =>
    let w := content.getD k 0
    if off || sinkDark s k then 0
    else if proofed.contains k then min (windowNow s) (w + 2400) else emitted s k w
  let s := { s with
    press := { s.press with
      residues := putRow rs (ps.map (·.r)) (j * rowWidth s), counts := bumpBy c 33 held
      widths := widths, rowOn := if off then none else some j, slot := j + 1, slotL := windowNow s
      slotsDone := decide (scanRows s ≤ j + 1) } }
  let s := moveTrims s widths
  let s := countColl (countColl s 3 proofed.length) 4 more
  let s := { s with coll := { s.coll with proofSinks := s.coll.proofSinks ++ proofed } }
  let s := wearRow s j widths
  if off then s else testSlot s j widths openR shortR

/-- The IREF resistors found open since they were measured leave their groups dark from then on (R51). -/
def noteIref (s : State) (open' : BitVec 4) : State :=
  { s with straps := { s.straps with irefOpen := s.straps.irefOpen ||| open' } }

/-- ROW_SLOT: the next slot of the refresh, with what the comparators read at its sampling instant (R263, R270, R307, R308), and the
IREF resistors that have opened by then (R51). -/
def execRowSlot (readings : SlotReadings) (irefOpen : BitVec 4) (s : State) : Result :=
  let s := noteIref s irefOpen
  if pressRuns s && s.press.seamSeen && !s.press.slotsDone && !s.prot.frozen && !s.press.darkGap then
    let j := s.press.slot
    .next (runSlot (advanceToMantel s (slotStart s s.press.lastSeam j)) j readings.opens readings.shorts)
  else .next s

/-! ### Delay lines (R269) -/

/-- A line's trim has sat at an end for 4,096 comparisons (R269, R280, R282). -/
def execDelayLineUnlock (sink : Nat) (atTop : Bool) (s : State) : Result :=
  if pressRuns s && decide (sink < 192) && !s.press.unlocked.contains sink then
    let trim := if atTop then 63 else 0
    let s := countPress { s with
      press := { s.press with unlocked := s.press.unlocked ++ [sink], trims6 := s.press.trims6.set sink trim } } 11
    .next (raise s 0x0702 (BitVec.ofNat 16 sink) (BitVec.ofNat 32 trim))
  else .next s

/-- 4,096 comparisons with the trim inside 1 to 62 lock the line again; which code it then holds is not stated (R269; log 3). -/
def execDelayLineRelock (sink : Nat) (s : State) : Result :=
  if pressRuns s && s.press.unlocked.contains sink then
    let (u, s) := freeBelow s 61
    let s := { s with
      press := { s.press with
        unlocked := s.press.unlocked.filter (· != sink), trims6 := s.press.trims6.set sink (u + 1) } }
    .next (raise s 0x0703 (BitVec.ofNat 16 sink) 0)
  else .next s

/-! ### PCLK (R26, R299) -/

/-- The sequencing in progress is over: its slots, tests and cut-off (R299). -/
def haltPress (s : State) : State :=
  let s := rowCutOff s
  { s with
    press := { s.press with slotsDone := true, cutoffDone := false, seamSeen := false }
    coll := { s.coll with tests := [], proofSinks := [] } }

/-- PCLK_LOSS: no edge for 1.5 us, so the Cellar forces dark (R26, R374). -/
def execPclkLoss (s : State) : Result :=
  if coreOn s && !s.prot.pclkLost then
    let s := haltPress { s with prot := { s.prot with pclkLost := true } }
    .next (forceDark (countPress s 31) 1)
  else .next s

/-- PCLK_RESTORE: 100 us of edges and lock; the Cellar releases, and the delay lines lock within 200 us (R268, R299). -/
def execPclkRestore (s : State) : Result :=
  if coreOn s && s.prot.pclkLost then
    .next (releaseDark (lockLines { s with prot := { s.prot with pclkLost := false } }) 1)
  else .next s

end Sys2Proof.Machine
end

