-- ==== Sys2Proof/Machine/Larder.lean ====
section
/-! DEFINITION. The Larder and the report clock: feed loss, the presentation delay, uncorrectable errors by region, the queues' reports and the ends of report seconds (R59, R155, R194, R200 to R209, R312, R350, R435, R479). -/

namespace Sys2Proof.Machine

open Sys2Proof

/-! ### Feed loss (R202 to R204) -/

/-- The body of a FEED_LOSS_POLICY (R204). -/
def policyOf (b : List Byte) : FeedPolicy :=
  { policy := field (wordAt b 0) 31 28, slate := field (wordAt b 0) 27 24, timeoutMs := field (wordAt b 0) 15 0
    fadeMs := field (wordAt b 4) 31 16, holdS := field (wordAt b 4) 15 0 }

/-- FEED_LOSS_POLICY: in force from its completion, in LOST too (R204). -/
def execFeedLossPolicy (s : State) : Result :=
  dispatch s 0x0014 fun m s =>
    doneWith (judgeCache { s with
      larder := { s.larder with feed := policyOf m.body, holdEnded := false, lossSlateTold := false } }) m 0

/-- The feed-loss timer reaches its timeout: LOST, with EVENT 0x0401 (R202, R209, R211). -/
def loseFeed (s : State) : State :=
  let ms := (s.now - s.larder.feedSince) / msNs
  let s := countLarder { s with larder := { s.larder with fstate := .lost, lostAt := s.now, holdEnded := false } } 4
  raise s 0x0401 (BitVec.ofNat 16 s.larder.feed.policy) (BitVec.ofNat 32 (sat 32 ms))

/-- The plate chosen at the last cut-off puts a new stream quire on light at a seam that this instant has reached (R212, R277). -/
def quireArrives (s : State) : Bool :=
  (match s.press.chosen with | some h => h.quire.isSome | none => false) && pressRuns s && decide (nextSeam s ≤ mNs s)

/-- FEED_LOSS_EXPIRY: the timer runs in LIVE while the programme is STREAM, from its last restart; a new quire that goes on light on
that cycle keeps the node LIVE (R202, R212). -/
def execFeedLossExpiry (s : State) : Result :=
  if coreOn s && s.larder.fstate == .live && !s.larder.feedStopped then
    let s := advanceTo s (s.larder.feedRestart + s.larder.feed.timeoutMs * msNs)
    .next (if quireArrives s then s else loseFeed s)
  else .next s

/-- FEED_LOSS_HOLD_END: the hold time of policy 3 ends (R203); a standalone node counts it from its DMX loss (R355). -/
def execFeedLossHoldEnd (s : State) : Result :=
  if s.larder.feed.policy != 3 || !coreOn s then .next s
  else if legacyLoss s then
    .next (advanceTo s (s.legacy.lastValid + 1250 * msNs + s.larder.feed.holdS * second))
  else if s.larder.fstate == .lost then
    let s := advanceTo s (s.larder.lostAt + s.larder.feed.holdS * second)
    .next { s with larder := { s.larder with holdEnded := true } }
  else .next s

/-- PRESENTATION_DELAY: in force for slots opened from now on for the named quire and newer ones, and kept in the Archive
(R200). -/
def execPresentationDelay (s : State) : Result :=
  dispatch s 0x0015 fun m s =>
    let d := (wordAt m.body 0).toNat
    doneWith { s with
      larder := { s.larder with delays := (wordAt m.body 4, d) :: s.larder.delays }, arch := { s.arch with delayUs := d } } m 0

/-! ### Uncorrectable errors (R194, R238) -/

/-- A pass that reads what an error has spoilt is abandoned with reason 2; the trigger of a re-render goes to the next render
point (R213, R235, R238). -/
def spoilPass (s : State) (hit : Pass → Bool) : State :=
  match s.bindery.pass with
  | none => s
  | some p =>
    if hit p then
      let s := abandonPass s p 2
      if p.isFrame then s else { s with bindery := { s.bindery with passWanted := true } }
    else s

/-- A pass reads frame slot k. -/
def readsSlot (k : Nat) (p : Pass) : Bool := p.laneA == .slot k || p.laneB == .slot k || p.slot == some k

/-- The pass that waits for its seam goes on without a slot that an error spoilt: that quire is a hold (R194, R212). -/
def spoilWaiting (s : State) (k : Nat) : State :=
  match s.bindery.waiting with
  | some (.frame f (some i)) =>
    if i = k then countHold { s with bindery := { s.bindery with waiting := some (.frame f none) } } else s
  | _ => s

/-- Region 1: the quire of a slot is dropped; one not yet rendered costs a hold unless it comes again in time, and the
plate of one rendered still goes on light (R194; log 109, DESIGN CHOICE). -/
def dropSlot (s : State) (k : Nat) : State :=
  let s := spoilWaiting (spoilPass s (readsSlot k)) k
  let x := s.larder.slots.getD k Slot.empty
  let s := setSlot s k Slot.empty
  if x.st == .receiving || x.st == .ready then
    { s with larder := { s.larder with dropped := (x.quire, frameSeam s x.pres) :: s.larder.dropped } }
  else s

/-- Region 2: the two emitters of a plate word pair are dark until that plate is written anew (R194). -/
def darkenPlate (s : State) (off : Nat) : State :=
  let p := off / 61440
  let i := off % 61440 / 8 * 2
  { s with
    larder := { s.larder with plates := s.larder.plates.modify p fun w => (w.set i 0).set (i + 1) 0 } }

/-- Regions 3 to 5: reloaded from the Archive within 2 ms, at an instant not stated; a running pass reads them (R194, R238). -/
def reloadRegion (s : State) : State :=
  let s := spoilPass s fun _ => true
  let (t, s) := freeBelow s (2 * msNs)
  { s with bindery := { s.bindery with reloadUntil := max s.bindery.reloadUntil (s.now + t) } }

/-- An integral back at its last persisted value (R194). -/
def restoreWear (s : State) (i : Nat) : State :=
  { s with
    arch := { s.arch with wear := s.arch.wear.set i (s.arch.wearSaved.getD i 0), wearRest := s.arch.wearRest.set i 0 } }

/-- One of n things, of which the manual does not say which stands at an offset (log 3). -/
def freeIndex (s : State) (n : Nat) : Nat × State := freeBelow s (n - 1)

/-- Region 7: a word pair of the bank reads as all ones (R194). -/
def spoilBank (s : State) : State :=
  let n := match s.mantel.bank with
    | some b => 8 + (b.sections.map fun x => x.2.length).sum
    | none => 0
  if n = 0 then s
  else
    let (i, s) := freeIndex s n
    { s with larder := { s.larder with badBankWords := (i / 2 * 2) :: (i / 2 * 2 + 1) :: s.larder.badBankWords } }

/-- Region 8: a cached slate is invalid, and a lane that reads it goes on from the Archive, a cache miss (R194, R238, R245); a packet
for a leaf is discarded (R48). -/
def spoilCache (s : State) (off : Nat) : State :=
  if mode s == .head then
    let (i, s) := freeIndex s s.leaf.queue.length
    { s with leaf := { s.leaf with queue := s.leaf.queue.eraseIdx i } }
  else
    let e := s.screen.cache.getD (off / 30720) { slate := 15, st := 0 }
    let reads (l : LaneSrc) : Bool := e.st == 2 && l == .slate e.slate false
    let hit := match s.bindery.pass with
      | some p => bit (reads p.laneA) + bit (reads p.laneB)
      | none => 0
    let s := { s with
      screen := { s.screen with
        cache := s.screen.cache.modify (off / 30720) (fun e => { e with st := 0 }), counts := bumpBy s.screen.counts 6 hit } }
    countBindery s 10 hit

/-- The held message of one cell discarded, with EVENT 0x0202 (R122, R194). -/
def dropHeld (s : State) (m : Msg) : State :=
  match channel s m.chan with
  | none => s
  | some c => raise (setChannel s { c with held := c.held.filter fun x => x.seq != m.seq }) 0x0202 m.chan m.seq

/-- Region 9: which of the 64 cells holds which message is not stated (R194). -/
def spoilCell (s : State) : State :=
  let (i, s) := freeIndex s 64
  match (s.hall.channels.flatMap (·.held))[i]? with
  | some m => dropHeld s m
  | none => s

/-- Region 10: a packet of queue 0x01 is discarded, and its sequence is a gap (R194). -/
def spoilReport (s : State) : State :=
  let (i, s) := freeIndex s s.larder.reports.length
  let s := { s with larder := { s.larder with reports := s.larder.reports.eraseIdx i } }
  admitWaiting s.larder.waiting.length s

/-- Region 11: a record of queue 0x02 is discarded (R194). -/
def spoilEvent (s : State) : State :=
  let (i, s) := freeIndex s s.larder.events.length
  { s with larder := { s.larder with events := s.larder.events.eraseIdx i } }

/-- The outcome of an uncorrectable error by region, queue 0x02 of region 11 and the engine data of region 12 aside; the offset counts
from the start of the Larder (R193, R194). -/
def spoilRegion (s : State) (region off : Nat) : State :=
  match region with
  | 1 => dropSlot s (off / 30720)
  | 2 => darkenPlate s (off - 0x16800)
  | 3 | 4 | 5 => reloadRegion s
  | 6 =>
    let i := (off - 0x6A000) / 8 * 2
    restoreWear (restoreWear s i) (i + 1)
  | 7 => spoilBank s
  | 8 => spoilCache s (off - 0x89000)
  | 9 => spoilCell s
  | 10 => spoilReport s
  | _ => s

/-- An uncorrectable error is counted and raises EVENT 0x0407, which an error in queue 0x02 itself does not discard (R194, R211). -/
def noteError (s : State) (region : Nat) (off : Word) : State :=
  raise (countLarder (if region = 11 then spoilEvent s else s) 7) 0x0407 (BitVec.ofNat 16 region) off

/-! ### The queues' reports (R205, R208) -/

/-- A set watermark notice of queue k + 1 reported and cleared (R208). -/
def reportWatermark (s : State) (k : Nat) (w : Watermark) : State :=
  let w' : Watermark :=
    { noticed := false, crossings := 0, peak := queueLevel s k, lastInterval := some (reportInterval s (100 * msNs)) }
  let s := { s with larder := { s.larder with waters := s.larder.waters.set k w' } }
  raise s 0x0403 (pack [(k + 1, 8)] |>.setWidth 16) (pack [(sat 16 w.crossings, 16), (sat 16 w.peak, 0)])

/-- WATERMARK_REPORT: at most one in each 100 ms of the report clock, so a further one waits for the next (R208, R479). -/
def execWatermarkReport (queue : BitVec 2) (s : State) : Result :=
  match s.larder.waters[queue.toNat - 1]? with
  | none => .next s
  | some w =>
    if queue == 0 || !w.noticed || !coreOn s then .next s
    else
      let s := match w.lastInterval with
        | some i => advanceTo s (s.start.s + (i + 1) * (100 * msNs))
        | none => s
      .next (reportWatermark s (queue.toNat - 1) w)

/-- The words of an EVENT record (R112). -/
def eventWords (e : EventRec) : List Word := [pack [(e.code.toNat, 16), (e.arg0.toNat, 0)], e.tsec, e.tns, e.arg1]

/-- An EVENT report of the oldest records, at most 63 (R112, R205). -/
def eventPayload (es : List EventRec) : List Byte := wordsBytes (BitVec.ofNat 32 es.length :: es.flatMap eventWords)

/-- EVENT_REPORT_FORM: the records waiting leave queue 0x02 for queue 0x01, once it has room for them (R205). -/
def execEventReportForm (s : State) : Result :=
  let es := s.larder.events.take 63
  let f : OwnFolio := { (default : OwnFolio) with payload := eventPayload es }
  if coreOn s && !es.isEmpty && s.larder.waiting.isEmpty && roomFor s f then
    .next (queueReport { s with larder := { s.larder with events := s.larder.events.drop 63 } } 0x0012 (eventPayload es))
  else .next s

/-! ### The end of a report second (R479) -/

/-- One summary of a role's tag failures or keyless attempts: its audit entry, a burst of three words, and EVENT 0x0206 (R155, R156,
R160, R384). -/
def summarise (s : State) (role n outcome reason : Nat) : State :=
  if n = 0 then s
  else if !burstGranted s 3 then refuseBurst s
  else
    let s := auditWrite s 0xFFFF 0 (BitVec.ofNat 32 n) (BitVec.ofNat 2 role) (BitVec.ofNat 4 outcome) 0 false
    raise s 0x0206 (pack [(role, 8), (reason, 0)] |>.setWidth 16) (BitVec.ofNat 32 n)

/-- The audit summaries of the second; in a brown-out of VDD_AUX they wait for the end of a later one (R155, R406). -/
def auditSummaries (s : State) : State :=
  if !archiveOpen s && s.cellar.failAt.isNone then s
  else
    let tags := s.hall.tagFails
    let keyless := s.hall.keyless
    let s := [0, 1, 2].foldl (fun s r =>
      summarise (summarise s r (tags.getD r 0) 4 1) r (keyless.getD r 0) 5 8) s
    { s with hall := { s.hall with tagFails := List.replicate 3 0, keyless := List.replicate 3 0 } }

/-- EVENT 0x0405: frame losses (R209). -/
def lossSummary (s : State) : State :=
  let l := s.larder
  let s := { s with larder := { l with secHolds := 0, secSuperseded := 0, secLate := 0 } }
  if l.secHolds + l.secSuperseded + l.secLate = 0 then s
  else
    raise s 0x0405 (BitVec.ofNat 16 (sat 16 l.secHolds))
      (pack [(sat 16 l.secSuperseded, 16), (sat 16 l.secLate, 0)])

/-- EVENT 0x0704: plates dropped or withdrawn (R280). -/
def plateSummary (s : State) : State :=
  let p := s.press
  let s := { s with press := { p with secDropped := 0, secWithdrawn := 0 } }
  if p.secDropped + p.secWithdrawn = 0 then s
  else
    raise s 0x0704 (pack [(sat 8 p.secDropped, 8), (sat 8 p.secWithdrawn, 0)] |>.setWidth 16)
      (p.lastDroppedEpoch.setWidth 32)

/-- EVENT 0x0801: slots discarded (R312, R323). -/
def discardSummary (s : State) : State :=
  let c := s.coll
  let s := { s with coll := { c with secOpens := 0, secShorts := 0 } }
  if c.secOpens + c.secShorts = 0 then s
  else
    raise s 0x0801 (pack [(sat 8 c.secOpens, 8), (sat 8 c.secShorts, 0)] |>.setWidth 16) (BitVec.ofNat 32 c.lastDiscardRow)

/-- EVENT 0x0906: frames sent despite a cancel (R343, R348). -/
def despiteSummary (s : State) : State :=
  let b := s.back
  let s := { s with back := { b with secDespite := 0, despiteMask := 0 } }
  if b.secDespite = 0 then s
  else raise s 0x0906 (BitVec.ofNat 16 (sat 16 b.secDespite)) (BitVec.ofNat 32 b.despiteMask)

/-- EVENT 0x0111: leaf-queue drops (R435). -/
def leafSummary (s : State) : State :=
  let l := s.leaf
  let s := { s with leaf := { l with secSig := 0, secCtl := 0 } }
  if l.secSig + l.secCtl = 0 then s
  else
    raise s 0x0111 (pack [(sat 8 l.secSig, 8), (sat 8 l.secCtl, 0)] |>.setWidth 16) (BitVec.ofNat 32 l.lastDropQueued)

/-- A port's CRC failures of the second that has ended; more than 16 are degraded (R59, R110). -/
def endPortSecond (x : PortS) : PortS :=
  { x with crcLastSecond := BitVec.ofNat 32 x.crcThisSecond, degraded := decide (16 < x.crcThisSecond), crcThisSecond := 0 }

/-- Both ports, with the LINK report of a degraded one (R59). -/
def portSummary (s : State) : State :=
  let s := setPort (setPort s .east (endPortSecond s.spine.east)) .west (endPortSecond s.spine.west)
  if s.spine.east.degraded || s.spine.west.degraded then queueLink s 1 else s

/-- Everything that the end of a report second does (R479). -/
def endSecond (s : State) : State :=
  let s := leafSummary (despiteSummary (discardSummary (plateSummary (lossSummary (auditSummaries s)))))
  let s := portSummary s
  { s with
    start := { s.start with secondsEnded := s.start.secondsEnded + 1 }
    spine := { s.spine with collisionReported := false } }

/-- REPORT_SECOND_END: report second k ends at S + (k + 1) s (R479). -/
def execReportSecondEnd (s : State) : Result :=
  if running s then .next (endSecond (advanceTo s (s.start.s + (s.start.secondsEnded + 1) * second))) else .next s

end Sys2Proof.Machine
end

