-- ==== Sys2Proof/Machine/Mantel.lean ====
section
/-! DEFINITION. Mantel: the time sources, Sync, Follow_Up and Delay_Resp, the servo, lock states and directions, SYNC_IN, steps, holds and the setting of the RTC (R162 to R176, R187, R191, R192). -/

namespace Sys2Proof.Machine

open Sys2Proof

/-! ### Stamps and the asymmetry table (R22, R164 to R166) -/

/-- A number of ps in 2^-16 ns. -/
def of16 (ps : Int) : Int := rdiv (ps * 65536) 1000

/-- An ingress stamp moves earlier by the RX latency and the lane-0 deskew delay (R164). -/
def ingressPs (s : State) (p : Port) : Nat := Config.latencyPs (portCode p) (laneRate s) 1 + (portSync s p).lane0Ps

/-- The path asymmetry of a port in ps (R165, R166). -/
def asymmetry (s : State) : Port → Int
  | .east => s.arch.asymEast
  | .west => s.arch.asymWest

/-- The path asymmetry that a measurement now uses: one of the instant of an ASYMMETRY_SET uses the old entry (R192). -/
def asymmetryUsed (s : State) (p : Port) : Int :=
  match s.mantel.asymWas, p with
  | some (t, e, _), .east => if t = s.now then e else asymmetry s p
  | some (t, _, w), .west => if t = s.now then w else asymmetry s p
  | none, _ => asymmetry s p

/-- ASYMMETRY_SET: kept in the Archive, in use from the next offset (R165, R166, R192). -/
def execAsymmetrySet (s : State) : Result :=
  dispatch s 0x0041 fun m s =>
    let v := (wordAt m.body 4).toInt
    if 100000 < v.natAbs then doneWith s m 3
    else
    let s := { s with mantel := { s.mantel with asymWas := some (s.now, asymmetryUsed s .east, asymmetryUsed s .west) } }
    if field (wordAt m.body 0) 31 30 = 0 then doneWith { s with arch := { s.arch with asymEast := v } } m 0
    else doneWith { s with arch := { s.arch with asymWest := v } } m 0

/-! ### Sources (R168, R172) -/

/-- The domain and master named, none in the other sources; until a TIME_SOURCE completes the master of the first valid Sync in
domain 0 is followed (R168). -/
def named (s : State) : Option (Byte × Option Long) :=
  match ruledSource s with
  | some (.ringMaster d i) => some (d, some i)
  | some _ => none
  | none => some (0, s.mantel.firstMaster)

/-- The domain that word 0 of the TIME_SOURCE in force names, 0 while none has completed (R168, R190). -/
def sourceDomain (s : State) : Byte :=
  match ruledSource s with
  | some (.ringMaster d _) | some (.syncIn d _) | some (.freeRun d) => d
  | none => 0

/-- The source in force, none while no master is followed yet. -/
def sourceNow (s : State) : Option TimeSource :=
  match ruledSource s with
  | some x => some x
  | none => s.mantel.firstMaster.map (.ringMaster 0)

/-- A lock state taken; the length of a holdover that ends is kept, and the end of start-up step 12 (R172, R190, R420). -/
def takeLock (s : State) (l : Lock) : State :=
  let s := if s.mantel.lock == .holdover then
      { s with mantel := { s.mantel with holdoverLast := (s.now - s.mantel.holdoverSince) / second } }
    else s
  let s := if (l == .locked || (l == .free && s.mantel.lock == .unset)) && s.start.stepUs.getD 5 0 == 0 then
      { s with
        start := { s.start with
          stepUs := s.start.stepUs.set 5 (BitVec.ofNat 32 (sat 32 ((s.now - s.start.s) / usNs))) } }
    else s
  setLock s l (psOf s.mantel.lastOffset)

/-- What the old source measured is no measure of the new one (R170, R172). -/
def PortSync.forget (x : PortSync) : PortSync :=
  { x with sync := none, pending := none, t3 := none, prevSync := none, delays := [], measured := false }

/-- ACQUIRING begins: its first measurement is a step (R172, R174). A step of the old source that waits for its seam goes with
that source; at the entry to HOLDOVER it stays. The rules do not say either (log 96, DESIGN CHOICE). -/
def toAcquiring (s : State) : State :=
  let s := takeLock { s with mantel := { s.mantel with validOnEntry := timeValid s.mantel } } .acquiring
  { s with
    mantel := { s.mantel with
      firstMeasure := true, lockRun := 0, bigRun := 0, stepPending := none, rate := none
      noStep := false } }

/-- A TIME_SOURCE that names another source than the one in force starts ACQUIRING; the source is kept in the Archive (R168,
R172). -/
def nameSource (s : State) (x : TimeSource) : State :=
  let same := sourceNow s == some x && s.mantel.lock != .free
  let s := { s with arch := { s.arch with source := some x } }
  if same then s
  else
    toAcquiring { s with
      mantel := { s.mantel with
        east := s.mantel.east.forget, west := s.mantel.west.forget, diffs := [], lastEdge := none, prefRun := 0 } }

/-- The type field of a TIME_SOURCE (R168). -/
def sourceType (m : Msg) : Nat := field (wordAt m.body 0) 31 28

/-- The domain of a TIME_SOURCE (R168). -/
def bodyDomain (m : Msg) : Byte := BitVec.ofNat 8 (field (wordAt m.body 0) 7 0)

/-- TIME_SOURCE with type 0 (R168). -/
def execTimeSourceRingMaster (s : State) : Result :=
  dispatchIf s 0x0040 (fun m => sourceType m == 0) fun m s =>
    doneWith (nameSource s (.ringMaster (bodyDomain m) (longAt m.body 4))) m 0

/-- TIME_SOURCE with type 1; without SYNC_IN it completes with result 6 (R168). -/
def execTimeSourceSyncIn (s : State) : Result :=
  dispatchIf s 0x0040 (fun m => sourceType m == 1) fun m s =>
    if hasSyncIn s then doneWith (nameSource s (.syncIn (bodyDomain m) (wordAt m.body 4).toNat)) m 0 else doneWith s m 6

/-- FREE runs on at the last addend (R172); a step that waits is dropped, which the rules leave open (log 96, DESIGN CHOICE). -/
def toFree (s : State) : State :=
  let s := takeLock s .free
  { s with mantel := { s.mantel with stepPending := none } }

/-- TIME_SOURCE with type 2 (R168, R172). -/
def execTimeSourceFreeRun (s : State) : Result :=
  dispatchIf s 0x0040 (fun m => sourceType m == 2) fun m s =>
    doneWith (toFree { s with arch := { s.arch with source := some (.freeRun (bodyDomain m)) } }) m 0

/-! ### The servo (R163, R172 to R174) -/

/-- The clamp of the addend: 200 ppm (R163). -/
def clampAddend (a : Int) : Int := max (-3435974) (min 3435974 a)

/-- A Sync interval in ns (R172). -/
def syncInterval (s : State) : Nat := second / 2 ^ s.mantel.logInterval.natAbs

/-- The nominal interval of the source in force in ns: of Syncs, of SYNC_IN edges, of the head's TIME at a native leaf (R172,
R430). -/
def nominalInterval (s : State) : Nat :=
  match mode s with
  | .leafFz => second / max s.leaf.fzRate 1
  | .leaf => msNs
  | _ =>
    match ruledSource s with
    | some (.syncIn _ rate) => second / max rate 1
    | _ => syncInterval s

/-- The syntonised rate, as an addend: what two Syncs or two edges give, else what the addend holds beside its slew (R172,
R174). -/
def syntonised (m : Mantel) : Int := m.rate.getD (m.addend - m.slew)

/-- The addend that shifts Mantel time by n ps over one interval of the source. -/
def addendOver (s : State) (n : Nat) : Nat := n * 2 ^ 34 / (1000 * max (nominalInterval s) 1)

/-- Half of the tracking bound in ps: of the 1.2 ns of a ring node, and of 0.4 ns for each position of a leaf where that is less
(R173, R431). -/
def trackPs (s : State) : Nat :=
  match mode s, s.leaf.position with
  | .leaf, some k => min 600 (200 * k.toNat)
  | _, _ => 600

/-- The rate the servo runs at: the syntonised one, in LOCKED within half of the tracking bound over one interval; how the servo
filters it is not stated, so it is free within that bound (R173, R431; log 3). -/
def servoRate (s : State) : Int × State :=
  if s.mantel.lock == .acquiring then (syntonised s.mantel, s)
  else
    let e := addendOver s (trackPs s)
    let (v, s) := freeBelow s (2 * e)
    (syntonised s.mantel + v - e, s)

/-- The slew toward a zero offset, at most 50 ppm: over one interval it takes the offset away to within the other half of the
tracking bound, and never past zero; how much within that is free (R173, R174, R431; log 3). -/
def slewFor (s : State) (o : Int) : Int × State :=
  let i := max (nominalInterval s) 1
  let hi := min 858993 (o.natAbs * 2 ^ 18 / i)
  let lo := min 858993 ((o.natAbs - trackPs s * 65536 / 1000) * 2 ^ 18 / i)
  let (v, s) := freeBelow s (hi - lo)
  (-o.sign * (lo + v), s)

/-- The addend after a measurement: the syntonised rate and the slew; the PLL's fractional word follows within 1 us (R163, R172 to
R174, R262). -/
def servo (s : State) (o : Int) : State :=
  let (r, s) := servoRate s
  let (v, s) := slewFor s o
  let a := clampAddend (r + v)
  { s with mantel := { s.mantel with addend := a, slew := v }, press := { s.press with pllAddend := a } }

/-- 10 us and 100 ns in 2^-16 ns (R172, R174). -/
def stepLimit : Nat := 655360000

def lockLimit : Nat := 6553600

/-- A step asked for, to apply at the next seam of the old grid (R174, R176). -/
def askStep (s : State) (o : Int) : State :=
  { s with mantel := { s.mantel with stepPending := some (-o * 65536), bigRun := 0 } }

/-- Eight measurements within 100 ns lead from ACQUIRING to LOCKED (R172). -/
def countLock (s : State) (o : Int) : State :=
  if s.mantel.lock == .acquiring then
    let n := if o.natAbs ≤ lockLimit then s.mantel.lockRun + 1 else 0
    let s := { s with mantel := { s.mantel with lockRun := n } }
    if 8 ≤ n then takeLock s .locked else s
  else s

/-- A complete measurement of the source in force, in 2^-16 ns: the lock state, then a step or the servo (R172, R174). One that
comes while a step waits for its seam is measured against the old time: it neither steers nor advances or breaks a run, which R174
leaves open (log 95, DESIGN CHOICE). -/
def steer (s : State) (o : Int) : State :=
  if s.mantel.lock == .free then s
  else
    let s := { s with mantel := { s.mantel with lastOffset := o } }
    let s := match s.mantel.lock with
      | .unset => toAcquiring s
      | .holdover => takeLock s .locked
      | _ => s
    if s.mantel.stepPending.isSome then s
    else if s.mantel.lock == .acquiring && s.mantel.firstMeasure then
      askStep { s with mantel := { s.mantel with firstMeasure := false } } o
    else if stepLimit < o.natAbs && !s.mantel.noStep then
      let s := { s with mantel := { s.mantel with bigRun := s.mantel.bigRun + 1, lockRun := 0 } }
      if 3 ≤ s.mantel.bigRun then askStep s o else s
    else
      let s := { s with
        mantel := { s.mantel with bigRun := 0, noStep := s.mantel.noStep && decide (stepLimit < o.natAbs) } }
      countLock (servo s o) o

/-! ### Measurements by direction (R170, R171) -/

def countMantel (s : State) (i : Nat) : State := { s with mantel := { s.mantel with counts := bump s.mantel.counts i } }

def inUsePort (s : State) : Port := if s.mantel.inUseEast then .east else .west

/-- The preferred direction: WEST while no map is held or p is at most N + 1 - p (R171). -/
def preferred (s : State) : Port :=
  match s.spine.ringMap with
  | none => .west
  | some m => if decide (s.addr.pos.toNat ≤ m.size + 1 - s.addr.pos.toNat) then .west else .east

/-- The direction in use moves: the difference is slewed, and EVENT 0x0305 tells how many measurements were missed (R171, R191). -/
def moveTo (s : State) (p : Port) (missed : Nat) : State :=
  let s := countMantel { s with
    mantel := { s.mantel with inUseEast := p == .east, prefRun := 0, bigRun := 0, noStep := true } } 8
  raise s 0x0305 (BitVec.ofNat 16 (bit (p == .east))) (BitVec.ofNat 32 (sat 32 missed))

/-- The direction judged at a measurement of a port that was last measured at an earlier instant (R171). -/
def judgeDirection (s : State) (p : Port) (before : Nat) : State :=
  if p == inUsePort s then s
  else
    let used := portSync s (inUsePort s)
    let idle := s.now - max used.lastMeasured s.start.s
    if 3 * syncInterval s ≤ idle then moveTo s p (idle / syncInterval s)
    else if p == preferred s then
      let n := if s.now - before < 2 * syncInterval s then s.mantel.prefRun + 1 else 1
      let s := { s with mantel := { s.mantel with prefRun := n } }
      if 16 ≤ n then moveTo s p 0 else s
    else s

def sumOf (l : List Int) : Int := l.foldl (· + ·) 0

/-- The difference of the two offsets over sixteen measurements; beyond 40 ns EVENT 0x0306 is raised once a minute (R171, R191). -/
def judgeDifference (s : State) : State :=
  let m := s.mantel
  if !m.east.measured || !m.west.measured then s
  else
    let ds := (m.east.o - m.west.o) :: m.diffs.take 15
    let s := { s with mantel := { m with diffs := ds } }
    let mean := rdiv (sumOf ds) 16
    if ds.length < 16 || decide (mean.natAbs ≤ 2621440) || m.diffReported == some (minuteOf s) then s
    else raise { s with mantel := { s.mantel with diffReported := some (minuteOf s) } } 0x0306 0 (swordSat (psOf mean))

/-- A number put in its place in a rising list. -/
def insertInt (x : Int) : List Int → List Int
  | [] => [x]
  | y :: ys => if x ≤ y then x :: y :: ys else y :: insertInt x ys

/-- The median of a list of doubled values, halved (R170, R430); of an even number the mean of the middle two. -/
def halfMedian (l : List Int) : Int :=
  let r := l.foldl (fun a x => insertInt x a) []
  let n := r.length
  rdiv (r.getD ((n - 1) / 2) 0 + r.getD (n / 2) 0) 4

/-- A complete measurement on a port: O = ms - D - A (R170); the direction in use steers (R171). -/
def measure (s : State) (p : Port) (ms : Int) : State :=
  let x := portSync s p
  let o := ms - x.d - of16 (asymmetryUsed s p)
  let s := countMantel (setSync s p { x with o := o, lastMeasured := s.now, measured := true }) 3
  let s := judgeDirection (judgeDifference s) p x.lastMeasured
  if p == inUsePort s then steer s o else s

/-- The rate of the master on the RING time counter between two Syncs of one port, as an addend (R163, R172). -/
def rateOf (a b : Int × Int) : Option Int :=
  if b.2 - a.2 = 0 then none else some (clampAddend (rdiv (2 ^ 34 * (b.1 - a.1)) (b.2 - a.2) - 2 ^ 34))

/-- The ingress instant of a stamp of the RING time counter on that counter, in 2^-16 ns (R164). -/
def ringIngress (s : State) (p : Port) (stamp : Nat) : Int := rdiv ((stamp : Int) * 65536) 10 - of16 (ingressPs s p)

/-- A Sync is complete on a port: t1 and t2 in 2^-16 ns with its ingress instant on the RING time counter and its whole correction.
It gives the rate, and with a known path delay a measurement (R170 to R172). -/
def completeSync (s : State) (p : Port) (t1 t2 ingress c : Int) : State :=
  let x := portSync s p
  let ring := ingress - c
  let rate := match x.prevSync with
    | some q => rateOf q (t1, ring)
    | none => none
  let s := setSync s p { x with sync := some (t1, t2, c), pending := none, prevSync := some (t1, ring) }
  let s := if p == inUsePort s && rate.isSome then { s with mantel := { s.mantel with rate := rate } } else s
  if x.delays.isEmpty then s else measure s p (t2 - t1 - c)

/-! ### The messages (R167 to R170) -/

/-- Mantel hears a port: CORE is on and the port is UP. -/
def hears (s : State) (p : Port) : Bool := coreOn s && portUp s p

/-- The tests of R167 that every message must pass, its domain aside. -/
def ptpOk (h : PtpHead) : Bool := h.srcZero && h.version == 2 && (h.minor == 0 || h.minor == 1)

/-- A Sync of another master: counted, and EVENT 0x0307 at most once in 10 s (R167, R187, R191). -/
def strangeMaster (s : State) (h : PtpHead) : State :=
  let k := reportInterval s (10 * second)
  let s := countMantel s 2
  if s.mantel.masterReported == some k then s
  else
    raise { s with mantel := { s.mantel with masterReported := some k } } 0x0307 (h.domain.setWidth 16)
      (BitVec.ofNat 32 h.identity.toNat)

/-- A valid Sync (R167, R168, R172). -/
def takeSync (s : State) (p : Port) (h : PtpHead) (logInterval : Int) (twoStep : Bool) (t1 t2 : Nat) : State :=
  let ingress := ringIngress s p t2
  let t2 := mantelAt s t2 - of16 (ingressPs s p)
  let s := countMantel { s with
    mantel := { s.mantel with
      firstMaster := if (ruledSource s).isNone then some h.identity else s.mantel.firstMaster
      logInterval := logInterval, lastSync := s.now } } (if p == .west then 0 else 1)
  if twoStep then setSync s p { portSync s p with pending := some (h.seqId, t2, ingress, h.correction, s.now) }
  else completeSync s p ((t1 : Int) * 65536) t2 ingress h.correction

/-- SYNC (R167, R172): t1 in ns, t2 the stamp of the RING time counter in 100 ps. While no master is named it is ignored, uncounted
(log 107, DESIGN CHOICE). -/
def execSync (p : Port) (h : PtpHead) (logInterval : Int) (twoStep : Bool) (t1 t2 : Nat) (s : State) : Result :=
  match named s with
  | none => .next s
  | some (domain, master) =>
    if !hears s p || !ptpOk h || h.dest != 0xFFF then .next s
    else if h.domain != domain then .next (countMantel s 2)
    else if master.isSome && master != some h.identity then .next (strangeMaster s h)
    else if logInterval < -7 || 0 < logInterval then .next (countMantel s 2)
    else .next (takeSync s p h logInterval twoStep t1 t2)

/-- FOLLOW_UP completes the Sync of its sequence received on the same port within one Sync interval (R167). -/
def execFollowUp (p : Port) (h : PtpHead) (t1 : Nat) (s : State) : Result :=
  match named s, (portSync s p).pending with
  | some (domain, master), some (seq, t2, ingress, c, at') =>
    if hears s p && ptpOk h && h.dest == 0xFFF && h.domain == domain && master == some h.identity && seq == h.seqId &&
        decide (s.now ≤ at' + syncInterval s) then
      .next (completeSync s p ((t1 : Int) * 65536) t2 ingress (c + h.correction))
    else .next s
  | _, _ => .next s

/-- The portNumber of a Delay_Req (R169). -/
def portNumber : Port → BitVec 16
  | .east => 1
  | .west => 2

/-- DELAY_RESP: the path delay and a complete measurement with the port's last Sync (R167, R170). -/
def execDelayResp (p : Port) (h : PtpHead) (reqIdentity : Long) (reqPort : BitVec 16) (t4 : Nat) (s : State) : Result :=
  let x := portSync s p
  match named s, x.sync, x.t3 with
  | some (domain, _), some (t1, t2, c), some (seq, t3) =>
    if hears s p && ptpOk h && h.dest == s.addr.addr && h.domain == domain && reqIdentity == Config.serialFuses && reqPort == portNumber p &&
        seq == h.seqId then
      let ms := t2 - t1 - c
      let sm := (t4 : Int) * 65536 - t3 - h.correction
      let ds := (ms + sm) :: x.delays.take 7
      .next (measure (setSync s p { x with delays := ds, d := halfMedian ds, t3 := none }) p ms)
    else .next s
  | _, _, _ => .next s

/-- A Delay_Req of IEEE 1588-2019: header and a zero originTimestamp (R169; PRESUMED, log 9). -/
def delayReqPayload (domain : Byte) (p : Port) (seq : BitVec 16) : List Byte :=
  [0x01, 0x12, 0x00, 0x2C, domain, 0x00] ++ List.replicate 14 0 ++ longBytes Config.serialFuses ++ halfBytes (portNumber p) ++
    halfBytes seq ++ [0x01, 0x7F] ++ List.replicate 10 0

/-- DELAY_REQ_SEND: once a second on each UP port while the node holds an address, for that port alone, in the named domain
(R168, R169). -/
def execDelayReqSend (p : Port) (s : State) : Result :=
  if hears s p && assigned s then
    let s := advanceTo s (portSync s p).reqDue
    let d := sourceDomain s
    let x := portSync s p
    let s := setSync s p { x with reqSeq := x.reqSeq + 1, reqDue := s.now + second }
    .next (queueOwn s
      { kind := 4, spec := 1, seq := 0, payload := delayReqPayload d p x.reqSeq, dueEast := p == .east, dueWest := p == .west
        leafSrc := none, unassignedOk := false })
  else .next s

/-! ### SYNC_IN (R172) -/

/-- The signed distance of a Mantel time in 2^-16 ns from the nearest instant s + k / r (R172). -/
def edgeOffset (t : Int) (rate : Nat) : Int :=
  let unit : Int := 1000000000 * 65536
  let f := t % unit
  let k := rdiv (f * rate) unit
  f - rdiv (k * unit) rate

/-- An edge falls within 0.1 % of 1 / r of a whole number of periods after the last one; times in 100 ps (R172). -/
def edgeExpected (last stamp rate : Nat) : Bool :=
  let unit := 10000000000
  let x := (stamp - last) * rate
  let k := (2 * x + unit) / (2 * unit)
  decide (0 < k) && decide (((x : Int) - k * unit).natAbs * 1000 ≤ unit)

/-- The last edge lies more than four nominal intervals back: the rules expect no spacing from it any more (R172; log 56). -/
def edgeStale (last stamp rate : Nat) : Bool := decide (4 * 10000000000 < (stamp - last) * rate)

/-- The rate that two edges give, the nearest whole number of periods apart: nominal time against the RING time counter, as an
addend (R163, R172). -/
def edgeRate (last stamp rate : Nat) : Option Int :=
  let unit := 10000000000
  let k := (2 * ((stamp - last) * rate) + unit) / (2 * unit)
  rateOf (0, 0) (rdiv (k * second * 65536) rate, rdiv (((stamp : Int) - last) * 65536) 10)

/-- A rising edge at nominal rate r is taken as a measurement, or ignored and counted with the Syncs ignored (R172, R187). -/
def takeEdge (s : State) (stamp rate : Nat) : State :=
  let last := s.mantel.lastEdge.filter fun e => !edgeStale e stamp rate
  let ok := match last with
    | none => true
    | some e => edgeExpected e stamp rate
  if !ok then countMantel s 2
  else
    let got := last.bind fun e => edgeRate e stamp rate
    let s := countMantel { s with
      mantel := { s.mantel with
        lastEdge := some stamp, lastSync := s.now, rate := if got.isSome then got else s.mantel.rate } } 3
    steer s (edgeOffset (mantelAt s stamp) rate)

/-- SYNC_IN_EDGE, stamped on the RING time counter in 100 ps (R172). -/
def execSyncInEdge (stamp : Nat) (s : State) : Result :=
  match ruledSource s with
  | some (.syncIn _ rate) => if coreOn s && hasSyncIn s && rate != 0 then .next (takeEdge s stamp rate) else .next s
  | _ => .next s

/-! ### Loss, steps and holds (R172, R174 to R176) -/

/-- A command's result counts a valid Sync or edge at this instant. -/
def heard (s : State) : Result → Bool
  | .next t => decide (s.mantel.lastSync < t.mantel.lastSync)
  | _ => false

/-- The command that comes next brings a valid Sync or edge. -/
def arrivalFollows (s : State) : Bool :=
  match s.pending with
  | .sync p h logInterval twoStep t1 t2 :: _ => heard s (execSync p h logInterval twoStep t1 t2 s)
  | .syncInEdge stamp :: _ => heard s (execSyncInEdge stamp s)
  | _ => false

/-- MASTER_LOSS_TIMEOUT: four nominal intervals without a valid Sync or edge; one that comes as the next command on that tick has
arrived (R28, R172, R192; log 97). -/
def execMasterLossTimeout (s : State) : Result :=
  if coreOn s && s.mantel.lock == .locked && mode s != .leaf then
    let due := s.mantel.lastSync + 4 * nominalInterval s
    let late := decide (due < s.now)
    let s := advanceTo s due
    if !late && arrivalFollows s then .next s
    else .next (enterHoldover { s with mantel := { s.mantel with lastEdge := none } })
  else .next s

/-- A quire of this slot that a step discards (R175): not the one on light. -/
def discarded (far : Bool) (p : Nat) (x : Slot) : Bool :=
  designates x && (far || decide (x.pres * 2 ^ 32 ≤ p))

/-- The pass or handle that would put a slot on light goes with its quire (R175). -/
def dropPlate (s : State) (k : Nat) : State :=
  let other (h : Handle) : Bool := h.slot != some k || !h.isFrame
  let pass := match s.bindery.pass with
    | some p => if p.slot == some k && p.isFrame then none else some p
    | none => none
  let waiting := match s.bindery.waiting with
    | some (.frame f t) => if t == some k then none else some (.frame f t)
    | w => w
  { s with
    bindery := { s.bindery with
      pass := pass, waiting := waiting
      passWanted := s.bindery.passWanted || (pass.isNone && s.bindery.pass.isSome) ||
        (waiting.isNone && s.bindery.waiting.isSome) }
    press := { s.press with
      handles := s.press.handles.filter other
      crossing := s.press.crossing.filter fun x => match x with | .handle h => other h | .withdraw _ => true } }

/-- The slots that a step frees, each quire counted as superseded (R175, R211). -/
def discardQuires (s : State) (far : Bool) : State :=
  [0, 1, 2].foldl (fun s k =>
    if discarded far s.mantel.p (s.larder.slots.getD k Slot.empty) then supersede (dropPlate s k) k else s) s

/-- A backward step: a hold to a depth of 1 s, a re-anchor beyond it (R175). -/
def stepBack (s : State) (j : Int) : State :=
  let depth := (s.mantel.p - s.mantel.time) / 2 ^ 32
  if s.mantel.p - s.mantel.time ≤ second * 2 ^ 32 then
    let s := { s with mantel := { s.mantel with holdDepth := depth } }
    if s.mantel.hold then s
    else
      raise (countMantel { s with mantel := { s.mantel with hold := true } } 5) 0x0303 1 (BitVec.ofNat 32 (sat 32 depth))
  else
    let s := if s.mantel.hold then endHold s else s
    let s := countMantel { s with
      mantel := { s.mantel with p := s.mantel.time, epoch := s.mantel.epoch + 1 } } 6
    let s := raise s 0x0304 s.mantel.epoch (BitVec.ofNat 32 (sat 32 (j.natAbs / 2 ^ 32 / msNs)))
    let s := discardQuires s true
    let s := { s with
      larder := { s.larder with seamOnLight := none, dropped := [] }
      press := { s.press with renderedFor := none, renderedQuire := false, frameSeamSeen := false } }
    reanchorShow s

/-- A forward step: P follows at once, what it passes is discarded, and a cue whose time it passes is late. One inside a hold that
leaves Mantel time below P ends nothing: the hold goes on with the depth of its last backward step, which R175 does not say (R175;
log 119, DESIGN CHOICE). -/
def stepForward (s : State) (j : Int) : State :=
  let m := s.mantel
  let ends := m.hold && decide (m.p ≤ m.time)
  let s := { s with mantel := { m with p := max m.p m.time } }
  let s := if ends then endHold s else s
  let s := { s with mantel := { s.mantel with cues := lateCues s.mantel } }
  let s := raise s 0x0302 0 (BitVec.ofNat 32 (sat 32 (j.natAbs / 2 ^ 32)))
  discardQuires s false

/-- The dark gap to the first seam of the new grid (R176, R279, R282). -/
def openGap (s : State) : State :=
  let p := s.press
  countPress { s with
    press := { p with
      handles := p.handles ++ p.chosen.toList, chosen := none, cutoffDone := false, seamSeen := false, slotsDone := true
      darkGap := true, rowOn := none, widths := [] } } 12

/-- A step of Mantel time by j in 2^-32 ns: the stamps of the old time are forgotten (R175, R176). -/
def applyStep (s : State) (j : Int) : State :=
  let m := s.mantel
  let forget (x : PortSync) : PortSync := { x with sync := none, pending := none, t3 := none, measured := false }
  let s := openGap (countMantel { s with
    mantel := { m with
      time := ((m.time : Int) + j).toNat, stepPending := none, east := forget m.east, west := forget m.west, diffs := [] } } 4)
  if 0 < j then stepForward s j else stepBack s j

/-- A pending set whose boundary is a seam applies there (R275, R283); was is the state in which that seam was still to come. -/
def applySetAt (s was : State) (seam : Nat) : State :=
  match s.press.pendingSet with
  | some p =>
    if was.press.running && appliesAtSeam was p && boundaryOf was p == seam && s.cellar.failAt.isNone then applyTiming s p else s
  | none => s

/-- HOLD_END: Mantel time passes P again (R175). -/
def execHoldEnd (s : State) : Result :=
  if coreOn s && s.mantel.hold then
    let d : Int := (s.mantel.p : Int) - s.mantel.time
    .next (endHold (advance s ((d + tickUnits s.mantel - 1) / tickUnits s.mantel).toNat))
  else .next s

/-- RTC_SET: every 64 s while LOCKED (R172, R371). -/
def execRtcSet (s : State) : Result :=
  if coreOn s && s.mantel.lock == .locked then
    let s := advanceTo s (s.mantel.rtcSetAt + 64 * second)
    .next { s with cellar := { s.cellar with rtc := mNs s, rtcPart := 0, rtcValid := true }, mantel := { s.mantel with rtcSetAt := s.now } }
  else .next s

end Sys2Proof.Machine
end

