-- ==== Sys2Proof/Machine/Census.lean ====
section
/-! DEFINITION. The census: arming, the latch of every section at its time, its ageing and its reading (R183 to R189, R192, R237, R282, R305, R324, R394, R409, R420). -/

namespace Sys2Proof.Machine

open Sys2Proof

/-! ### Arming (R184) -/

/-- A census not taken: result 6, EVENT 0x0308 with its reason (R184, R187, R191). -/
def censusRefused (s : State) (chan : Half) (seq : Word) (no : Nat) (id : Word) (reason : Nat) : State :=
  reportDone (raise (countMantel s 11) 0x0308 (BitVec.ofNat 16 reason) id) chan seq no 6 []

/-- CENSUS_AT at dispatch: at most eight are armed, and none for a time already past (R123, R184). -/
def armCensus (m : Msg) (s : State) : State :=
  let t := timeAt m.body 4
  if 8 ≤ s.mantel.censuses.length then doneWith s m 6
  else if t * 2 ^ 32 < s.mantel.time then censusRefused s m.chan m.seq m.no (wordAt m.body 0) 2
  else
    let c : ArmedCensus := { chan := m.chan, seq := m.seq, no := m.no, id := wordAt m.body 0, t := t }
    let s := markDispatched s m.no true
    { s with mantel := { s.mantel with censuses := s.mantel.censuses ++ [c] } }

/-- CENSUS_AT (R184). -/
def execCensusAt (s : State) : Result := dispatch s 0x0012 armCensus

/-! ### Sections (R183, R185) -/

/-- Emitters uninspected for more than 10 s (R324 word 13). -/
def uninspected (s : State) : Nat :=
  ((List.range (emitterCount s)).filter fun i => decide (10 * second < s.now - lastInspected s i)).length

/-- A list of levels and counts with word i at another value. -/
def withWord (c : Counters) (i v : Nat) : List Word := c.set i (BitVec.ofNat 32 v)

def cellCode : CellState → Nat
  | .precharge => 0
  | .charge => 1
  | .full => 2
  | .paused => 3
  | .discharge => 4
  | .cutOff => 5

/-- The nine words of the start-up record (R420). -/
def startWords (s : State) : List Word :=
  pack [(causeCode s.start.cause, 24), (bit s.start.strapsKept, 23)] ::
    (s.start.stepUs ++ [BitVec.ofNat 32 s.start.selfTestFailures])

/-- Wear integrals as section 0x10 has them (R185). -/
def wearWords (s : State) : List Word :=
  (filled (s.arch.wear.take (emitterCount s)) (emitterCount s)).map (BitVec.ofNat 32)

/-- The sections beside the header, as they stand now (R185). -/
def sectionsNow (s : State) : List (Nat × List Word) :=
  [(0x01, linkWords s), (0x02, []), (0x03, s.mantel.counts), (0x04, s.larder.counts),
    (0x05, withWord s.bindery.counts 11 s.bindery.atCap), (0x06, s.screen.counts), (0x07, s.press.counts),
    (0x08, withWord s.coll.counts 13 (uninspected s)), (0x09, s.back.counts), (0x0A, s.legacy.counts),
    (0x0B, s.cellar.counts ++ [BitVec.ofNat 32 s.cellar.vcellMv, BitVec.ofNat 32 (cellCode s.cellar.cell)]),
    (0x0C, (closeRest s).power.counts), (0x0D, startWords s), (0x10, wearWords s)]

/-! ### The latch (R183, R184, R192) -/

/-- A bank turns 60 s old: it counts as released, and EVENT 0x0309 tells so unless it was released before (R186, R188, R191). -/
def ageBank (s : State) : State :=
  match s.mantel.bank with
  | none => s
  | some b =>
    if b.aged then s
    else
      let s := { s with mantel := { s.mantel with bank := some { b with aged := true } } }
      if b.released then s else raise s 0x0309 0 b.id

/-- A bank 60 s old is aged before a census is judged (R192). -/
def ageIfDue (s : State) : State :=
  match s.mantel.bank with
  | some b => if b.latchedAt + 60 * second ≤ s.now then ageBank s else s
  | none => s

/-- The census taken: every section as it stands at the latch, and the copier at work (R183 to R186). Over a bank that was released
while its copier still ran, the completion of the earlier census goes with the bank: the rules do not say what becomes of it
(log 118, DESIGN CHOICE). -/
def latchBank (s : State) (c : ArmedCensus) : State :=
  let b : Bank :=
    { id := c.id, t := c.t, latch := mNs s, latchedAt := s.now, epoch := s.mantel.epoch
      lock := BitVec.ofNat 4 (lockCode s.mantel.lock), released := false, aged := false, sections := sectionsNow s
      copying := some (c.chan, c.seq, c.no) }
  { s with mantel := { s.mantel with bank := some b }, larder := { s.larder with badBankWords := [] } }

/-- An armed census judged at its time (R184). -/
def judgeCensus (s : State) (c : ArmedCensus) : State :=
  let s := ageIfDue s
  if !timeValid s.mantel then censusRefused s c.chan c.seq c.no c.id 3
  else if bankHeld s then censusRefused s c.chan c.seq c.no c.id 1
  else latchBank s c

/-- An armed census taken out and judged. -/
def takeCensus (s : State) (c : ArmedCensus) : State :=
  judgeCensus { s with mantel := { s.mantel with censuses := s.mantel.censuses.filter (· != c) } } c

/-- The census whose time comes first, the earlier accepted of equals (R184). -/
def firstCensus : List ArmedCensus → Option ArmedCensus
  | [] => none
  | c :: cs =>
    match firstCensus cs with
    | none => some c
    | some d => if d.t < c.t ∨ (d.t = c.t ∧ d.no < c.no) then some d else some c

/-- CENSUS_LATCH (R183). -/
def execCensusLatch (s : State) : Result :=
  match firstCensus s.mantel.censuses with
  | none => .next s
  | some c =>
    if coreOn s then .next (takeCensus (advanceToMantel s c.t) c) else .next s

/-- CENSUS_COPY_DONE: the census completes with result 0 (R183, R184). -/
def execCensusCopyDone (s : State) : Result :=
  match s.mantel.bank with
  | none => .next s
  | some b =>
    match b.copying with
    | none => .next s
    | some (chan, seq, no) =>
      if coreOn s then
        .next (reportDone { s with mantel := { s.mantel with bank := some { b with copying := none } } } chan seq no 0 [])
      else .next s

/-- CENSUS_AGE (R186, R188). -/
def execCensusAge (s : State) : Result :=
  match s.mantel.bank with
  | some b => if coreOn s then .next (ageBank (advanceTo s (b.latchedAt + 60 * second))) else .next s
  | none => .next s

/-! ### Reading (R186, R188, R189) -/

/-- A number of seconds as two words, high first. -/
def longWords (n : Nat) : List Word := [BitVec.ofNat 32 (n / 2 ^ 32), BitVec.ofNat 32 n]

/-- The header section (R186). -/
def headerWords (b : Bank) : List Word :=
  [b.id] ++ longWords (b.t / second) ++ [BitVec.ofNat 32 (b.t % second)] ++ longWords (b.latch / second) ++
    [BitVec.ofNat 32 (b.latch % second),
      pack [(b.epoch.toNat, 16), (bit b.released, 5), (bit b.aged, 4), (b.lock.toNat, 0)]]

/-- The bank as a run of sections (R185). -/
def bankSections (b : Bank) : List (Nat × List Word) := (0x00, headerWords b) :: b.sections

/-- The words of a section with its place in the bank. -/
def sectionAt : List (Nat × List Word) → Nat → Nat → Option (Nat × List Word)
  | [], _, _ => none
  | (k, ws) :: r, n, at' => if k = n then some (at', ws) else sectionAt r n (at' + ws.length)

/-- A section as it reads: words that an error spoilt read as all ones (R194). -/
def readSection (s : State) (b : Bank) (n : Nat) : Option (List Word) :=
  (sectionAt (bankSections b) n 0).map fun x =>
    x.2.mapIdx fun i w => if s.larder.badBankWords.contains (x.1 + i) then 0xFFFFFFFF else w

/-- One CENSUS report (R189). -/
def censusPart (id : Word) (sect part parts status first : Nat) (data : List Word) : Answer :=
  { rtype := 0x0022
    payload := wordsBytes ([id, pack [(sect, 24), (part, 16), (parts, 8), (status, 0)], BitVec.ofNat 32 first,
      BitVec.ofNat 32 data.length] ++ data) }

/-- The reports that answer a range of a section (R188, R189). -/
def censusParts (id : Word) (sect first count : Nat) (ws : List Word) : List Answer :=
  let parts := max 1 ((count + 251) / 252)
  let status := if ws.length < first + count then 3 else 0
  (List.range parts).map fun i =>
    let off := first + 252 * i
    censusPart id sect i parts status off ((ws.drop off).take (min 252 (count - 252 * i)))

/-- CENSUS_READ at dispatch (R125, R188). -/
def censusRead (m : Msg) (s : State) : State :=
  let id := wordAt m.body 0
  let sect := field (wordAt m.body 4) 31 24
  let first := (wordAt m.body 8).toNat
  match s.mantel.bank with
  | none => answerWith s m 6 [censusPart id sect 0 1 1 first []]
  | some b =>
    if b.id != id then answerWith s m 6 [censusPart id sect 0 1 1 first []]
    else
      let answer := readSection s b sect
      let s := if (wordAt m.body 4).getLsbD 0 then
          { s with mantel := { s.mantel with bank := some { b with released := true } } } else s
      match answer with
      | none => answerWith s m 3 [censusPart id sect 0 1 2 first []]
      | some ws => answerWith s m 0 (censusParts id sect first (wordAt m.body 12).toNat ws)

/-- CENSUS_READ (R188). -/
def execCensusRead (s : State) : Result := dispatch s 0x0013 censusRead

end Sys2Proof.Machine
end

