-- ==== Sys2Proof/Machine/Protect.lean ====
section
/-! DEFINITION. Trip inputs, forced outputs, and the test access port (R285 to R306). -/

namespace Sys2Proof.Machine

open Sys2Proof

/-! ### Trip inputs (R285 to R290, R303) -/

def setInput (s : State) (id : Nat) (x : TripInput) : State :=
  { s with prot := { s.prot with inputs := s.prot.inputs.set id x } }

def inputAt (s : State) (id : Nat) : TripInput := s.prot.inputs.getD id TripInput.clear

/-- The pin of an input is watched: before CFG_AUX is read the pins of TI5 to TI7 stand to be judged too (R42, R285, R291). -/
def inputWatched (s : State) (id : Nat) : Bool :=
  inputPresent s id || (!s.straps.read && decide (5 ≤ id) && decide (id ≤ 7))

/-- A filtered assertion, judged at once or at the blanking window's last cycle; one that has returned by then is ignored and
counted (R286, R287). The trip logic judges in S0 and S1; in other states, and before start-up, the pin stands to be judged at the
wake or start-up (R291). -/
def execTripInputAssert (id : Nat) (inWindow returned : Bool) (s : State) : Result :=
  if !inputWatched s id then .next s
  else if inWindow && returned then
    .next (if coreOn s then countPress s 25 else s)
  else
    let s := setInput s id { inputAt s id with asserted := true }
    .next (if coreOn s && s.press.running then tripEffect s id else s)

/-- A filtered input returns; a cycle-by-cycle input in force is released at the next refresh seam (R289). -/
def execTripInputDeassert (id : Nat) (s : State) : Result :=
  if inputWatched s id && (inputAt s id).asserted then
    .next (setInput s id { inputAt s id with asserted := false, quietSince := s.now })
  else .next s

/-- The end of an episode, with its assertions; a re-trip within 1 s of TRIP_CLEAR has opened none (R303). -/
def endEpisode (s : State) (id : Nat) : State :=
  let x := inputAt s id
  if x.episode then
    raise (setInput s id { x with episode := false, assertions := 0 }) 0x0708 (BitVec.ofNat 16 id)
      (BitVec.ofNat 32 (sat 32 x.assertions))
  else s

/-- An input released and not asserted for 1 s (R303). -/
def execTripEpisodeEnd (id : Nat) (s : State) : Result :=
  let x := inputAt s id
  if coreOn s && x.episode && !x.inForce && !x.asserted then
    .next (endEpisode (advanceTo s (x.quietSince + second)) id)
  else .next s

/-- TRIP_CLEAR: refused with result 3 when it names an AUX input that is not assigned, else held for its seam (R290). -/
def execTripClear (s : State) : Result :=
  dispatch s 0x0033 fun m s =>
    let mask := byteAt m.body 3
    if [5, 6, 7].any (fun id => mask.getLsbD id && !auxTrip s id) then doneWith s m 3
    else
      { s with
        prot := { s.prot with
          clears := s.prot.clears ++ [{ mask := mask, due := s.now + 10 * usNs, chan := m.chan, seq := m.seq, no := m.no }] } }

/-- One named input at the release seam: released when deasserted, else refused (R290, R303, R305). -/
def clearInput (a : State × Bool) (id : Nat) : State × Bool :=
  let s := a.1
  let x := inputAt s id
  if inputLatched s id && x.inForce then
    if x.asserted then (countPress s 27, true)
    else
      let s := setInput s id { x with inForce := false, holding := false, quietSince := s.now }
      (endEpisode (countPress s 26) id, a.2)
  else a

/-- The refresh seam that a pending action waits for: the first at or after its instant on which the Press runs, so after a loss of
PCLK one that is still to come, and the last seam when that one has passed (R290, R295, R299). -/
def waitedSeam (s : State) (due : Nat) : Nat :=
  max (seamFrom s (mantelOf s due)) (if s.press.seamSeen then s.press.lastSeam else nextSeam s)

/-- The clocks at the seam that a pending action waits for. -/
def atSeam (s : State) (due : Nat) : State := advanceToSeam s (waitedSeam s due)

/-- The instant of true time of the seam at which a pending action takes effect, from the state before the wait (R295). -/
def seamInstant (s : State) (due : Nat) : Nat :=
  let t := atSeam s due
  t.now - (mNs t - waitedSeam s due)

/-- TRIP_CLEAR_RELEASE (R290). -/
def execTripClearRelease (s : State) : Result :=
  match s.prot.clears with
  | [] => .next s
  | c :: rest =>
    if pressRuns s then
      let s := atSeam { s with prot := { s.prot with clears := rest } } c.due
      let (s, refused) := ((List.range 8).filter fun id => c.mask.getLsbD id).foldl clearInput (s, false)
      .next (reportDone s c.chan c.seq c.no (if refused then 6 else 0) [])
    else .next s

/-! ### Forced outputs (R293 to R295) -/

/-- The force set of an op 1 body (R293). -/
def forceSetOf (b : List Byte) : ForceSet :=
  { limitS := field (wordAt b 0) 15 0, width := field (wordAt b 4) 31 16, codes := forceCodes b, rows := forceRows b }

def forceOp (m : Msg) : Nat := field (wordAt m.body 0) 31 30

def waitForce (s : State) (f : Option ForceSet) (m : Msg) : State :=
  { s with prot := { s.prot with forceWait := s.prot.forceWait ++ [(f, s.now + 10 * usNs, m.chan, m.seq, m.no)] } }

/-- FORCE_OUTPUT with op 1; codes 2 and 3 wake DRIVE at dispatch (R293, R294, R402, R410). -/
def execForceOutput (s : State) : Result :=
  dispatchIf s 0x0032 (fun m => forceOp m == 1) fun m s =>
    let f := forceSetOf m.body
    let s := waitForce s (some f) m
    if f.codes.any (fun c => c == 2 || c == 3) then wakeS1 s 5 else s

/-- FORCE_OUTPUT with op 0 (R294). -/
def execForceOutputRelease (s : State) : Result :=
  dispatchIf s 0x0032 (fun m => forceOp m == 0) fun m s => waitForce s none m

/-- EVENT 0x0709's arg1: sinks forced on and sinks forced dark by the set now in force (R303). -/
def forceArg (f : Option ForceSet) : Word :=
  match f with
  | some f => pack [((f.codes.filter fun c => c == 2 || c == 3).length, 16), ((f.codes.filter (· == 1)).length, 0)]
  | none => 0

/-- FORCE_SET_APPLY: the set or release that waits longest takes effect at its seam, from S1 with a wake where it lights a sink, and
completes; under Cellar dark forcing it waits for the release (R29, R294, R295, R305, R402). -/
def execForceSetApply (s : State) : Result :=
  match s.prot.forceWait with
  | [] => .next s
  | (f, due, chan, seq, no) :: rest =>
    if pressRuns s && !cellarDark s then
      let seam := seamInstant s due
      let s := atSeam s due
      let s := { s with prot := { s.prot with force := f, forceAt := seam, forceWait := rest } }
      let s := if f.isSome then countPress s 28 else s
      let s := wakeForced (raise s 0x0709 (BitVec.ofNat 16 (bit f.isSome)) (forceArg f))
      .next (reportDone s chan seq no 0 [])
    else .next s

/-- A waiting force set applies at or before a seam: none does while the Cellar forces dark (R295). -/
def forceSoon (s : State) (seam : Nat) : Bool :=
  !cellarDark s && s.prot.forceWait.any fun w => decide (seamFrom s (mantelOf s w.2.1) ≤ seam)

/-- FORCE_LIMIT_EXPIRE: a force set ends at the first seam at or after its limit, unless a new one applies there (R295,
R306). -/
def execForceLimitExpire (s : State) : Result :=
  match s.prot.force with
  | none => .next s
  | some f =>
    let due := s.prot.forceAt + f.limitS * second
    if f.limitS = 0 || !pressRuns s || forceSoon s (seamFrom s (mantelOf s due)) then .next s
    else
      let s := countPress (atSeam s due) 29
      .next (raise { s with prot := { s.prot with force := none } } 0x070A 0 (BitVec.ofNat 32 f.limitS))

/-! ### The test access port (R298, R300 to R302) -/

/-- JTAG_ENABLE with op 1 (R300). -/
def execJtagEnable (s : State) : Result :=
  dispatchIf s 0x0070 (fun m => field (wordAt m.body 0) 31 31 == 1) fun m s =>
    let limit := field (wordAt m.body 0) 15 0
    let s := { s with
      prot := { s.prot with jtagOn := true, jtagUntil := some (s.now + limit * second) } }
    doneWith (raise s 0x070D 1 (BitVec.ofNat 32 limit)) m 0

/-- JTAG_ENABLE with op 0 (R300). -/
def execJtagDisable (s : State) : Result :=
  dispatchIf s 0x0070 (fun m => field (wordAt m.body 0) 31 31 == 0) fun m s => doneWith (endJtag s 0) m 0

/-- limit_s seconds have passed (R300). -/
def execJtagEnableExpire (s : State) : Result :=
  match s.prot.jtagUntil with
  | some t => if running s then .next (endJtag (advanceTo s t) 1) else .next s
  | none => .next s

/-- What Capture-IR puts into the 5-bit instruction register (R301). -/
def irCapture : BitVec 5 := 0b00001

/-- The instruction of a 5-bit code; any other code acts as BYPASS (R301). -/
def instrOf (code : BitVec 5) : TapInstr :=
  match code.toNat with
  | 0b00000 => .extest
  | 0b00010 => .samplePreload
  | 0b00111 => .highz
  | 0b01000 => .freeze
  | _ => .bypass

/-- The Press frozen: its sequencing, carrier and slot computation stop (R298). -/
def freezePress (s : State) (blank : Bool) : State :=
  let s := if blank then rowCutOff s else s
  { s with
    prot := { s.prot with frozen := true, frozenDark := blank }
    press := { s.press with slotsDone := true } }

/-- Cell 283 drives BYP_HOLD, unless the Cellar has released it at a power fail (R71, R302). -/
def driveByp (s : State) : State := setByp s (s.prot.driven.getLsbD 283 && !cellarReleases s)

/-- What an instruction does as it becomes current (R298, R301, R303, R305): EXTEST drives its output cells, BYP_HOLD among them, and
HIGHZ lets BYP_HOLD fall, each with the Press frozen blanked; FREEZE is the maker freeze, with its EVENT and count. -/
def enterInstr (s : State) : TapInstr → State
  | .extest => driveByp (freezePress s true)
  | .highz => setByp (freezePress s true) false
  | .freeze => raise (countPress (freezePress s (freezeBlanks s)) 32) 0x070C 1 (BitVec.ofNat 32 (bit (freezeBlanks s)))
  | .samplePreload | .bypass => s

/-- A code at Update-IR: without an enable it acts as BYPASS (R300), only another instruction ends the current one (R298), and BYP_HOLD
returns to its rule only where the next instruction does not hold it (R301). -/
def loadCode (code : BitVec 5) (s : State) : Result :=
  let i := instrOf code
  if !running s || (s.prot.jtagOn && s.prot.tap == i) then .next s
  else if !s.prot.jtagOn then .next (endInstr s)
  else
    let s := if i == .extest || i == .highz then leaveInstrBy raise s else endInstr s
    .next (enterInstr { s with prot := { s.prot with tap := i } } i)

/-- EXTEST (R301, R302). -/
def execExtest (s : State) : Result := loadCode 0b00000 s

/-- SAMPLE/PRELOAD changes no pin (R301). -/
def execSamplePreload (s : State) : Result := loadCode 0b00010 s

/-- HIGHZ (R301). -/
def execHighz (s : State) : Result := loadCode 0b00111 s

/-- FREEZE (R298, R301). -/
def execFreeze (s : State) : Result := loadCode 0b01000 s

/-- BYPASS, or any other code (R301). -/
def execBypass (s : State) : Result := loadCode 0b11111 s

/-- TRST_N or Test-Logic-Reset: the bypass register is selected, and nothing but the TAP changes (R301, R413). -/
def execTapReset (s : State) : Result := if running s then .next (endInstr s) else .next s

/-- The boundary register stands between TDI and TDO (R301). -/
def boundaryCurrent (s : State) : Bool :=
  running s && s.prot.jtagOn && (s.prot.tap == .extest || s.prot.tap == .samplePreload)

/-- UPDATE_DR: the levels shifted in are loaded, and under EXTEST drive their output cells (R302). -/
def execUpdateDr (cells : BitVec 294) (s : State) : Result :=
  if boundaryCurrent s then
    let s := { s with prot := { s.prot with boundary := cells, driven := cells } }
    .next (if s.prot.tap == .extest then driveByp s else s)
  else .next s

/-- CAPTURE_DR: every cell takes its pin level, but for the ROW control cell, which takes the value last loaded (R302). -/
def execCaptureDr (pins : BitVec 294) (s : State) : Result :=
  if boundaryCurrent s then
    let keep : BitVec 294 := 1#294 <<< 192
    .next { s with prot := { s.prot with boundary := (pins &&& ~~~keep) ||| (s.prot.driven &&& keep) } }
  else .next s

end Sys2Proof.Machine
end

