-- ==== Sys2Proof/Machine/Query.lean ====
section
/-! DEFINITION. QUERY: every item and its data (R111, R141, R159, R190, R210, R236, R259, R273, R281, R304, R322, R348, R365, R393, R408, R420). -/

namespace Sys2Proof.Machine

open Sys2Proof

/-- A natural number as a word, saturating. -/
def satWord (n : Nat) : Word := BitVec.ofNat 32 (sat 32 n)

/-! ### Hall (R141) -/

/-- Channels in the order of their codes. -/
def insertChannel (c : Channel) : List Channel → List Channel
  | [] => [c]
  | x :: xs => if c.code ≤ x.code then c :: x :: xs else x :: insertChannel c xs

/-- Item 0x0201: the channel table from a code upward (R141). -/
def channelItem (s : State) (arg : Word) : List Word :=
  let cs := s.hall.channels.foldl (fun l c => insertChannel c l) []
  ((cs.filter fun c => decide (arg.toNat ≤ c.code.toNat)).take 63).flatMap fun c =>
    [pack [(c.code.toNat, 16)], c.expected, lastAccepted c, c.completed]

/-! ### Mantel (R190) -/

/-- The source code: 0 ring master, 1 SYNC_IN, 2 free run, as the types of TIME_SOURCE (R168, R190). -/
def sourceTypeNow (s : State) : Nat :=
  match ruledSource s with
  | some (.syncIn _ _) => 1
  | some (.freeRun _) => 2
  | _ => 0

/-- The length of the holdover that runs, or of the last (R190). -/
def holdoverSeconds (s : State) : Nat :=
  if s.mantel.lock == .holdover then (s.now - s.mantel.holdoverSince) / second else s.mantel.holdoverLast

/-- The hold depth now in ns (R175, R190). -/
def holdDepthNow (s : State) : Nat := if holding s then (s.mantel.p - s.mantel.time) / 2 ^ 32 else 0

/-- The master's identity, 0 while none is followed, and the domain named (R168, R190). -/
def masterWords (s : State) : List Word :=
  longWords (match named s with | some (_, some i) => i.toNat | _ => 0) ++ [(sourceDomain s).setWidth 32]

/-- Item 0x0301 (R190). -/
def mantelItem (s : State) : List Word :=
  let m := s.mantel
  [pack [(lockCode m.lock, 28), (sourceTypeNow s, 24), (bit m.inUseEast, 23), (bit m.hold, 22), (m.epoch.toNat, 0)]] ++
    longWords (mNs s / second) ++
    [BitVec.ofNat 32 (mNs s % second), swordSat (psOf m.lastOffset), sword m.addend, swordSat (psOf m.west.d),
      swordSat (psOf m.east.d), swordSat (psOf (m.east.o - m.west.o)), satWord (holdoverSeconds s), satWord (holdDepthNow s)] ++
    masterWords s

/-- Item 0x0302: one port's entries of the asymmetry table (R165, R190). -/
def portItem (s : State) (p : Port) : List Word :=
  [BitVec.ofNat 32 (Config.latencyPs (portCode p) (laneRate s) 0), BitVec.ofNat 32 (Config.latencyPs (portCode p) (laneRate s) 1),
    BitVec.ofNat 32 (portSync s p).lane0Ps, sword (asymmetry s p), BitVec.ofNat 32 (portSync s p).loopbackPs]

/-- The first idle frame seam at or after a time among frame seams known: none falls less than 1/120 s after one of those (R264). -/
def idleSeamFrom (known : List Nat) (t : Nat) : Nat :=
  let u := idleAfter (tickOf t)
  let free (v : Nat) : Bool := !known.any fun d => decide (v < tickOf d + 128) && decide (tickOf d < v)
  tickNs (((List.range (known.length + 1)).map fun i => u + 128 * i).find? free |>.getD u)

/-- What orders the firing of armed cues: the first frame seam at or after T as it stands now, a designated one or an idle one, and
for a late cue, or one whose seam's render point has passed, the next frame seam; before first light a late cue of the replay comes
after it (R132, R178 to R181, R264). Cues of one render point fire in the order of their acceptance. -/
def firingKey (s : State) (c : ArmedCue) : Nat :=
  let next := nextFrameSeam s
  if c.late then next + bit (s.screen.firstSeam.isNone && waitsReplayed s c)
  else
    let seams := (s.larder.slots.filter designates).map fun x => frameSeam s x.pres
    let known := (lastFrame s).toList ++ seams
    max next ((seams.filter fun t => decide (c.t ≤ t)).foldl min (idleSeamFrom known c.t))

def insertFiring (s : State) (c : ArmedCue) : List ArmedCue → List ArmedCue
  | [] => [c]
  | x :: xs =>
    if firingKey s c < firingKey s x ∨ (firingKey s c = firingKey s x ∧ c.no < x.no) then c :: x :: xs
    else x :: insertFiring s c xs

/-- Records from an index, at most 63 with their count word (R190, R348, R393). -/
def recordsFrom {α : Type} (l : List α) (first : Nat) (words : α → List Word) : List Word :=
  let r := (l.drop first).take 63
  BitVec.ofNat 32 r.length :: r.flatMap words

/-- Item 0x0303: armed cues in firing order (R190). -/
def cueItem (s : State) (arg : Word) : List Word :=
  recordsFrom (s.mantel.cues.foldl (fun l c => insertFiring s c l) []) arg.toNat fun c =>
    [pack [(c.chan.toNat, 16)], c.seq, BitVec.ofNat 32 (c.t / second), BitVec.ofNat 32 (c.t % second)]

/-! ### Larder (R210) -/

def slotCode : SlotState → Nat
  | .free => 0
  | .receiving => 1
  | .ready => 2
  | .bound => 3
  | .presenting => 4

/-- The three words of a slot; a FREE one reads 0 (R210). -/
def slotItem (x : Slot) : List Word :=
  if x.st == .free then [0, 0, 0]
  else
    [pack [(slotCode x.st, 28), (x.cls.toNat, 26), (x.depth.toNat, 24), (x.cfmt.toNat, 22), (x.covered.length, 0)], x.quire,
      x.qtime]

def feedCode : FeedState → Nat
  | .await => 0
  | .live => 1
  | .lost => 2

/-- D in force for new slots (R200, R210). -/
def delayNow (s : State) : Nat :=
  match s.larder.delays with
  | d :: _ => d.2
  | [] => s.larder.delayBase

/-- Item 0x0401 (R210). -/
def larderItem (s : State) : List Word :=
  let l := s.larder
  l.slots.flatMap slotItem ++
    [BitVec.ofNat 32 (delayNow s),
      pack [(feedCode l.fstate, 28), (l.feed.policy, 24), (l.feed.slate, 20), (l.feed.timeoutMs, 0)],
      if l.fstate == .await then 0xFFFFFFFF else satWord ((s.now - l.feedSince) / msNs),
      pack [(queueLevel s 0, 16), (256, 0)], pack [(queueLevel s 1, 16), (256, 0)], pack [(queueLevel s 2, 16), (64, 0)]]

/-! ### Bindery (R236) -/

/-- Item 0x0501 (R236). -/
def binderyItem (s : State) : List Word :=
  let b := s.bindery
  [liveImageIdentity s, (match s.arch.factory with | some x => x.identity | none => 0),
    pack [(bit b.fallback, 28), (b.params.streamTf, 24), (b.params.slateTf, 20), (b.params.pqPeak, 0)],
    pack [((BitVec.ofInt 16 b.temp).toNat, 16), (b.tsrc, 12), (b.fresh, 8)],
    pack [(b.gains.getD 0 0, 16), (b.gains.getD 1 0, 0)], pack [(b.gains.getD 2 0, 16), (b.gains.getD 3 0, 0)],
    pack [(lambdaShown s, 16), (b.lambdaHouse, 0)], BitVec.ofNat 32 s.screen.alpha, satWord b.lastPassNs, satWord b.longestNs,
    s.press.plateEpoch.setWidth 32]

/-- Item 0x0502: gain and drive unit of at most 126 emitters (R236). -/
def emitterItem (s : State) (arg : Word) : List Word :=
  let is := ((List.range (emitterCount s)).drop arg.toNat).take 126
  BitVec.ofNat 32 is.length ::
    is.flatMap fun i => [pack [(s.bindery.wearGains.getD i 32768, 16)], BitVec.ofNat 32 (driveOf s i)]

/-! ### Show (R259) -/

/-- The ms that a fade has left, in whole ms (R259). -/
def msLeft (s : State) (start ms : Nat) : Nat := ms - (pNs s - start) / msNs

/-- An object's identity, 0 where there is none (R259). -/
def identityOf (o : Option Obj) : Word :=
  match o with
  | some x => x.identity
  | none => 0

/-- Item 0x0601 (R259). -/
def showItem (s : State) : List Word :=
  let v := s.screen
  let fade := match v.fade with
    | some f => (sourceCode f.target, f.shape, msLeft s f.start f.ms)
    | none => (15, 0, 0)
  let level := match v.level with
    | some f => (f.shape, msLeft s f.start f.ms)
    | none => (0, 0)
  let e0 := v.cache.getD 0 { slate := 15, st := 0 }
  let e1 := v.cache.getD 1 { slate := 15, st := 0 }
  let stored := (List.range 12).filter (slateStored s)
  let curves := (List.range 8).filter fun t => (s.arch.curves.getD t none).isSome
  [pack [(sourceCode v.programme, 28), (sourceCode v.picture, 24), (fade.1, 20), (fade.2.1, 16), (v.overlay, 14), (v.mode, 13)],
    BitVec.ofNat 32 v.alpha, pack [(v.lambda, 16), (v.lambdaTarget, 0)], pack [(arcStart s, 16), (level.1, 12)],
    pack [(fade.2.2, 16), (level.2, 0)], pack [(e0.slate, 28), (e0.st, 26), (e1.slate, 20), (e1.st, 18)],
    pack (stored.map (fun n => (1, 16 + n)) ++ curves.map (fun t => (1, t)))] ++
    (List.range 12).map (fun n => if slateStored s n then identityOf (s.arch.slates.getD n none) else 0) ++
    (List.range 8).map (fun t => identityOf (s.arch.curves.getD t none))

/-! ### Press (R273, R281, R304) -/

/-- The nearest whole number to log2 x for a positive x, capped at 20, by trial of x squared (R273). -/
def nearestLog (x : Nat) : Nat := ((List.range 20).filter fun k => decide (2 ^ (2 * k + 1) ≤ x * x)).length

/-- The effective bits of the last frame; before any frame there is no logarithm to take, and the value is free (R273, R281;
log 3). -/
def effectiveBits (s : State) : Nat × State :=
  let x := s.press.framesN * s.press.frameL
  if x = 0 then freeBelow s 20 else (nearestLog x, s)

/-- The trims as applied: at least 31 for a used colour group (R46, R281). -/
def trimsApplied (s : State) : List Nat :=
  s.press.timing.trims.mapIdx fun g t => if irefUsed s g then max t 31 else t

/-- Item 0x0701 (R281). -/
def pressItem (s : State) : List Word × State :=
  let p := s.press
  let (bits, s') := effectiveBits s
  let t := trimsApplied s
  let pend := match p.pendingSet with
    | some q => (q.set.epoch, q.apply, 1)
    | none => (p.timing.epoch, 0, 0)
  ([pack [(refreshHz s, 16), (scanRows s, 8), (bit (groupSkew s), 7), (bit (paired s), 6)], BitVec.ofNat 32 (slotCycles s),
    BitVec.ofNat 32 (windowCycles s p.timing.deadNs), pack [(p.timing.epoch.toNat, 16), (pend.1.toNat, 0)],
    pack [(p.timing.deadNs, 16), (p.timing.minp, 6), (pend.2.1, 4), (pend.2.2, 3)],
    pack [(t.getD 0 0, 24), (t.getD 1 0, 16), (t.getD 2 0, 8), (t.getD 3 0, 0)],
    pack [(p.plateOn, 31), (bit (!p.plateIsFrame), 30), (p.handles.length, 28), (p.plateEpoch.toNat, 0)],
    BitVec.ofNat 32 p.unlocked.length, swordSat p.seamErrorPs, BitVec.ofNat 32 p.framesN, BitVec.ofNat 32 bits], s')

/-- A mask over the ten inputs (R304). -/
def inputMask (f : Nat → Bool) : Nat := ((List.range 10).map fun i => bit (f i) * 2 ^ i).sum

/-- Every row of a range is held off by a trip or PGOOD (R304). -/
def rowsOff (s : State) (lo hi : Nat) : Bool := (List.range (hi - lo)).all fun r => rowTripped s (lo + r)

/-- Bits as bytes, the first in bit 7. -/
def packBits : Nat → List Bool → List Byte
  | 0, _ => []
  | n + 1, l =>
    BitVec.ofNat 8 (((List.range 8).map fun i => bit (l.getD i false) * 2 ^ (7 - i)).sum) :: packBits n (l.drop 8)

/-- The sink codes in force as the bytes of R293. -/
def codeBytes (codes : List (BitVec 2)) : List Byte :=
  (List.range 48).map fun b =>
    BitVec.ofNat 8 (((List.range 4).map fun i => (codes.getD (4 * b + i) 0).toNat * 2 ^ (6 - 2 * i)).sum)

/-- Bytes as the words they fill. -/
def bytesWords (n : Nat) (b : List Byte) : List Word := (List.range n).map fun i => wordAt b (4 * i)

/-- The seconds that a force set's limit leaves, rounded up (R293, R304). -/
def forceLeft (s : State) : Nat :=
  match s.prot.force with
  | some f => if f.limitS = 0 then 0 else (s.prot.forceAt + f.limitS * second - s.now + second - 1) / second
  | none => 0

/-- Item 0x0702 (R304). -/
def tripItem (s : State) : List Word :=
  let p := s.prot
  let all := rowsOff s 0 80
  let force := match p.force with
    | some f => (f.width, f.codes, f.rows)
    | none => (0, [], [])
  [pack [(inputMask (inputPresent s), 16), (inForceMask s, 0)],
    pack [(inputMask (inputLatched s), 16), (inputMask fun i => (inputAt s i).holding, 0)],
    pack [((groupsDark s).toNat, 24), (bit all, 23), (bit (rowsOff s 0 40), 22), (bit (rowsOff s 40 80), 21), (bit p.frozen, 20),
      (bit (cellarDark s), 19), (bit (syncToggles s), 18), (bit p.force.isSome, 0)],
    pack [(forceLeft s, 16), (force.1, 0)]] ++
    bytesWords 12 (codeBytes force.2.1) ++ bytesWords 3 (packBits 12 force.2.2)

/-! ### Collator and Backstair (R322, R348) -/

/-- A disabled mask: sink 0 in bit 0 of the first word (R322). -/
def disabledWords (s : State) : List Word :=
  (List.range 6).map fun w =>
    BitVec.ofNat 32 (((List.range 32).map fun i => bit (s.arch.disabled.contains (32 * w + i)) * 2 ^ i).sum)

/-- Item 0x0801 (R322). -/
def defectItem (s : State) (arg : Word) : List Word :=
  let rs := (s.arch.mapRecords.drop arg.toNat).take 61
  [pack [(s.arch.mapRecords.length, 16), (rs.length, 0)]] ++ disabledWords s ++ rs.flatMap defectWords

def busCode : BusState → Nat
  | .off => 0
  | .integrating => 1
  | .active => 2
  | .silent => 3

/-- A class's error counters, each up to its field's end (R348). -/
def errorWord (c : ClassS) : Word := pack [(sat 16 c.txc, 16), (sat 16 c.rxc, 0)]

/-- Item 0x0901; the transmitter delay is measured outside the model, so it is free (R348; log 3). -/
def busItem (s : State) : List Word × State :=
  let b := s.back
  let r := busRates (strapField s 8 2 0)
  let (d, s') := freeValue s
  ([pack [(busCode b.pstate, 28), (confineCode b.alarm.st, 24), (confineCode b.chatter.st, 20), (bit b.lone, 19),
      (bit (!classicalOnly s), 18), (bit (byBuffer s), 17), (b.station.toNat, 8), ((rankedSerials s).length, 0)],
    errorWord b.alarm, errorWord b.chatter, pack [(r.1, 16), (r.2, 0)],
    pack [(alarmsPending s, 24), (b.priority.length, 16), (b.fifo.length, 0)], BitVec.ofNat 32 d], s')

/-- A kept frame's record (R348). -/
def keptWords (s : State) (k : Kept) : List Word :=
  [pack [(k.index, 24), (k.src.toNat, 16), (bit k.valid, 15)], wordAt k.data 0, wordAt k.data 4, satWord ((s.now - k.time) / msNs)]

/-- Item 0x0902: sensors, supplies, fans or peers from the first index asked for; none for an unknown section (R348). -/
def keptItem (s : State) (arg : Word) : Option (List Word) :=
  let records (ks : List Kept) : Option (List Word) :=
    some (recordsFrom (ks.filter fun k => decide (field arg 7 0 ≤ k.index)) 0 (keptWords s))
  match field arg 31 24 with
  | 0 => records s.back.sensors
  | 1 => records s.back.supplies
  | 2 => records s.back.fans
  | 3 => records s.back.peerStatus
  | _ => none

/-! ### Legacy, Cellar, power and reset (R365, R393, R408, R420) -/

def legacyCode : LegacyUse → Nat
  | .off => 0
  | .dmxRdm => 1
  | .dmx => 2
  | .dali => 3

/-- Item 0x0A01 (R365). -/
def legacyItem (s : State) : List Word :=
  let l := s.legacy
  [pack [(legacyCode (legacyUse s), 28), (bit l.lost, 27), (bit l.identify, 26), (bit l.blk.allow, 25), (l.blk.cap, 0)],
    pack [(l.blk.start, 16), (l.blk.personality, 8), (l.blk.short, 0)],
    pack [(legacyLevel s (nextFrameSeam s), 16), (s.bindery.lambdaHouse, 0)], satWord ((s.now - l.lastValid) / msNs),
    pack [(l.slateSel, 24), (l.fadeSlot, 16), (l.daliActual, 8)], l.counts.getD 8 0]

/-- The Cellar's supply: VDD_AUX, the field or the cell (R368, R393). -/
def cellarSource (s : State) : Nat := if s.start.auxGood then 0 else if s.cellar.field then 1 else 2

/-- Item 0x0B01 (R393). -/
def cellarItem (s : State) : List Word :=
  let c := s.cellar
  [pack [(cellCode c.cell, 28), (cellarSource s, 26), (bit c.rtcValid, 25), (bit c.tamperClosed, 24), (c.vcellMv, 0)]] ++
    longWords (rtcSeconds s) ++
    [BitVec.ofNat 32 (rtcFraction s), BitVec.ofNat 32 c.tamperEvents, c.counts.getD 0 0, c.counts.getD 3 0,
      BitVec.ofNat 32 ((s.arch.badAtStart.map fun r => 2 ^ r).sum)]

/-- Item 0x0B02: event log records, newest first (R376, R393). -/
def logItem (s : State) (arg : Word) : List Word := recordsFrom s.arch.eventLog.reverse arg.toNat eventWords

/-- Item 0x0C01 (R408). The alarm is the one that an entry to the target state would hand over now. -/
def powerItem (s : State) : List Word :=
  let p := s.power
  let target := deepestAdmitted s
  let alarm : Word × Word := match wakeAlarm s target with
    | some t => (BitVec.ofNat 32 (t / second), BitVec.ofNat 32 (t % second))
    | none => (0xFFFFFFFF, 0)
  [pack [(restCode p.st, 28), (restCode p.lastSt, 24), (restCode target, 20), (p.reason, 12), (p.lastCause, 0)],
    BitVec.ofNat 32 (tolerance s), satWord p.msInRest, alarm.1, alarm.2,
    pack [(bit (vrowIn s), 4), (bit (auxIn s), 3), (bit s.start.ioGood, 2), (bit s.start.sdGood, 1), (bit s.start.coreGood, 0)]]

/-! ### The command (R125, R141) -/

/-- The status and data of an item with its argument; 1 where no chapter defines it (R141), and for the audit log, which QUERY
keeps out of reach (R159). No chapter names a mode in which an item is not available, so status 2 is never given (log 105, DEDUCED). -/
def queryItem (s : State) (item : Nat) (arg : Word) : (Nat × List Word) × State :=
  match item with
  | 0x0101 => ((0, 0 :: linkWords s), s)
  | 0x0201 => ((0, channelItem s arg), s)
  | 0x0301 => ((0, mantelItem s), s)
  | 0x0302 => ((0, portItem s .east ++ portItem s .west), s)
  | 0x0303 => ((0, cueItem s arg), s)
  | 0x0401 => ((0, larderItem s), s)
  | 0x0501 => ((0, binderyItem s), s)
  | 0x0502 => if arg.toNat < emitterCount s then ((0, emitterItem s arg), s) else ((1, []), s)
  | 0x0601 => ((0, showItem s), s)
  | 0x0701 => ((0, (pressItem s).1), (pressItem s).2)
  | 0x0702 => ((0, tripItem s), s)
  | 0x0801 => ((0, defectItem s arg), s)
  | 0x0901 => ((0, (busItem s).1), (busItem s).2)
  | 0x0902 =>
    match keptItem s arg with
    | some d => ((0, d), s)
    | none => ((1, []), s)
  | 0x0A01 => ((0, legacyItem s), s)
  | 0x0B01 => ((0, cellarItem s), s)
  | 0x0B02 => ((0, logItem s arg), s)
  | 0x0C01 => ((0, powerItem s), s)
  | 0x0D01 => ((0, startWords s), s)
  | _ => ((1, []), s)

/-- The snapshot of an item at dispatch, answered by a QUERY report (R123, R125, R141). -/
def queryAt (m : Msg) (s : State) : State :=
  let item := halfAt m.body 0
  let arg := wordAt m.body 4
  let r := queryItem s item.toNat arg
  answerWith r.2 m 0 [{ rtype := 0x0021, payload := queryPayload item r.1.1 arg r.1.2 }]

/-- QUERY (R141). -/
def execQuery (s : State) : Result := dispatch s 0x0002 queryAt

end Sys2Proof.Machine
end

