-- ==== Sys2Proof/Machine/Cellar.lean ====
section
/-! DEFINITION. The Cellar: its cell, tamper samples, watchdog kicks and warnings, Archive words that fail, the hourly persist, and the reader interface with the case page (R368 to R395). -/

namespace Sys2Proof.Machine

open Sys2Proof

/-! ### The watchdog (R373) -/

/-- Warden kicks the watchdog while it is armed (R373). -/
def execWatchdogKick (s : State) : Result :=
  if s.cellar.watchdogArmed && coreOn s then
    .next { s with cellar := { s.cellar with lastKick := s.now, warned := false } }
  else .next s

/-- 12 ms without a kick: the warning of R373, once for each run without one (R392, R394). -/
def execWatchdogWarning (s : State) : Result :=
  if s.cellar.watchdogArmed && coreOn s && !s.cellar.warned then
    let s := advanceTo s (s.cellar.lastKick + 12 * msNs)
    let s := countCellar { s with cellar := { s.cellar with warned := true } } 2
    .next (raise s 0x0B09 0 (BitVec.ofNat 32 ((s.now - s.cellar.lastKick) / msNs)))
  else .next s

/-! ### Tamper (R372) -/

/-- A tamper event: counted, timed in the case page, flagged for the next JOIN, and reported (R372, R392, R394). -/
def tamperEvent (s : State) : State :=
  let c := s.cellar
  let s := countCellar { s with
    cellar := { c with tamperEvents := c.tamperEvents + 1, lastTamper := tsecOf (rtcNs s) }
    addr := { s.addr with tamperSinceJoin := true } } 5
  raiseCellar s 0x0B02 (BitVec.ofNat 16 (sat 16 s.cellar.tamperEvents)) s.cellar.lastTamper

/-- The sample of each second: the second open sample running after a closed one is a tamper event (R372). No sample is taken in
CUT_OFF (R370, R395). -/
def execTamperSample (isOpen : Bool) (s : State) : Result :=
  if s.cellar.cell == .cutOff then .next s
  else
    let s := advanceTo s s.cellar.tamperDue
    let n := s.cellar.tamperOpens
    let s := { s with
      cellar := { s.cellar with
        tamperDue := s.now + second, tamperClosed := !isOpen, tamperOpens := if isOpen then min 2 (n + 1) else 0 } }
    .next (if isOpen && n == 1 then tamperEvent s else s)

/-! ### The cell (R369, R370) -/

/-- The state that VCELL selects while VDD_AUX is good (R370). -/
def selectCell (vcellMv : Nat) (tempC : Int) : CellState :=
  if tempC < 0 || 45 < tempC then .paused
  else if vcellMv < 3000 then .precharge
  else if vcellMv < 4000 then .charge
  else .full

/-- The charger runs: VDD_AUX is good, a charging state stands, the temperature is within 0 to 45 C, and VCELL is at most 4.20 V
(R369, R406). -/
def chargerRuns (s : State) : Bool :=
  s.start.auxGood && (s.cellar.cell == .precharge || s.cellar.cell == .charge) && decide (0 ≤ s.cellar.tempC) &&
    decide (s.cellar.tempC ≤ 45) && decide (s.cellar.vcellMv ≤ 4200)

/-- The charge current in nA: 2 uA in pre-charge, 18 uA within 10 % in constant current, and no more than that in constant voltage
(R369; within those bounds open, log 3). -/
def chargeNa (s : State) : Nat :=
  if !chargerRuns s then 0
  else if s.cellar.cell == .precharge then 2000
  else if s.cellar.vcellMv < 4059 then 16200 + Config.freeNat s.fresh % 3601
  else Config.freeNat s.fresh % 19801

/-- The cell state after one crossing of VCELL, temperature, charge current or VDD_AUX (R370). Charging is in constant voltage
within 1 % of 4.10 V (R369). -/
def nextCell (aux field : Bool) (c : CellState) (vcellMv : Nat) (tempC : Int) (chargeNa : Nat) : CellState :=
  let hot : Bool := tempC < 0 || 45 < tempC
  match c, aux with
  | .cutOff, true => if hot then .paused else .precharge
  | .cutOff, false => .cutOff
  | .discharge, true => selectCell vcellMv tempC
  | .discharge, false => if vcellMv ≤ 2900 && !field then .cutOff else .discharge
  | _, false => .discharge
  | .paused, true => if 1 ≤ tempC && tempC ≤ 44 then selectCell vcellMv tempC else .paused
  | .precharge, true => if hot then .paused else if 3000 ≤ vcellMv then .charge else .precharge
  | .charge, true => if hot then .paused else if 4059 ≤ vcellMv && chargeNa < 2000 then .full else .charge
  | .full, true => if hot then .paused else if vcellMv < 4000 then .charge else .full

/-- CUT_OFF disconnects the load: the RTC count, its alarm, the tamper count and the recorded reset cause are lost (R370, R411,
R412). -/
def cutOff (c : Cellar) : Cellar :=
  { c with rtc := 0, rtcPart := 0, rtcValid := false, rtcAlarm := none, tamperEvents := 0, cause := none }

/-- The cell in another state, with EVENT 0x0B07 (R370, R392). -/
def moveCell (s : State) (new : CellState) : State :=
  let old := s.cellar.cell
  if new == old then s
  else
    let s := raiseCellar s 0x0B07 (pack [(cellCode old, 8), (cellCode new, 0)] |>.setWidth 16) (BitVec.ofNat 32 s.cellar.vcellMv)
    let c := { s.cellar with cell := new }
    { s with cellar := if new == .cutOff then cutOff c else c }

/-- A crossing that moves the cell between its states (R370). -/
def execCellStateChange (vcellMv : Nat) (tempC : Int) (chargeNa : Nat) (s : State) : Result :=
  let s := { s with cellar := { s.cellar with vcellMv := vcellMv, tempC := tempC } }
  .next (moveCell s (nextCell s.start.auxGood s.cellar.field s.cellar.cell vcellMv tempC chargeNa))

/-- The cell's state once VDD_AUX is good, from VCELL and the temperature as they last crossed a bound; once it is lost, DISCHARGE
(R370). -/
def cellByAux (c : Cellar) (aux : Bool) : CellState :=
  let idle := c.cell == .discharge || c.cell == .cutOff
  if aux == idle then nextCell aux c.field c.cell c.vcellMv c.tempC 0 else c.cell

/-- VDD_AUX has become good or been lost: the cell follows (R370). -/
def cellFollows (s : State) : State := moveCell s (cellByAux s.cellar s.start.auxGood)

/-! ### Words of the Archive that fail (R378) -/

/-- The region id of a byte offset of the Archive (R376). -/
def archiveRegion (o : Nat) : Nat :=
  if o < 0x1E800 then 1 else if o < 0x78800 then 2 else if o < 0x88800 then 3 else if o < 0x90800 then 4
  else if o < 0x91800 then 5 else if o < 0xA1800 then 6 else if o < 0xC1800 then 7 else if o < 0xD0800 then 8 else 9

/-- The case page store formatted afresh: hours, counts, the time of the last tamper event, label, pin and the challenge counter
(R372, R378, R389, R390). -/
def formatCasePage (s : State) : State :=
  { s with
    spine := { s.spine with switchFaultsLogged := 0 }
    cellar := { s.cellar with lastTamper := 0, challengeCount := 0 }
    arch := { s.arch with
      secondsPowered := 0, secondsLit := 0, poweredFrom := s.now, litFrom := s.arch.litFrom.map fun _ => s.now, litNs := 0
      powerCycles := 0, rtcAtPersist := 0, defectCounts := List.replicate 6 0, label := [], pin := none } }

/-- The time that the entry of a lost log carries: Mantel time, which in UNSET runs from the RTC, and 0 when the RTC was lost
(R157, R412). -/
def lostLogNs (s : State) : Nat := if s.mantel.lock == .unset && !s.cellar.rtcValid then 0 else mNs s

/-- The audit log reformatted: the serial restarts at 0 with a single outcome-8 entry (R157). -/
def formatAudit (s : State) : State :=
  auditAt { s with arch := { s.arch with audit := [], auditNext := 0 } } (lostLogNs s) 0xFFFF 0 0 0 8 0 false

/-- The defect map formatted empty and every disabled sink enabled (R320). -/
def formatMap (s : State) : State :=
  let s := { s with
    arch := { s.arch with mapRecords := [], disabled := [] }
    coll := { s.coll with
      emitters := s.coll.emitters.filter fun e => decide (e.2.count < 3)
      columns := s.coll.columns.filter fun e => decide (e.2.count < 3)
      rows := s.coll.rows.filter fun e => decide (e.2.count < 3) } }
  raiseCellar s 0x0803 0 0

/-- A record of the event log that cannot be read is skipped; which one a word holds is not stated (R376, R378; log 3). -/
def skipRecord (s : State) : State :=
  let (k, s) := freeValue s
  let n := s.arch.eventLog.length
  { s with arch := { s.arch with eventLog := s.arch.eventLog.eraseIdx (k % max n 1) } }

/-- Two emitters of a wear list at 0. -/
def zeroPair (ws : List Nat) (i : Nat) : List Nat := (ws.set (2 * i) 0).set (2 * i + 1) 0

/-- An unreadable word of region 8 reads as 0 for both its emitters, in the Archive and in the integrals it gave (R376, R378). -/
def dropWear (s : State) (offset : Nat) : State :=
  let i := (offset - 0xC1800) / 8
  { s with
    arch := { s.arch with
      wearSaved := zeroPair s.arch.wearSaved i, wear := zeroPair s.arch.wear i, wearRest := zeroPair s.arch.wearRest i } }

/-- Regions 6 and 8 act at once; the others are marked for the next start-up (R376, R378). -/
def archiveWordLost (s : State) (offset : Nat) : State :=
  match archiveRegion offset with
  | 6 =>
    if offset < 0x97800 then formatAudit s
    else if offset < 0x98800 then formatMap s
    else if offset < 0x99800 then formatCasePage s
    else skipRecord s
  | 8 => dropWear s offset
  | _ => { s with arch := { s.arch with badWords := offset :: s.arch.badWords } }

/-- A bad word. One of a single bit is corrected and only counted (R375, R394). One that cannot be corrected, found at run time, raises EVENT 0x0B04, is counted, and its region follows its row of R378; one that goes bad while the node does not run is met by the check of the next start-up. -/
def execArchiveEccError (w : BadWord) (corrected : Bool) (s : State) : Result :=
  if archiveRegion w.offset.toNat != w.region || decide (0x100000 ≤ w.offset.toNat) then .next s
  else if corrected then .next (if running s then countCellar s 12 else s)
  else if running s then
    let s := countCellar (raiseCellar s 0x0B04 (BitVec.ofNat 16 w.region) w.offset) 13
    .next (archiveWordLost s w.offset.toNat)
  else .next { s with arch := { s.arch with badWords := w.offset.toNat :: s.arch.badWords } }

/-! ### The hourly persist (R383) -/

/-- WEAR_PERSIST at a whole hour of Mantel time in S0 and S1; the entries to S3 and S4 make their own, one that falls due in an
entry is left to the maintenance wake, and none starts after a power-fail detect; in a brown-out of VDD_AUX the hour passes
without one (R383, R392, R395, R406, R410; log 40). -/
def execWearPersist (s : State) : Result :=
  if coreOn s && s.cellar.failAt.isNone && !s.power.entryBegun then
    let h := nextHour s
    let s := advanceToMantel s (h * (3600 * second))
    let t := persistWear s 0
    .next { t with arch := { t.arch with hourDone := h } }
  else .next s

/-! ### The reader's session (R388) -/

/-- A reader field appears and brings the reservoir to a level above its floor, at most 4,320 pJ; a new field starts a session
in the ready state (R368, R384, R394). -/
def execReaderFieldPresent (reservoirPj : Nat) (s : State) : Result :=
  let c := { s.cellar with reservoirPj := min reservoirPj 4320 }
  if c.field then .next { s with cellar := c }
  else .next (countCellar { s with cellar := { c with field := true, quiet := false, selected := false } } 6)

/-- The field is lost: the challenge is void (R390). -/
def execReaderFieldLoss (s : State) : Result :=
  .next { s with
    cellar := { s.cellar with field := false, reservoirPj := 0, quiet := false, selected := false, challenge := none } }

/-- A challenge expires 10 s after its issue (R390). -/
def execChallengeExpire (s : State) : Result :=
  match s.cellar.challenge with
  | none => .next s
  | some c =>
    let s := advanceTo s (c.issued + 10 * second)
    .next { s with cellar := { s.cellar with challenge := none } }

/-- The UID: 0xE0, the IC manufacturer code, the low 48 bits of the serial (R388). -/
def readerUid : Long := 0xE0#8 ++ Config.icMaker ++ Config.serialFuses.setWidth 48

/-- The transponder acts on a request addressed so: by its UID in any state, by the selected state, or to every transponder that
is not quiet (R388). -/
def requestReaches (s : State) : ReaderAddr → Bool
  | .uid u => u == readerUid
  | .selected => s.cellar.selected
  | .any => !s.cellar.quiet

def answerReader (s : State) (data : List Byte) : State := send s (.reader none data)

def errorReader (s : State) (code : Byte) : State := send s (.reader (some code) [])

/-- Error 0xA1, counted (R388, R394). -/
def busyReader (s : State) : State := errorReader (countCellar s 10) 0xA1

/-- A request in a reader field that reaches the transponder, or nothing. -/
def onReach (s : State) (addr : ReaderAddr) (f : State → State) : Result :=
  .next (if s.cellar.field && requestReaches s addr then f s else s)

/-- The slot of an answer to Inventory: the first of one, or of 16 the one that the four UID bits above the mask name (R388). -/
def inventorySlot (slots16 : Bool) (maskLen : Nat) : BitVec 4 :=
  if slots16 then BitVec.ofNat 4 (readerUid.toNat / 2 ^ maskLen) else 0

/-- Inventory: the AFI flag matches 0x00 only, and the mask the low bits of the UID; the answer is DSFID 0x00 and the UID, its
low byte first on the air, in its slot (R388). -/
def execInventory (slots16 : Bool) (afi : Option Byte) (maskLen : Nat) (mask : Long) (s : State) : Result :=
  let hit := (afi.getD 0) == 0 && readerUid.toNat % 2 ^ maskLen == mask.toNat % 2 ^ maskLen
  onReach s .any fun s =>
    if hit then send s (.inventory (inventorySlot slots16 maskLen) (0 :: (longBytes readerUid).reverse)) else s

/-- Stay Quiet for this UID: no answer (R388). -/
def execStayQuiet (uid : Long) (s : State) : Result :=
  onReach s (.uid uid) fun s => { s with cellar := { s.cellar with quiet := true, selected := false } }

/-- Select of this UID selects and answers; of another, a selected transponder returns to ready (R388). -/
def execSelect (uid : Long) (s : State) : Result :=
  if !s.cellar.field then .next s
  else if uid == readerUid then
    .next (answerReader { s with cellar := { s.cellar with quiet := false, selected := true } } [])
  else .next { s with cellar := { s.cellar with selected := false } }

/-- Reset to Ready (R388). -/
def execResetToReady (addr : ReaderAddr) (s : State) : Result :=
  onReach s addr fun s => answerReader { s with cellar := { s.cellar with quiet := false, selected := false } } []

/-- Get System Information: DSFID, AFI and memory size are given; 256 blocks of 32 bytes (R388). -/
def execGetSystemInformation (addr : ReaderAddr) (s : State) : Result :=
  onReach s addr fun s => answerReader s ([0x07] ++ (longBytes readerUid).reverse ++ [0, 0, 0xFF, 0x1F])

/-- A request that the node refuses by its command: error 0x01 (R388). -/
def execReaderCommandNotSupported (s : State) : Result :=
  .next (if s.cellar.field then errorReader s 0x01 else s)

/-! ### The energy gate for the reader (R384, R395, R406) -/

/-- The last-gasp bursts of a power-fail detect still keep precedence (R386, R395). -/
def lastGasp (s : State) : Bool :=
  match s.cellar.failAt with
  | some d => !s.cellar.isolated && decide (s.now < d + 1500 * usNs)
  | none => false

/-- A reader's burst of so many words is granted (R384): from good main supplies unless VDD_AUX is out (R406), else from the
harvested reservoir at 250 pJ a word. -/
def readerGrants (s : State) (words : Nat) : Bool :=
  if s.cellar.failAt.isNone && s.start.coreGood && s.start.sdGood then s.start.auxGood
  else !lastGasp s && !s.start.auxGood && decide (250 * words ≤ s.cellar.reservoirPj)

/-- A granted burst of the reader's, which draws 250 pJ a word where the reservoir pays for it (R384; log 103). -/
def spendReader (s : State) (words : Nat) : State :=
  if s.start.auxGood then s else { s with cellar := { s.cellar with reservoirPj := s.cellar.reservoirPj - 250 * words } }

/-! ### The case page (R389) -/

def factoryIdentity (s : State) : Word := match s.arch.factory with | some o => o.identity | none => 0

/-- Bytes cut or filled with zeros to a length. -/
def fitBytes (n : Nat) (b : List Byte) : List Byte := (b ++ List.replicate n 0).take n

/-- The strap summary of block 4, with the resource code of the first conflict word (R50, R389). -/
def strapSummary (s : State) : Word :=
  pack [(s.straps.conflicts.length, 24), (bit (strapFlagged s), 23), (field (s.straps.conflicts.getD 0 0) 19 12, 0)]

/-- The two event records of a log block, newest first (R389). -/
def logBlock (s : State) (k : Nat) : List Byte := wordsBytes (((s.arch.eventLog.reverse.drop (2 * k)).take 2).flatMap eventWords)

/-- The words of blocks 0, 1, 3, 4 (R389). -/
def block0 (s : State) : List Word := [0x01000000, BitVec.ofNat 32 (min s.arch.eventLog.length 480)]

def block1 (s : State) : List Word :=
  longWords Config.serialFuses.toNat ++
    [0x72164200, s.arch.colophon.date, s.arch.colophon.esta ++ 0#16, liveImageIdentity s, s.arch.patchLoaded, factoryIdentity s]

def block3 (s : State) : List Word :=
  [BitVec.ofNat 32 s.arch.secondsPowered, BitVec.ofNat 32 s.arch.secondsLit, BitVec.ofNat 32 s.arch.powerCycles,
    s.arch.rtcAtPersist] ++ longWords (rtcSeconds s) ++ [pack [(bit s.cellar.rtcValid, 31)]]

def block4 (s : State) : List Word :=
  [pack [(bit s.arch.pin.isSome, 31), ((s.arch.pin.getD 0).toNat, 0)], s.addr.lastAddr.setWidth 32, s.addr.lastPos.setWidth 32,
    pack [(bit s.hall.archiveLost, 31)], BitVec.ofNat 32 s.cellar.tamperEvents, s.cellar.lastTamper,
    BitVec.ofNat 32 s.spine.switchFaultsLogged, strapSummary s]

def block5 (s : State) : List Byte :=
  s.arch.defectCounts.flatMap (beBytes 2) ++ beBytes 2 s.arch.mapRecords.length

/-- The challenge as block 8 shows it (R389, R390). -/
def block8 (s : State) : List Byte :=
  match s.cellar.challenge with
  | some c => longBytes c.counter ++ longBytes c.nonce
  | none => []

/-- The 32 bytes of a block of the case page (R389). -/
def caseBlock (s : State) (b : Nat) : List Byte :=
  fitBytes 32 (match b with
    | 0 => wordsBytes (block0 s)
    | 1 => wordsBytes (block1 s)
    | 2 => s.arch.colophon.makerName
    | 3 => wordsBytes (block3 s)
    | 4 => wordsBytes (block4 s)
    | 5 => block5 s
    | 6 => wordsBytes (disabledWords s)
    | 7 => s.arch.label
    | 8 => block8 s
    | k => if k < 16 then [] else logBlock s (k - 16))

/-- A read of block 8 issues a new challenge once its counter is written, in a burst of one word (R384, R390). -/
def issueChallenge (s : State) : Option State :=
  if readerGrants s 1 then
    let n := s.cellar.challengeCount + 1
    let c : Challenge := { counter := n, nonce := Config.nonce n.toNat, issued := s.now }
    let s := spendReader s 1
    some { s with cellar := { s.cellar with challengeCount := n, challenge := some c } }
  else none

/-- One block read, with the answer's bytes so far; none once the answer is busy. -/
def readBlock (s : State) (acc : List Byte) (b : Nat) : Option (List Byte × State) :=
  match (if b = 8 then issueChallenge s else some s) with
  | none => none
  | some s => some (acc ++ caseBlock s b, countCellar s 7)

/-- Blocks read one after another. -/
def readBlocks : Nat → Nat → State → List Byte → Option (List Byte × State)
  | 0, _, s, acc => some (acc, s)
  | n + 1, b, s, acc =>
    match readBlock s acc b with
    | none => none
    | some (acc, s) => readBlocks n (b + 1) s acc

/-- The answer to a read of blocks: 0x10 beyond block 255, busy while last-gasp bursts run or a challenge is not granted
(R388, R390, R395). -/
def readCase (s : State) (first count : Nat) : State :=
  if 256 < first + count then errorReader s 0x10
  else if lastGasp s then busyReader s
  else
    match readBlocks count first s [] with
    | none => busyReader s
    | some (data, s) => answerReader s data

/-- Read Single Block (R388, R389). -/
def execReadSingleBlock (addr : ReaderAddr) (block : Byte) (s : State) : Result :=
  onReach s addr fun s => readCase s block.toNat 1

/-- Read Multiple Blocks (R388, R389). -/
def execReadMultipleBlocks (addr : ReaderAddr) (first : Byte) (count : Nat) (s : State) : Result :=
  onReach s addr fun s => readCase s first.toNat count

/-! ### Writes to block 9 (R391) -/

/-- The challenge in force that a write's counter names, at most 10 s old: a write that arrives on the cycle of its expiry counts
first (R28, R390, R391). -/
def challengeFor (s : State) (counter : Word) : Option Challenge :=
  match s.cellar.challenge with
  | some c => if c.counter.setWidth 32 == counter && decide (s.now ≤ c.issued + 10 * second) then some c else none
  | none => none

/-- The write's audit entry and EVENT (R156, R391, R392). -/
def noteWrite (s : State) (w : Word) (counter : Word) (outcome : Nat) : State :=
  let s := auditAt s (rtcNs s) 0x0300 (BitVec.ofNat 16 (field w 29 24)) counter (BitVec.ofNat 2 (field w 31 30))
    (BitVec.ofNat 4 outcome) 0 false
  raiseCellar s 0x0B06 (pack [(outcome, 8), (field w 29 24, 0)] |>.setWidth 16) counter

/-- A refused write: counted, audited and reported when its five words are granted, and answered with its error (R391, R394). -/
def refuseWrite (s : State) (w counter : Word) (code : Byte) : State :=
  let s := countCellar s 9
  errorReader (if readerGrants s 5 then noteWrite (spendReader s 5) w counter 7 else s) code

def dropChallenge (s : State) : State := { s with cellar := { s.cellar with challenge := none } }

/-- Role, op and address that make a write malformed (R391). -/
def writeMalformed (w : Word) : Bool :=
  let role := field w 31 30
  let op := field w 29 24
  let addr := field w 11 0
  role == 0 || role == 3 || op == 0 || decide (3 < op) || (op == 1 && (addr == 0 || addr == 0xFFF))

/-- Op 1 pins the address, op 2 clears the pin, op 3 writes the label (R391). -/
def applyWrite (s : State) (data : List Byte) : State :=
  let w := wordAt data 0
  match field w 29 24 with
  | 1 => { s with arch := { s.arch with pin := some (BitVec.ofNat 12 (field w 11 0)) } }
  | 2 => { s with arch := { s.arch with pin := none } }
  | _ => { s with arch := { s.arch with label := (data.drop 8).take 16 } }

/-- The words of a granted write: the page, its audit entry and its event record (R384, R391). -/
def writeWords : Nat := 10

/-- The judgement of a write to block 9, in the order of R391. -/
def judgeWrite (s : State) (data : List Byte) : State :=
  let w := wordAt data 0
  let counter := wordAt data 4
  match challengeFor s counter with
  | none => refuseWrite s w counter 0xA3
  | some c =>
    if writeMalformed w then refuseWrite (dropChallenge s) w counter 0xA4
    else
      match roleKey s (field w 31 30) with
      | none => refuseWrite (dropChallenge s) w counter 0xA2
      | some key =>
        if tagOf key (longBytes c.counter ++ longBytes c.nonce ++ data.take 24) != (data.drop 24).take 8 then
          refuseWrite (dropChallenge s) w counter 0xA2
        else if !readerGrants s writeWords then busyReader s
        else
          let s := countCellar (applyWrite (dropChallenge (spendReader s writeWords)) data) 8
          answerReader (noteWrite s w counter 6) []

/-- Write Single Block: block 9 only, with the Option flag set (R388, R391, R395). -/
def execWriteSingleBlock (addr : ReaderAddr) (block : Byte) (optionFlag : Bool) (data : List Byte) (s : State) : Result :=
  onReach s addr fun s =>
    if block != 9 then errorReader s 0x12
    else if !optionFlag then errorReader s 0x01
    else if lastGasp s then busyReader s
    else judgeWrite s data

end Sys2Proof.Machine
end

