-- ==== Sys2Proof/Machine/Gathered.lean ====
section
/-! DEFINITION. The gathered roles: the native leaf link at head and leaf, time at a leaf, and the FZ5140-format leaf (R422 to R436). -/

namespace Sys2Proof.Machine

open Sys2Proof

/-! ### Hops, positions and the leaf table (R424, R426, R435) -/

/-- The leaf link runs in this role: any gathered mode, from start-up on (R422). -/
def linkRuns (s : State) : Bool := running s && s.power.st != .s4 && (mode s == .head || mode s == .leaf || mode s == .leafFz)

/-- The position that a chip sends downstream: 0 at the head (R424). -/
def ownPosition (s : State) : BitVec 6 := if mode s == .head then 0 else s.leaf.position.getD 0

/-- A leaf takes its upstream position plus 1, or stays unpositioned at 63, with EVENT 0x0112 as it becomes so (R424, R435). -/
def takePosition (s : State) (up : BitVec 6) : State :=
  if up == 63 then
    let was := s.leaf.refused
    let s := { s with leaf := { s.leaf with position := none, refused := true } }
    if was then s else raise s 0x0112 (up.setWidth 16) 0
  else { s with leaf := { s.leaf with position := some (up + 1), refused := false } }

/-- An entry of the leaf table made or changed (R426). -/
def setLeaf (s : State) (pos : BitVec 6) (f : LeafEntry → LeafEntry) : State :=
  let old := (s.leaf.table.find? fun e => e.pos == pos).getD { pos := pos, serial := 0, addr := 0xFFF }
  { s with leaf := { s.leaf with table := f old :: s.leaf.table.filter fun e => e.pos != pos } }

/-- EVENT 0x0110 (R435). -/
def raiseHop (s : State) (up : Bool) (pos : BitVec 6) : State :=
  raise s 0x0110 (BitVec.ofNat 16 (bit up)) (pos.setWidth 32)

/-- The HELLO a chip sends: serial, role and position (R423). -/
def helloPayload (s : State) (pos : BitVec 6) : List Byte :=
  longBytes Config.serialFuses ++ wordBytes (pack [(bit (mode s != .head), 28), (pos.toNat, 0)])

/-- The position that a HELLO of this chip carries; what that of an unpositioned leaf carries is not stated (R423, R424; log 3). -/
def helloPosition (s : State) : BitVec 6 × State :=
  if mode s == .head then (0, s)
  else
    match s.leaf.position with
    | some p => (p, s)
    | none =>
      let (u, s) := freeBelow s 63
      (BitVec.ofNat 6 u, s)

/-- A hop's training: four HELLOs of this chip (R424). The tile bus of an FZ5140-format leaf has none (R433; log 89). -/
def trainHop (s : State) (down : Bool) : State :=
  if mode s == .leafFz then s
  else
    let (p, s) := helloPosition s
    (List.replicate 4 (Sent.leaf down 6 p 0 (helloPayload s p))).foldl send s

/-- The upstream hop of a leaf is UP: the HELLOs gave the position and serial above, and four of its own went up (R424). -/
def upstreamUp (s : State) (peerPos : BitVec 6) (peerSerial : Long) : State :=
  let s := { s with leaf := { s.leaf with upHop := true, upSerial := peerSerial } }
  raiseHop (trainHop (if mode s == .leaf then takePosition s peerPos else s) false) true peerPos

/-- The downstream hop is UP after four HELLOs each way; the head enters the first leaf in its table (R424, R426). -/
def downstreamUp (s : State) (peerPos : BitVec 6) (peerSerial : Long) : State :=
  let s := trainHop { s with leaf := { s.leaf with downHop := true, helloDue := s.now + second } } true
  let s := if mode s == .head then setLeaf s peerPos fun e => { e with serial := peerSerial } else s
  raiseHop s true (ownPosition s)

/-- LEAF_HOP_UP: four HELLOs each way have trained the hop (R424). -/
def execLeafHopUp (upstream : Bool) (peerPos : BitVec 6) (peerSerial : Long) (s : State) : Result :=
  if !linkRuns s then .next s
  else if upstream then
    .next (if mode s == .head || s.leaf.upHop then s else upstreamUp s peerPos peerSerial)
  else .next (if s.leaf.downHop then s else downstreamUp s peerPos peerSerial)

/-- LEAF_HOP_DOWN (R424). -/
def execLeafHopDown (upstream : Bool) (s : State) : Result :=
  if upstream then
    if s.leaf.upHop && linkRuns s then
      let above := (s.leaf.position.getD 0) - 1
      .next (raiseHop { s with leaf := { s.leaf with upHop := false } } false above)
    else .next s
  else if s.leaf.downHop && linkRuns s then
    .next (raiseHop { s with leaf := { s.leaf with downHop := false } } false (ownPosition s))
  else .next s

/-- A received HELLO: the head fills its table; a leaf hears its upstream chip (R424, R426). -/
def hearHello (s : State) (pos : BitVec 6) (serial : Long) : State :=
  match mode s with
  | .head => setLeaf s pos fun e => { e with serial := serial }
  | .leaf => if serial == s.leaf.upSerial then takePosition s pos else s
  | _ => s

/-- LEAF_HELLO: sent downstream every 1 s, or received (R424). -/
def execLeafHello (sending : Bool) (pos : BitVec 6) (serial : Long) (s : State) : Result :=
  if !linkRuns s || mode s == .leafFz then .next s
  else if sending then
    if s.leaf.downHop && (mode s == .head || s.leaf.position.isSome) then
      let s := advanceTo s s.leaf.helloDue
      let s := { s with leaf := { s.leaf with helloDue := s.now + second } }
      .next (send s (.leaf true 6 (ownPosition s) 0 (helloPayload s (ownPosition s))))
    else .next s
  else .next (hearHello s pos serial)

/-! ### Carried folios (R423, R425 to R428) -/

/-- A packet dropped, not forwarded, and counted (R423). -/
def dropPacket (s : State) : State := { s with leaf := { s.leaf with dropped := s.leaf.dropped + 1 } }

def sendDown (s : State) (type : BitVec 4) (leaf : BitVec 6) (w1 : Word) (payload : List Byte) : State :=
  if s.leaf.downHop then send s (.leaf true type leaf w1 payload) else s

/-- A leaf with a position whose upstream hop is UP. -/
def leafLinked (s : State) : Bool := linkRuns s && mode s == .leaf && s.leaf.upHop && s.leaf.position.isSome

/-- The tile bus reaches this leaf: its upstream hop is UP. R433 gives the FZ5140 format the link timing of R422 and no HELLO;
the hop is taken to come up by LEAF_HOP_UP, the training of R424, as a native hop does (log 89, DESIGN CHOICE). -/
def fzHears (s : State) : Bool := coreOn s && mode s == .leafFz && s.leaf.upHop

def countFz (s : State) : State := { s with leaf := { s.leaf with fzCounted := s.leaf.fzCounted + 1 } }

/-- A packet of the tile bus of a type that R433 does not list, as it goes on unchanged: a folio operand at an FZ5140-format leaf has
the packet's header in w0 and w1, and its payload (R433; log 89). -/
def fzPassed (down : Bool) (f : Folio) : Sent :=
  .fz down (BitVec.ofNat 4 (field f.w0 31 28)) (BitVec.ofNat 7 (field f.w0 27 21)) f.w1 f.payload

/-- A carried folio at a leaf: forwarded unless it is the leaf's own, and taken as a WEST arrival when it is for every leaf or
this one (R425). -/
def carryDown (s : State) (leaf : BitVec 6) (f : Folio) : State :=
  let own := s.leaf.position == some leaf
  let s := if own then s else sendDown s 1 leaf 0 (folioBytes f)
  if own || leaf == 0 then (if coreOn s then mergeUnit s .west (.whole f) else s) else s

/-- CARRY_DOWN. A packet of any type from above that fails its CRC, is cut short, has a wrong length or a reserved type comes with
crcOk clear, and is dropped and counted (R423, R425, R436; log 70). At an FZ5140-format leaf the row brings a packet of a type that
R433 does not list, which is forwarded unchanged and counted (log 89). -/
def execCarryDown (leaf : BitVec 6) (u : RxUnit) (crcOk : Bool) (s : State) : Result :=
  if mode s == .leafFz then
    match u with
    | .whole f =>
      .next (if !fzHears s then s else if s.leaf.downHop then send (countFz s) (fzPassed true f) else countFz s)
    | _ => .next s
  else if linkRuns s && mode s == .leaf && s.leaf.upHop && !crcOk then .next (dropPacket s)
  else if !leafLinked s then .next s
  else
    match u, crcOk with
    | .whole f, true => .next (carryDown s leaf f)
    | _, _ => .next (dropPacket s)

/-- The place of a leaf's own folio that leaves next: the order of R63. -/
def nextUp (s : State) : Option Nat :=
  match s.larder.reports.findIdx? fun f => isAck f && mayLeave s f with
  | some i => some i
  | none => s.larder.reports.findIdx? (mayLeave s)

/-- A leaf's oldest own folio goes upstream, and makes room behind it (R205, R425). -/
def sendOwnUp (s : State) : State :=
  match nextUp s with
  | none => s
  | some i =>
    let s' := sendUp s (ownFolio s (s.larder.reports.getD i default))
    let s' := { s' with larder := { s'.larder with reports := s'.larder.reports.eraseIdx i } }
    admitWaiting s'.larder.waiting.length s'

/-- The table learns from a leaf's folio: an ENUM_CLAIM names serial and current address, any other its src (R426). -/
def learnLeaf (s : State) (pos : BitVec 6) (f : Folio) : State :=
  if Folio.kind f == 5 && Folio.spec f % 256 == 2 then
    setLeaf s pos fun e => { e with serial := longAt f.payload 4, addr := BitVec.ofNat 12 (wordAt f.payload 32).toNat }
  else setLeaf s pos fun e => { e with addr := BitVec.ofNat 12 (Folio.src f) }

/-- A leaf's folio as it waits in queue 0x01, unchanged (R428). -/
def leafFolio (f : Folio) : OwnFolio :=
  { kind := BitVec.ofNat 4 (Folio.kind f), spec := BitVec.ofNat 16 (Folio.spec f), seq := f.w2, payload := f.payload
    dueEast := true, dueWest := true, leafSrc := some (BitVec.ofNat 12 (Folio.src f)), unassignedOk := true }

/-- CARRY_UP: the head queues the folio for both ports, and a leaf forwards it and lets a packet of its own follow (R425,
R428). A bad packet of any type from below comes with crcOk clear; at an FZ5140-format leaf the row brings a packet that a chip
below sends up, its STATUS among them, forwarded unchanged and counted (R423, R433; logs 70 and 89). -/
def execCarryUp (leaf : BitVec 6) (f : Folio) (crcOk : Bool) (s : State) : Result :=
  if !linkRuns s then .next s
  else if !crcOk then .next (dropPacket s)
  else
    match mode s with
    | .head => .next (if coreOn s then queueOwn (learnLeaf s leaf f) (leafFolio f) else s)
    | .leaf => .next (if leafLinked s then sendOwnUp (send s (.leaf false 2 leaf 0 (folioBytes f))) else s)
    | .leafFz => .next (if fzHears s then send (countFz s) (fzPassed false f) else s)
    | _ => .next s

/-- LEAF_QUEUE_SEND: the head's oldest CARRY_DOWN packet; at a leaf its oldest own folio (R425, R427). -/
def execLeafQueueSend (s : State) : Result :=
  if leafLinked s then .next (sendOwnUp s)
  else if linkRuns s && mode s == .head && s.leaf.downHop then
    match s.leaf.queue with
    | [] => .next s
    | (pos, f) :: rest => .next (send { s with leaf := { s.leaf with queue := rest } } (.leaf true 1 pos 0 (folioBytes f)))
  else .next s

/-! ### Time at a leaf (R430) -/

/-- The payload of TIME: seconds, nanoseconds, fraction and lock of a time in 2^-16 ns (R423). -/
def timePayload (t16 : Nat) (lock : Nat) : List Byte :=
  let ns := t16 / 65536
  beBytes 8 (ns / second) ++ beBytes 4 (ns % second) ++ wordBytes (pack [(t16 % 65536, 16), (lock, 0)])

/-- LEAF_TIME_SEND: the head's time every 1 ms, while the head is not bypassed (R430, R436). -/
def execLeafTimeSend (s : State) : Result :=
  if linkRuns s && mode s == .head && coreOn s && s.spine.bypHold then
    let s := advanceTo s s.leaf.timeDue
    let s := { s with leaf := { s.leaf with timeDue := s.now + msNs } }
    .next (sendDown s 3 0 0 (timePayload (s.mantel.time / 65536) (lockCode s.mantel.lock)))
  else .next s

/-- The carried lock lets a leaf's time be valid (R430). -/
def lockGood (lock : BitVec 4) : Bool := lock == 2 || lock == 3 || lock == 4

/-- TIME as a complete measurement: the time carried plus W1 plus the path delay against the arrival stamp, all in 2^-16 ns (R172,
R430). Two of them give the rate, as two Syncs do. -/
def takeTime (s : State) (correction mantel16 : Nat) (lock : BitVec 4) (stamp16 : Nat) : State :=
  let x := s.mantel.west
  let ring := (s.now : Int) * 65536 - (stampNow s - stamp16) - correction
  let rate := match x.prevSync with
    | some q => rateOf q (mantel16, ring)
    | none => none
  let o := (stamp16 : Int) - (mantel16 + correction + s.leaf.pathDelay16)
  let s := countMantel { s with
    leaf := { s.leaf with lastTime := s.now }
    mantel := nowValid (timeValid s.mantel) { s.mantel with
      carried := lockGood lock, lastSync := s.now, rate := if rate.isSome then rate else s.mantel.rate
      west := { x with prevSync := some ((mantel16 : Int), ring), o := o, lastMeasured := s.now, measured := true } } } 3
  steer s o

/-- TIME at a leaf: forwarded with its residence added to W1, and taken (R425, R430). -/
def execTime (correction mantel16 : Nat) (lock : BitVec 4) (stamp16 residence : Nat) (s : State) : Result :=
  if !leafLinked s then .next s
  else
    let s := sendDown s 3 0 (BitVec.ofNat 32 (correction + residence)) (timePayload mantel16 lock.toNat)
    .next (if coreOn s then takeTime s correction mantel16 lock stamp16 else s)

/-- LEAF_TIME_TIMEOUT: 4 ms without a TIME packet (R430). -/
def execLeafTimeTimeout (s : State) : Result :=
  if coreOn s && mode s == .leaf && s.mantel.lock == .locked then
    .next (enterHoldover (advanceTo s (s.leaf.lastTime + 4 * msNs)))
  else .next s

/-- PDELAY_REQ from the chip below: answered with its receive stamp and the turnaround (R423, R430). -/
def execPdelayReq (pos : BitVec 6) (stamp16 turnaround16 : Nat) (s : State) : Result :=
  if linkRuns s && mode s != .leafFz then
    .next (sendDown s 5 pos 0 (wordsBytes [BitVec.ofNat 32 stamp16, BitVec.ofNat 32 turnaround16]))
  else .next s

/-- PDELAY_REQ_SEND: every 100 ms upstream (R430). -/
def execPdelayReqSend (s : State) : Result :=
  if leafLinked s then
    let s := advanceTo s s.leaf.pdelayDue
    let (t1, s) := stampRing s
    let s := { s with leaf := { s.leaf with pdelayDue := s.now + 100 * msNs, pdelaySent := some t1.toNat } }
    .next (send s (.leaf false 4 (s.leaf.position.getD 0) 0 []))
  else .next s

/-- PDELAY_RESP: the median of the last eight path delays (R430). -/
def execPdelayResp (pos : BitVec 6) (turnaround16 arrival16 : Nat) (s : State) : Result :=
  match s.leaf.pdelaySent with
  | none => .next s
  | some t1 =>
    if leafLinked s && s.leaf.position == some pos then
      let ds := ((arrival16 : Int) - t1 - turnaround16) :: s.leaf.delays.take 7
      .next { s with leaf := { s.leaf with pdelaySent := none, delays := ds, pathDelay16 := halfMedian ds } }
    else .next s

/-! ### The FZ5140-format leaf (R433) -/

/-- A packet sent on down the tile bus. -/
def fzForward (s : State) (type : BitVec 4) (chip : BitVec 7) (w1 : Word) (payload : List Byte) : State :=
  if s.leaf.downHop then send s (.fz true type chip w1 payload) else s

/-- A packet for another chip: forwarded unchanged and counted (R433). -/
def fzPass (s : State) (type : BitVec 4) (chip : BitVec 7) (w1 : Word) (payload : List Byte) : State :=
  fzForward (countFz s) type chip w1 payload

/-- A packet names this chip, or every chip (R433). -/
def fzMine (s : State) (chip : BitVec 7) : Bool := s.leaf.chip == some chip || chip == 127

/-- A packet for every chip is also forwarded (R425, R433). -/
def fzShare (s : State) (type : BitVec 4) (chip : BitVec 7) (w1 : Word) (payload : List Byte) : State :=
  if chip == 127 then fzForward s type chip w1 payload else s

/-- The presentation time of a frame that no LATCH has closed yet: later than any. -/
def unlatched : Nat := 2 ^ 80

/-- The quire of the frame being received. -/
def fzQuire (s : State) : Word := s.leaf.fzFrame + 1

/-- The slot of the frame being received, opened by its first PIXELS as a slot of a quire is (R196, R433). -/
def fzOpened (s : State) : Slot :=
  { st := .receiving, quire := fzQuire s, qtime := 0, pres := unlatched, cls := 0, group := 0, depth := 3, cfmt := 0
    covered := [], data := [] }

/-- The slot of the frame being received; where one opens, no byte of its frame is written yet. -/
def fzSlot (s : State) : Option Nat × State :=
  match slotOf s (fzQuire s) with
  | some i => (some i, s)
  | none =>
    let s := { s with leaf := { s.leaf with fzWritten := [] } }
    match s.larder.slots.findIdx? fun x => x.st == .free with
    | some i => (some i, openSlot s i (fzOpened s))
    | none =>
      match oldestSlot s.larder.slots .receiving with
      | some i => (some i, openSlot (supersede s i) i (fzOpened s))
      | none =>
        match oldestSlot s.larder.slots .ready with
        | some i => (some i, openSlot (supersede s i) i (fzOpened s))
        | none => (none, s)

/-- PIXELS lie in the signature of 16-bit components, from any byte (R93, R433). -/
def pixelsFit (s : State) (offset n : Nat) : Bool := decide (1 ≤ n) && decide (offset + n ≤ sigSize s 0 3)

/-- Every byte of a granule, up to the signature's size, lies in the ranges written (R66, R94). -/
def granuleWritten (ranges : List (Nat × Nat)) (size g : Nat) : Bool :=
  (List.range (min 64 (size - 64 * g))).all fun b =>
    ranges.any fun r => decide (r.1 ≤ 64 * g + b) && decide (64 * g + b < r.2)

/-- Every granule that the bytes touch is covered already: a twin (R66, R433). -/
def pixelsTwin (x : Slot) (offset n : Nat) : Bool :=
  (List.range ((offset + n + 63) / 64 - offset / 64)).all fun g => x.covered.contains (offset / 64 + g)

/-- The bytes written, and the granules covered that they make whole; a twin is dropped, and counted at WEST, where the tile bus comes
in (R66, R422, R433). -/
def writePixels (s : State) (i offset : Nat) (data : List Byte) : State :=
  let x := s.larder.slots.getD i Slot.empty
  if pixelsTwin x offset data.length then countPort s .west 6
  else
  let ranges := (offset, offset + data.length) :: s.leaf.fzWritten
  let gs := (List.range (data.length / 64 + 2)).map (offset / 64 + ·)
  let new := gs.filter fun g =>
    !x.covered.contains g && decide (64 * g < sigSize s 0 3) && granuleWritten ranges (sigSize s 0 3) g
  let y := { x with covered := x.covered ++ new, data := Memory.writeBytes x.data offset data }
  let s := { s with leaf := { s.leaf with fzWritten := ranges } }
  setSlot s i (if x.st == .receiving && slotComplete s y then { y with st := .ready } else y)

/-- PIXELS (R433). -/
def execPixels (chip : BitVec 7) (offset : Nat) (data : List Byte) (s : State) : Result :=
  if !fzHears s then .next s
  else if !fzMine s chip then .next (fzPass s 1 chip (BitVec.ofNat 32 offset) data)
  else
    let s := fzShare s 1 chip (BitVec.ofNat 32 offset) data
    if !pixelsFit s offset data.length then .next (countFz s)
    else
      match fzSlot s with
      | (some i, s) => .next (writePixels s i offset data)
      | (none, s) => .next s

/-- The frame closes: its presentation time is the edge plus 0.5 ms; one whose render point has passed is late (R433). -/
def closeFrame (s : State) (edge16 : Int) : State :=
  let pres := (edge16 / 65536).toNat + 500000
  let q := fzQuire s
  let s' := { s with leaf := { s.leaf with fzFrame := q } }
  match slotOf s q with
  | none => s'
  | some i =>
    if frameSeam s pres < mNs s + renderLead then countLate (setSlot s' i Slot.empty)
    else setSlot s' i { s.larder.slots.getD i Slot.empty with pres := pres }

/-- The payload of LATCH: rate and frame. -/
def latchPayload (rate : Byte) (frame : BitVec 24) : List Byte := wordBytes (rate ++ frame)

/-- A LATCH at a numbered chip: the edge less (chip + 1) x 128 ns, in 100 ps of the RING time counter, is a SYNC_IN edge at the
rate, and closes the frame (R433). -/
def takeLatch (s : State) (k : BitVec 7) (rate stamp : Nat) : State :=
  let edge := stamp - (k.toNat + 1) * 1280
  let s := takeEdge { s with leaf := { s.leaf with fzRate := rate } } edge rate
  closeFrame s (mantelAt s edge)

/-- LATCH, for every chip (R433). -/
def execLatch (rate : Byte) (frame : BitVec 24) (stamp : Nat) (s : State) : Result :=
  if !fzHears s then .next s
  else
    let s := fzForward s 2 127 0 (latchPayload rate frame)
    match s.leaf.chip with
    | none => .next (countFz s)
    | some k => if 1 ≤ rate.toNat ∧ rate.toNat ≤ 240 then .next (takeLatch s k rate.toNat stamp) else .next (countFz s)

def gainPayload (level : Half) (trims : Word) (deadNs : Half) : List Byte :=
  halfBytes level ++ wordBytes trims ++ halfBytes deadNs

/-- The timing set of a GAIN: apply 0, minp 128, trims t0 to t3, dead_ns or what stands (R275, R433). -/
def gainTiming (s : State) (trims : Word) (deadNs : Half) : PendingSet :=
  { set := { epoch := s.press.lastEpoch + 1, deadNs := if deadNs = 0 then s.press.timing.deadNs else deadNs.toNat, minp := 128
             trims := [field trims 31 24, field trims 23 16, field trims 15 8, field trims 7 0] }
    apply := 0, due := s.now + 10 * usNs, chan := 0, seq := 0, no := 0, silent := true }

/-- GAIN: the level at the next render point and the timing set; a dead time out of range is ignored, so the one that stands is kept,
and counted (R433). -/
def takeGain (s : State) (level : Half) (trims : Word) (deadNs : Half) : State :=
  let bad := deadNs != 0 && (decide (deadNs.toNat < 40) || decide (400 < deadNs.toNat))
  let s := if bad then countFz s else s
  takeTiming { s with leaf := { s.leaf with fzLevel := some (min level.toNat 32768) } }
    (gainTiming s trims (if bad then 0 else deadNs))

/-- GAIN (R433). -/
def execGain (chip : BitVec 7) (level : Half) (trims : Word) (deadNs : Half) (s : State) : Result :=
  let data := gainPayload level trims deadNs
  if !fzHears s then .next s
  else if !fzMine s chip then .next (fzPass s 3 chip 0 data)
  else .next (takeGain (fzShare s 3 chip 0 data) level trims deadNs)

/-- COUNT: the chip takes the count and forwards one more; at 64 or more it takes none and holds FAULT_N low, with EVENT 0x0112
(R433, R435). -/
def execCount (n : Byte) (s : State) : Result :=
  if !fzHears s then .next s
  else
    let s := fzForward s 4 127 0 (wordBytes ((n + 1).setWidth 32))
    if n.toNat < 64 then .next { s with leaf := { s.leaf with chip := some (n.setWidth 7), fzOverflow := false } }
    else .next (raise { s with leaf := { s.leaf with chip := none, fzOverflow := true } } 0x0112 (n.setWidth 16) 0)

/-- The STATUS payload (R304, R433). -/
def statusPayload (s : State) : List Byte :=
  let trips := inForceMask s
  let f := match s.larder.fstate with | .await => 0 | .live => 1 | .lost => 2
  longBytes Config.serialFuses ++ halfBytes (BitVec.ofInt 16 s.back.dieTemp) ++ beBytes 2 trips ++
    beBytes 2 s.arch.mapRecords.length ++ beBytes 2 (f * 4096)

/-- STATUS_REQ (R433). -/
def execStatusReq (chip : BitVec 7) (s : State) : Result :=
  if !fzHears s then .next s
  else if !fzMine s chip then .next (fzPass s 5 chip 0 [])
  else .next (send (fzShare s 5 chip 0 []) (.fz false 6 (s.leaf.chip.getD 127) 0 (statusPayload s)))

end Sys2Proof.Machine
end

