-- ==== Sys2Proof/Machine/Legacy.lean ====
section
/-! DEFINITION. The legacy port: DMX512-A packets and their loss, the RDM responder, the legacy block, and DALI-2 control gear (R351 to R367; the frames of IEC 62386 and the packets of E1.20 by log 6). -/

namespace Sys2Proof.Machine

open Sys2Proof

/-- Porter serves the port in a mode of CFG_MODE that uses it so, while CORE is on (R351). -/
def portServes (s : State) (uses : List LegacyUse) : Bool := coreOn s && uses.contains (legacyUse s)

def countLegacy (s : State) (i : Nat) : State := { s with legacy := { s.legacy with counts := bump s.legacy.counts i } }

/-! ### The legacy block (R358) -/

/-- The legacy block of the spare region (R376). -/
def legacyPlace : Nat := 0xF3000

/-- A changed variable is to be written within 300 ms (R358). -/
def setBlock (s : State) (b : LegacyBlock) : State :=
  { s with legacy := { s.legacy with blk := b, writeDue := some (s.legacy.writeDue.getD (s.now + 300 * msNs)) } }

/-- The block written, with its count (R358, R366). -/
def writeBlock (s : State) (b : LegacyBlock) : State :=
  let s := heal s legacyPlace 256
  countLegacy { s with legacy := { s.legacy with writeDue := none }, arch := { s.arch with legacySaved := some b } } 9

/-- A change reaches the legacy block at an instant within its 300 ms that the manual leaves open (R358; log 3). After a power fail its burst may be refused, and is then counted (R384, R394). -/
def execLegacyBlockWrite (s : State) : Result :=
  match s.legacy.writeDue with
  | none => .next s
  | some due =>
    if !running s || !archiveOpen s then .next s
    else if !burstGranted s 32 then .next (countCellar s 11)
    else
      let (n, s) := freeBelow s (due - s.now)
      let s := advanceTo s (min due (s.now + n))
      .next (writeBlock s s.legacy.blk)

/-- LEGACY_HOUSE: the permission and the cap are written to the block, and the command is done (R362). -/
def execLegacyHouse (s : State) : Result :=
  dispatch s 0x0061 fun m s =>
    let w := wordAt m.body 0
    let b := { s.legacy.blk with allow := w.getLsbD 31, cap := field w 15 0 }
    doneWith (writeBlock { s with legacy := { s.legacy with blk := b } } b) m 0

/-! ### DMX512-A (R352 to R355) -/

/-- The slots of a personality's footprint (R353). -/
def footprint (personality : Nat) : Nat := if personality = 1 then 1 else if personality = 2 then 2 else 4

/-- The level of an 8-bit or a 16-bit value (R353). -/
def level8 (v : Nat) : Nat := rdivN (v * 32768) 255

def level16 (v : Nat) : Nat := rdivN (v * 32768) 65535

/-- The value of slot k of the footprint, where the packet carries it; slots beyond 512 are ignored (R352). -/
def slotAt (start k : Nat) (slots : List Byte) : Option Nat := ((slots.take 512)[start + k - 2]?).map (·.toNat)

/-- The start address and the personality at which a packet is read. -/
structure ReadAs where
  start : Nat
  personality : Nat
  deriving DecidableEq, Repr

/-- The time on the line of a packet: its break, its mark and 44 us a slot, the start code among them (R352; log 6, PRESUMED). -/
def packetNs (breakUs mabUs slots : Nat) : Nat := (breakUs + mabUs + 44 * (slots + 1)) * usNs

/-- How a packet that began at an instant is read: with the values that stood then, since a SET takes effect from the next packet
(R357, R367). -/
def readingAt (s : State) (began : Nat) : ReadAs :=
  match (s.legacy.replaced.filter fun x => decide (began ≤ x.2.2)).getLast? with
  | some x => { start := x.1, personality := x.2.1 }
  | none => { start := s.legacy.blk.start, personality := s.legacy.blk.personality }

/-- The level slots taken (R353). -/
def takeLevel (l : Legacy) (r : ReadAs) (slots : List Byte) : Legacy :=
  let c := (slotAt r.start 1 slots).getD l.coarse
  let f := if r.personality = 1 then l.fine else (slotAt r.start 2 slots).getD l.fine
  { l with coarse := c, fine := f, dmxLevel := if r.personality = 1 then level8 c else level16 (256 * c + f) }

/-- The slate select and fade slots, which only a standalone node reads (R353, R362). -/
def takeSelect (l : Legacy) (r : ReadAs) (slots : List Byte) : Legacy :=
  if r.personality = 3 then
    { l with slateSel := (slotAt r.start 3 slots).getD l.slateSel, fadeSlot := (slotAt r.start 4 slots).getD l.fadeSlot }
  else l

/-- A slate selection that the ring modes ignore and count (R362). -/
def ignoresSelect (r : ReadAs) (slots : List Byte) : Bool := r.personality == 3 && (slotAt r.start 3 slots).isSome

/-- A valid level packet, with the restoration that the first after a loss reports (R352, R355, R364). -/
def takePacket (s : State) (r : ReadAs) (slots : List Byte) : State :=
  let s := countLegacy s 0
  let l := takeLevel s.legacy r slots
  let l := { l with dmxSeen := true, lastValid := s.now, readAs := r.personality, replaced := [] }
  let s := if standalone s then { s with legacy := takeSelect l r slots }
    else if ignoresSelect r slots then countLegacy { s with legacy := l } 8
    else { s with legacy := l }
  if s.legacy.lost then raise { s with legacy := { s.legacy with lost := false, afterLoss := true } } 0x0A02 0 0 else s

/-- A framing error at or before the last slot of the footprint; the start code is slot 0 (R352). -/
def framingBad (r : ReadAs) (at' : Option Nat) : Bool :=
  match at' with
  | some k => decide (k < r.start + footprint r.personality)
  | none => false

/-- A packet ends: discarded for timing or framing, another start code counted, RDM left to its own requests, or level data
taken (R352, R357). -/
def execDmxPacket (breakUs mabUs : Nat) (startCode : Byte) (slots : List Byte) (framingErrorAt : Option Nat) (s : State) :
    Result :=
  if !portServes s [.dmxRdm, .dmx] then .next s
  else if breakUs < 88 || mabUs < 8 then .next (countLegacy s 1)
  else if startCode == 0xCC && legacyUse s == .dmxRdm then .next (if framingErrorAt.isSome then countLegacy s 1 else s)
  else if startCode != 0 then .next (countLegacy s 2)
  else
    let r := readingAt s (s.now - packetNs breakUs mabUs slots.length)
    .next (if framingBad r framingErrorAt then countLegacy s 1 else takePacket s r slots)

/-- A loss of legacy data: EVENT 0x0A01 with the ms since the last valid data, and its count; each loss tells of a loss slate not
stored anew (R203, R355, R359, R364). -/
def loseLegacy (s : State) (which : Half) : State :=
  let s := countLegacy { s with
    legacy := { s.legacy with lost := true }, larder := { s.larder with lossSlateTold := false } } 7
  raise s 0x0A01 which (BitVec.ofNat 32 (sat 32 ((s.now - s.legacy.lastValid) / msNs)))

/-- 1.25 s without a valid level packet (R355). -/
def execDmxLoss (s : State) : Result :=
  if portServes s [.dmxRdm, .dmx] && s.legacy.dmxSeen && !s.legacy.lost then
    .next (loseLegacy (advanceTo s (s.legacy.lastValid + 1250 * msNs)) 0)
  else .next s

/-! ### RDM addressing and answers (R356, R357) -/

/-- The RDM UID (R356). -/
def rdmUid (s : State) : BitVec 48 := s.arch.colophon.esta ++ Config.serialFuses.setWidth 32

/-- A request reaches this responder: its UID, the broadcast, or its manufacturer's broadcast (R357). -/
def rdmReaches (s : State) (dest : BitVec 48) : Bool :=
  dest == rdmUid s || dest == 0xFFFFFFFFFFFF#48 || dest == s.arch.colophon.esta ++ 0xFFFFFFFF#32

/-- The time in us that a response takes: 24 slots with no break for discovery, else a break, its mark and 26 slots with the data (log
6, PRESUMED). -/
def replyUs (pid : Half) (ack : Bool) (data : List Byte) : Nat :=
  if pid == 0x0001 then 44 * 24 else 176 + 12 + 44 * (26 + if ack then data.length else 2)

/-- A response that begins 176 us to 2.0 ms after the last stop bit of its request, counted as answered; LX_DE is high while it is
sent (R351, R357, R366; log 3). -/
def rdmSend (s : State) (pid : Half) (ack : Bool) (reason : Half) (data : List Byte) : State :=
  let (n, s) := freeBelow s (1824 * usNs)
  let t := s.now + 176 * usNs + n
  let s := { s with legacy := { s.legacy with replyFrom := t, replyUntil := t + replyUs pid ack data * usNs } }
  countLegacy (send s (.rdm pid ack reason data (176 * usNs + n))) 3

/-- A response, sent to a request for this UID alone (R357, R366). -/
def rdmAnswer (s : State) (dest : BitVec 48) (pid : Half) (data : List Byte) : State :=
  if dest == rdmUid s then rdmSend s pid true 0 data else s

/-- A NACK, which is a response too (R357, R366). -/
def rdmNack (s : State) (dest : BitVec 48) (pid reason : Half) : State :=
  if dest == rdmUid s then countLegacy (rdmSend s pid false reason []) 4 else s

/-- NACK_REASON_DATA_OUT_OF_RANGE of E1.20. -/
def outOfRange : Half := 0x0006

/-- A GET that reaches the responder: answered with data. -/
def rdmGet (s : State) (r : RdmRequest) (pid : Half) (data : List Byte) : Result :=
  .next (if portServes s [.dmxRdm] && rdmReaches s r.dest then rdmAnswer s r.dest pid data else s)

/-- A SET that reaches the responder: f makes its change, or the value is out of range. A colophon without a manufacturer ID
takes no SET (R356, R357). -/
def rdmSet (s : State) (r : RdmRequest) (pid : Half) (ok : Bool) (f : State → State) : Result :=
  .next (if portServes s [.dmxRdm] && rdmReaches s r.dest && s.arch.colophon.esta != 0 then
      (if ok then rdmAnswer (f s) r.dest pid [] else rdmNack s r.dest pid outOfRange)
    else s)

/-! ### Discovery (R357) -/

/-- DISC_UNIQUE_BRANCH: an unmuted responder in the branch answers with its UID (R357). -/
def execDiscUniqueBranch (lower upper : BitVec 48) (s : State) : Result :=
  let u := rdmUid s
  .next (if portServes s [.dmxRdm] && !s.legacy.muted && decide (lower ≤ u) && decide (u ≤ upper) then
      rdmSend s 0x0001 true 0 (beBytes 6 u.toNat)
    else s)

/-- A mute or unmute with its control field of 0 in the answer (R357). -/
def setMute (s : State) (r : RdmRequest) (pid : Half) (m : Bool) : Result :=
  .next (if portServes s [.dmxRdm] && rdmReaches s r.dest then
      rdmAnswer { s with legacy := { s.legacy with muted := m } } r.dest pid [0, 0]
    else s)

/-- DISC_MUTE (R357). -/
def execDiscMute (r : RdmRequest) (s : State) : Result := setMute s r 0x0002 true

/-- DISC_UN_MUTE (R357). -/
def execDiscUnMute (r : RdmRequest) (s : State) : Result := setMute s r 0x0003 false

/-! ### GETs (R357) -/

/-- The optional PIDs of the table: those that E1.20 does not require of every responder. -/
def optionalPids : List Half := [0x0080, 0x0081, 0x0082, 0x00E0, 0x00E1, 0x0400]

/-- SUPPORTED_PARAMETERS (R357). -/
def execSupportedParameters (r : RdmRequest) (s : State) : Result := rdmGet s r 0x0050 (optionalPids.flatMap halfBytes)

/-- The patch identity as RDM shows it. -/
def patchShown (s : State) : Word := s.arch.patchLoaded

/-- The node reads a footprint: the port takes DMX512-A (R351, R353). -/
def readsFootprint (s : State) : Bool := legacyUse s == .dmxRdm || legacyUse s == .dmx

/-- DEVICE_INFO in the order of E1.20: 0xFFFF in place of a start address whose footprint is not read (R357). -/
def deviceInfo (s : State) : List Byte :=
  let b := s.legacy.blk
  halfBytes 0x0100 ++ halfBytes 0x7216 ++ halfBytes 0x0100 ++ wordBytes (patchShown s) ++ beBytes 2 (footprint b.personality) ++
    beBytes 1 b.personality ++ beBytes 1 3 ++ beBytes 2 (if readsFootprint s then b.start else 0xFFFF) ++ [0, 0, 0]

/-- DEVICE_INFO (R357). -/
def execDeviceInfo (r : RdmRequest) (s : State) : Result := rdmGet s r 0x0060 (deviceInfo s)

def ascii (t : String) : List Byte := t.toList.map fun c => BitVec.ofNat 8 c.toNat

/-- DEVICE_MODEL_DESCRIPTION (R357). -/
def execDeviceModelDescription (r : RdmRequest) (s : State) : Result := rdmGet s r 0x0080 (ascii "FZ7216")

/-- A text without the zeros that pad it. -/
def unpad (b : List Byte) : List Byte := (b.reverse.dropWhile (· == 0)).reverse

/-- MANUFACTURER_LABEL: the maker name of the colophon (R357, R381). -/
def execManufacturerLabel (r : RdmRequest) (s : State) : Result := rdmGet s r 0x0081 (unpad s.arch.colophon.makerName)

/-- DEVICE_LABEL (R357). -/
def execDeviceLabelGet (r : RdmRequest) (s : State) : Result := rdmGet s r 0x0082 s.legacy.blk.label

def hexDigit (n : Nat) : Byte := BitVec.ofNat 8 (if n < 10 then 48 + n else 55 + n)

/-- The eight hexadecimal digits of a word. -/
def hexBytes (w : Word) : List Byte := (List.range 8).map fun i => hexDigit (field w (31 - 4 * i) (28 - 4 * i))

/-- SOFTWARE_VERSION_LABEL: B and the patch identity in hexadecimal (R357). -/
def execSoftwareVersionLabel (r : RdmRequest) (s : State) : Result :=
  rdmGet s r 0x00C0 (ascii "B" ++ hexBytes (patchShown s))

/-- DMX_PERSONALITY: the current one and the count of 3 (R357). -/
def execDmxPersonalityGet (r : RdmRequest) (s : State) : Result :=
  rdmGet s r 0x00E0 [BitVec.ofNat 8 s.legacy.blk.personality, 3]

/-- The name of a personality (R357). -/
def personalityName (n : Nat) : List Byte := if n = 1 then ascii "LEVEL8" else if n = 2 then ascii "LEVEL16" else ascii "SLATE"

/-- DMX_PERSONALITY_DESCRIPTION of the personality asked for; one outside 1 to 3 is out of range (R357). -/
def execDmxPersonalityDescription (r : RdmRequest) (s : State) : Result :=
  let n := (byteAt r.data 0).toNat
  if 1 ≤ n ∧ n ≤ 3 then rdmGet s r 0x00E1 (beBytes 1 n ++ beBytes 2 (footprint n) ++ personalityName n)
  else .next (if portServes s [.dmxRdm] && rdmReaches s r.dest then rdmNack s r.dest 0x00E1 outOfRange else s)

/-- DMX_START_ADDRESS (R357). -/
def execDmxStartAddressGet (r : RdmRequest) (s : State) : Result := rdmGet s r 0x00F0 (beBytes 2 s.legacy.blk.start)

/-- DEVICE_HOURS: the powered seconds of the case page over 3,600 (R357, R383). -/
def execDeviceHours (r : RdmRequest) (s : State) : Result := rdmGet s r 0x0400 (beBytes 4 (s.arch.secondsPowered / 3600))

/-- IDENTIFY_DEVICE (R357). -/
def execIdentifyDeviceGet (r : RdmRequest) (s : State) : Result := rdmGet s r 0x1000 [BitVec.ofNat 8 (bit s.legacy.identify)]

/-- The responder takes requests of a class: without a manufacturer ID no SET (R356). -/
def takesClass (s : State) (r : RdmRequest) : Bool := !r.isSet || s.arch.colophon.esta != 0

/-- A parameter not in the table: NACK_REASON_UNKNOWN_PID (R356, R357). -/
def execUnknownPid (r : RdmRequest) (pid : Half) (s : State) : Result :=
  .next (if portServes s [.dmxRdm] && rdmReaches s r.dest && takesClass s r then rdmNack s r.dest pid 0 else s)

/-! ### SETs (R357) -/

/-- DEVICE_LABEL: at most 32 bytes. The 32-bit value that EVENT 0x0A03 gives of a text is not stated (R357, R364; log 3). -/
def execDeviceLabelSet (r : RdmRequest) (s : State) : Result :=
  rdmSet s r 0x0082 (decide (r.data.length ≤ 32)) fun s =>
    let (v, s) := freeValue (setBlock s { s.legacy.blk with label := r.data })
    raise s 0x0A03 0x0082 (BitVec.ofNat 32 v)

/-- A new start address or personality, which takes effect from the next packet: the old one is kept for a packet in reception (R357,
R367). -/
def setFootprint (s : State) (b : LegacyBlock) : State :=
  let l := s.legacy
  setBlock { s with legacy := { l with replaced := (l.blk.start, l.blk.personality, s.now) :: l.replaced } } b

/-- DMX_PERSONALITY: 1 to 3, its footprint within slot 512 (R357). -/
def execDmxPersonalitySet (r : RdmRequest) (s : State) : Result :=
  let n := (byteAt r.data 0).toNat
  rdmSet s r 0x00E0 (r.data.length == 1 && decide (1 ≤ n) && decide (n ≤ 3) && decide (s.legacy.blk.start + footprint n ≤ 513))
    fun s => raise (setFootprint s { s.legacy.blk with personality := n }) 0x0A03 0x00E0 (BitVec.ofNat 32 n)

/-- DMX_START_ADDRESS: 1 to 512, start plus footprint at most 513 (R357). -/
def execDmxStartAddressSet (r : RdmRequest) (s : State) : Result :=
  let n := beNat (r.data.take 2)
  rdmSet s r 0x00F0
    (r.data.length == 2 && decide (1 ≤ n) && decide (n ≤ 512) && decide (n + footprint s.legacy.blk.personality ≤ 513))
    fun s => raise (setFootprint s { s.legacy.blk with start := n }) 0x0A03 0x00F0 (BitVec.ofNat 32 n)

/-- Identify turned on or off: EVENT 0x0A05 where that changes it. It shows light only in the standalone modes, and elsewhere raises
that EVENT only and counts as ignored (R357, R362, R364). -/
def setIdentify (s : State) (on : Bool) : State :=
  let was := s.legacy.identify
  let s := if standalone s || !(on || s.legacy.identify) then s else countLegacy s 8
  let s := { s with legacy := { s.legacy with identify := on, identifyDark := false, identifyDue := s.now + 500 * msNs } }
  let s := if standalone s then raise s 0x0A03 0x1000 (BitVec.ofNat 32 (bit on)) else s
  if was == on then s else raise s 0x0A05 (BitVec.ofNat 16 (bit on)) 0

/-- IDENTIFY_DEVICE (R357). -/
def execIdentifyDeviceSet (r : RdmRequest) (s : State) : Result :=
  let n := (byteAt r.data 0).toNat
  rdmSet s r 0x1000 (r.data.length == 1 && decide (n ≤ 1)) fun s => setIdentify s (n == 1)

/-- Identify in a standalone mode turns the level over every 500 ms (R357). -/
def execIdentifyToggle (s : State) : Result :=
  if coreOn s && standalone s && s.legacy.identify then
    let s := advanceTo s s.legacy.identifyDue
    .next { s with
      legacy := { s.legacy with identifyDark := !s.legacy.identifyDark, identifyDue := s.now + 500 * msNs } }
  else .next s

/-! ### DALI levels (R359, IEC 62386-102) -/

/-- The actual arc level at the coming frame seam. -/
def daliNow (s : State) : Nat := daliArc s (nextFrameSeam s) / 256

/-- A fade to a level in some ms, from the level at the next frame seam (R251, R359, R367). -/
def daliGo (s : State) (target ms : Nat) : State :=
  let a := daliArc s (nextFrameSeam s)
  { s with
    legacy := { s.legacy with
      daliFrom := a, daliTarget := target, daliFadeMs := ms, daliPending := true, powerCycleSeen := false
      daliLast := if target = 0 then s.legacy.daliLast else target } }

/-- A level asked for, brought between the minimum and maximum levels, with the limit error. -/
def daliLevel (s : State) (level ms : Nat) : State :=
  let b := s.legacy.blk
  let t := if level = 0 then 0 else min b.maxLevel (max b.minLevel level)
  daliGo { s with legacy := { s.legacy with limitError := t != level } } t ms

/-- Fade times in ms of FADE TIME 1 to 15: half a second times the square root of a power of two. -/
def fadeTimes : List Nat :=
  [0, 707, 1000, 1414, 2000, 2828, 4000, 5657, 8000, 11314, 16000, 22627, 32000, 45255, 64000, 90510]

/-- The multiplier in ms of an extended fade time. -/
def extendedUnit (n : Nat) : Nat := [0, 100, 1000, 10000, 60000].getD n 0

/-- The fade time in force in ms. -/
def daliFade (b : LegacyBlock) : Nat :=
  if b.fadeTime = 0 then (b.extFade % 16 + 1) * extendedUnit (b.extFade / 16) else fadeTimes.getD b.fadeTime 0

/-- Levels in 200 ms at FADE RATE 1 to 15. -/
def rateSteps : List Nat := [0, 72, 51, 36, 25, 18, 13, 9, 6, 4, 3, 2, 2, 1, 1, 1]

/-- A relative change of level that leaves a lamp that is off alone. -/
def daliRelative (s : State) (ms : Nat) (f : Nat → Nat) : State :=
  let a := daliNow s
  if a = 0 then s else daliGo s (min s.legacy.blk.maxLevel (max s.legacy.blk.minLevel (f a))) ms

/-- DAPC: MASK stops a fade; within a DAPC sequence the fade takes 200 ms. -/
def daliDapc (s : State) (level : Nat) : State :=
  if level = 255 then daliGo s (daliNow s) 0
  else if s.now ≤ s.legacy.dapcUntil ∧ s.legacy.dapcUntil ≠ 0 then
    daliLevel { s with legacy := { s.legacy with dapcUntil := s.now + 200 * msNs } } level 200
  else daliLevel { s with legacy := { s.legacy with dapcUntil := 0 } } level (daliFade s.legacy.blk)

/-- The level commands 0x00 to 0x1F. -/
def daliCommand (s : State) (op : Nat) : State :=
  let b := s.legacy.blk
  let a := daliNow s
  match op with
  | 0x00 => daliLevel s 0 0
  | 0x01 => daliRelative s 200 fun a => a + rateSteps.getD b.fadeRate 1
  | 0x02 => daliRelative s 200 fun a => a - rateSteps.getD b.fadeRate 1
  | 0x03 => daliRelative s 0 fun a => a + 1
  | 0x04 => daliRelative s 0 fun a => a - 1
  | 0x05 => daliLevel s b.maxLevel 0
  | 0x06 => daliLevel s b.minLevel 0
  | 0x07 => if a ≤ b.minLevel then daliLevel s 0 0 else daliRelative s 0 fun a => a - 1
  | 0x08 => if a = 0 then daliLevel s b.minLevel 0 else daliRelative s 0 fun a => a + 1
  | 0x09 => { s with legacy := { s.legacy with dapcUntil := s.now + 200 * msNs } }
  | 0x0A => daliLevel s s.legacy.daliLast (daliFade b)
  | op =>
    if 0x10 ≤ op ∧ op ≤ 0x1F then
      (let v := b.scenes.getD (op - 0x10) 255
       if v = 255 then s else daliLevel s v (daliFade b))
    else s

/-! ### DALI configuration -/

/-- A persisted DALI variable changed (R358, R359). -/
def daliSet (s : State) (f : LegacyBlock → LegacyBlock) : State := setBlock s (f s.legacy.blk)

/-- The short address or groups set: EVENT 0x0A04 where that changes one of them (R364). -/
def daliAddressed (s : State) (f : LegacyBlock → LegacyBlock) : State :=
  let t := daliSet s f
  if t.legacy.blk.short == s.legacy.blk.short && t.legacy.blk.groups == s.legacy.blk.groups then t
  else raise t 0x0A04 (BitVec.ofNat 16 t.legacy.blk.short) (t.legacy.blk.groups.setWidth 32)

/-- The reset values of IEC 62386-102 (log 6): RESET leaves the short address alone; groups that change raise EVENT 0x0A04 (R364). -/
def daliReset (s : State) : State :=
  let f := LegacyBlock.factory
  let s := daliAddressed s fun b => { b with
    powerOn := f.powerOn, sysFail := f.sysFail, minLevel := f.minLevel, maxLevel := f.maxLevel, fadeTime := f.fadeTime
    extFade := f.extFade, fadeRate := f.fadeRate, scenes := f.scenes, groups := f.groups, random := f.random }
  daliLevel { s with legacy := { s.legacy with search := 0xFFFFFF } } 254 0

/-- The short address that a data byte 0AAAAAA1 names, 255 for MASK, or none. -/
def shortFrom (v : Nat) : Option Nat :=
  if v = 255 then some 255 else if v < 128 ∧ v % 2 = 1 then some (v / 2) else none

/-- The minimum level is kept between the physical minimum 1 and the maximum, the maximum between it and 254 (R359). -/
def boundMin (b : LegacyBlock) (v : Nat) : Nat := max 1 (min v b.maxLevel)

def boundMax (b : LegacyBlock) (v : Nat) : Nat := min 254 (max v b.minLevel)

/-- The configuration commands 0x20 to 0x81, received twice. Memory banks are not writable (R359). -/
def daliConfigure (s : State) (op : Nat) : State :=
  let d := s.legacy.dtr0
  match op with
  | 0x20 => daliReset s
  | 0x21 => { s with legacy := { s.legacy with dtr0 := daliNow s } }
  | 0x2A => daliSet s fun b => { b with maxLevel := boundMax b d }
  | 0x2B => daliSet s fun b => { b with minLevel := boundMin b d }
  | 0x2C => daliSet s fun b => { b with sysFail := d }
  | 0x2D => daliSet s fun b => { b with powerOn := d }
  | 0x2E => daliSet s fun b => { b with fadeTime := min d 15 }
  | 0x2F => daliSet s fun b => { b with fadeRate := max 1 (min d 15) }
  | 0x30 => daliSet s fun b => { b with extFade := if d ≤ 0x4F then d else 0 }
  | 0x80 =>
    match shortFrom d with
    | some a => daliAddressed s fun b => { b with short := a }
    | none => s
  | op =>
    let n := op % 16
    match op / 16 with
    | 4 => daliSet s fun b => { b with scenes := b.scenes.set n d }
    | 5 => daliSet s fun b => { b with scenes := b.scenes.set n 255 }
    | 6 => daliAddressed s fun b => { b with groups := b.groups ||| (1#16 <<< n) }
    | 7 => daliAddressed s fun b => { b with groups := b.groups &&& ~~~(1#16 <<< n) }
    | _ => s

/-! ### DALI queries -/

/-- A backward frame, sent 5.5 to 10.5 ms after its forward frame (R359, R366; log 3). -/
def daliReply (s : State) (b : Byte) : State :=
  let (n, s) := freeBelow s (5 * msNs)
  countLegacy (send s (.dali b (5500 * usNs + n))) 6

/-- The answer YES, or none at all. -/
def daliYes (s : State) (yes : Bool) : State := if yes then daliReply s 0xFF else s

def daliByte (s : State) (n : Nat) : State := daliReply s (BitVec.ofNat 8 n)

/-- An answer whose value neither the manual nor its tables give (log 6; log 3). -/
def daliFree (s : State) : State :=
  let (v, s) := freeValue s
  daliByte s v

/-- A declared open, a declared short (R360). -/
def declared (s : State) (k : DefKind) : Bool :=
  (s.coll.emitters ++ s.coll.columns ++ s.coll.rows).any fun e => e.2.kind == k && decide (3 ≤ e.2.count)

/-- Any trip or PGOOD input is in force (R360). -/
def anyTrip (s : State) : Bool := s.prot.inputs.any (·.inForce)

/-- The die is at or above 120 degrees C (R360). -/
def dieHot (s : State) : Bool := s.back.dieMeasured && decide (1920 ≤ s.back.dieTemp)

/-- The -207 failure status (R360). -/
def failureStatus (s : State) : Nat :=
  bit (declared s .shrt) + 2 * bit (declared s .opn) + 16 * bit (anyTrip s) + 64 * bit (dieHot s)

/-- Every variable is at its reset value. -/
def resetState (s : State) : Bool :=
  let b := s.legacy.blk
  let f := LegacyBlock.factory
  b.powerOn == f.powerOn && b.sysFail == f.sysFail && b.minLevel == f.minLevel && b.maxLevel == f.maxLevel &&
    b.fadeTime == f.fadeTime && b.extFade == f.extFade && b.fadeRate == f.fadeRate && b.scenes == f.scenes &&
    b.groups == f.groups && b.random == f.random && s.legacy.search == 0xFFFFFF && daliNow s == 254

/-- The status byte of -102. -/
def daliStatus (s : State) : Nat :=
  2 * bit (declared s .opn || declared s .shrt) + 4 * bit (decide (0 < daliNow s)) + 8 * bit s.legacy.limitError +
    16 * bit (daliFading s (nextFrameSeam s)) + 32 * bit (resetState s) + 64 * bit (s.legacy.blk.short == 255) +
    128 * bit s.legacy.powerCycleSeen

/-- Memory bank 0: the GTIN and the identification number of the colophon; the firmware version comes from the patch identity, in a
form not stated; what the manual does not give is free (R359, R381; log 6). -/
def bankByte (s : State) (loc : Nat) : Option (Option Byte) :=
  if loc = 1 ∨ 0x1B ≤ loc then none
  else if loc = 0 then some (some 0x1A)
  else if loc = 2 then some (some 0)
  else if loc < 9 then some (some (byteAt (beBytes 6 s.arch.colophon.gtin.toNat) (loc - 3)))
  else if loc < 0x0B then some (some (Config.daliFirmware s.arch.patchLoaded loc))
  else if 0x0B ≤ loc ∧ loc < 0x13 then some (some (byteAt (longBytes s.arch.colophon.daliId) (loc - 0x0B)))
  else if loc = 0x19 then some (some 1)
  else if loc = 0x1A then some (some 0)
  else some none

/-- READ MEMORY LOCATION: bank in DTR1, location in DTR0, which moves on. -/
def readMemory (s : State) : State :=
  let l := s.legacy
  if l.dtr1 ≠ 0 then s
  else
    let s' := { s with legacy := { l with dtr0 := min 255 (l.dtr0 + 1) } }
    match bankByte s l.dtr0 with
    | none => s'
    | some (some b) => daliReply s' b
    | some none => daliFree s'

/-- The queries 0x90 to 0xC5. -/
def daliQuery (s : State) (op : Nat) : State :=
  let l := s.legacy
  let b := l.blk
  match op with
  | 0x90 => daliByte s (daliStatus s)
  | 0x91 => daliYes s true
  | 0x92 => daliYes s (declared s .opn || declared s .shrt)
  | 0x93 => daliYes s (decide (0 < daliNow s))
  | 0x94 => daliYes s l.limitError
  | 0x95 => daliYes s (resetState s)
  | 0x96 => daliYes s (b.short == 255)
  | 0x97 => daliByte s 8
  | 0x98 => daliByte s l.dtr0
  | 0x99 => daliByte s 6
  | 0x9A => daliByte s 1
  | 0x9B => daliYes s l.powerCycleSeen
  | 0x9C => daliByte s l.dtr1
  | 0x9D => daliByte s l.dtr2
  | 0x9E => daliByte s 0
  | 0x9F => daliByte s 6
  | 0xA0 => daliByte s (daliNow s)
  | 0xA1 => daliByte s b.maxLevel
  | 0xA2 => daliByte s b.minLevel
  | 0xA3 => daliByte s b.powerOn
  | 0xA4 => daliByte s b.sysFail
  | 0xA5 => daliByte s (16 * b.fadeTime + b.fadeRate)
  | 0xA7 => daliByte s 254
  | 0xA8 => daliByte s b.extFade
  | 0xC0 => daliByte s (b.groups.toNat % 256)
  | 0xC1 => daliByte s (b.groups.toNat / 256)
  | 0xC2 => daliByte s (b.random.toNat / 65536)
  | 0xC3 => daliByte s (b.random.toNat / 256)
  | 0xC4 => daliByte s b.random.toNat
  | 0xC5 => readMemory s
  | op => if op / 16 = 0xB then daliByte s (b.scenes.getD (op % 16) 255) else s

/-- The application extended commands of device type 6: the failure status bits of R360; the logarithmic curve alone; and a
features byte that shows those four bits as reported and reference measurement, and so load changes, as absent (R359, R360;
log 6). -/
def daliExtended (s : State) (op : Nat) : State :=
  let f := failureStatus s
  match op with
  | 0xEE => daliByte s 0
  | 0xF0 => daliByte s 0x53
  | 0xF1 => daliByte s f
  | 0xF2 => daliYes s (decide (f % 2 = 1))
  | 0xF3 => daliYes s (decide (f / 2 % 2 = 1))
  | 0xF6 => daliYes s (decide (f / 16 % 2 = 1))
  | 0xF8 => daliYes s (decide (f / 64 % 2 = 1))
  | 0xED | 0xEF | 0xFC | 0xFD | 0xFE | 0xFF => daliFree s
  | _ => s

/-! ### DALI addressing by random address -/

/-- The initialisation of at most 15 minutes is on. -/
def initialising (s : State) : Bool := s.legacy.initialise && decide (s.now ≤ s.legacy.initUntil)

def selectedDali (s : State) : Bool := initialising s && s.legacy.blk.random == s.legacy.search

/-- INITIALISE names every gear, one short address, or the gear without one. -/
def initialiseHits (s : State) (v : Nat) : Bool :=
  v == 0 || (v == 255 && s.legacy.blk.short == 255) || (v != 255 && shortFrom v == some s.legacy.blk.short)

/-- RANDOMISE: a random address from the Cellar's random source (log 3). -/
def randomise (s : State) : State :=
  let s := { s with fresh := s.fresh + 1 }
  daliSet s fun b => { b with random := Config.daliRandom s.fresh }

/-- The special commands that need no repeat. -/
def daliSpecial (s : State) (addr v : Nat) : State :=
  let l := s.legacy
  match addr with
  | 0xA1 => { s with legacy := { l with initialise := false } }
  | 0xA3 => { s with legacy := { l with dtr0 := v } }
  | 0xA9 => daliYes s (initialising s && !l.withdrawn && decide (l.blk.random ≤ l.search))
  | 0xAB => if selectedDali s then { s with legacy := { l with withdrawn := true } } else s
  | 0xB1 => { s with legacy := { l with search := BitVec.ofNat 24 (v * 65536 + l.search.toNat % 65536) } }
  | 0xB3 =>
    { s with
      legacy := { l with search := BitVec.ofNat 24 (l.search.toNat / 65536 * 65536 + v * 256 + l.search.toNat % 256) } }
  | 0xB5 => { s with legacy := { l with search := BitVec.ofNat 24 (l.search.toNat / 256 * 256 + v) } }
  | 0xB7 =>
    match shortFrom v with
    | some a => if selectedDali s then daliAddressed s fun b => { b with short := a } else s
    | none => s
  | 0xB9 => daliYes s (initialising s && v != 255 && shortFrom v == some l.blk.short)
  | 0xBB => if selectedDali s then daliByte s (if l.blk.short = 255 then 255 else 2 * l.blk.short + 1) else s
  | 0xC1 => { s with legacy := { l with enabledType := some v } }
  | 0xC3 => { s with legacy := { l with dtr1 := v } }
  | 0xC5 => { s with legacy := { l with dtr2 := v } }
  | _ => s

/-- The special commands taken when received twice. -/
def daliTwice (s : State) (addr v : Nat) : State :=
  if addr = 0xA5 then
    (if initialiseHits s v then
      { s with legacy := { s.legacy with initialise := true, withdrawn := false, initUntil := s.now + 900 * second } }
     else s)
  else if initialising s then randomise s
  else s

/-! ### DALI frames (R359) -/

/-- The first byte of a frame addresses this gear by its short address, a group or a broadcast. -/
def daliMine (s : State) (addr : Nat) : Bool :=
  let b := s.legacy.blk
  if addr < 0x80 then b.short == addr / 2
  else if addr < 0xA0 then b.groups.getLsbD (addr % 32 / 2)
  else if 0xFE ≤ addr then true
  else 0xFC ≤ addr && b.short == 255

/-- A command is one of those to be received twice within 100 ms. -/
def needsTwice (addr v : Nat) : Bool :=
  addr == 0xA5 || addr == 0xA7 ||
    ((decide (addr < 0xA0) || decide (0xFC ≤ addr)) && addr % 2 == 1 && decide (0x20 ≤ v) && decide (v ≤ 0x81))

/-- This frame repeats the last one within 100 ms. -/
def repeats (s : State) (f : BitVec 16) : Bool :=
  match s.legacy.lastConfig with
  | some (g, t) => g == f && decide (s.now ≤ t + 100 * msNs)
  | none => false

/-- The commands addressed to gear. -/
def daliAddressedTo (s : State) (addr v : Nat) (type6 : Bool) : State :=
  if addr % 2 = 0 then daliDapc s v
  else if v < 0x20 then daliCommand s v
  else if v ≤ 0x81 then daliConfigure s v
  else if v < 0xE0 then daliQuery s v
  else if type6 then daliExtended s v
  else s

/-- A frame takes effect. ENABLE DEVICE TYPE holds for the next command only. -/
def daliAct (s : State) (addr v : Nat) : State :=
  let type6 := s.legacy.enabledType == some 6
  let s := { s with legacy := { s.legacy with enabledType := none } }
  if 0xA0 ≤ addr ∧ addr < 0xFC then
    (if addr = 0xA5 ∨ addr = 0xA7 then daliTwice s addr v else daliSpecial s addr v)
  else if daliMine s addr then daliAddressedTo s addr v type6
  else s

/-- The first of two frames is remembered; any other frame forgets it. -/
def daliFrame (s : State) (f : BitVec 16) : State :=
  let addr := f.toNat / 256
  let v := f.toNat % 256
  if needsTwice addr v then
    if repeats s f then daliAct { s with legacy := { s.legacy with lastConfig := none } } addr v
    else { s with legacy := { s.legacy with lastConfig := some (f, s.now) } }
  else daliAct { s with legacy := { s.legacy with lastConfig := none } } addr v

/-- A DALI forward frame of 16 bits; frames of other lengths are ignored (R359). -/
def execDaliForwardFrame (nbits : Nat) (frame : BitVec 24) (s : State) : Result :=
  if portServes s [.dali] && nbits == 16 then
    let s := countLegacy { s with legacy := { s.legacy with lastValid := s.now } } 5
    .next (daliFrame s (frame.setWidth 16))
  else .next s

/-- The bus low for more than 500 ms: the system failure level at once, unless it is MASK; EVENT 0x0A01 (R359, R364). -/
def execDaliSystemFailure (s : State) : Result :=
  if portServes s [.dali] && !s.legacy.daliFailed then
    let s := loseLegacy { s with legacy := { s.legacy with daliFailed := true } } 1
    .next (if s.legacy.blk.sysFail = 255 then s else daliLevel s s.legacy.blk.sysFail 0)
  else .next s

/-- The bus returns after a system failure: EVENT 0x0A02 (R364). -/
def execDaliBusReturn (s : State) : Result :=
  if portServes s [.dali] && s.legacy.daliFailed then
    .next (raise { s with legacy := { s.legacy with daliFailed := false, lost := false } } 0x0A02 1 0)
  else .next s

end Sys2Proof.Machine
end

