-- ==== Sys2Proof/Machine/StartUp.lean ====
section
/-! DEFINITION. Reset sources, supplies, the strap readout and start-up to step 10 (R31 to R36, R49, R50, R378, R385, R386, R397, R405, R406, R411 to R421). -/

namespace Sys2Proof.Machine

open Sys2Proof

/-! ### The strap readout (R31 to R36, R47 to R50) -/

/-- The strap words, each with its own free choice of how its mean code rounds (R50; log 3). -/
def strapWords (m : Mode) (cs : List (Nat × Nat × Nat × Nat)) : Nat → List (List Nat) → State → List Word × State
  | _, [], s => ([], s)
  | i, c :: r, s =>
    let (u, s) := freeBelow s 1
    let (ws, s) := strapWords m cs (i + 1) r s
    (strapWord c u (inConflict cs i) (notApplied m i) :: ws, s)

/-- The straps as one sampling reads them: levels, words, IREF words and conflicts; with SVC on they put the Backstair in
INTEGRATING (R34, R47, R48, R50, R331, R414). -/
def readStraps (s : State) (codes : List (List Nat)) (irefPa : List Nat) : State :=
  let levels := codes.map fun c => BitVec.ofNat 4 (bandLevel (codeSum c))
  let lv (i : Nat) := (levels.getD i 0).toNat
  let cs := conflictList (lv 0) (lv 6) (lv 9)
  let (ws, s) := strapWords (modeOf (lv 0)) cs 0 codes s
  let s := { s with
    straps := { svcOn := true, svcSince := s.straps.svcSince, read := true, levels := levels, words := ws, irefWords := [], conflicts := cs.map conflictWord, irefOpen := 0 } }
  { s with
    straps := { s.straps with irefWords := irefPa.mapIdx fun i pa => irefWord (irefUsed s i) pa }
    back := { s.back with pstate := if s.back.pstate == .off then .integrating else s.back.pstate } }

/-! ### The Archive checks of step 6 (R157, R133, R320, R358, R378) -/

/-- A word found bad at run time lies in a part of the Archive. -/
def badIn (s : State) (lo size : Nat) : Bool := s.arch.badWords.any fun o => decide (lo ≤ o) && decide (o < lo + size)

/-- An object that a bad word of its place fails. -/
def spoilObj (s : State) (place : Nat) (o : Obj) : Obj := if badIn s place o.size then { o with valid := false } else o

/-- The stored objects with their recorded checks judged (R378). -/
def checkObjects (s : State) : State :=
  let a := s.arch
  { s with
    arch := { a with
      calibration := a.calibration.map (spoilObj s 0), factory := a.factory.map (spoilObj s 0xF0800)
      slates := a.slates.mapIdx fun i o => o.map (spoilObj s (0x1E800 + i * 0x7800))
      curves := a.curves.mapIdx fun i o => o.map (spoilObj s (0x78800 + i * 0x2000))
      patch := a.patch.map (spoilObj s 0xA1800) } }

def objBad (o : Option Obj) : Bool := match o with | some x => !x.valid | none => false

/-- EVENT 0x0B03 for a region, whose id is kept for QUERY item 0x0B01 (R392, R393). -/
def noteRegion (s : State) (bad : Bool) (region arg : Nat) : State :=
  if bad then
    raise { s with arch := { s.arch with badAtStart := (region :: s.arch.badAtStart.filter (· != region)) } } 0x0B03
      (BitVec.ofNat 16 region) (BitVec.ofNat 32 arg)
  else s

/-- The colophon and keys: one bad copy is rewritten from the other; with both bad the node holds no key, archive_lost is set, and
the power tolerance is 0 (R378, R400). -/
def checkColophon (s : State) : State :=
  let main := badIn s 0x90800 0x1000
  let mirror := badIn s 0xF2000 0x1000
  let lost := s.arch.keysLost || (main && mirror)
  let s := noteRegion (noteRegion s (main || s.arch.keysLost) 5 0) (mirror || s.arch.keysLost) 9 1
  if lost then
    let s := { s with
      arch := { s.arch with
        keysLost := true, keys := [none, none, none], prints := [0, 0, 0], colophon := Colophon.reset, tolUs := 0 }
      hall := { s.hall with archiveLost := true } }
    raise s 0x0B0A 1 0
  else if main || mirror then raise s 0x0B0A 0 0
  else s

/-- The object shadow and its record: the transfer is closed and the shadow cleared (R378). -/
def checkShadow (s : State) : State :=
  if badIn s shadowPlace shadowSize then
    let s := noteRegion s true 9 2
    { s with arch := { s.arch with transfer := none, copying := none, closing := none, shadow := [] } }
  else s

/-- The legacy block read, or rewritten with the factory values, which counts as a block write (R358, R364, R366). -/
def loadLegacy (s : State) : State :=
  if badIn s legacyPlace 256 then
    let s := noteRegion s true 9 1
    let s := { s with
      legacy := { s.legacy with blk := LegacyBlock.factory }, arch := { s.arch with legacySaved := some LegacyBlock.factory } }
    raise (countLegacy s 9) 0x0A06 0 0
  else { s with legacy := { s.legacy with blk := s.arch.legacySaved.getD LegacyBlock.factory } }

/-- The logs-and-case-page region: a log that fails is formatted with its outcome-8 entry, a map with EVENT 0x0803, a case page
store with its pin cleared, and each unreadable event record is skipped (R157, R320, R378). -/
def checkLogs (s : State) : State :=
  let log := badIn s 0x91800 0x6000
  let map := badIn s 0x97800 0x1000
  let page := badIn s 0x98800 0x1000
  let events := s.arch.badWords.filter fun o => decide (0x99800 ≤ o) && decide (o < 0xA1800)
  let s := noteRegion s (log || map || page || !events.isEmpty) 6 0
  let s := if log then formatAudit s else s
  let s := if map then formatMap s else s
  let s := if page then formatCasePage s else s
  events.foldl (fun s _ => skipRecord s) s

/-- The wear region: each unreadable word reads as 0 for both its emitters, with EVENT 0x0B04 (R378). -/
def checkWear (s : State) : State :=
  let bad := s.arch.badWords.filter fun o => archiveRegion o == 8
  let s := noteRegion s (!bad.isEmpty) 8 0
  bad.foldl (fun s o => dropWear (raise s 0x0B04 8 (BitVec.ofNat 32 o)) o) s

/-- Every region checked before replay, in the order of R376; each bad word that the check meets is counted (R394). -/
def checkArchive (s : State) : State :=
  let s := checkObjects { s with
    arch := { s.arch with badAtStart := [] }, cellar := { s.cellar with counts := bumpBy s.cellar.counts 13 s.arch.badWords.length } }
  let s := noteRegion s (objBad s.arch.calibration) 1 0
  let s := noteRegion s (s.arch.slates.any objBad) 2 0
  let s := noteRegion s (s.arch.curves.any objBad) 3 0
  let journal := badIn s 0x88800 0x8000
  let s := noteRegion s journal 4 0
  let s := checkLogs (checkColophon (if journal then loseJournal s else s))
  let s := checkWear (noteRegion s (objBad s.arch.patch) 7 0)
  let s := noteRegion s (objBad s.arch.factory) 9 1
  let s := loadLegacy (checkShadow s)
  { s with arch := { s.arch with badWords := [] } }

/-! ### The steps (R414) -/

/-- A step ends at an instant that the manual bounds, in us from S, and leaves open within the bound (log 3). -/
def stepEnds (s : State) (lo hi : Nat) : Nat × State :=
  let (n, s) := freeBelow s (hi - lo)
  (lo + n, advanceTo s (s.start.s + (lo + n) * usNs))

/-- The whole us that have passed since S. -/
def usSince (s : State) : Nat := (s.now - s.start.s + usNs - 1) / usNs

def setStage (s : State) (k : Nat) : State := { s with start := { s.start with stage := k } }

/-- A step's end time kept for QUERY item 0x0D01 (R420). -/
def noteStep (s : State) (i us : Nat) : State :=
  { s with start := { s.start with stepUs := s.start.stepUs.set i (BitVec.ofNat 32 (sat 32 us)) } }

/-- The node runs with a patch of this identity, whose Porter words give receive filters 8 to 31, or on ROM alone (R17, R109,
R337). -/
def runPatch (s : State) (loaded : Bool) (identity : Word) : State :=
  { s with
    arch := { s.arch with patchLoaded := if loaded then identity else 0, patchIn := loaded }
    back := { s.back with
      patterns := if loaded then (List.range 24).map (fun i => Config.patchFilter identity (i + 8))
        else List.replicate 24 none } }

/-- The firmware patch loaded at start-up: none when none is stored, it removes the patch, or fails its check (R17, R378, R380,
R392). -/
def loadPatch (s : State) : State :=
  match s.arch.patch with
  | none => runPatch s false 0
  | some o =>
    if badIn s 0xA1800 o.size || !o.valid then raise (runPatch s false 0) 0x0B05 1 o.identity
    else runPatch s (decide (32 < o.size)) o.identity

/-- Mantel at start-up: UNSET, from the RTC or from 0, with the delays that a self-test or a deskew before step 4 has measured (R165,
R172, R412, R414); a standalone node without SYNC_IN is FREE (R361). -/
def startMantel (s : State) : State :=
  let t := rtcNs s * 2 ^ 32
  let s := { s with
    mantel := { Mantel.reset with
      time := t, p := t, rtcSetAt := s.now, lastSync := s.now, carried := mode s != .leaf
      east := measuredOnly s.mantel.east, west := measuredOnly s.mantel.west } }
  if mode s == .standalone && !hasSyncIn s then takeLock s .free else s

/-- Step 4: engines, patch, watchdog, Mantel (R17, R373, R414). -/
def step4 (s : State) : State :=
  let s := startMantel { s with
    start := { s.start with phase := .running }
    cellar := { s.cellar with watchdogArmed := true, lastKick := s.now, warned := false }
    power := { s.power with enteredAt := s.now }
    leaf := { s.leaf with helloDue := s.now, timeDue := s.now, pdelayDue := s.now, lastTime := s.now }
    back := { s.back with statusDue := s.now, peersSince := s.now, dieTempAt := s.now }
    legacy := { s.legacy with lastValid := s.now } }
  porterStart (loadPatch s)

/-- Step 5: the timing set of epoch 0, dark refreshes on the grid, the delay lines' lock, trips judged from their pins, DRIVE (R268,
R276, R291, R414). -/
def step5 (s : State) : State :=
  let s := lockLines { s with
    press := { Press.reset with
      running := true, timing := startTiming s } }
  judgePins (if auxIn s then driveOn s else s) false

/-- The DALI power-on level (R359). -/
def powerOnLevel (s : State) : State :=
  if legacyUse s == .dali then
    let b := s.legacy.blk
    let v := if b.powerOn = 255 then s.legacy.daliLast else b.powerOn
    { daliLevel s v 0 with legacy := { (daliLevel s v 0).legacy with powerCycleSeen := true } }
  else s

/-- The claim and the JOIN that waited for the end of step 6 (R421). -/
def answerEnum (s : State) : State :=
  let due := s.start
  let s := { s with start := { s.start with claimDue := none, joinDue := false } }
  let s := match due.claimDue with
    | some epoch => queueSpl s 2 (claimPayload s epoch)
    | none => s
  if due.joinDue then queueJoin s else s

/-- Step 6: the checks, the address, the persisted settings, FREE for a persisted free run in a ring mode, and the enumeration's
answers that waited (R104, R172, R200, R204, R320, R378, R412, R421). -/
def step6 (s : State) : State :=
  let s := checkArchive s
  let s := { s with
    addr := { s.addr with
      addr := if assigned s then s.addr.addr else s.arch.pin.getD 0xFFF
      lastAddr := if assigned s then s.addr.lastAddr else s.arch.pin.getD s.addr.lastAddr }
    larder := { s.larder with feed := safeFeed s, delayBase := s.arch.delayUs }
    coll := { declaredOf s with
      excluded := s.coll.excluded, excludeUntil := s.coll.excludeUntil, gathered := s.coll.gathered
      gatherSince := s.coll.gatherSince }
    arch := { s.arch with hourDone := mNs s / (3600 * second) } }
  let s := phaseDelayReq (powerOnLevel s)
  let s := if s.cellar.rtcValid then s else raise s 0x0B01 0 0
  let freeRun : Bool := match s.arch.source with | some (.freeRun _) => true | _ => false
  answerEnum (if ringMode s && freeRun then takeLock s .free else s)

/-- Step 9: the working copies, and EVENTs 0x0501 and 0x0502 (R234, R235). -/
def step9 (s : State) : State :=
  let s := judgeCache (loadWorkingCopies s)
  let s := { s with bindery := { s.bindery with calEventDue := false } }
  let s := if s.bindery.fallback then raise s 0x0502 0 0 else s
  let s := if s.bindery.factoryOk then s else raise s 0x0502 1 0
  raise s 0x0501 (BitVec.ofNat 16 (bit s.bindery.fallback)) (if s.bindery.fallback then 0 else s.bindery.liveIdentity)

/-- A start-up of cause 1, 2 or 3 advances the power-cycle count of the case page (R411). -/
def countCycle (s : State) : State :=
  match s.start.cause with
  | .firstPower | .mainPowerLoss | .vddIo => { s with arch := { s.arch with powerCycles := s.arch.powerCycles + 1 } }
  | _ => s

/-- Step 10: replay; what the Cellar kept, a wake from S4 whose links are UP already, and the start-up are reported (R132, R376, R398,
R414, R419). -/
def step10 (s : State) (us : Nat) : State :=
  let s := reportS4 (reportHeld (countCycle (replay s)))
  raise s 0x0D01 (BitVec.ofNat 16 (causeCode s.start.cause)) (BitVec.ofNat 32 (sat 32 us))

/-- Steps 2 and 3 have ended: the RING PLL is locked, the switch's senses are sampled from now on, and step 4 is due (R72, R414). -/
def clocksLock (s : State) : State :=
  setStage { s with spine := { s.spine with pllLocked := true, senseDue := s.now } } 4

/-- Step 3 has ended at t3 us, or is skipped: step 4 is due, once the 1 ms hold and the locks of step 2 have ended (R414). -/
def startSteps (s : State) (t3 : Nat) : State :=
  let s := noteStep s 0 t3
  if s.now < s.start.s + 1200 * usNs then setStage s 2 else clocksLock s

/-- The next step of start-up, ended at an instant within its bound (R414): 2 where the straps were ready before it, 4, 5 and 6 one
after another, 9 after 6, 10 after 9. Commands that come between find the node as that far started (log 62). -/
def runStage (s : State) : State :=
  match s.start.stage with
  | 2 => clocksLock (stepEnds s (max (usSince s) 1000) 1200).2
  | 4 =>
    let (t, s) := stepEnds s (usSince s) 3000
    noteStep (step4 (setStage s 5)) 1 t
  | 5 => step5 (setStage s 6)
  | 6 =>
    let (t, s) := stepEnds s (usSince s) 7000
    noteStep (step6 (setStage s 9)) 2 t
  | 9 => step9 (setStage (stepEnds s (usSince s) 19600).2 10)
  | _ =>
    let (t, s) := stepEnds s (usSince s) 26600
    noteStep (step10 (setStage s 0) t) 4 t

/-- The block with no command waiting: the next step of a start-up under way, which goes on after a power-fail detect only while
CORE works, or else one Mantel tick (R22, R131, R163, R414; log 1, log 62). -/
def idle (s : State) : State :=
  if s.start.stage = 0 || (s.cellar.failAt.isSome && decide (s.cellar.coreUntil ≤ s.now)) then advance s 1 else runStage s

/-- SVC lost its power: the Backstair is OFF, and the straps are sampled when it returns (R31, R331). -/
def svcLost (s : State) : State :=
  { s with straps := { s.straps with svcOn := false, read := false }, back := { s.back with pstate := .off } }

/-- Start-up from S for a cause: the census counts clear, and with the straps kept it runs on; else, and at every first power, it
waits for their sampling (R31, R394, R411, R412, R414). -/
def startFrom (s : State) (cause : ResetCause) : State :=
  let s := if cause == .firstPower then svcLost s else s
  let s := { s with
    start := { s.start with phase := .awaitStraps, cause := cause, s := s.now, strapsKept := s.straps.read }
    cellar := { s.cellar with cause := some cause, counts := zeros 14 }
    arch := { s.arch with poweredFrom := s.now }
    straps := { s.straps with svcOn := true, svcSince := if s.straps.svcOn then s.straps.svcSince else s.now } }
  if s.straps.read then startSteps s 0 else s

/-! ### Power, straps and RESET_N (R397, R411 to R415) -/

/-- The supplies of S are good, and the cell follows VDD_AUX; VROW may follow (R370, R397). -/
def suppliesGood (s : State) : State :=
  cellFollows { s with
    start := { s.start with coreGood := true, sdGood := true, ioGood := true, auxGood := true }
    power := { s.power with auxBrownAt := none }
    cellar := { s.cellar with isolated := false } }

/-- The cause of a start-up that begins with power: the one CELL holds, first power when it holds none (R411). -/
def poweredCause (s : State) : ResetCause := s.cellar.cause.getD .firstPower

/-- POWER_UP: the instant S. Power that returns after a power fail starts from what the fail left; a node held in reset is
released (R411, R414). -/
def execPowerUp (ioFell : Bool) (s : State) : Result :=
  let s := if s.cellar.failAt.isSome then resetBlock s .mainPowerLoss .off else s
  let s := if ioFell then svcLost s else s
  match s.start.phase with
  | .off => .next (startFrom (suppliesGood s) (poweredCause s))
  | .inReset => .next (startFrom (suppliesGood s) s.start.cause)
  | _ => .next s

/-- The straps are read at an instant 2.0 to 2.4 ms after SVC power became good, which is open within the bound (R31; log 3). -/
def strapsEnd (s : State) : State :=
  let (n, s) := freeBelow s (400 * usNs)
  advanceTo s (s.straps.svcSince + 2000 * usNs + n)

/-- STRAP_SAMPLE: twelve straps and four IREF pins; RESET_N low during the sampling lets it complete (R31, R34, R414, R421). -/
def execStrapSample (codes : List (List Nat)) (irefPa : List Nat) (s : State) : Result :=
  if !s.straps.svcOn || s.straps.read then .next s
  else if s.start.phase == .awaitStraps then
    let s := readStraps (strapsEnd s) codes irefPa
    .next (startSteps s (usSince s))
  else if s.start.phase == .inReset then .next (readStraps (strapsEnd s) codes irefPa)
  else .next s

/-- The block loses its engines to a reset cause from whatever phase it is in: the ordered stop where it runs, or RING alone does
(R411, R413). -/
def dropTo (s : State) (cause : ResetCause) (phase : Phase) : State :=
  let s := { s with cellar := { s.cellar with cause := some cause } }
  if running s || clocksUp s then stopAndReset s cause phase else resetBlock s cause phase

/-- The command that comes next is a power-fail detect. -/
def failFollows (s : State) : Bool :=
  match s.pending with
  | .powerFailDetect core sd :: _ => core || sd
  | _ => false

/-- RESET_N low for at least 1 us (R411, R413); a power fail under way, or one that meets it as the next command, runs with its own
cause (R421; log 97). In S4 SVC was off. -/
def execResetN (s : State) : Result :=
  if s.start.phase == .off || s.cellar.failAt.isSome || failFollows s then .next s
  else .next (dropTo (if s.power.st == .s4 then svcLost s else s) .resetN .inReset)

/-- VDD_IO below 1.62 V for 1 us: SVC is lost and the node resets (R406, R411); a node without power, or one whose power fail is
under way, loses the supply of its logic pins alone (R440). -/
def execVddIoBrownout (s : State) : Result :=
  if s.start.phase == .off || s.cellar.failAt.isSome then
    .next (svcLost { s with start := { s.start with ioGood := false } })
  else .next (svcLost (dropTo { s with start := { s.start with ioGood := false } } .vddIo .inReset))

/-- The wake from S4 at the RTC alarm (R405, R411, R418): the return it holds outlives the start-up. -/
def execS4ReturnAlarm (s : State) : Result :=
  match s.cellar.rtcAlarm with
  | none => .next s
  | some a =>
    if running s && s.power.st == .s4 && s.cellar.failAt.isNone then
      let s := advanceTo s (s.now + rtcWait s a)
      let ms := (s.now - s.power.enteredAt) / msNs
      let bad := s.power.uncoordinated
      let w := s.power.returnLen
      let s := svcLost (resetBlock s .s4Wake .awaitStraps)
      .next (startFrom { s with power := { s.power with msInRest := ms, uncoordinated := bad, returnLen := w } } .s4Wake)
    else .next s

/-! ### Power fail (R385 to R387, R421) -/

/-- The GSP cause of a power fail (R113). -/
def failCause (core sd : Bool) : Nat := bit core + 2 * bit sd

/-- From detect: the Hall stops, dark forcing, and GSP (R386). The rest of the order follows as commands of its own while the
supplies last: the open write finishes at its JOURNAL_COMMIT, its ACK takes the next vacancy, and BYPASS_RELEASE sends LEAVE and
drives BYP_HOLD low (R29, R71, R130, R131, R143). In S4 there is nothing left to do (R410). -/
def lastActs (s : State) (core sd : Bool) : State :=
  if s.power.st == .s4 then s
  else
  let s := forceDark (stopHall s) 3
  if ringOn s && (ringMode s || mode s == .leaf) then sendGsp s (failCause core sd) else s

/-- LEAVE, then BYP_HOLD low, of a power fail: within 5 us of detect, so before the Archive is isolated (R71, R386). -/
def closeBypass (s : State) : State := if s.spine.bypHold then setByp (sendLeave s) false else s

/-- POWER_FAIL_DETECT: VDD_CORE below 0.74 V, VDD_SD below 0.84 V, or both, for 1 us; from then CORE works for as long as the board
holds the supplies, a time left open, and not at all where VDD_AUX is low already (R131, R385, R386, R411; log 3). A node whose
engines and RING do not run has nothing to finish; the Archive is isolated 1.5 ms later all the same (R386, R395). -/
def execPowerFailDetect (core sd : Bool) (s : State) : Result :=
  if s.start.phase == .off || s.cellar.failAt.isSome || !(core || sd) then .next s
  else
    let (n, s) := freeValue (cutPersist s)
    let s := countCellar { s with
      start := { s.start with coreGood := s.start.coreGood && !core, sdGood := s.start.sdGood && !sd }
      cellar := { s.cellar with
        failAt := some s.now, cause := some .mainPowerLoss, coreUntil := if s.start.auxGood then s.now + n else s.now }
      bindery := { s.bindery with pass := none, waiting := none } } 0
    let r := resetBlock s .mainPowerLoss .off
    .next (if running s || clocksUp s then lastActs s core sd else { r with cellar := { r.cellar with failAt := some s.now } })

/-- ARCHIVE_ISOLATE: 1.5 ms after detect no burst is granted any more, and what the supplies held is gone (R386, R412). -/
def execArchiveIsolate (s : State) : Result :=
  match s.cellar.failAt with
  | none => .next s
  | some d =>
    let s := resetBlock (closeBypass (advanceTo s (d + 1500 * usNs))) .mainPowerLoss .off
    .next { s with cellar := { s.cellar with isolated := true } }

/-! ### Brown-outs of VDD_AUX and VROW (R406, R407) -/

def supplyCode : Supply → Nat
  | .vddAux => 1
  | .vrow => 2

/-- The supply's good flag and the start of its brown-out; the cell follows VDD_AUX, whose loss after a power-fail detect stops CORE
for good (R131, R370). -/
def setSupply (s : State) (x : Supply) (good : Bool) (at' : Option Nat) : State :=
  match x with
  | .vddAux =>
    cellFollows { s with
      start := { s.start with auxGood := good }, power := { s.power with auxBrownAt := at' }
      cellar := { s.cellar with coreUntil := if good then s.cellar.coreUntil else 0 } }
  | .vrow => { s with start := { s.start with vrowGood := good }, power := { s.power with vrowBrownAt := at' } }

def supplyGood (s : State) : Supply → Bool
  | .vddAux => s.start.auxGood
  | .vrow => s.start.vrowGood

def brownAt (s : State) : Supply → Option Nat
  | .vddAux => s.power.auxBrownAt
  | .vrow => s.power.vrowBrownAt

/-- SUPPLY_BROWNOUT: VDD_AUX or VROW below 3.00 V for 1 us. DRIVE goes off for VDD_AUX, every row is held off for VROW, and the
power state stays (R396, R406, R407, R409). -/
def execSupplyBrownout (supply : Supply) (mv : BitVec 16) (s : State) : Result :=
  if !supplyGood s supply || decide (3000 ≤ mv.toNat) then .next s
  else if !running s then .next (setSupply s supply false none)
  else
    let s := countPower (setSupply s supply false (some s.now)) (17 + supplyCode supply)
    let s := match supply with
      | .vddAux => driveOff s
      | .vrow => s
    .next (raiseCellar s 0x0C03 (BitVec.ofNat 16 (supplyCode supply)) (mv.setWidth 32))

/-- What 100 us of a good supply brings back: DRIVE in S0, the outputs at a refresh seam, and with VDD_AUX the Archive's bursts
(R155, R406). -/
def driveBack (s : State) (supply : Supply) : State :=
  match supply with
  | .vddAux => catchUpAudit (if s.power.st == .s0 then driveOn s else s)
  | .vrow => { s with prot := { s.prot with resumeAtSeam := true } }

/-- SUPPLY_RESTORED: after 100 us good, with EVENT 0x0C04 and the count of wake cause 8 (R402, R406, R407, R409). -/
def execSupplyRestored (supply : Supply) (s : State) : Result :=
  match brownAt s supply with
  | none => .next (if supplyGood s supply then s else setSupply s supply true none)
  | some t =>
    let s := advanceTo s (s.now + 100 * usNs)
    let us := (s.now - t) / usNs
    let s := driveBack (countPower (setSupply s supply true none) 11) supply
    .next (raiseCellar s 0x0C04 (BitVec.ofNat 16 (supplyCode supply)) (BitVec.ofNat 32 (sat 32 us)))

/-! ### The watchdog's expiry and the Larder's engine data (R194, R373, R374, R411) -/

/-- WATCHDOG_EXPIRY: dark forcing, bypass release, GSP with cause 0x04, then CORE in reset (R373, R374, R411). -/
def execWatchdogExpiry (s : State) : Result :=
  if s.cellar.watchdogArmed && coreOn s && s.cellar.failAt.isNone then
    let s := advanceTo s (s.cellar.lastKick + 16 * msNs)
    let s := forceDark (countCellar { s with cellar := { s.cellar with cause := some .watchdog } } 3) 2
    let s := setByp s false
    let s := if ringMode s || mode s == .leaf then sendGsp s 4 else s
    let s := resetBlock s .watchdog .cellarHold
    .next { s with start := { s.start with s := s.now } }
  else .next s

/-- CELLAR_RESET_HOLD_END: the 1 ms hold ends and S begins, with the straps kept (R411). -/
def execCellarResetHoldEnd (s : State) : Result :=
  if s.start.phase == .cellarHold then .next (startFrom (advanceTo s (s.start.s + msNs)) .watchdog) else .next s

/-- LARDER_ECC_ERROR: an error of one bit is corrected and only counted; another is counted and reported. Region 12 holds engine
data, so the node stops in order and starts up again; the other regions follow their rows (R194, R411). -/
def execLarderEccError (w : BadWord) (corrected : Bool) (s : State) : Result :=
  if !coreOn s || w.region = 0 || 12 < w.region then .next s
  else if corrected then .next (countLarder s 6)
  else
    let s := noteError s w.region w.offset
    if w.region = 12 then .next (startFrom (dropTo s .larderEngine .inReset) .larderEngine)
    else .next (spoilRegion s w.region w.offset.toNat)

end Sys2Proof.Machine
end

