-- ==== Sys2Proof/Machine/Ticks.lean ====
section
/-! DEFINITION. What falls on one Mantel tick beside a step: the censuses due before it, and the render point after it (R176, R179, R183,
R192, R197). -/

namespace Sys2Proof.Machine

open Sys2Proof

/-- The armed censuses whose time Mantel time has reached are taken, earliest first, on fuel. -/
def takeDueCensuses : Nat → State → State
  | 0, s => s
  | n + 1, s =>
    match firstCensus s.mantel.censuses with
    | none => s
    | some c => if c.t * 2 ^ 32 ≤ s.mantel.time then takeDueCensuses n (takeCensus s c) else s

/-- A step of Mantel time by j at the next refresh seam of the old grid, after a pending set whose boundary is that seam (R283). A
census due by then latches on Mantel time before a backward step (R176, R192). -/
def stepAtSeam (s : State) (j : Int) : State :=
  let t := applySetAt (advanceToSeam s (nextSeam s)) s (nextSeam s)
  applyStep (if j < 0 then takeDueCensuses t.mantel.censuses.length t else t) j

/-- MANTEL_STEP. A step of 0 moves nothing (R176). -/
def execMantelStep (s : State) : Result :=
  match s.mantel.stepPending with
  | none => .next s
  | some j =>
    if !coreOn s then .next s
    else if j = 0 then .next { s with mantel := { s.mantel with stepPending := none } }
    else .next (stepAtSeam s j)

/-- A step whose seam comes no later than a render point applies before it (R192). -/
def stepBefore (s : State) (render : Nat) : State :=
  match s.mantel.stepPending with
  | some j => if j != 0 && decide (nextSeam s ≤ render) then stepAtSeam s j else s
  | none => s

/-- RENDER_POINT: 0.25 ms before the next frame seam (R179, R192, R197). -/
def execRenderPoint (s : State) : Result :=
  if rendersNow s then
    let s := stepBefore s (nextFrameSeam s - renderLead)
    if rendersNow s then
      let seam := nextFrameSeam s
      .next (renderPoint (endOverdueLoad (advanceToMantel s (seam - renderLead))) seam)
    else .next s
  else .next s

end Sys2Proof.Machine
end

