-- ==== Sys2Proof/Machine/Dispatch.lean ====
section
/-! DEFINITION. What each command does: one arm per constructor of Instr, each a call of its meaning. -/

namespace Sys2Proof.Machine

open Sys2Proof

def exec (i : Instr) (s : State) : Host.Outcome State Fault Refusal :=
  match i with
  | .powerUp ioFell => Sys2Proof.Machine.execPowerUp ioFell s
  | .firstLight => Sys2Proof.Machine.execFirstLight s
  | .strapSample codes irefPa => Sys2Proof.Machine.execStrapSample codes irefPa s
  | .resetN => Sys2Proof.Machine.execResetN s
  | .vddIoBrownout => Sys2Proof.Machine.execVddIoBrownout s
  | .powerFailDetect core sd => Sys2Proof.Machine.execPowerFailDetect core sd s
  | .archiveIsolate => Sys2Proof.Machine.execArchiveIsolate s
  | .supplyBrownout supply mv => Sys2Proof.Machine.execSupplyBrownout supply mv s
  | .supplyRestored supply => Sys2Proof.Machine.execSupplyRestored supply s
  | .portSignalDetect p => Sys2Proof.Machine.execPortSignalDetect p s
  | .portAcquired p => Sys2Proof.Machine.execPortAcquired p s
  | .fastAcquireFallback p => Sys2Proof.Machine.execFastAcquireFallback p s
  | .blockLock p => Sys2Proof.Machine.execBlockLock p s
  | .deskew p delays => Sys2Proof.Machine.execDeskew p delays s
  | .confirm p peerTwoLanes peerLow => Sys2Proof.Machine.execConfirm p peerTwoLanes peerLow s
  | .portLoss p cutRx cutTx => Sys2Proof.Machine.execPortLoss p cutRx cutTx s
  | .rateSuspectTimeout p => Sys2Proof.Machine.execRateSuspectTimeout p s
  | .identSend p => Sys2Proof.Machine.execIdentSend p s
  | .identReceive p serial => Sys2Proof.Machine.execIdentReceive p serial s
  | .leaveReceive p => Sys2Proof.Machine.execLeaveReceive p s
  | .fastAcquireEnd p => Sys2Proof.Machine.execFastAcquireEnd p s
  | .folioForward p u residence => Sys2Proof.Machine.execFolioForward p u residence s
  | .merge p c => Sys2Proof.Machine.execMerge p c s
  | .mergeEntryExpire => Sys2Proof.Machine.execMergeEntryExpire s
  | .vacancyFill p vacancy => Sys2Proof.Machine.execVacancyFill p vacancy s
  | .ctlJudge => Sys2Proof.Machine.execCtlJudge s
  | .journalCommit readBackOk => Sys2Proof.Machine.execJournalCommit readBackOk s
  | .completionRecord => Sys2Proof.Machine.execCompletionRecord s
  | .stateQuery => Sys2Proof.Machine.execStateQuery s
  | .query => Sys2Proof.Machine.execQuery s
  | .groupSet => Sys2Proof.Machine.execGroupSet s
  | .addressPin => Sys2Proof.Machine.execAddressPin s
  | .addressPinClear => Sys2Proof.Machine.execAddressPinClear s
  | .cue => Sys2Proof.Machine.execCue s
  | .powerTolerance => Sys2Proof.Machine.execPowerTolerance s
  | .censusAt => Sys2Proof.Machine.execCensusAt s
  | .censusRead => Sys2Proof.Machine.execCensusRead s
  | .feedLossPolicy => Sys2Proof.Machine.execFeedLossPolicy s
  | .presentationDelay => Sys2Proof.Machine.execPresentationDelay s
  | .objBegin => Sys2Proof.Machine.execObjBegin s
  | .objData => Sys2Proof.Machine.execObjData s
  | .objCommit => Sys2Proof.Machine.execObjCommit s
  | .objCommitCopyEnd => Sys2Proof.Machine.execObjCommitCopyEnd s
  | .timingSet => Sys2Proof.Machine.execTimingSet s
  | .timingSetApply => Sys2Proof.Machine.execTimingSetApply s
  | .forceOutput => Sys2Proof.Machine.execForceOutput s
  | .forceOutputRelease => Sys2Proof.Machine.execForceOutputRelease s
  | .forceSetApply => Sys2Proof.Machine.execForceSetApply s
  | .forceLimitExpire => Sys2Proof.Machine.execForceLimitExpire s
  | .tripClear => Sys2Proof.Machine.execTripClear s
  | .tripClearRelease => Sys2Proof.Machine.execTripClearRelease s
  | .timeSourceRingMaster => Sys2Proof.Machine.execTimeSourceRingMaster s
  | .timeSourceSyncIn => Sys2Proof.Machine.execTimeSourceSyncIn s
  | .timeSourceFreeRun => Sys2Proof.Machine.execTimeSourceFreeRun s
  | .asymmetrySet => Sys2Proof.Machine.execAsymmetrySet s
  | .keyEnrol => Sys2Proof.Machine.execKeyEnrol s
  | .keyRevoke => Sys2Proof.Machine.execKeyRevoke s
  | .auditRead => Sys2Proof.Machine.execAuditRead s
  | .busResume => Sys2Proof.Machine.execBusResume s
  | .busResumeTimeout => Sys2Proof.Machine.execBusResumeTimeout s
  | .legacyHouse => Sys2Proof.Machine.execLegacyHouse s
  | .jtagEnable => Sys2Proof.Machine.execJtagEnable s
  | .jtagDisable => Sys2Proof.Machine.execJtagDisable s
  | .jtagEnableExpire => Sys2Proof.Machine.execJtagEnableExpire s
  | .extest => Sys2Proof.Machine.execExtest s
  | .samplePreload => Sys2Proof.Machine.execSamplePreload s
  | .highz => Sys2Proof.Machine.execHighz s
  | .freeze => Sys2Proof.Machine.execFreeze s
  | .bypass => Sys2Proof.Machine.execBypass s
  | .tapReset => Sys2Proof.Machine.execTapReset s
  | .updateDr cells => Sys2Proof.Machine.execUpdateDr cells s
  | .captureDr pins => Sys2Proof.Machine.execCaptureDr pins s
  | .enumStart splSeq epoch reassign => Sys2Proof.Machine.execEnumStart splSeq epoch reassign s
  | .addressAssign splSeq epoch entries => Sys2Proof.Machine.execAddressAssign splSeq epoch entries s
  | .ringMap splSeq epoch size inserted => Sys2Proof.Machine.execRingMap splSeq epoch size inserted s
  | .spliceWindow splSeq target pos action tw wUs => Sys2Proof.Machine.execSpliceWindow splSeq target pos action tw wUs s
  | .spliceWindowStart => Sys2Proof.Machine.execSpliceWindowStart s
  | .spliceReturn => Sys2Proof.Machine.execSpliceReturn s
  | .spliceWindowEnd => Sys2Proof.Machine.execSpliceWindowEnd s
  | .bypassInsert => Sys2Proof.Machine.execBypassInsert s
  | .bypassRelease => Sys2Proof.Machine.execBypassRelease s
  | .bypSenseSample east west => Sys2Proof.Machine.execBypSenseSample east west s
  | .bypassRetry => Sys2Proof.Machine.execBypassRetry s
  | .selfTest port lane crcFailures eastPs westPs => Sys2Proof.Machine.execSelfTest port lane crcFailures eastPs westPs s
  | .selfTestRetry => Sys2Proof.Machine.execSelfTestRetry s
  | .sync p h logInterval twoStep t1 t2 => Sys2Proof.Machine.execSync p h logInterval twoStep t1 t2 s
  | .followUp p h t1 => Sys2Proof.Machine.execFollowUp p h t1 s
  | .delayResp p h reqIdentity reqPort t4 => Sys2Proof.Machine.execDelayResp p h reqIdentity reqPort t4 s
  | .delayReqSend p => Sys2Proof.Machine.execDelayReqSend p s
  | .masterLossTimeout => Sys2Proof.Machine.execMasterLossTimeout s
  | .syncInEdge stamp => Sys2Proof.Machine.execSyncInEdge stamp s
  | .mantelStep => Sys2Proof.Machine.execMantelStep s
  | .holdEnd => Sys2Proof.Machine.execHoldEnd s
  | .rtcSet => Sys2Proof.Machine.execRtcSet s
  | .refreshSeam errorPs => Sys2Proof.Machine.execRefreshSeam errorPs s
  | .rowSlot readings irefOpen => Sys2Proof.Machine.execRowSlot readings irefOpen s
  | .plateCutoff => Sys2Proof.Machine.execPlateCutoff s
  | .handleArrive => Sys2Proof.Machine.execHandleArrive s
  | .renderPoint => Sys2Proof.Machine.execRenderPoint s
  | .passEnd => Sys2Proof.Machine.execPassEnd s
  | .passAbandon => Sys2Proof.Machine.execPassAbandon s
  | .workingCopyLoad => Sys2Proof.Machine.execWorkingCopyLoad s
  | .workingCopyLoadEnd => Sys2Proof.Machine.execWorkingCopyLoadEnd s
  | .wearGainRecompute => Sys2Proof.Machine.execWearGainRecompute s
  | .slateCacheFill entry => Sys2Proof.Machine.execSlateCacheFill entry s
  | .feedLossExpiry => Sys2Proof.Machine.execFeedLossExpiry s
  | .feedLossHoldEnd => Sys2Proof.Machine.execFeedLossHoldEnd s
  | .larderEccError word corrected => Sys2Proof.Machine.execLarderEccError word corrected s
  | .reportSecondEnd => Sys2Proof.Machine.execReportSecondEnd s
  | .watermarkReport queue => Sys2Proof.Machine.execWatermarkReport queue s
  | .eventReportForm => Sys2Proof.Machine.execEventReportForm s
  | .censusLatch => Sys2Proof.Machine.execCensusLatch s
  | .censusCopyDone => Sys2Proof.Machine.execCensusCopyDone s
  | .censusAge => Sys2Proof.Machine.execCensusAge s
  | .tripInputAssert id inWindow returned => Sys2Proof.Machine.execTripInputAssert id inWindow returned s
  | .tripInputDeassert id => Sys2Proof.Machine.execTripInputDeassert id s
  | .tripEpisodeEnd id => Sys2Proof.Machine.execTripEpisodeEnd id s
  | .delayLineUnlock sink atTop => Sys2Proof.Machine.execDelayLineUnlock sink atTop s
  | .delayLineRelock sink => Sys2Proof.Machine.execDelayLineRelock sink s
  | .pclkLoss => Sys2Proof.Machine.execPclkLoss s
  | .pclkRestore => Sys2Proof.Machine.execPclkRestore s
  | .collatorDetection => Sys2Proof.Machine.execCollatorDetection s
  | .defectReportSend => Sys2Proof.Machine.execDefectReportSend s
  | .collatorExclusionEnd => Sys2Proof.Machine.execCollatorExclusionEnd s
  | .wearPersist => Sys2Proof.Machine.execWearPersist s
  | .watchdogKick => Sys2Proof.Machine.execWatchdogKick s
  | .watchdogWarning => Sys2Proof.Machine.execWatchdogWarning s
  | .watchdogExpiry => Sys2Proof.Machine.execWatchdogExpiry s
  | .tamperSample isOpen => Sys2Proof.Machine.execTamperSample isOpen s
  | .cellStateChange vcellMv tempC chargeNa => Sys2Proof.Machine.execCellStateChange vcellMv tempC chargeNa s
  | .archiveEccError word corrected => Sys2Proof.Machine.execArchiveEccError word corrected s
  | .readerFieldPresent reservoirPj => Sys2Proof.Machine.execReaderFieldPresent reservoirPj s
  | .readerFieldLoss => Sys2Proof.Machine.execReaderFieldLoss s
  | .inventory slots16 afi maskLen mask => Sys2Proof.Machine.execInventory slots16 afi maskLen mask s
  | .stayQuiet uid => Sys2Proof.Machine.execStayQuiet uid s
  | .select uid => Sys2Proof.Machine.execSelect uid s
  | .resetToReady addr => Sys2Proof.Machine.execResetToReady addr s
  | .readSingleBlock addr block => Sys2Proof.Machine.execReadSingleBlock addr block s
  | .readMultipleBlocks addr first count => Sys2Proof.Machine.execReadMultipleBlocks addr first count s
  | .getSystemInformation addr => Sys2Proof.Machine.execGetSystemInformation addr s
  | .writeSingleBlock addr block optionFlag data => Sys2Proof.Machine.execWriteSingleBlock addr block optionFlag data s
  | .challengeExpire => Sys2Proof.Machine.execChallengeExpire s
  | .stateEntry => Sys2Proof.Machine.execStateEntry s
  | .stateEntryDrop => Sys2Proof.Machine.execStateEntryDrop s
  | .wakeAlarm => Sys2Proof.Machine.execWakeAlarm s
  | .sbRxWake => Sys2Proof.Machine.execSbRxWake s
  | .s4ReturnAlarm => Sys2Proof.Machine.execS4ReturnAlarm s
  | .wakeReady => Sys2Proof.Machine.execWakeReady s
  | .maintenanceWake => Sys2Proof.Machine.execMaintenanceWake s
  | .dieTempMeasure temp16 => Sys2Proof.Machine.execDieTempMeasure temp16 s
  | .correlationStrobe counter => Sys2Proof.Machine.execCorrelationStrobe counter s
  | .busIntegrated => Sys2Proof.Machine.execBusIntegrated s
  | .porterStop => Sys2Proof.Machine.execPorterStop s
  | .serviceBusIdle => Sys2Proof.Machine.execServiceBusIdle s
  | .serviceFrameSent => Sys2Proof.Machine.execServiceFrameSent s
  | .serviceBusError error beforeClass chatter transmitting dataField => Sys2Proof.Machine.execServiceBusError error beforeClass chatter transmitting dataField s
  | .busOffRecovery chatter => Sys2Proof.Machine.execBusOffRecovery chatter s
  | .psuFault f => Sys2Proof.Machine.execPsuFault f s
  | .overtemp f => Sys2Proof.Machine.execOvertemp f s
  | .fanFault f => Sys2Proof.Machine.execFanFault f s
  | .peerFault f => Sys2Proof.Machine.execPeerFault f s
  | .announce idLow f => Sys2Proof.Machine.execAnnounce idLow f s
  | .temp f => Sys2Proof.Machine.execTemp f s
  | .psuStatus f => Sys2Proof.Machine.execPsuStatus f s
  | .fanStatus f => Sys2Proof.Machine.execFanStatus f s
  | .peerStatus f => Sys2Proof.Machine.execPeerStatus f s
  | .peerStatusSend => Sys2Proof.Machine.execPeerStatusSend s
  | .announceSend => Sys2Proof.Machine.execAnnounceSend s
  | .stationChoose => Sys2Proof.Machine.execStationChoose s
  | .dmxPacket breakUs mabUs startCode slots framingErrorAt => Sys2Proof.Machine.execDmxPacket breakUs mabUs startCode slots framingErrorAt s
  | .dmxLoss => Sys2Proof.Machine.execDmxLoss s
  | .discUniqueBranch lower upper => Sys2Proof.Machine.execDiscUniqueBranch lower upper s
  | .discMute r => Sys2Proof.Machine.execDiscMute r s
  | .discUnMute r => Sys2Proof.Machine.execDiscUnMute r s
  | .supportedParameters r => Sys2Proof.Machine.execSupportedParameters r s
  | .deviceInfo r => Sys2Proof.Machine.execDeviceInfo r s
  | .deviceModelDescription r => Sys2Proof.Machine.execDeviceModelDescription r s
  | .manufacturerLabel r => Sys2Proof.Machine.execManufacturerLabel r s
  | .deviceLabelGet r => Sys2Proof.Machine.execDeviceLabelGet r s
  | .deviceLabelSet r => Sys2Proof.Machine.execDeviceLabelSet r s
  | .softwareVersionLabel r => Sys2Proof.Machine.execSoftwareVersionLabel r s
  | .dmxPersonalityGet r => Sys2Proof.Machine.execDmxPersonalityGet r s
  | .dmxPersonalitySet r => Sys2Proof.Machine.execDmxPersonalitySet r s
  | .dmxPersonalityDescription r => Sys2Proof.Machine.execDmxPersonalityDescription r s
  | .dmxStartAddressGet r => Sys2Proof.Machine.execDmxStartAddressGet r s
  | .dmxStartAddressSet r => Sys2Proof.Machine.execDmxStartAddressSet r s
  | .deviceHours r => Sys2Proof.Machine.execDeviceHours r s
  | .identifyDeviceGet r => Sys2Proof.Machine.execIdentifyDeviceGet r s
  | .identifyDeviceSet r => Sys2Proof.Machine.execIdentifyDeviceSet r s
  | .unknownPid r pid => Sys2Proof.Machine.execUnknownPid r pid s
  | .identifyToggle => Sys2Proof.Machine.execIdentifyToggle s
  | .legacyBlockWrite => Sys2Proof.Machine.execLegacyBlockWrite s
  | .daliForwardFrame nbits frame => Sys2Proof.Machine.execDaliForwardFrame nbits frame s
  | .daliSystemFailure => Sys2Proof.Machine.execDaliSystemFailure s
  | .leafHopUp upstream peerPos peerSerial => Sys2Proof.Machine.execLeafHopUp upstream peerPos peerSerial s
  | .leafHopDown upstream => Sys2Proof.Machine.execLeafHopDown upstream s
  | .leafHello sending pos serial => Sys2Proof.Machine.execLeafHello sending pos serial s
  | .carryDown leaf u crcOk => Sys2Proof.Machine.execCarryDown leaf u crcOk s
  | .carryUp leaf f crcOk => Sys2Proof.Machine.execCarryUp leaf f crcOk s
  | .leafQueueSend => Sys2Proof.Machine.execLeafQueueSend s
  | .time correction mantel16 lock stamp16 residence => Sys2Proof.Machine.execTime correction mantel16 lock stamp16 residence s
  | .leafTimeSend => Sys2Proof.Machine.execLeafTimeSend s
  | .leafTimeTimeout => Sys2Proof.Machine.execLeafTimeTimeout s
  | .pdelayReq pos stamp16 turnaround16 => Sys2Proof.Machine.execPdelayReq pos stamp16 turnaround16 s
  | .pdelayReqSend => Sys2Proof.Machine.execPdelayReqSend s
  | .pdelayResp pos turnaround16 arrival16 => Sys2Proof.Machine.execPdelayResp pos turnaround16 arrival16 s
  | .pixels chip offset data => Sys2Proof.Machine.execPixels chip offset data s
  | .latch rate frame stamp => Sys2Proof.Machine.execLatch rate frame stamp s
  | .gain chip level trims deadNs => Sys2Proof.Machine.execGain chip level trims deadNs s
  | .count n => Sys2Proof.Machine.execCount n s
  | .statusReq chip => Sys2Proof.Machine.execStatusReq chip s
  | .ringPllLoss => Sys2Proof.Machine.execRingPllLoss s
  | .cellarResetHoldEnd => Sys2Proof.Machine.execCellarResetHoldEnd s
  | .daliBusReturn => Sys2Proof.Machine.execDaliBusReturn s
  | .readerCommandNotSupported => Sys2Proof.Machine.execReaderCommandNotSupported s
  | .reservedKindFrame f => Sys2Proof.Machine.execReservedKindFrame f s

end Sys2Proof.Machine
end

