-- ==== Sys2Proof/Safety.lean ====
section
/-! DEFINITION. What a safe run is: every command waiting in the queue is taken to a next state. -/

namespace Sys2Proof.Machine

/-- The answer is a next state. -/
def Completes (r : Host.Outcome State Fault Refusal) : Prop := ∃ t, r = .next t

/-- A run of k steps meets no fault and no refusal. -/
def SafeRun (k : Nat) (s : State) : Prop := Completes (Sys2Proof.core.run k s)

/-- A gathered tile fits (R432): at most 64 chips, and at most 960 Mb/s for the bits that its leaf link carries per frame. -/
def gatheredFits (chips frameHz bits : Nat) : Bool := decide (chips ≤ 64) && decide (bits * frameHz ≤ 960000000)

/-- The least presentation delay in ns of a ring with a gathered tile, by the bits of R432 and the head's ring hops (R432). -/
def gatheredDelayNs (bits hops : Nat) : Nat := bits + 220 * hops + 5000 + 250000

/-- The bound in 0.1 ns on a locked leaf's Mantel time against the master's, by its position; trackPs holds the leaf to its share (R431). -/
def leafErrorTenths (position : Nat) : Nat := 200 + 4 * position

end Sys2Proof.Machine
end

