-- ==== Sys2Proof/Certificates/Slice0/Obligations.lean ====
section
/-! DEFINITION. The statements about the block, each from the numbered rules of the manual: what a command does where its rule
says it acts, what it leaves unchanged, and what every step keeps. -/

open Sys2Proof Sys2Proof.Machine

/-! ### The queue and the idle step -/

/-- With a command at the front of its queue, a step is exec of that command with the queue's rest. -/
def Obligations.StepRunsTheFrontCommand : Prop :=
  ∀ (c : Instr) (rest : List Instr) (s : State), s.pending = c :: rest → step s = exec c { s with pending := rest }

/-- s with the clocks of t: true time, Mantel time with its P, and the RTC. Where a statement says t = clockedAs t x, time has run on
and, but for it, t is x. -/
def clockedAs (t s : State) : State :=
  { s with
    now := t.now, mantel := { s.mantel with time := t.mantel.time, p := t.mantel.p }
    cellar := { s.cellar with rtc := t.cellar.rtc, rtcPart := t.cellar.rtcPart } }

/-- s with the EVENT records of t: queue 0x02 with its watermark and counts, the Archive's event log, the records kept for the
report after replay, and, once a power fail is dated, the count of a log burst that is not granted (R112, R205, R376, R384). -/
def reportedAs (t s : State) : State :=
  { s with
    larder := { s.larder with events := t.larder.events, waters := t.larder.waters, counts := t.larder.counts }
    arch := { s.arch with
      eventLog := t.arch.eventLog, loggedThisSecond := t.arch.loggedThisSecond, loggedSecond := t.arch.loggedSecond }
    cellar := { s.cellar with
      unreported := t.cellar.unreported, counts := if s.cellar.failAt.isSome then t.cellar.counts else s.cellar.counts } }

/-- From s to t the node raised an EVENT of a code: with room in queue 0x02, its record is a new one there (R112, R205). -/
def eventRaised (s t : State) (code : Half) : Prop :=
  s.larder.events.length ≤ 248 → ∃ e ∈ t.larder.events.drop s.larder.events.length, e.code = code

/-- s with queue 0x01 of t: its folios, those that wait for room, its watermark and counts, the report sequence, the instant of the
last one, and word 5 of each port, which counts the copies discarded at ports not UP (R63, R205). -/
def queuedAs (t s : State) : State :=
  { s with
    larder := { s.larder with
      reports := t.larder.reports, waiting := t.larder.waiting, waters := t.larder.waters, counts := t.larder.counts }
    addr := { s.addr with reportSeq := t.addr.reportSeq }
    hall := { s.hall with lastQueued := t.hall.lastQueued }
    spine := { s.spine with
      east := { s.spine.east with counts := t.spine.east.counts }, west := { s.spine.west with counts := t.spine.west.counts } } }

/-- From s to t the node queued a report of a type and a payload of so many bytes: with room for it, nothing waiting, and a port UP in t
for it to leave by, it is a new one in queue 0x01 under the next report sequence, and its payload is as said (R63, R105, R205). -/
def reportQueued (s t : State) (rtype : Half) (size : Nat) (holds : List Byte → Prop) : Prop :=
  s.larder.waiting = [] → reportLevel s + foliosUnits size ≤ 248 → (portUp t .east || portUp t .west) = true →
    ∃ f ∈ t.larder.reports, f.kind = 3 ∧ f.spec = rtype ∧ f.seq = s.addr.reportSeq ∧ holds f.payload

/-- From s to t LINK is queued for a change of a port's state (R106, R110). -/
def linkQueued (s t : State) : Prop := reportQueued s t 0x0011 (linkPayload s 2).length fun b => b.take 4 = wordBytes 2

/-- From s to t SPL_ANSWER is queued for the sequence q, of stype and with a result (R102, R205). -/
def answerQueued (s t : State) (q stype : Word) (result : Nat) : Prop :=
  s.larder.waiting = [] → reportLevel s ≤ 247 → (portUp t .east || portUp t .west) = true →
    ∃ f ∈ t.larder.reports, f.kind = 5 ∧ f.spec = 6 ∧ f.seq = s.addr.reportSeq ∧
      f.payload = wordsBytes [q, stype, BitVec.ofNat 32 result]

/-- s with the message m dispatched, its dispatch finished when fin is true, as R123 says: its entry of the journal is marked, and its
summary is no longer in state 1, accepted. -/
def dispatchedTo (s : State) (m : Msg) (fin : Bool) : State :=
  { s with hall := { s.hall with
      entries := s.hall.entries.map fun e => if e.no = m.no then { e with dispatched := true, finished := fin } else e
      summaries := s.hall.summaries.map fun y => if y.no = m.no ∧ y.st = 1 then { y with st := 2 } else y } }

/-- s with a message reported done, which then waits for its completion record (R123, R124). -/
def reportedDone (s : State) (d : Done) : State :=
  { s with hall := { s.hall with
      done := s.hall.done ++ [d]
      entries := s.hall.entries.map fun e => if e.no = d.no then { e with dispatched := true, finished := true } else e } }

/-- A message done with a result, no answer and no key. -/
def doneOf (m : Msg) (r : BitVec 4) : Done :=
  { chan := m.chan, seq := m.seq, no := m.no, result := r, answers := [], key := none }

/-- s with the message m dispatched and at once reported done as d (R123, R124). -/
def finishedAs (s : State) (m : Msg) (d : Done) : State := reportedDone (dispatchedTo s m false) d

/-- An idle step with no start-up under way is the model's own (log 1, DESIGN CHOICE): one Mantel tick, true time 4 ns on
(R22), Mantel time on by 4 ns and a x 2^-32 ns, P the greatest time reached (R163, R175), the RTC on by 4 ns at its own rate
where it is valid (R371), and nothing else. -/
def Obligations.IdleStepIsOneMantelTick : Prop :=
  ∀ s : State, s.pending = [] → s.start.stage = 0 → 0 ≤ (s.mantel.time : Int) + (4 * 2 ^ 32 + s.mantel.addend) →
    ∃ t, step s = .next t ∧ t.now = s.now + 4 ∧ (t.mantel.time : Int) = s.mantel.time + (4 * 2 ^ 32 + s.mantel.addend) ∧
      t.mantel.p = max s.mantel.p t.mantel.time ∧
      t.cellar.rtc * 10000000 + t.cellar.rtcPart =
        s.cellar.rtc * 10000000 + s.cellar.rtcPart + (if s.cellar.rtcValid then 4 * rtcRate s else 0) ∧
      t = clockedAs t s

/-- exec has no effect on the queue: every command leaves the waiting commands as they are. -/
def Obligations.ExecLeavesTheQueue : Prop :=
  ∀ (c : Instr) (s t : State), exec c s = .next t → t.pending = s.pending

/-- No command and no idle step stops the block: every step answers a next state. -/
def Obligations.EveryStepAnswersANextState : Prop :=
  ∀ s : State, Completes (step s)

/-- True time never runs back in a step, whatever command runs, a reset included. -/
def Obligations.TrueTimeNeverRunsBack : Prop :=
  ∀ s t : State, step s = .next t → s.now ≤ t.now

/-! ### The invariants -/

/-- Every addressed buffer has its one canonical form: the frame slots, the object shadow, and the stored objects. -/
def BuffersCanonical (s : State) : Prop :=
  (∀ x ∈ s.larder.slots, Memory.wf x.data = true) ∧ Memory.wf s.arch.shadow = true ∧
    (∀ o, s.arch.calibration = some o → Memory.wf o.data = true) ∧
    (∀ o, s.arch.factory = some o → Memory.wf o.data = true) ∧
    (∀ o, s.arch.patch = some o → Memory.wf o.data = true) ∧
    (∀ o, some o ∈ s.arch.slates → Memory.wf o.data = true) ∧ (∀ o, some o ∈ s.arch.curves → Memory.wf o.data = true)

/-- Every step keeps the canonical form of every addressed buffer, from every state that has it. -/
def Obligations.EveryStepKeepsBuffersCanonical : Prop :=
  ∀ s t : State, BuffersCanonical s → step s = .next t → BuffersCanonical t

/-- The logs and memories of stated size hold no more than it: 256 merge-memory entries (R67), a Spine queue of four CTL copies
(R69), 64 kept SPL sequences (R101), 256 summaries (R128), 1,024 audit entries (R157), 256 EVENT records in queue 0x02 (R205)
and the newest 2,048 in the event log (R376). -/
def WithinStatedSizes (s : State) : Prop :=
  s.spine.mergeMem.length ≤ 256 ∧ s.spine.ctlQueue.length ≤ 4 ∧ s.spine.splSeen.length ≤ 64 ∧
    s.hall.summaries.length ≤ 256 ∧ s.arch.audit.length ≤ 1024 ∧ s.larder.events.length ≤ 256 ∧
    s.arch.eventLog.length ≤ 2048

/-- Every step keeps the stated sizes, from every state that has them. -/
def Obligations.EveryStepKeepsTheStatedSizes : Prop :=
  ∀ s t : State, WithinStatedSizes s → step s = .next t → WithinStatedSizes t

/-- Reset has the canonical form. Reset is within the stated sizes, holds no waiting command and no address, expects sequence
1 on the node and broadcast channels, and is not running. -/
def Obligations.ResetIsCanonicalAndEmpty : Prop :=
  (BuffersCanonical State.reset) ∧
  (WithinStatedSizes State.reset ∧ State.reset.pending = [] ∧ State.reset.addr.addr = 0xFFF ∧
    State.reset.hall.channels.map (fun c => (c.code, c.expected, c.completed)) = [(0x0000, 1, 0), (0x0200, 1, 0)] ∧
    State.reset.start.phase = .off)

/-! ### Reset, supplies and start-up -/

/-- POWER_UP of a block without power, or held in reset, begins a start-up when no power fail is under way: S is now, the
cause of a block without power is what CELL holds, first power when it holds none, and of one held in reset its own; the four
supplies of S are good, the cell leaves DISCHARGE or CUT_OFF for the state that VCELL and the temperature select, with EVENT
0x0B07 kept for the report after replay, and the census counts of the Cellar start at 0 (R31, R370, R376, R394, R411, R412,
R414). Straps whose supply stayed are kept, with the time at which SVC became good, and step 4 waits only for the 1 ms hold
and the locks of step 2; after their supply fell, at a first power, or before they are read, they are awaited. STRAP_SAMPLE
reads the twelve levels by their bands, 2.0 ms to 2.4 ms after SVC power became good, when a start-up awaits its straps; step
4 is then due once 1.2 ms have passed from S, with the RING PLL locked and the senses sampled from then on (R31, R34, R72,
R414); in reset the sampling completes too, and starts nothing (R421). With the straps read the Backstair is in INTEGRATING
(R331). A start-up's further steps are taken one after another while no command waits and no power fail is under way, each by
its own bound from S (R414; when within the bound, log 62, and that an idle step takes them, is the model's): with straps
that were kept, step 2 ends first, 1.0 ms to 1.2 ms after S, with the RING PLL locked and the senses sampled from then on;
step 4 starts the engines, the watchdog and Mantel time, and keeps what a deskew or a self-test has measured (R165); step 5
the Press with the default timing set of epoch 0 (R276); step 6, with no bad word in the Archive, takes the pin as the
address of a node that holds none (R104); step 9 loads the working copies; step 10 is replay, after which the Hall is ready
(R132). -/
def Obligations.StartUpRunsFromPowerAndStraps : Prop :=
  (∀ (s : State) (ioFell : Bool), s.start.phase = .off ∨ s.start.phase = .inReset → s.cellar.failAt = none →
    ∃ t, exec (.powerUp ioFell) s = .next t ∧ t.start.phase = .awaitStraps ∧ t.start.s = s.now ∧
      (s.start.phase = .off → t.start.cause = s.cellar.cause.getD .firstPower) ∧
      (s.start.phase = .inReset → t.start.cause = s.start.cause) ∧ t.straps.svcOn = true ∧
      t.straps.read = (s.straps.read && !ioFell && t.start.cause != .firstPower) ∧
      t.start.stage = (if t.straps.read then 2 else s.start.stage) ∧
      t.straps.svcSince = (if s.straps.svcOn ∧ ioFell = false ∧ t.start.cause ≠ .firstPower then s.straps.svcSince else s.now) ∧
      t.back.pstate = (if ioFell ∨ t.start.cause = .firstPower then .off else s.back.pstate) ∧
      t.cellar.cell = (match s.cellar.cell with
        | .cutOff => if s.cellar.tempC < 0 ∨ 45 < s.cellar.tempC then .paused else .precharge
        | .discharge => selectCell s.cellar.vcellMv s.cellar.tempC
        | c => c) ∧
      (t.cellar.cell ≠ s.cellar.cell → ∃ e : EventRec, t.cellar.unreported = s.cellar.unreported ++ [e] ∧ e.code = 0x0B07) ∧
      t = reportedAs t { s with
        start := { s.start with
          phase := .awaitStraps, cause := t.start.cause, s := s.now, strapsKept := t.straps.read, stage := t.start.stage
          stepUs := t.start.stepUs, coreGood := true, sdGood := true, ioGood := true, auxGood := true }
        straps := { s.straps with svcOn := true, svcSince := t.straps.svcSince, read := t.straps.read }
        cellar := { s.cellar with cause := some t.start.cause, isolated := false, cell := t.cellar.cell, counts := zeros 14 }
        power := { s.power with auxBrownAt := none }
        back := { s.back with pstate := t.back.pstate }
        arch := { s.arch with poweredFrom := s.now } }) ∧
  (∀ (s : State) (codes : List (List Nat)) (irefPa : List Nat), s.straps.svcOn = true → s.straps.read = false →
    (s.start.phase = .awaitStraps →
      ∃ t, exec (.strapSample codes irefPa) s = .next t ∧ t.straps.read = true ∧ t.straps.svcOn = true ∧
        t.straps.svcSince = s.straps.svcSince ∧
        t.straps.levels = codes.map (fun c => BitVec.ofNat 4 (bandLevel (codeSum c))) ∧
        t.start.stage = (if t.now < s.start.s + 1200000 then 2 else 4) ∧
        s.straps.svcSince + 2000000 ≤ t.now ∧ t.now ≤ max s.now (s.straps.svcSince + 2400003) ∧
        t = clockedAs t { s with
          start := { s.start with stage := t.start.stage, stepUs := t.start.stepUs }, straps := t.straps, fresh := t.fresh
          spine := if t.start.stage = 4 then { s.spine with pllLocked := true, senseDue := t.now } else s.spine
          back := { s.back with pstate := if s.back.pstate = .off then .integrating else s.back.pstate } }) ∧
    (s.start.phase = .inReset →
      ∃ t, exec (.strapSample codes irefPa) s = .next t ∧ t.straps.read = true ∧
        s.straps.svcSince + 2000000 ≤ t.now ∧ t.now ≤ max s.now (s.straps.svcSince + 2400003) ∧
        t.straps.levels = codes.map (fun c => BitVec.ofNat 4 (bandLevel (codeSum c))) ∧
        t = clockedAs t { s with
          straps := t.straps, fresh := t.fresh
          back := { s.back with pstate := if s.back.pstate = .off then .integrating else s.back.pstate } })) ∧
  (∀ s : State, s.pending = [] → s.cellar.failAt = none →
    (s.start.stage = 2 →
      ∃ t, step s = .next t ∧ s.start.s + 1000000 ≤ t.now ∧ t.now ≤ max (s.now + 1003) (s.start.s + 1200003) ∧
        t = clockedAs t { s with
          start := { s.start with stage := 4 }, spine := { s.spine with pllLocked := true, senseDue := t.now }, fresh := t.fresh }) ∧
    (s.start.stage = 4 →
      ∃ t, step s = .next t ∧ t.start.stage = 5 ∧ t.start.phase = .running ∧ t.cellar.watchdogArmed = true ∧
        t.spine = s.spine ∧ s.now ≤ t.now ∧ t.now ≤ max (s.now + 1003) (s.start.s + 3000003) ∧ t.start.s = s.start.s ∧
        t.start.cause = s.start.cause ∧ t.straps = s.straps ∧ t.hall = s.hall ∧
        (∀ p, (portSync t p).loopbackPs = (portSync s p).loopbackPs ∧ (portSync t p).lane0Ps = (portSync s p).lane0Ps)) ∧
    (s.start.stage = 5 →
      ∃ t, step s = .next t ∧ t.start.stage = 6 ∧ t.press.running = true ∧ t.press.timing.epoch = 0 ∧ t.press.timing.minp = 128 ∧
        t.press.timing.trims = [255, 255, 255, 255] ∧ t.now = s.now ∧ t.straps = s.straps ∧ t.hall = s.hall ∧ t.addr = s.addr) ∧
    (s.start.stage = 6 → s.arch.badWords = [] →
      ∃ t, step s = .next t ∧ t.start.stage = 9 ∧
        t.addr.addr = (if s.addr.addr = 0xFFF then s.arch.pin.getD 0xFFF else s.addr.addr) ∧ t.straps = s.straps ∧
        t.arch.pin = s.arch.pin ∧ s.now ≤ t.now ∧ t.now ≤ max (s.now + 1003) (s.start.s + 7000003)) ∧
    (s.start.stage = 9 →
      ∃ t, step s = .next t ∧ t.start.stage = 10 ∧ t.bindery.calEventDue = false ∧ t.straps = s.straps ∧ t.hall = s.hall ∧
        t.addr = s.addr ∧ s.now ≤ t.now ∧ t.now ≤ max (s.now + 1003) (s.start.s + 19600003)) ∧
    (s.start.stage = 10 →
      ∃ t, step s = .next t ∧ t.start.stage = 0 ∧ t.hall.ready = true ∧ t.hall.powerFail = false ∧ t.straps = s.straps ∧
        t.hall.entries.map (fun e => (e.msg, e.no)) = s.hall.entries.map (fun e => (e.msg, e.no)) ∧ s.now ≤ t.now ∧
        t.now ≤ max (s.now + 1003) (s.start.s + 26600003)))

/-- What a reset of a cause leaves of s (R122, R412, R413): the state after reset but for the straps; the last address and position;
the journal with its counters, the held messages gone; the pins that trip inputs hold; what CELL keeps, its alarm causes and counts
apart; the Archive, the wear counted since the last persist apart; the two brown-outs; the declared defects not yet reported, those in front whose report had not left (R326; log 100); and of the
Backstair its counter, SILENT while SVC and the straps stay and else OFF (R331). -/
def LeftByReset (s t : State) (cause : ResetCause) : Prop :=
  t = { State.reset with
    now := t.now
    start := { StartUp.reset with
      phase := t.start.phase, cause := cause, s := t.start.s, stage := t.start.stage, stepUs := t.start.stepUs
      strapsKept := t.start.strapsKept, coreGood := t.start.coreGood, sdGood := t.start.sdGood, ioGood := t.start.ioGood
      auxGood := t.start.auxGood, vrowGood := s.start.vrowGood }
    straps := t.straps
    addr := { Addressing.reset with
      lastAddr := s.addr.lastAddr, lastPos := s.addr.lastPos, tamperSinceJoin := s.addr.tamperSinceJoin }
    spine := { Spine.reset with switchFaultsLogged := s.spine.switchFaultsLogged }
    hall := t.hall
    coll := { Collator.reset with gathered := t.coll.gathered, gatherSince := t.coll.gatherSince }
    back := { Backstair.reset with pstate := t.back.pstate, counter := s.back.counter, countedAt := s.back.countedAt }
    prot := { Protect.reset with inputs := s.prot.inputs.map fun x => { TripInput.clear with asserted := x.asserted } }
    cellar := { s.cellar with
      rtc := t.cellar.rtc, rtcPart := t.cellar.rtcPart, cause := some cause, watchdogArmed := false, warned := false
      darkPclk := false, darkWatchdog := false, darkPower := false, failAt := none, isolated := t.cellar.isolated
      unreported := t.cellar.unreported, counts := zeros 14 }
    arch := { s.arch with
      wear := t.arch.wearSaved, wearRest := [], wearSaved := t.arch.wearSaved, persistEnd := t.arch.persistEnd, litFrom := none
      litNs := 0, poweredFrom := t.now, eventLog := t.arch.eventLog, loggedThisSecond := 0, loggedSecond := t.arch.loggedSecond }
    power := { Power.reset with
      auxBrownAt := s.power.auxBrownAt, vrowBrownAt := s.power.vrowBrownAt, msInRest := t.power.msInRest
      uncoordinated := t.power.uncoordinated, returnLen := t.power.returnLen }
    wire := t.wire, fresh := t.fresh, pending := s.pending } ∧
  (t.straps.read = false → t.back.pstate = .off) ∧ (s.straps.svcOn = true → t.straps.read = true → t.back.pstate = .silent) ∧
  (∃ unsent, t.coll.gathered = unsent ++ s.coll.gathered) ∧
  (s.larder.reports = [] → s.larder.waiting = [] → t.coll.gathered = s.coll.gathered ∧ t.coll.gatherSince = s.coll.gatherSince) ∧
  t.hall.channels.map (·.code) = s.hall.channels.map (·.code) ∧ (∀ c ∈ t.hall.channels, c.held = []) ∧
  (s.hall.writing = none →
    t.hall = { Hall.reset with
      channels := s.hall.channels.map (fun c => { c with held := [] }), entries := s.hall.entries
      summaries := s.hall.summaries, nextNo := s.hall.nextNo, overwritten := s.hall.overwritten
      auditedThrough := s.hall.auditedThrough })

/-- RESET_N low, when no power-fail detect meets it as the next command (R421; log 97), and VDD_IO below its threshold, hold
a running node in reset with their cause, and leave of it what R412 keeps: the address goes, the bypass closes, the Archive
keeps its pin, keys and objects. RESET_N keeps the straps but in S4, where SVC was off; VDD_IO loses them with SVC (R31, R411
to R413). VDD_IO lost at a node without power, or whose power fail is under way, takes the supply of its pins and SVC with
the straps, and nothing else (R31, R331, R440). In the ring modes the stop of a running node sends LEAVE on each port before
the reset (R413), and a write that was open is in the journal as the reset leaves it: one entry more, its channel expecting
the next sequence (R130, R413). -/
def Obligations.ResetsHoldTheNodeAndKeepTheJournal : Prop :=
  ((∀ s : State, running s = true → s.cellar.failAt = none →
    (failFollows s = true → exec .resetN s = .next s) ∧
    (failFollows s = false → ∃ t, exec .resetN s = .next t ∧ LeftByReset s t .resetN ∧ t.start.phase = .inReset ∧ t.now = s.now ∧
      t.start.ioGood = s.start.ioGood ∧
      t.straps = (if s.power.st = .s4 then { s.straps with svcOn := false, read := false } else s.straps)) ∧
    (∃ t, exec .vddIoBrownout s = .next t ∧ LeftByReset s t .vddIo ∧ t.start.phase = .inReset ∧ t.now = s.now ∧
      t.start.ioGood = false ∧ t.straps = { s.straps with svcOn := false, read := false })) ∧
  ∀ s : State, s.start.phase = .off ∨ s.cellar.failAt.isSome = true →
    exec .vddIoBrownout s = .next { s with
      start := { s.start with ioGood := false }, straps := { s.straps with svcOn := false, read := false }
      back := { s.back with pstate := .off } }) ∧
  (∀ s : State, running s = true → s.power.st ≠ .s4 → s.cellar.failAt = none → failFollows s = false →
    (ringMode s = true →
      ∃ t, exec .resetN s = .next t ∧ t.wire = .leave .west 16 :: .leave .east 16 :: s.wire) ∧
    (∀ m, s.hall.writing = some m →
      ∃ t, exec .resetN s = .next t ∧ t.hall.writing = none ∧ t.hall.nextNo = s.hall.nextNo + 1 ∧
        (∃ e ∈ t.hall.entries, e.no = s.hall.nextNo ∧ e.msg.chan = m.chan ∧ e.msg.seq = m.seq) ∧
        (∀ c ∈ t.hall.channels, c.code = m.chan → c.expected = m.seq + 1)))

/-- POWER_FAIL_DETECT at a running node, not in S4: the fail is dated with its cause, the pass in progress stops (R238), the
Hall stops judging, dark is forced for power fail, and in native and head mode GSP leaves both ports with the failing rails
as its cause; the bypass stays for BYPASS_RELEASE (R64, R71, R113, R385, R386, R411), and what the pulses on light no longer
emit is not counted as wear (R382); CORE works from then for a time left open, and not at all where VDD_AUX was low (R131;
log 3). In S4 the fail is only dated and counted (R410). ARCHIVE_ISOLATE comes 1.5 ms after detect: the Archive takes no
burst, and of the rest only what R412 keeps is left. -/
def Obligations.PowerFailStopsAndIsolates : Prop :=
  (∀ (s : State) (core sd : Bool), running s = true → s.cellar.failAt = none → (core || sd) = true →
    ∃ t, exec (.powerFailDetect core sd) s = .next t ∧ t.cellar.failAt = some s.now ∧
      t.cellar.cause = some .mainPowerLoss ∧ t.start.coreGood = (s.start.coreGood && !core) ∧
      t.start.sdGood = (s.start.sdGood && !sd) ∧
      (s.power.st ≠ .s4 → t.hall = { s.hall with powerFail := true } ∧ t.cellar.darkPower = true ∧ t.press.rowOn = none) ∧
      (s.power.st ≠ .s4 → mode s = .native ∨ mode s = .head →
        t.addr.reportSeq = s.addr.reportSeq + 1 ∧
        t.wire = .folio .west (mkFolio 6 0 s.addr.addr.toNat (bit core + 2 * bit sd) s.addr.reportSeq 0 (gspPayload s)) ::
          .folio .east (mkFolio 6 0 s.addr.addr.toNat (bit core + 2 * bit sd) s.addr.reportSeq 0 (gspPayload s)) :: s.wire) ∧
      (s.power.st = .s4 → t.hall = s.hall ∧ t.press = s.press ∧ t.wire = s.wire ∧ t.cellar.darkPower = s.cellar.darkPower) ∧
      (s.start.auxGood = false → t.cellar.coreUntil = s.now) ∧
      ((∀ r, s.press.rowOn ≠ some r) → t.arch.wear = s.arch.wear) ∧
      t = reportedAs t { s with
        start := { s.start with coreGood := t.start.coreGood, sdGood := t.start.sdGood }
        cellar := { s.cellar with
          failAt := some s.now, cause := some .mainPowerLoss, coreUntil := t.cellar.coreUntil, darkPower := t.cellar.darkPower, counts := t.cellar.counts }
        bindery := { s.bindery with pass := none, waiting := none }
        hall := { s.hall with powerFail := t.hall.powerFail }
        press := { s.press with rowOn := t.press.rowOn, widths := t.press.widths, counts := t.press.counts }
        back := { s.back with alarms := t.back.alarms, buf0 := t.back.buf0, counts := t.back.counts }
        addr := { s.addr with reportSeq := t.addr.reportSeq }
        arch := { s.arch with
          wear := t.arch.wear, wearRest := t.arch.wearRest, wearSaved := t.arch.wearSaved, persistEnd := t.arch.persistEnd }
        wire := t.wire, fresh := t.fresh }) ∧
  (∀ (s : State) (d : Nat), s.cellar.failAt = some d →
    ∃ t, exec .archiveIsolate s = .next t ∧ LeftByReset s t .mainPowerLoss ∧ t.start.phase = .off ∧
      t.cellar.isolated = true ∧ d + 1500000 ≤ t.now ∧ t.straps = s.straps)

/-- A brown-out of VDD_AUX or VROW below 3.00 V at a running node changes that supply, its count and, while CORE is on, queue
0x02 by EVENT 0x0C03 alone; that of VDD_AUX takes DRIVE off too, every output dark and the Collator excluded, and a cell that
charged is in DISCHARGE with EVENT 0x0B07; while CORE is off the Cellar keeps these records for the report after the wake
(R370, R376, R406). 100 us of the good supply end it with EVENT 0x0C04: in S0 DRIVE comes back with VDD_AUX, the outputs
resume at a refresh seam, and the cell follows VDD_AUX. The power state stays (R402, R406, R407). -/
def Obligations.BrownOutsChangeNoPowerState : Prop :=
  (∀ (s : State) (mv : BitVec 16), running s = true → s.start.auxGood = true → mv.toNat < 3000 →
    ∃ t, exec (.supplyBrownout .vddAux mv) s = .next t ∧ (coreOn s = true → eventRaised s t 0x0C03) ∧
      (coreOn s = false → ∃ e ∈ t.cellar.unreported, e.code = 0x0C03) ∧
      t.cellar.cell = (if s.cellar.cell = .cutOff then .cutOff else .discharge) ∧
      (coreOn s = true → t.cellar.cell ≠ s.cellar.cell → eventRaised s t 0x0B07) ∧
      t = reportedAs t { s with
        cellar := { s.cellar with cell := t.cellar.cell, coreUntil := 0 }
        start := { s.start with auxGood := false }
        power := { s.power with auxBrownAt := some s.now, driveGood := false, counts := t.power.counts }
        coll := { s.coll with excluded := true }, press := { s.press with rowOn := none, widths := [] }
        arch := { s.arch with wear := t.arch.wear, wearRest := t.arch.wearRest } }) ∧
  (∀ (s : State) (mv : BitVec 16), running s = true → s.start.vrowGood = true → mv.toNat < 3000 →
    ∃ t, exec (.supplyBrownout .vrow mv) s = .next t ∧ (coreOn s = true → eventRaised s t 0x0C03) ∧
      (coreOn s = false → ∃ e ∈ t.cellar.unreported, e.code = 0x0C03) ∧
      t = reportedAs t { s with
        start := { s.start with vrowGood := false }
        power := { s.power with vrowBrownAt := some s.now, counts := t.power.counts } }) ∧
  (∀ (s : State) (b : Nat), s.power.auxBrownAt = some b →
    ∃ t, exec (.supplyRestored .vddAux) s = .next t ∧ s.now + 100000 ≤ t.now ∧
      (coreOn s = true → eventRaised s t 0x0C04) ∧
      (s.power.st = .s0 → t.power.driveGood = true ∧ t.prot.resumeAtSeam = true ∧ t.coll.excludeUntil = t.now + 100000000) ∧
      (s.power.st ≠ .s0 → t.power.driveGood = s.power.driveGood ∧ t.prot = s.prot ∧ t.coll = s.coll) ∧
      (s.cellar.cell ≠ .discharge → s.cellar.cell ≠ .cutOff → t.cellar.cell = s.cellar.cell) ∧
      (s.cellar.cell = .discharge → t.cellar.cell = selectCell s.cellar.vcellMv s.cellar.tempC) ∧
      (lostRecords s.hall = [] → t.arch.audit = s.arch.audit ∧ t.arch.auditNext = s.arch.auditNext) ∧
      (coreOn s = true → s.hall.ready = true → s.cellar.isolated = false → s.cellar.failAt = none →
        t.hall.auditedThrough = s.hall.nextNo - 1 ∧ t.arch.auditNext = s.arch.auditNext + BitVec.ofNat 32 (lostRecords s.hall).length) ∧
      t = clockedAs t (reportedAs t { s with
        hall := { s.hall with auditedThrough := t.hall.auditedThrough }
        arch := { s.arch with audit := t.arch.audit, auditNext := t.arch.auditNext }
        cellar := { s.cellar with cell := t.cellar.cell }
        start := { s.start with auxGood := true }
        power := { s.power with auxBrownAt := none, driveGood := t.power.driveGood, counts := t.power.counts }
        prot := { s.prot with resumeAtSeam := t.prot.resumeAtSeam }
        coll := { s.coll with excluded := t.coll.excluded, excludeUntil := t.coll.excludeUntil } })) ∧
  (∀ (s : State) (b : Nat), s.power.vrowBrownAt = some b →
    ∃ t, exec (.supplyRestored .vrow) s = .next t ∧ s.now + 100000 ≤ t.now ∧
      (coreOn s = true → eventRaised s t 0x0C04) ∧
      t = clockedAs t (reportedAs t { s with
        start := { s.start with vrowGood := true }
        power := { s.power with vrowBrownAt := none, counts := t.power.counts }
        prot := { s.prot with resumeAtSeam := true } }))

/-- The watchdog (R373): a kick dates itself and clears the warning; 12 ms without one warns once, counted and raised as
EVENT 0x0B09, and closes nothing. The watchdog's expiry, 16 ms after the last kick, holds the node with cause watchdog: of it
what R412 keeps is left, its straps too, and in native and head mode GSP has left both ports with cause 0x04; 1 ms later the
hold ends and a start-up begins from a new S with those straps, step 2 under way and the Cellar's census counts at 0 (R113,
R373, R374, R394, R411). The report sequence that GSP takes follows the LINK reports of ports that the bypass takes down. The
RTC alarm wakes a node from S4 into a start-up of cause 7 that samples its straps again; of the node what R412 keeps is left,
and the held return with its alarm too (R405, R411, R418). -/
def Obligations.WatchdogAndTheReturnAlarm : Prop :=
  (∀ s : State, s.cellar.watchdogArmed = true → coreOn s = true →
    (∃ t, exec .watchdogKick s = .next t ∧
      t = { s with cellar := { s.cellar with lastKick := s.now, warned := false } }) ∧
    (s.cellar.warned = false →
      ∃ t, exec .watchdogWarning s = .next t ∧ s.cellar.lastKick + 12000000 ≤ t.now ∧ eventRaised s t 0x0B09 ∧
        t = clockedAs t (reportedAs t { s with
          cellar := { s.cellar with warned := true, counts := s.cellar.counts.modify 2 (· + 1) } }))) ∧
  ((∀ s : State, s.cellar.watchdogArmed = true → coreOn s = true → s.cellar.failAt = none →
    ∃ t, exec .watchdogExpiry s = .next t ∧ LeftByReset s t .watchdog ∧ t.start.phase = .cellarHold ∧ t.start.s = t.now ∧
      t.straps = s.straps ∧ s.cellar.lastKick + 16000000 ≤ t.now ∧
      (mode s = .native ∨ mode s = .head →
        ∃ q, (s.spine.bypHold = false → q = s.addr.reportSeq) ∧
          t.wire = .folio .west (mkFolio 6 0 s.addr.addr.toNat 4 q 0 (gspPayload s)) ::
            .folio .east (mkFolio 6 0 s.addr.addr.toNat 4 q 0 (gspPayload s)) :: s.wire)) ∧
  (∀ s : State, s.start.phase = .cellarHold → s.straps.read = true →
    ∃ t, exec .cellarResetHoldEnd s = .next t ∧ t.start.cause = .watchdog ∧ t.start.stage = 2 ∧ t.start.s = t.now ∧
      s.start.s + 1000000 ≤ t.now ∧
      t = clockedAs t { s with
        start := { s.start with
          phase := .awaitStraps, cause := .watchdog, s := t.now, strapsKept := true, stage := 2, stepUs := t.start.stepUs }
        straps := { s.straps with svcOn := true, svcSince := if s.straps.svcOn then s.straps.svcSince else t.now }
        cellar := { s.cellar with cause := some .watchdog, counts := zeros 14 }, arch := { s.arch with poweredFrom := t.now } })) ∧
  (∀ (s : State) (a : Nat), running s = true → s.power.st = .s4 → s.cellar.failAt = none → s.cellar.rtcAlarm = some a →
    ∃ t, exec .s4ReturnAlarm s = .next t ∧ LeftByReset s t .s4Wake ∧ t.start.phase = .awaitStraps ∧ t.straps.read = false ∧
      t.straps.svcOn = true ∧ t.start.s = t.now ∧ s.now ≤ t.now ∧ t.power.uncoordinated = s.power.uncoordinated ∧
      t.power.returnLen = s.power.returnLen ∧ t.cellar.rtcAlarm = some a)

/-- RENDER_POINT with valid time, no hold and a replayed Hall comes 0.25 ms before its frame seam, and that seam is the one
rendered for (R179, R197); the first one names the seam of first light (R415). A step of Mantel time whose seam comes no
later than the render point applies before it (R192). With no pass, load or reload under way, a render point at which a pass
is due starts one, or leaves it to the seam whose cut-off is past (R213). It touches no address, key, strap or bypass. A
render point past first light, with no load, reload or restore under way, no step before it and no legacy port at work. The
one cue armed, when its T is at most the seam, fires with its completion record (R126, R179, R254): actions 0 and 1 make a
stored slate the programme, and the show cuts or fades to it; action 3 makes it STREAM; action 2 fades or sets the level
(R251); action 4 sets the tolerance (R400); a slate not stored changes nothing, with result 6 and EVENT 0x0602. Of the slots
due the newest READY one becomes BOUND and every other is freed, or with none READY all are and one hold is counted (R197). A
node in S0 that neither wakes nor enters a state chooses one for the seam only where the show is dark there and its tolerance
and the other conditions of R401 admit it, and chooses none only where S1 itself is not admitted or it has just woken (R403).
FIRST_LIGHT: the first frame seam, once its render point has come, marks first light, at or after that seam, with EVENT
0x0D02 and its step time; nothing else changes (R415, R419, R420). -/
def Obligations.RenderPointAndFirstLight : Prop :=
  (∀ s : State, coreOn s = true → timeValid s.mantel = true → s.mantel.hold = false → s.hall.ready = true →
   (∀ j, s.mantel.stepPending = some j → j ≠ 0 → nextSeam s ≤ nextFrameSeam s - 250000 →
    ∃ t, exec .mantelStep s = .next t ∧ exec .renderPoint s = exec .renderPoint t) ∧
   ((∀ j, s.mantel.stepPending = some j → j = 0 ∨ nextFrameSeam s - 250000 < nextSeam s) →
    ∃ t, exec .renderPoint s = .next t ∧ t.press.renderedFor = some (nextFrameSeam s) ∧
      t.screen.firstSeam = some (s.screen.firstSeam.getD (nextFrameSeam s)) ∧
      (0 < 4 * 2 ^ 32 + s.mantel.addend → nextFrameSeam s ≤ mNs t + 250000) ∧
      (s.bindery.passWanted = true → s.bindery.loading = none → s.bindery.reloadUntil = 0 →
        t.bindery.pass.isSome = true ∨ t.bindery.waiting.isSome = true) ∧
      s.now ≤ t.now ∧ t.straps = s.straps ∧ t.addr = { s.addr with reportSeq := t.addr.reportSeq } ∧
      t.spine.bypHold = s.spine.bypHold ∧ t.arch.keys = s.arch.keys ∧ t.prot = s.prot ∧ t.pending = s.pending)) ∧
  (∀ (s : State) (seam : Nat), coreOn s = true → timeValid s.mantel = true → s.mantel.hold = false → s.hall.ready = true →
    s.mantel.stepPending = none → s.screen.firstSeam.isSome = true → s.start.restoreDue = false → s.bindery.loading = none →
    s.bindery.reloadUntil ≤ s.now → mode s = .native ∨ mode s = .head → s.leaf.fzLevel = none → seam = nextFrameSeam s →
    (∀ (c : ArmedCue) (e : Entry) (b : List Byte), hallDispatches s = true → s.mantel.cues = [c] → c.late = false → c.t ≤ seam →
      s.hall.entries.find? (fun x => x.no == c.no) = some e → b = e.msg.body →
      ∃ t r, exec .renderPoint s = .next t ∧ t.mantel.cues = [] ∧
        t.hall.entries = s.hall.entries.filter (fun x => x.no != c.no) ∧
        t.hall.summaries = s.hall.summaries.map (fun y =>
          if y.no = c.no ∧ y.st ≠ 3 then { y with st := 3, result := r, doneNo := s.hall.nextNo } else y) ∧
        (cueAction b ≤ 1 → slateStored s (cueSlate b) = false →
          r = 6 ∧ eventRaised s t 0x0602 ∧ t.screen.programme = s.screen.programme ∧ t.arch.standing = s.arch.standing) ∧
        (cueAction b ≤ 1 → slateStored s (cueSlate b) = true →
          r = 0 ∧ t.screen.programme = .slate (cueSlate b) ∧ t.arch.standing.programme = .slate (cueSlate b) ∧
          (pictureGoal s ≠ .slate (cueSlate b) →
            (cueAction b = 0 ∨ cueFade b = 0 →
              t.screen.picture = .slate (cueSlate b) ∧ t.screen.fade = none ∧ t.screen.alpha = 0) ∧
            (cueAction b = 1 → cueFade b ≠ 0 →
              t.screen.alpha = 0 ∧ t.screen.fade =
                some { target := .slate (cueSlate b), start := seam, ms := cueFade b, shape := cueShape b }))) ∧
        (cueAction b = 3 → r = 0 ∧ t.screen.programme = .stream ∧ t.arch.standing.programme = .stream) ∧
        (cueAction b = 2 → r = 0 ∧ t.screen.programme = s.screen.programme ∧
          t.screen.lambdaTarget = (if cueMode b = 1 then arcLevel (cueLevel b) else cueLevel b) ∧
          (cueFade b = 0 → t.screen.level = none ∧ t.screen.lambda = t.screen.lambdaTarget) ∧
          (cueFade b ≠ 0 → s.screen.level = none → s.screen.lambda ≠ t.screen.lambdaTarget →
            t.screen.level = some
              { mode := cueMode b, l0 := s.screen.lambda, n0 := arcStart s, target := cueLevel b, start := seam
                ms := cueFade b, shape := cueShape b } ∧
            (cueMode b = 0 → cueShape b = 0 → t.screen.lambda = s.screen.lambda))) ∧
        (4 ≤ cueAction b → r = 0 ∧ t.arch.tolUs = (wordAt b 20).toNat ∧ t.screen.programme = s.screen.programme) ∧
        (cueAction b ≤ 3 → t.arch.tolUs = s.arch.tolUs)) ∧
    (s.bindery.pass = none → s.bindery.waiting = none → s.larder.slots.length = 3 → s.larder.dropped = [] →
      ∃ t, exec .renderPoint s = .next t ∧
        (∀ k, newestDue s seam = some k →
          t.larder.slots.getD k Slot.empty = { s.larder.slots.getD k Slot.empty with st := .bound } ∧
          t.larder.secHolds = s.larder.secHolds ∧
          ∀ i, i ≠ k → dueSlot s seam (s.larder.slots.getD i Slot.empty) = true → t.larder.slots.getD i Slot.empty = Slot.empty) ∧
        (newestDue s seam = none → (∃ x ∈ s.larder.slots, dueSlot s seam x = true) →
          t.larder.secHolds = s.larder.secHolds + 1 ∧
          ∀ i, dueSlot s seam (s.larder.slots.getD i Slot.empty) = true → t.larder.slots.getD i Slot.empty = Slot.empty) ∧
        (newestDue s seam = none → (∀ x ∈ s.larder.slots, dueSlot s seam x = false) → t.larder.secHolds = s.larder.secHolds)) ∧
    (s.power.st = .s0 → s.power.waking = none → s.power.entryBegun = false → s.power.entering = none →
      ∃ t, exec .renderPoint s = .next t ∧
        (t.power.entering = none ∨ ∃ d, t.power.entering = some (d, seam) ∧ d ≠ .s0 ∧ darkShow t seam = true ∧
          wakeUs d ≤ t.arch.tolUs ∧ (d = .s2 ∨ d = .s3 ∨ d = .s4 → mode s = .native) ∧
          (d ≠ .s1 → assigned t = true ∧ (t.screen.programme ≠ .stream ∨ t.larder.fstate = .lost)) ∧
          (d = .s3 ∨ d = .s4 → bankHeld t = false) ∧ (d = .s4 → t.mantel.cues = [] ∧ t.mantel.censuses = [])) ∧
        (darkShow t seam = true → 60 ≤ t.arch.tolUs → s.power.lastCause ∉ [1, 2, 4] → t.power.entering.isSome = true))) ∧
  (∀ (s : State) (seam : Nat), coreOn s = true → s.start.firstLight = false → s.screen.firstSeam = some seam →
    ∃ t, exec .firstLight s = .next t ∧ eventRaised s t 0x0D02 ∧ t.start.firstLight = true ∧
      (0 < 4 * 2 ^ 32 + s.mantel.addend → seam ≤ t.mantel.time / 2 ^ 32) ∧
      t = clockedAs t (reportedAs t { s with start := { s.start with firstLight := true, stepUs := t.start.stepUs } }))

/-- A Larder error of one bit is corrected and counted at word 6 alone (R194, R211). An uncorrectable one in region 12,
engine data, ends in a start-up of cause 6 with the straps kept (R411). One in region 2 darkens the two drive words of its 8
bytes in their plate, and the node runs on (which words go dark is the model's reading, DEDUCED, log 14); one in region 6
puts the two wear integrals of its 8 bytes back to their last persisted values. One in region 1 empties its slot, and a quire
not rendered yet is kept to be counted as a hold (log 109, DESIGN CHOICE); one in regions 3 to 5 holds render points from new
quires until a reload that ends within 2 ms, and ends the pass in progress; in region 7 a word pair of the bank reads as all
ones; in region 8, where the node is no head, the cached slate is invalid; in region 9 the held message of one cell goes with
EVENT 0x0202; in regions 10 and 11 a packet or a record goes (R194; of the words of these that the manual does not place,
which one is free, log 3). Each of these is counted at word 7 and raised as EVENT 0x0407. -/
def Obligations.LarderErrorsRestartOrDarken : Prop :=
  ∀ (s : State) (off : Word), coreOn s = true →
    (∀ r, 1 ≤ r → r ≤ 12 →
      ∃ t, exec (.larderEccError ⟨r, off⟩ true) s = .next t ∧ t = { s with larder := { s.larder with counts := bump s.larder.counts 6 } }) ∧
    (s.straps.read = true →
      ∃ t, exec (.larderEccError ⟨12, off⟩ false) s = .next t ∧ t.start.cause = .larderEngine ∧ t.start.phase = .awaitStraps ∧
        t.start.stage = 2 ∧ t.start.s = t.now ∧ t.now = s.now ∧ t.straps.levels = s.straps.levels ∧ LeftByReset s t .larderEngine) ∧
    (∃ t, exec (.larderEccError ⟨2, off⟩ false) s = .next t ∧ eventRaised s t 0x0407 ∧
      t.larder.plates = s.larder.plates.modify ((off.toNat - 0x16800) / 61440) (fun w =>
        (w.set ((off.toNat - 0x16800) % 61440 / 8 * 2) 0).set ((off.toNat - 0x16800) % 61440 / 8 * 2 + 1) 0) ∧
      t.larder.counts.getD 7 0 = (bump s.larder.counts 7).getD 7 0 ∧
      t = reportedAs t { s with larder := { s.larder with plates := t.larder.plates } }) ∧
    (∃ t, exec (.larderEccError ⟨6, off⟩ false) s = .next t ∧ eventRaised s t 0x0407 ∧
      t.larder.counts.getD 7 0 = (bump s.larder.counts 7).getD 7 0 ∧
      t.arch.wear = (s.arch.wear.set ((off.toNat - 0x6A000) / 8 * 2) (s.arch.wearSaved.getD ((off.toNat - 0x6A000) / 8 * 2) 0)).set
        ((off.toNat - 0x6A000) / 8 * 2 + 1) (s.arch.wearSaved.getD ((off.toNat - 0x6A000) / 8 * 2 + 1) 0) ∧
      t = reportedAs t { s with arch := { s.arch with wear := t.arch.wear, wearRest := t.arch.wearRest } }) ∧
    (∃ t, exec (.larderEccError ⟨1, off⟩ false) s = .next t ∧ eventRaised s t 0x0407 ∧
      t.larder.slots.getD (off.toNat / 30720) Slot.empty = Slot.empty ∧
      (s.bindery.pass = none → s.bindery.waiting = none →
        t.larder.slots = s.larder.slots.set (off.toNat / 30720) Slot.empty ∧
        (∀ x, s.larder.slots[off.toNat / 30720]? = some x →
          t.larder.dropped =
            if x.st = .receiving ∨ x.st = .ready then (x.quire, frameSeam s x.pres) :: s.larder.dropped else s.larder.dropped) ∧
        t.larder.counts.getD 7 0 = (bump s.larder.counts 7).getD 7 0 ∧
        t = reportedAs t { s with larder := { s.larder with slots := t.larder.slots, dropped := t.larder.dropped } })) ∧
    (∀ r, 3 ≤ r → r ≤ 5 →
      ∃ t, exec (.larderEccError ⟨r, off⟩ false) s = .next t ∧ eventRaised s t 0x0407 ∧ t.bindery.pass = none ∧
        s.bindery.reloadUntil ≤ t.bindery.reloadUntil ∧ s.now ≤ t.bindery.reloadUntil ∧
        t.bindery.reloadUntil ≤ max s.bindery.reloadUntil (s.now + 2000000) ∧ t.now = s.now ∧
        (∀ p, s.bindery.pass = some p → eventRaised s t 0x0504) ∧
        (s.bindery.pass = none → t.larder.counts.getD 7 0 = (bump s.larder.counts 7).getD 7 0 ∧
          t = reportedAs t { s with bindery := { s.bindery with reloadUntil := t.bindery.reloadUntil }, fresh := t.fresh })) ∧
    (∀ b, s.mantel.bank = some b →
      ∃ t k, exec (.larderEccError ⟨7, off⟩ false) s = .next t ∧ eventRaised s t 0x0407 ∧
        2 * k < 8 + (b.sections.map fun x => x.2.length).sum ∧
        t.larder.badBankWords = (2 * k) :: (2 * k + 1) :: s.larder.badBankWords ∧
        t.larder.counts.getD 7 0 = (bump s.larder.counts 7).getD 7 0 ∧
        t = reportedAs t { s with larder := { s.larder with badBankWords := t.larder.badBankWords }, fresh := t.fresh }) ∧
    (mode s ≠ .head →
      ∃ t, exec (.larderEccError ⟨8, off⟩ false) s = .next t ∧ eventRaised s t 0x0407 ∧
        t.screen.cache = s.screen.cache.modify ((off.toNat - 0x89000) / 30720) (fun e => { e with st := 0 }) ∧
        t.larder.counts.getD 7 0 = (bump s.larder.counts 7).getD 7 0 ∧
        t = reportedAs t { s with
          screen := { s.screen with cache := t.screen.cache, counts := t.screen.counts }
          bindery := { s.bindery with counts := t.bindery.counts } }) ∧
    (∃ t, exec (.larderEccError ⟨9, off⟩ false) s = .next t ∧ eventRaised s t 0x0407 ∧
      (t.hall = s.hall ∨ eventRaised s t 0x0202 ∧ ∃ c ∈ s.hall.channels, ∃ q,
        t.hall = (setChannel s { c with held := c.held.filter fun x => x.seq != q }).hall) ∧
      t.larder.counts.getD 7 0 = (bump s.larder.counts 7).getD 7 0 ∧
      t = reportedAs t { s with hall := { s.hall with channels := t.hall.channels }, fresh := t.fresh }) ∧
    (s.larder.waiting = [] →
      ∃ t i, exec (.larderEccError ⟨10, off⟩ false) s = .next t ∧ eventRaised s t 0x0407 ∧
        (s.larder.reports ≠ [] → i < s.larder.reports.length) ∧ t.larder.reports = s.larder.reports.eraseIdx i ∧
        t.larder.counts.getD 7 0 = (bump s.larder.counts 7).getD 7 0 ∧
        t = reportedAs t { s with larder := { s.larder with reports := t.larder.reports }, fresh := t.fresh }) ∧
    (s.larder.events.length ≤ 248 →
      ∃ t i e, exec (.larderEccError ⟨11, off⟩ false) s = .next t ∧ (s.larder.events ≠ [] → i < s.larder.events.length) ∧
        t.larder.events = s.larder.events.eraseIdx i ++ [e] ∧ e.code = 0x0407 ∧
        t.larder.counts.getD 7 0 = (bump s.larder.counts 7).getD 7 0 ∧ t = reportedAs t { s with fresh := t.fresh })

/-! ### The ring ports, forwarding and vacancies -/

/-- The training of a port, each command from the state that precedes it (R57): DOWN to ACQUIRE on signal, to BLOCK_LOCK, to
DESKEW, to CONFIRM with its lane-0 delay kept (R165) when the two lanes stand at most 40 ns apart (R53), to UP with the lanes
both ends use. Signal takes a fast acquisition while the port holds fast-acquire, the last instant of the hold included (R28,
R75). Each change of state enters the state at this instant, is reported by LINK through queue 0x01 (R106; that every change
of state is, is log 17, DEDUCED), and changes nothing of the other port but its count of discarded copies, nor anything else
named here. The CONFIRM that brings up the second link of a spliced node after a wake from S4, its Hall ready, ends that
wake: EVENT 0x0C01, counted once (R398, R407 to R409). A training command does nothing to a port in another state than the
one it leaves (R57), nor DESKEW to lanes more than 40 ns apart (R53). -/
def Obligations.PortTraining : Prop :=
  (∀ (s : State) (p : Port) (x : PortS), portsTrain s = true → x = getPort s p →
    (x.st = .down →
      ∃ t, exec (.portSignalDetect p) s = .next t ∧ (getPort t p).st = .acquire ∧ (getPort t p).since = s.now ∧ linkQueued s t ∧
        ((getPort t p).fastNow = true ↔
          (x.fastUntil ≠ 0 ∧ s.now ≤ x.fastUntil) ∨ ∃ e, x.windowEnd = some e ∧ mNs s ≤ e) ∧
        t = queuedAs t (setPort s p { x with
          st := .acquire, since := s.now, fastNow := (getPort t p).fastNow, twoLanes := twoLanesStrapped s
          laneMismatch := false, eqLong := (getPort t p).eqLong })) ∧
    (x.st = .acquire →
      ∃ t, exec (.portAcquired p) s = .next t ∧ (getPort t p).st = .blockLock ∧ linkQueued s t ∧
        t = queuedAs t (setPort s p { x with st := .blockLock, since := s.now, rateSuspected := false })) ∧
    (x.st = .blockLock →
      ∃ t, exec (.blockLock p) s = .next t ∧ (getPort t p).st = .deskew ∧ linkQueued s t ∧
        t = queuedAs t (setPort s p { x with st := .deskew, since := s.now })) ∧
    (∀ ps skew, x.st = .deskew → (x.twoLanes = true → skew ≤ 40000) →
      ∃ t, exec (.deskew p ⟨ps, skew⟩) s = .next t ∧ (getPort t p).st = .confirm ∧ (portSync t p).lane0Ps = ps ∧
        linkQueued s t ∧
        t.wire = List.replicate 4 (Sent.hello p x.twoLanes (BitVec.ofNat 16 Config.serialFuses.toNat)) ++ s.wire ∧
        t = queuedAs t { setSync (setPort s p { x with
          st := .confirm, since := s.now, skewPs := (getPort t p).skewPs }) p { portSync s p with lane0Ps := ps } with
          wire := t.wire }) ∧
    (∀ two low, x.st = .confirm →
      ∃ t, exec (.confirm p two low) s = .next t ∧ (getPort t p).st = .up ∧ (getPort t p).twoLanes = (x.twoLanes && two) ∧
        (getPort t p).laneMismatch = (x.twoLanes != two) ∧ (getPort t p).nbrLow = low ∧ linkQueued s t ∧
        (s.start.cause = .s4Wake → s.hall.ready = true → s.spine.bypHold = true → (getPort s (otherPort p)).st = .up →
          s.power.counts.getD 10 0 = 0 →
          (s.cellar.unreported = [] → eventRaised s t 0x0C01) ∧
            t.power = { s.power with lastSt := .s4, lastCause := 7, counts := bump s.power.counts 10 }) ∧
        (s.start.cause ≠ .s4Wake ∨ s.hall.ready = false ∨ s.spine.bypHold = false ∨ (getPort s (otherPort p)).st ≠ .up →
          t.power = s.power ∧ t.cellar.unreported = s.cellar.unreported) ∧
        t = reportedAs t (queuedAs t { setPort s p { x with
          st := .up, since := s.now, twoLanes := x.twoLanes && two, laneMismatch := x.twoLanes != two, nbrLow := low
          fastNow := false, outageUs := (getPort t p).outageUs, nextIdent := s.now } with
          start := { s.start with stepUs := t.start.stepUs }, power := t.power }))) ∧
  (∀ (s : State) (p : Port),
    ((getPort s p).st ≠ .down → exec (.portSignalDetect p) s = .next s) ∧
    ((getPort s p).st ≠ .acquire → exec (.portAcquired p) s = .next s) ∧
    ((getPort s p).st ≠ .blockLock → exec (.blockLock p) s = .next s) ∧
    (∀ ps skew, (getPort s p).st ≠ .deskew ∨ ((getPort s p).twoLanes = true ∧ 40000 < skew) →
      exec (.deskew p ⟨ps, skew⟩) s = .next s) ∧
    (∀ two low, (getPort s p).st ≠ .confirm → exec (.confirm p two low) s = .next s))

/-- A port lost goes DOWN (R57) and forgets its neighbour serial; from UP that is one more port-down at word 8 of its block,
and a reception cut is one more truncated at word 3 (R62, R110), its forwarded copy ended in an error control block where the
opposite port is UP. LINK reports the change through queue 0x01 (R106; log 17, DEDUCED). The other port keeps all but its
counts, and nothing else changes but queue 0x01. The timers of a port: a fast-acquire falls back after 200 us (R57), an
ACQUIRE of 10 s suspects the rate with EVENT 0x0104 (R58), and a fast-acquire hold ends at its instant, no window holding it
on (R75); LEAVE holds fast-acquire for 10 ms (R75). Nothing else changes. IDENT on an UP port carries the colophon serial,
when it is due, and is due again 1 s later; an IDENT received gives the neighbour's (R101). Nothing else changes. -/
def Obligations.PortLossTimersAndIdent : Prop :=
  (∀ (s : State) (p : Port) (rx tx : Bool) (x : PortS), portsTrain s = true → x = getPort s p → x.st ≠ .down →
    ∃ t, exec (.portLoss p rx tx) s = .next t ∧ (getPort t p).st = .down ∧ (getPort t p).since = s.now ∧ linkQueued s t ∧
      (x.st = .up → (getPort t p).downAt = s.now ∧ (getPort t p).counts.getD 7 0 = (bump x.counts 7).getD 7 0 ∧
        (rx = true → (getPort t p).counts.getD 2 0 = (bump x.counts 2).getD 2 0) ∧
        t.wire = (if rx = true ∧ (getPort s (otherPort p)).st = .up then .errorEnded (otherPort p) :: s.wire else s.wire)) ∧
      (x.st ≠ .up → t.wire = s.wire) ∧
      t = queuedAs t { setPort s p { x with
        st := .down, since := s.now, downAt := (getPort t p).downAt, inWindow := (getPort t p).inWindow, degraded := false
        rateSuspected := false, nbrSerial := none } with wire := t.wire }) ∧
  (∀ (s : State) (p : Port) (x : PortS), portsTrain s = true → x = getPort s p →
    (x.st = .acquire → x.fastNow = true →
      ∃ t, exec (.fastAcquireFallback p) s = .next t ∧ x.since + 200000 ≤ t.now ∧
        t = clockedAs t (setPort s p { x with fastNow := false })) ∧
    (x.st = .acquire → x.rateSuspected = false →
      ∃ t, exec (.rateSuspectTimeout p) s = .next t ∧ eventRaised s t 0x0104 ∧ x.since + 10000000000 ≤ t.now ∧
        t = clockedAs t (reportedAs t (setPort s p { x with rateSuspected := true }))) ∧
    (x.fastUntil ≠ 0 →
      ∃ t, exec (.fastAcquireEnd p) s = .next t ∧ x.fastUntil ≤ t.now ∧ (x.windowEnd = none → (getPort t p).fastNow = false) ∧
        t = clockedAs t (setPort s p { x with fastUntil := 0, fastNow := (getPort t p).fastNow })) ∧
    exec (.leaveReceive p) s = .next (setPort s p { x with
      fastUntil := max x.fastUntil (s.now + 10000000), fastNow := x.fastNow || x.st == .acquire })) ∧
  (∀ (s : State) (p : Port), portsTrain s = true → (getPort s p).st = .up →
    (∃ t, exec (.identSend p) s = .next t ∧ (getPort s p).nextIdent ≤ t.now ∧
      t = clockedAs t { setPort s p { getPort s p with nextIdent := max s.now (getPort s p).nextIdent + 1000000000 } with
        wire := .ident p Config.serialFuses :: s.wire }) ∧
    (∀ serial, exec (.identReceive p serial) s = .next (setPort s p { getPort s p with nbrSerial := some serial })))

/-- A unit received while both ports are UP leaves the opposite port: a good folio that takes no residence unchanged but for
its recomputed CRC, a folio whose CRC failed with the CRC of its stamp, any other unit ended in an error control block (R60
to R62). While the opposite port is not UP it is discarded and counted at that port's word 5 (R62, R110). Nothing else
changes. The residence of a corrected TIM folio: a Sync that no malformed cause marks leaves with its residence added to
payload bytes 8 to 15 and a good CRC over it (R23, R60, R99). -/
def Obligations.ForwardingAndResidence : Prop :=
  (∀ (s : State) (p : Port) (residence : Nat), portsTrain s = true → (getPort s p).st = .up →
    ((getPort s (otherPort p)).st = .up →
      (∀ f, Folio.crcOk f = true → corrected f = false →
        ∃ t, exec (.folioForward p (.whole f) residence) s = .next t ∧
          t = { s with wire := Sent.forwarded (otherPort p) f :: s.wire }) ∧
      (∀ f, Folio.crcOk f = false → corrected f = false →
        ∃ t, exec (.folioForward p (.whole f) residence) s = .next t ∧
          t = { s with wire :=
            Sent.forwarded (otherPort p) { f with crc := Folio.goodCrc f ^^^ 0xFFFFFFFF#32 } :: s.wire }) ∧
      (∀ u, u = .short ∨ u = .cut ∨ u = .errorEnded →
        ∃ t, exec (.folioForward p u residence) s = .next t ∧ t = { s with wire := Sent.errorEnded (otherPort p) :: s.wire })) ∧
    (∀ u, (getPort s (otherPort p)).st ≠ .up →
      ∃ t, exec (.folioForward p u residence) s = .next t ∧
        t = setPort s (otherPort p)
          { getPort s (otherPort p) with counts := (getPort s (otherPort p)).counts.modify 4 (· + 1) })) ∧
  (∀ (s : State) (p : Port) (f : Folio) (residence : Nat), portsTrain s = true → (getPort s p).st = .up →
    (getPort s (otherPort p)).st = .up → Folio.crcOk f = true → corrected f = true → malformed s f = none →
    ∃ t g, exec (.folioForward p (.whole f) residence) s = .next t ∧
      t = { s with wire := Sent.forwarded (otherPort p) g :: s.wire } ∧ Folio.crcOk g = true ∧
      g.w0 = f.w0 ∧ g.w1 = f.w1 ∧ g.w2 = f.w2 ∧ g.w3 = f.w3 ∧
      g.payload = f.payload.take 8 ++ longBytes (longAt f.payload 8 + BitVec.ofNat 64 residence) ++ f.payload.drop 16)

/-- MERGE of a CTL folio addressed to the node, in S0 or S1: a first copy on a Spine queue with room waits for judgement, is
remembered and counted at word 6 of the port, and it reverses an entry to a rest state that has begun (R402, R403); its twin
within 1 ms is dropped and counted at word 7 (R67, R69, R110). Nothing else changes. Of two units whose last blocks crossed
on one cycle the EAST one goes first, whichever port's MERGE names them (R70). A merge-memory entry, the oldest, expires 1 ms
after it was written, and no other goes (R67). A vacancy that passes out of an UP port and that the node may fill takes the
ACK at the head of queue 0x01 when it fits and no GSP waits: it leaves as an own folio in its place, and with no other copy
due it gives up its units (R63, R205). With nothing that fits, the vacancy passes and nothing changes; nor does a vacancy
once VDD_CORE has failed and CORE works no longer (R131). -/
def Obligations.MergeDropsTwinsAndVacanciesTakeAcks : Prop :=
  ((∀ (s : State) (p : Port) (f : Folio), portsTrain s = true → (getPort s p).st = .up → Folio.stamped f = false →
    Folio.crcOk f = true → malformed s f = none → wouldUse s f = true → Folio.kind f = 2 → mode s = .native →
    s.power.st = .s0 ∨ s.power.st = .s1 →
    (mergeHolds s (Folio.channel f) f.w2 0 = false → s.spine.ctlQueue.length < 4 →
      ∃ t, exec (.merge p ⟨.whole f, none⟩) s = .next t ∧ mergeHolds t (Folio.channel f) f.w2 0 = true ∧
        (s.power.waking = none → t.power = (if s.power.entryBegun = true then
          { s.power with waking := some 1, wakeAt := s.now, counts := bump s.power.counts 16 } else s.power)) ∧
        (s.power.waking ≠ none → s.power.waking ≠ some 3 → t.power = s.power) ∧
        t = { setPort s p { getPort s p with counts := (getPort s p).counts.modify 5 (· + 1) } with
          spine := { (setPort s p { getPort s p with counts := (getPort s p).counts.modify 5 (· + 1) }).spine with
            mergeMem := t.spine.mergeMem, ctlQueue := s.spine.ctlQueue ++ [(p, f)] }
          power := t.power }) ∧
    (mergeHolds s (Folio.channel f) f.w2 0 = true →
      exec (.merge p ⟨.whole f, none⟩) s =
        .next (setPort s p { getPort s p with counts := (getPort s p).counts.modify 6 (· + 1) }))) ∧
  (∀ (s : State) (u v : RxUnit), (getPort s .east).st = .up → (getPort s .west).st = .up →
    exec (.merge .east ⟨u, some v⟩) s = exec (.merge .west ⟨v, some u⟩) s ∧
    (∀ t, exec (.merge .east ⟨u, none⟩) s = .next t → (getPort t .west).st = .up →
      exec (.merge .east ⟨u, some v⟩) s = exec (.merge .west ⟨v, none⟩) t))) ∧
  (∀ (s : State) (l : List MergeEntry) (m : MergeEntry), s.spine.mergeMem = l ++ [m] →
    ∃ t, exec .mergeEntryExpire s = .next t ∧ m.time + 1000000 ≤ t.now ∧
      t = clockedAs t { s with spine := { s.spine with mergeMem := l } }) ∧
  (∀ (s : State) (p : Port) (v : Folio), portsTrain s = true → (getPort s p).st = .up → fillable s v = true →
    (∀ f rest, s.larder.reports = f :: rest → isAck f = true → dueOn f p = true → dueOn f (otherPort p) = false →
      mayLeave s f = true → f.payload.length ≤ v.payload.length → (∀ g ∈ rest, g.kind ≠ 6) →
      (∀ g ∈ rest, (g.dueEast || g.dueWest) = true) → s.larder.waiting = [] → s.cellar.failAt = none ∨ coreWorks s = true →
      ∃ t, exec (.vacancyFill p v) s = .next t ∧ t.wire = Sent.folio p (ownFolio s f) :: s.wire ∧ t.larder.reports = rest ∧
        t = { s with wire := t.wire, larder := { s.larder with reports := rest } }) ∧
    ((∀ g ∈ s.larder.reports, fitsVacancy s p v.payload.length g = false) →
      (∀ g ∈ s.larder.waiting, g.kind = 6 → fitsVacancy s p v.payload.length g = false) →
      exec (.vacancyFill p v) s = .next s) ∧
    (s.cellar.failAt ≠ none → coreWorks s = false → exec (.vacancyFill p v) s = .next s))

/-! ### Ring management, splices, the bypass and the self-test -/

/-- RING_MAP is stored with its epoch, count and inserted bits and changes nothing else but the SPL sequences acted on; a
sequence already acted on is a twin and does nothing (R79, R101, R102). ENUM_START sets the epoch; with reassign an unpinned
node drops its address and a pinned one keeps it; and a node whose self-test has passed, with room and both ports UP, queues
its ENUM_CLAIM with that epoch, before the end of step 6 only when step 6 ends (R102, R103, R421). Nothing else changes but
the SPL sequences acted on. ADDRESS_ASSIGN: a node named with an address that a node may take holds it and its position when
it has no pin, holds its pin when it has one and the entry does not say pinconflict, and the entry's address when it does,
and reports JOIN with both through queue 0x01, which clears the tamper flag; the records of failed self-tests that wait for a
JOIN then go to queue 0x02 (R105, R109, R417); a node named in no entry keeps both (R102 to R104). -/
def Obligations.RingMapEnumerationAndAssignment : Prop :=
  (∀ (s : State) (q epoch : Word) (size : Nat) (ins : List Bool), splHeard s = true → 1 ≤ size → size ≤ 1024 →
    (q ∉ s.spine.splSeen →
      ∃ t, exec (.ringMap q epoch size ins) s = .next t ∧
        t.spine.ringMap = some { epoch := epoch, size := size, inserted := ins.take size } ∧ q ∈ t.spine.splSeen ∧
        t = { s with spine := { s.spine with ringMap := t.spine.ringMap, splSeen := (q :: s.spine.splSeen).take 64 } }) ∧
    (q ∈ s.spine.splSeen → exec (.ringMap q epoch size ins) s = .next s)) ∧
  (∀ (s : State) (q epoch : Word) (reassign : Bool), splHeard s = true → q ∉ s.spine.splSeen → mode s = .native →
    ∃ t, exec (.enumStart q epoch reassign) s = .next t ∧ t.addr.epoch = epoch ∧
      t.addr.addr = (if reassign = true ∧ s.arch.pin = none then 0xFFF else s.addr.addr) ∧
      (s.spine.selfTestPassed = true → s.start.stage = 0 → portUp s .east = true → portUp s .west = true →
        s.larder.waiting = [] → reportLevel s ≤ 247 →
        ∃ f ∈ t.larder.reports, f.kind = 5 ∧ f.spec = 2 ∧ f.payload.take 4 = wordBytes epoch ∧ f.payload.length = 36) ∧
      (s.spine.selfTestPassed = true → s.start.stage = 6 → t.start.claimDue = some epoch ∧ t.larder = s.larder) ∧
      (s.spine.selfTestPassed = false → t.start = s.start ∧ t.larder = s.larder) ∧
      t = queuedAs t { s with
        addr := { s.addr with epoch := epoch, addr := t.addr.addr }
        spine := { s.spine with splSeen := (q :: s.spine.splSeen).take 64 }
        start := { s.start with claimDue := t.start.claimDue } }) ∧
  (∀ (s : State) (q epoch : Word) (es : List AssignEntry), splHeard s = true → q ∉ s.spine.splSeen → 1 ≤ es.length →
    es.length ≤ 63 →
    (∀ e, es.find? (fun e => e.serial == Config.serialFuses) = some e → e.addr ≠ 0x000 → e.addr ≠ 0xFFF → s.start.stage = 0 →
      ∃ t, exec (.addressAssign q epoch es) s = .next t ∧ t.addr.epoch = epoch ∧ t.addr.pos = e.pos ∧
        t.addr.addr = (match s.arch.pin with
          | none => e.addr
          | some pin => if e.pinconflict then e.addr else pin) ∧
        reportQueued s t 0x0010 (joinPayload s).length (fun b =>
          b.take 8 = longBytes Config.serialFuses ∧ wordAt b 12 = pack [(e.pos.toNat, 16), (t.addr.addr.toNat, 0)]) ∧
        (s.larder.events.length + s.spine.untold.length ≤ 256 → t.larder.events = s.larder.events ++ s.spine.untold) ∧
        t = reportedAs t (queuedAs t { s with
          addr := { s.addr with
            addr := t.addr.addr, pos := e.pos, pinConflict := s.arch.pin.isSome && e.pinconflict, epoch := epoch
            lastAddr := t.addr.lastAddr, lastPos := e.pos, tamperSinceJoin := false }
          spine := { s.spine with splSeen := (q :: s.spine.splSeen).take 64, untold := [] }
          mantel := { s.mantel with
            east := { s.mantel.east with reqDue := t.mantel.east.reqDue }
            west := { s.mantel.west with reqDue := t.mantel.west.reqDue } }
          fresh := t.fresh })) ∧
    ((∀ e ∈ es, e.serial ≠ Config.serialFuses) →
      ∃ t, exec (.addressAssign q epoch es) s = .next t ∧
        t = { s with
          addr := { s.addr with epoch := epoch }, spine := { s.spine with splSeen := (q :: s.spine.splSeen).take 64 } }))

/-- SPLICE_WINDOW: a leave that names this node and that no cause of R72, R77 or R79 refuses is held, as is a return whose
T_w is not past, each answered by SPL_ANSWER with result 0 through queue 0x01; a window that names another position is
watched (R75, R77, R102). A cause that refuses a leave is its result, and a T_w already past refuses a return with result 4;
nothing is then held. Nothing else changes but the SPL sequences acted on. At the T_w of its leave window, when it watches no
window that starts by then, the node sends GSP with cause 0x06 and LEAVE, both on each port of a ring mode (log 88, DESIGN
CHOICE: whatever the port's state), closes its bypass unless EXTEST drives it from its cell, and stays bridged, its self-test
due again in 10 s (R64, R71, R73, R77, R113, R301); the GSP counts as sent (R394), and under policy 10 of CFG_BYPASS a run of
more than one is reported (R40; that EVENT 0x0107 reports it is log 87, DESIGN CHOICE). On the first tick at which Mantel
time has reached T_w + W/2 of its return window, at once when that is past (log 19, DEDUCED), it is no longer bridged by the
leave, and BYP_HOLD goes high when the other conditions of R71 hold (R76, R77); after S4 the Cellar RTC keeps that instant
(R405, R418). At a window's end a port that faced it holds fast-acquire no longer, and one still not UP is reported by LINK
(R75, R81). -/
def Obligations.SpliceWindowsLeavesAndReturns : Prop :=
  (∀ (s : State) (q : Word) (pos : BitVec 16) (tw : Nat) (w : Word), splHeard s = true → q ∉ s.spine.splSeen →
    (∀ r, bypassRefusal s (decide (tw < mNs s)) = some r →
      ∃ t, exec (.spliceWindow q Config.serialFuses pos 1 tw w) s = .next t ∧ answerQueued s t q 5 r ∧
        t = reportedAs t (queuedAs t { s with spine := { s.spine with splSeen := (q :: s.spine.splSeen).take 64 } })) ∧
    (bypassRefusal s (decide (tw < mNs s)) = none →
      ∃ t, exec (.spliceWindow q Config.serialFuses pos 1 tw w) s = .next t ∧ answerQueued s t q 5 0 ∧
        t = queuedAs t { s with spine := { s.spine with
          leaveWin := some { tw := tw, len := w.toNat * 1000, seq := q }, splSeen := (q :: s.spine.splSeen).take 64 } }) ∧
    (mNs s ≤ tw →
      ∃ t, exec (.spliceWindow q Config.serialFuses pos 2 tw w) s = .next t ∧ answerQueued s t q 5 0 ∧
        t = queuedAs t { s with spine := { s.spine with
          returnWin := some { tw := tw, len := w.toNat * 1000, seq := q }, splSeen := (q :: s.spine.splSeen).take 64 } }) ∧
    (tw < mNs s →
      ∃ t, exec (.spliceWindow q Config.serialFuses pos 2 tw w) s = .next t ∧ answerQueued s t q 5 4 ∧
        t = queuedAs t { s with spine := { s.spine with splSeen := (q :: s.spine.splSeen).take 64 } }) ∧
    (∀ target, target ≠ Config.serialFuses → ringMode s = true →
      ∃ t, exec (.spliceWindow q target pos 1 tw w) s = .next t ∧
        t = { s with spine := { s.spine with
          watched := s.spine.watched ++ [(pos, { tw := tw, len := w.toNat * 1000, seq := q })]
          splSeen := (q :: s.spine.splSeen).take 64 } })) ∧
  ((∀ (s : State) (w : Window), splHeard s = true → s.spine.leaveWin = some w → (∀ x ∈ s.spine.watched, w.tw < x.2.tw) →
    ∃ t, exec .spliceWindowStart s = .next t ∧ t.spine.bypHold = (s.spine.bypHold && cellDrives s) ∧
      t.spine.leaveWin = none ∧ t.spine.leftAt = some t.now ∧ t.spine.selfTestDue = some (t.now + 10000000000) ∧
      (ringMode s = true → t.wire = .leave .west 16 :: .leave .east 16 ::
        .folio .west (mkFolio 6 0 s.addr.addr.toNat 6 s.addr.reportSeq 0 (gspPayload s)) ::
        .folio .east (mkFolio 6 0 s.addr.addr.toNat 6 s.addr.reportSeq 0 (gspPayload s)) :: s.wire) ∧
      (0 < 4 * 2 ^ 32 + s.mantel.addend → w.tw ≤ mNs t) ∧
      t.spine.watched = s.spine.watched ∧
      (∀ m, s.spine.ringMap = some m → strapField s 7 1 0 = 2 → 1 < ownRun s m → eventRaised s t 0x0107) ∧
      t = clockedAs t (reportedAs t (queuedAs t { s with
        spine := { s.spine with
          east := t.spine.east, west := t.spine.west, bypHold := t.spine.bypHold, senseDue := t.spine.senseDue
          leaveWin := none, leftAt := some t.now, selfTestDue := t.spine.selfTestDue }
        cellar := { s.cellar with
          counts := if ringMode s = true ∨ mode s = .leaf then bump s.cellar.counts 1 else s.cellar.counts }
        power := { s.power with uncoordinated := t.power.uncoordinated }, wire := t.wire }))) ∧
  (∀ (s : State) (w : Window) (d : Nat), splHeard s = true → s.spine.leftAt = some d → s.spine.returnWin = some w →
    ∃ t, exec .spliceReturn s = .next t ∧ t.spine.leftAt = none ∧ t.spine.returnWin = none ∧ t.power.uncoordinated = false ∧
      (0 < 4 * 2 ^ 32 + s.mantel.addend → w.tw + w.len / 2 ≤ mNs t ∧
        (t.mantel.time : Int) <
          max (s.mantel.time + 1 : Int) (((w.tw + w.len / 2 : Nat) : Int) * 2 ^ 32 + (4 * 2 ^ 32 + s.mantel.addend))) ∧
      (s.power.uncoordinated = true → eventRaised s t 0x0106) ∧
      (insertAllowed { s with spine := { s.spine with leftAt := none, returnWin := none } } = true → t.spine.bypHold = true) ∧
      (insertAllowed { s with spine := { s.spine with leftAt := none, returnWin := none } } = false →
        t.spine.bypHold = s.spine.bypHold) ∧
      t = clockedAs t (reportedAs t (queuedAs t { s with
        spine := { s.spine with
          east := t.spine.east, west := t.spine.west, bypHold := t.spine.bypHold, senseDue := t.spine.senseDue, leftAt := none
          returnWin := none }
        power := { s.power with uncoordinated := false } }))) ∧
  (∀ (s : State) (a : Nat), splHeard s = true → s.spine.leftAt = none → s.cellar.rtcAlarm = some a → awaitsReturn s = true →
    ∃ t, exec .spliceReturn s = .next t ∧ t.cellar.rtcAlarm = none ∧ (insertAllowed s = true → t.spine.bypHold = true) ∧
      (insertAllowed s = false → t.spine.bypHold = s.spine.bypHold) ∧
      (s.cellar.rtcValid = true → a + 690000000 ≤ t.cellar.rtc) ∧
      t = clockedAs t (queuedAs t { s with
        cellar := { s.cellar with rtcAlarm := none }
        spine := { s.spine with
          east := t.spine.east, west := t.spine.west, bypHold := t.spine.bypHold, senseDue := t.spine.senseDue } })) ∧
  (∀ (s : State) (e : Nat), splHeard s = true → s.spine.east.windowEnd = some e → s.spine.west.windowEnd = none →
    0 < 4 * 2 ^ 32 + s.mantel.addend →
    ∃ t, exec .spliceWindowEnd s = .next t ∧ t.spine.east.windowEnd = none ∧ e ≤ mNs t ∧
      (s.spine.east.fastUntil = 0 → t.spine.east.fastNow = false) ∧ (s.spine.east.st ≠ .up → linkQueued s t) ∧
      t = clockedAs t (queuedAs t { s with
        spine := { s.spine with
          east := { s.spine.east with
            windowEnd := none, fastNow := t.spine.east.fastNow, inWindow := t.spine.east.inWindow } } })))

/-- The bypass: with every condition of R71 met and no S4 return awaited, BYP_HOLD goes high, and both ports train from DOWN
(R57, R74); with one not met, it goes low, after LEAVE on each port when power has failed (R71, R386); loss of the RING PLL
closes it (R71). Under EXTEST neither moves it while its cell drives it (R301, R302). Nothing else changes but the ports, the
next sense sample, queue 0x01 and, at an uncoordinated return from S4, its EVENT, after which no return is awaited (R76,
R418). The sense inputs (R72): with BYP_HOLD high, both high clears the retries (log 19, DEDUCED), and a low one is a switch
fault, logged with EVENT 0x0105, that closes the bypass unless EXTEST drives it from its cell (R301) and, up to three times,
sets a retry 1 s later; with BYP_HOLD low, a high one is a switch stuck inserted, until a sample with both low (log 86,
DESIGN CHOICE). Samples come every second. The retry comes at its instant and is counted. The loopback self-test with the
bypass closed, at start-up from the end of steps 2 and 3 on (R73, R414): with no CRC failure and delays within 2 ns it
passes, and both loopback delays are kept; otherwise the node stays bridged, EVENT 0x0D03 is kept for the reports after the
next JOIN (R417) and the test is due again in 10 s. The retry comes at its instant. -/
def Obligations.BypassSensesAndSelfTest : Prop :=
  ((∀ s : State, insertAllowed s = true → awaitsReturn s = false →
    ∃ t, exec .bypassInsert s = .next t ∧ t.spine.bypHold = true ∧
      (s.spine.bypHold = false → t.spine.east.st = .down ∧ t.spine.west.st = .down) ∧
      (s.spine.bypHold = false → s.start.cause = .s4Wake → s.power.uncoordinated = true →
        t.cellar.rtcAlarm = none ∧ t.power.uncoordinated = false ∧ eventRaised s t 0x0106) ∧
      (s.power.uncoordinated = false → t.cellar.rtcAlarm = s.cellar.rtcAlarm ∧ t.power.uncoordinated = false) ∧
      t = reportedAs t (queuedAs t { s with
        cellar := { s.cellar with rtcAlarm := t.cellar.rtcAlarm }
        spine := { s.spine with
          east := t.spine.east, west := t.spine.west, bypHold := true, senseDue := t.spine.senseDue }
        power := { s.power with uncoordinated := t.power.uncoordinated } })) ∧
  (∀ s : State, cellDrives s = true → exec .bypassRelease s = .next s) ∧
  (∀ s : State, s.spine.bypHold = true → insertAllowed s = false → cellDrives s = false →
    ∃ t, exec .bypassRelease s = .next t ∧ t.spine.bypHold = false ∧ t.spine.east.st = .down ∧ t.spine.west.st = .down ∧
      t.wire = (if s.cellar.failAt = none then s.wire else .leave .west 16 :: .leave .east 16 :: s.wire) ∧
      t = queuedAs t { s with
        spine := { s.spine with
          east := t.spine.east, west := t.spine.west, bypHold := false, senseDue := t.spine.senseDue }
        wire := t.wire }) ∧
  (∀ s : State, ringOn s = true →
    ∃ t, exec .ringPllLoss s = .next t ∧ t.spine.pllLocked = false ∧ t.spine.bypHold = (s.spine.bypHold && cellDrives s) ∧
      t = queuedAs t { s with
        spine := { s.spine with
          east := t.spine.east, west := t.spine.west, bypHold := t.spine.bypHold, senseDue := t.spine.senseDue
          pllLocked := false } })) ∧
  (∀ s : State,
    (portsTrain s = true → switchFitted s = true →
      (s.spine.bypHold = true →
        ∃ t, exec (.bypSenseSample true true) s = .next t ∧ s.spine.senseDue ≤ t.now ∧
          t = clockedAs t { s with spine := { s.spine with switchRetries := 0, senseDue := t.now + 1000000000 } }) ∧
      (∀ e w, s.spine.bypHold = true → (e && w) = false →
        ∃ t, exec (.bypSenseSample e w) s = .next t ∧ t.spine.bypHold = cellDrives s ∧ t.spine.switchFaultSeen = true ∧
          eventRaised s t 0x0105 ∧
          t.spine.switchFaultsLogged = s.spine.switchFaultsLogged + 1 ∧
          (s.spine.switchRetries < 3 → t.spine.retryDue = some (t.now + 1000000000) ∧
            t.spine.switchFailed = s.spine.switchFailed) ∧
          (3 ≤ s.spine.switchRetries → t.spine.switchFailed = true ∧ t.spine.retryDue = s.spine.retryDue) ∧
          t = clockedAs t (reportedAs t (queuedAs t { s with
            spine := { s.spine with
              east := t.spine.east, west := t.spine.west, bypHold := t.spine.bypHold, senseDue := t.spine.senseDue
              switchFaultSeen := true, switchFaultsLogged := s.spine.switchFaultsLogged + 1
              switchFailed := t.spine.switchFailed, retryDue := t.spine.retryDue } }))) ∧
      (∀ e w, s.spine.bypHold = false → (e || w) = true →
        ∃ t, exec (.bypSenseSample e w) s = .next t ∧ t.spine.stuck = true ∧
          t = clockedAs t (reportedAs t { s with
            spine := { s.spine with
              senseDue := t.now + 1000000000, stuck := true, switchFaultSeen := t.spine.switchFaultSeen
              switchFaultsLogged := t.spine.switchFaultsLogged } })) ∧
      (s.spine.bypHold = false →
        ∃ t, exec (.bypSenseSample false false) s = .next t ∧ s.spine.senseDue ≤ t.now ∧
          t = clockedAs t { s with spine := { s.spine with stuck := false, senseDue := t.now + 1000000000 } })) ∧
    (∀ d, s.spine.retryDue = some d →
      ∃ t, exec .bypassRetry s = .next t ∧ t.spine.retryDue = none ∧ t.spine.switchRetries = s.spine.switchRetries + 1 ∧
        d ≤ t.now ∧ (s.power.uncoordinated = false → t.cellar.rtcAlarm = s.cellar.rtcAlarm) ∧
        t = clockedAs t (reportedAs t (queuedAs t { s with
          cellar := { s.cellar with rtcAlarm := t.cellar.rtcAlarm }
          spine := { s.spine with
            east := t.spine.east, west := t.spine.west, bypHold := t.spine.bypHold, senseDue := t.spine.senseDue
            retryDue := none, switchRetries := s.spine.switchRetries + 1 }
          power := { s.power with uncoordinated := t.power.uncoordinated } })))) ∧
  ((∀ (s : State) (port lane : Byte) (crc east west : Nat), portsTrain s = true → s.spine.bypHold = false →
    (crc = 0 → east ≤ west + 2000 → west ≤ east + 2000 →
      ∃ t, exec (.selfTest port lane crc east west) s = .next t ∧ t.spine.selfTestPassed = true ∧ t.spine.selfTestFailed = false ∧
        t.mantel.east.loopbackPs = east ∧ t.mantel.west.loopbackPs = west ∧
        (s.power.uncoordinated = false → t.cellar.rtcAlarm = s.cellar.rtcAlarm) ∧
        t = reportedAs t (queuedAs t { s with
          cellar := { s.cellar with rtcAlarm := t.cellar.rtcAlarm }
          mantel := { s.mantel with
            east := { s.mantel.east with loopbackPs := east }, west := { s.mantel.west with loopbackPs := west } }
          spine := { s.spine with
            east := t.spine.east, west := t.spine.west, bypHold := t.spine.bypHold, senseDue := t.spine.senseDue
            internalSelfTest := !switchFitted s, selfTestPassed := true, selfTestFailed := false
            selfTestDue := t.spine.selfTestDue }
          power := { s.power with uncoordinated := t.power.uncoordinated } })) ∧
    ((crc ≠ 0 ∨ west + 2000 < east ∨ east + 2000 < west) →
      ∃ t, exec (.selfTest port lane crc east west) s = .next t ∧ t.spine.selfTestDue = some (s.now + 10000000000) ∧
        t.spine.selfTestFailed = true ∧ insertAllowed t = false ∧
        (∃ e : EventRec, t.spine.untold = s.spine.untold ++ [e] ∧ e.code = 0x0D03) ∧
        t.start.selfTestsSinceBoot = s.start.selfTestsSinceBoot + 1 ∧
        t = reportedAs t { s with
          mantel := { s.mantel with
            east := { s.mantel.east with loopbackPs := east }, west := { s.mantel.west with loopbackPs := west } }
          spine := { s.spine with
            internalSelfTest := !switchFitted s, selfTestFailed := true, selfTestDue := some (s.now + 10000000000)
            untold := t.spine.untold }
          start := { s.start with
            selfTestFailures := t.start.selfTestFailures, selfTestsSinceBoot := s.start.selfTestsSinceBoot + 1 } })) ∧
  (∀ (s : State) (d : Nat), s.spine.selfTestDue = some d →
    ∃ t, exec .selfTestRetry s = .next t ∧ d ≤ t.now ∧
      t = clockedAs t { s with spine := { s.spine with selfTestDue := none } }))

/-! ### The Hall: judging, acceptance, dispatch and completion -/



/-- From s to t an ACK or NACK of a payload is queued: at an assigned ring node whose EAST port is UP, with a unit free and no other ACK or
NACK waiting for one, it is a new report of queue 0x01 under the next report sequence (R105, R107, R108, R205). -/
def hallAnswers (s t : State) (spec : Half) (payload : List Byte) : Prop :=
  assigned s = true → portUp s .east = true → leafRole s = false → unitFree s = true →
    (∀ g ∈ s.larder.waiting, isAck g = false) →
    ∃ r ∈ t.larder.reports, r.kind = 3 ∧ r.spec = spec ∧ r.seq = s.addr.reportSeq ∧ r.payload = payload

/-- A folio stands at the head of the Spine's queue for a channel c, the Hall judges, no held message is due, and the folio passes every
test of R118 before that of its sequence: its role's key, tag, command and right. -/
def reachesSequence (s : State) (p : Port) (f : Folio) (rest : List (Port × Folio)) (c : Channel) (key : Block) : Prop :=
  hallJudges s = true ∧ s.spine.ctlQueue = (p, f) :: rest ∧ channel s (Folio.channel f) = some c ∧
    (∀ x ∈ s.hall.channels, ∀ h ∈ x.held, h.seq ≠ x.expected) ∧ roleKey s (messageOf f).role.toNat = some key ∧
    tagOk key f = true ∧ commandKnown (messageOf f).cmd = true ∧
    leastRole (messageOf f).cmd (messageOf f).body ≤ (messageOf f).role.toNat

/-- The head of the Spine's queue is judged when no held message is due, and its tests are in the order of R118: a role
without a key is refused by NACK 0x08 and a wrong tag by NACK 0x01, each counted for its role; the NACK waits in queue 0x01
at an assigned node whose EAST port is UP. Nothing is accepted, no channel moves, and nothing else changes. A message whose
tag, command, right and body hold and whose sequence is the one its channel expects opens its journal write, when its channel
has room and the journal has space and no held message is due (R118, R121, R128); of CUEs fewer than 64 are pending. The
channel's counters wait for the commit word. The sequence tests of R118 on a message that passes those before them: one below
the sequence its channel expects is a duplicate and is acknowledged again, with its duplicate bit, and changes nothing; one
64 or more ahead draws NACK 0x04; one ahead by less, with a body that holds and with room on its channel, in the journal and
among the 64 held, is held in place of a held copy of its sequence and draws NACK 0x03 (R119, R121, R122); and an expected
CUE with 64 pending draws NACK 0x0A. Nothing is accepted, and no channel's counters move. The other tests of R118 on a
message whose tag holds, no held message being due: an unknown command draws NACK 0x09; a role below the right of its command
NACK 0x02, with an audit entry of outcome 3 (R155, R156); and, of a message less than 64 ahead that passes those, a malformed
body NACK 0x06, a channel or journal without room NACK 0x05, and so does one ahead of its channel that no hold has room for
(R121, R122, R128). Nothing is accepted, no channel moves, and nothing else changes. -/
def Obligations.MessagesAreJudgedByTagAndSequence : Prop :=
  (∀ (s : State) (p : Port) (f : Folio) (rest : List (Port × Folio)) (c : Channel), hallJudges s = true →
    s.spine.ctlQueue = (p, f) :: rest → channel s (Folio.channel f) = some c →
    (∀ x ∈ s.hall.channels, ∀ h ∈ x.held, h.seq ≠ x.expected) →
    (roleKey s (messageOf f).role.toNat = none →
      ∃ t, exec .ctlJudge s = .next t ∧
        hallAnswers s t 0x0002 (nackPayload s (messageOf f).chan f.w2 0x08) ∧
        t = queuedAs t { s with
          spine := { s.spine with ctlQueue := rest }
          hall := { s.hall with keyless := s.hall.keyless.modify (messageOf f).role.toNat (· + 1) } }) ∧
    (∀ key, roleKey s (messageOf f).role.toNat = some key → tagOk key f = false →
      ∃ t, exec .ctlJudge s = .next t ∧
        hallAnswers s t 0x0002 (nackPayload s (messageOf f).chan f.w2 0x01) ∧
        t = queuedAs t { s with
          spine := { s.spine with ctlQueue := rest }
          hall := { s.hall with tagFails := s.hall.tagFails.modify (messageOf f).role.toNat (· + 1) } })) ∧
  (∀ (s : State) (p : Port) (f : Folio) (rest : List (Port × Folio)) (c : Channel) (key : Block), hallJudges s = true →
    s.spine.ctlQueue = (p, f) :: rest → channel s (Folio.channel f) = some c →
    (∀ x ∈ s.hall.channels, ∀ h ∈ x.held, h.seq ≠ x.expected) →
    roleKey s (messageOf f).role.toNat = some key → tagOk key f = true → commandKnown (messageOf f).cmd = true →
    leastRole (messageOf f).cmd (messageOf f).body ≤ (messageOf f).role.toNat → f.w2 = c.expected →
    bodyOk s (messageOf f).chan (messageOf f).cmd (messageOf f).body = true →
    c.held.length + undispatched s (messageOf f).chan < 64 → entrySize (messageOf f).body ≤ journalFree s →
    ((messageOf f).cmd = 0x0010 → pendingCues s < 64) →
    ∃ t, exec .ctlJudge s = .next t ∧ t.hall.writing = some (messageOf f) ∧
      t = { s with spine := { s.spine with ctlQueue := rest }, hall := { s.hall with writing := some (messageOf f) } }) ∧
  (∀ (s : State) (p : Port) (f : Folio) (rest : List (Port × Folio)) (c : Channel) (key : Block), reachesSequence s p f rest c key →
    (0x80000000 ≤ (f.w2 - c.expected).toNat →
      ∃ t, exec .ctlJudge s = .next t ∧ hallAnswers s t 0x0001 (ackPayload s (messageOf f).chan f.w2 true) ∧
        t = queuedAs t { s with spine := { s.spine with ctlQueue := rest } }) ∧
    (64 ≤ (f.w2 - c.expected).toNat → (f.w2 - c.expected).toNat < 0x80000000 →
      ∃ t, exec .ctlJudge s = .next t ∧ hallAnswers s t 0x0002 (nackPayload s (messageOf f).chan f.w2 0x04) ∧
        t = queuedAs t { s with spine := { s.spine with ctlQueue := rest } }) ∧
    (bodyOk s (messageOf f).chan (messageOf f).cmd (messageOf f).body = true → entrySize (messageOf f).body ≤ journalFree s →
      (c.held.filter (fun x => x.seq != f.w2)).length + undispatched s (messageOf f).chan < 64 →
      (0 < (f.w2 - c.expected).toNat → (f.w2 - c.expected).toNat < 64 → heldLevel s < 64 →
        ∃ t, exec .ctlJudge s = .next t ∧ hallAnswers s t 0x0002 (nackPayload s (messageOf f).chan f.w2 0x03) ∧
          t = queuedAs t { s with
            spine := { s.spine with ctlQueue := rest }
            hall := { s.hall with channels := s.hall.channels.map fun x =>
              if x.code = c.code then { c with held := c.held.filter (fun y => y.seq != f.w2) ++ [messageOf f] } else x } }) ∧
      (f.w2 = c.expected → (messageOf f).cmd = 0x0010 → 64 ≤ pendingCues s →
        ∃ t, exec .ctlJudge s = .next t ∧ hallAnswers s t 0x0002 (nackPayload s (messageOf f).chan f.w2 0x0A) ∧
          t = queuedAs t { s with spine := { s.spine with ctlQueue := rest } }))) ∧
  (∀ (s : State) (p : Port) (f : Folio) (rest : List (Port × Folio)) (c : Channel) (key : Block), hallJudges s = true →
    s.spine.ctlQueue = (p, f) :: rest → channel s (Folio.channel f) = some c →
    (∀ x ∈ s.hall.channels, ∀ h ∈ x.held, h.seq ≠ x.expected) →
    roleKey s (messageOf f).role.toNat = some key → tagOk key f = true →
    (commandKnown (messageOf f).cmd = false →
      ∃ t, exec .ctlJudge s = .next t ∧ hallAnswers s t 0x0002 (nackPayload s (messageOf f).chan f.w2 0x09) ∧
        t = queuedAs t { s with spine := { s.spine with ctlQueue := rest } }) ∧
    (commandKnown (messageOf f).cmd = true → (messageOf f).role.toNat < leastRole (messageOf f).cmd (messageOf f).body →
      ∃ t e, exec .ctlJudge s = .next t ∧ hallAnswers s t 0x0002 (nackPayload s (messageOf f).chan f.w2 0x02) ∧
        t.arch.audit.getLast? = some e ∧ e.serial = s.arch.auditNext ∧ e.chan = (messageOf f).chan ∧ e.cmd = (messageOf f).cmd ∧
        e.seq = f.w2 ∧ e.role = (messageOf f).role ∧ e.outcome = 3 ∧ e.result = 0 ∧ e.rebuilt = false ∧
        t = queuedAs t { s with
          spine := { s.spine with ctlQueue := rest }
          arch := { s.arch with audit := t.arch.audit, auditNext := s.arch.auditNext + 1 } }) ∧
    (commandKnown (messageOf f).cmd = true → leastRole (messageOf f).cmd (messageOf f).body ≤ (messageOf f).role.toNat →
      (f.w2 - c.expected).toNat < 64 →
      (bodyOk s (messageOf f).chan (messageOf f).cmd (messageOf f).body = false →
        ∃ t, exec .ctlJudge s = .next t ∧ hallAnswers s t 0x0002 (nackPayload s (messageOf f).chan f.w2 0x06) ∧
          t = queuedAs t { s with spine := { s.spine with ctlQueue := rest } }) ∧
      (bodyOk s (messageOf f).chan (messageOf f).cmd (messageOf f).body = true →
        64 < (c.held.filter (fun x => x.seq != f.w2)).length + undispatched s (messageOf f).chan + 1 ∨
          journalFree s < entrySize (messageOf f).body ∨
          (f.w2 ≠ c.expected ∧ (∀ x ∈ c.held, x.seq ≠ f.w2) ∧ 64 ≤ heldLevel s) →
        ∃ t, exec .ctlJudge s = .next t ∧ hallAnswers s t 0x0002 (nackPayload s (messageOf f).chan f.w2 0x05) ∧
          t = queuedAs t { s with spine := { s.spine with ctlQueue := rest } })))

/-- A tag is verified only under the key of the role in role[31:30] of W3: whatever keys the other roles hold, the judgement
is the same (R147). ADDRESS_PIN is taken only on the node channel: on a group or broadcast channel its body counts as
malformed, and a message that passes every earlier test, no held one being due, draws NACK 0x06; every other command's body
is judged alike on every channel (R135). -/
def Obligations.TheSignersKeyAndTheChannelOfAPin : Prop :=
  (∀ (s t : State) (p : Port) (f : Folio) (rest : List (Port × Folio)) (keys : List (Option Block)),
    s.spine.ctlQueue = (p, f) :: rest →
    keys.getD (field f.w3 31 30) none = s.arch.keys.getD (field f.w3 31 30) none → exec .ctlJudge s = .next t →
    exec .ctlJudge { s with arch := { s.arch with keys := keys } } = .next { t with arch := { t.arch with keys := keys } }) ∧
  (∀ (s : State) (chan chan' cmd : Half) (b : List Byte), cmd ≠ 0x0004 → bodyOk s chan cmd b = bodyOk s chan' cmd b) ∧
  (∀ (s : State) (p : Port) (f : Folio) (rest : List (Port × Folio)) (c : Channel) (key : Block), hallJudges s = true →
    s.spine.ctlQueue = (p, f) :: rest → channel s (Folio.channel f) = some c →
    (∀ x ∈ s.hall.channels, ∀ h ∈ x.held, h.seq ≠ x.expected) →
    roleKey s (messageOf f).role.toNat = some key → tagOk key f = true → (messageOf f).cmd = 0x0004 →
    leastRole (messageOf f).cmd (messageOf f).body ≤ (messageOf f).role.toNat → (f.w2 - c.expected).toNat < 64 →
    (messageOf f).chan ≠ 0x0000 →
    exec .ctlJudge s =
      .next (queueNack { s with spine := { s.spine with ctlQueue := rest } } (messageOf f).chan f.w2 0x06))

/-- The commit word of an open write is acceptance: the channel expects the next sequence, the entry stands in the journal
not yet dispatched under the next number with its summary in state 1, the write is closed, and the audit log holds one entry
more while it is below its 1,024 and takes the burst, and the ACK of the accepted sequence enters queue 0x01 (R4, R118, R128,
R129, R155); a burst that the energy gate does not grant leaves that entry to the next start-up and is counted (R158, R384).
Stated for channels with no held message. A failed read-back leaves the channel and the journal as they were, draws NACK
0x07, and raises EVENT 0x0203 (R127). After a power-fail detect all this holds for as long as CORE works (R131). Whatever the
read-back and whatever is held, a commit touches the Hall, the audit log, queue 0x01 and the EVENT records alone: no show, no
port state, no timing set, no frame, no key and no stored object. -/
def Obligations.JournalCommitAccepts : Prop :=
  (∀ (s : State) (m : Msg), s.hall.writing = some m → coreWorks s = true → s.cellar.isolated = false →
    ((∀ c ∈ s.hall.channels, c.held = []) → s.arch.audit.length < 1024 →
      ∃ t, exec (.journalCommit true) s = .next t ∧
        t.arch.audit.length = s.arch.audit.length + (if burstGranted s 3 then 1 else 0) ∧
        hallAnswers s t 0x0001 (ackPayload t m.chan m.seq false) ∧ wordAt (ackPayload t m.chan m.seq false) 4 = m.seq ∧
        ((∃ c ∈ s.hall.channels, c.code = m.chan) → wordAt (ackPayload t m.chan m.seq false) 8 = m.seq) ∧
        (∃ y ∈ t.hall.summaries, y.no = s.hall.nextNo ∧ y.chan = m.chan ∧ y.seq = m.seq ∧ y.cmd = m.cmd ∧ y.st = 1) ∧
        t = queuedAs t { s with
          hall := { s.hall with
            channels := s.hall.channels.map (fun c => if c.code = m.chan then { c with expected := m.seq + 1 } else c)
            entries := s.hall.entries ++
              [{ msg := { m with no := s.hall.nextNo }, no := s.hall.nextNo, dispatched := false, finished := false }]
            summaries := t.hall.summaries, overwritten := t.hall.overwritten, nextNo := s.hall.nextNo + 1
            writing := none, auditedThrough := if burstGranted s 3 then s.hall.nextNo else s.hall.auditedThrough }
          arch := { s.arch with
            audit := t.arch.audit, auditNext := s.arch.auditNext + (if burstGranted s 3 then 1 else 0) }
          cellar := { s.cellar with
            counts := if burstGranted s 3 = false ∧ s.cellar.failAt.isSome = true then bump s.cellar.counts 11 else s.cellar.counts } }) ∧
    (∃ t, exec (.journalCommit false) s = .next t ∧ eventRaised s t 0x0203 ∧
      hallAnswers s t 0x0002 (nackPayload s m.chan m.seq 0x07) ∧
      t = reportedAs t (queuedAs t { s with hall := { s.hall with writing := none } }))) ∧
  (∀ (s : State) (ok : Bool), ∃ t, exec (.journalCommit ok) s = .next t ∧
    t = reportedAs t (queuedAs t { s with
      hall := t.hall, arch := { s.arch with audit := t.arch.audit, auditNext := t.arch.auditNext } }))

/-- The items that the chapters define for QUERY, but for item 0x0502, which goes by emitter, and item 0x0902, by identifier (R141). -/
def queryItems : List Half :=
  [0x0101, 0x0201, 0x0301, 0x0302, 0x0303, 0x0401, 0x0501, 0x0601, 0x0701, 0x0702, 0x0801, 0x0901, 0x0A01, 0x0B01, 0x0B02, 0x0C01, 0x0D01]

/-- The completion record of the message reported done first, an entry of the journal: its entry is gone and its space free,
its result stands in its summary, the record takes the next number and an audit entry, and its channel is completed through
its last accepted sequence when it was the channel's only open one (R115, R124, R128, R155). A key that it carries is in
force with its fingerprint, one that it revokes is gone and its fingerprint 0, each with EVENT 0x0205 (R145, R152), and a
reader's challenge does not outlive a new installer or maker key (R160, R161). The commands that the Hall answers with a
report at their dispatch, each done with that one answer and changing nothing else (R123): STATE_QUERY gives the channel's
code and, of a channel that is kept, its expected, last accepted and completed-through sequences with result 0, else result 3
(R140); QUERY the item and argument asked, with status 0 for an item of the list and status 1 for any other, and result 0 in
each case (R141; that an unknown item is done with result 0 is log 60, DEDUCED); AUDIT_READ the serial asked, and the newest
one (R159). -/
def Obligations.CompletionsAndQueries : Prop :=
  (∀ (s : State) (d : Done) (rest : List Done) (e : Entry), s.hall.done = d :: rest → hallDispatches s = true →
    e ∈ s.hall.entries → e.no = d.no →
    ∃ t, exec .completionRecord s = .next t ∧
      (d.key = none → t.arch.keys = s.arch.keys ∧ t.arch.prints = s.arch.prints ∧ t.cellar.challenge = s.cellar.challenge) ∧
      (∀ role key, d.key = some (role, some key) → t.arch.keys = s.arch.keys.set role (some key) ∧
        t.arch.prints = s.arch.prints.set role (fingerprint key)) ∧
      (∀ role, d.key = some (role, none) → t.arch.keys = s.arch.keys.set role none ∧ t.arch.prints = s.arch.prints.set role 0) ∧
      (∀ role k, d.key = some (role, k) →
        eventRaised s t 0x0205 ∧ t.cellar.challenge = (if role = 0 then s.cellar.challenge else none)) ∧
      (∀ c ∈ s.hall.channels, c.code ≠ d.chan → c ∈ t.hall.channels) ∧
      ((∀ x ∈ s.hall.entries, x.no ≠ d.no → x.msg.chan ≠ d.chan) → ∀ c ∈ s.hall.channels, c.code = d.chan →
        seqBelow c.completed (c.expected - 1) = true → { c with completed := c.expected - 1 } ∈ t.hall.channels) ∧
      t = reportedAs t (queuedAs t { s with
        hall := { s.hall with
          done := rest, entries := s.hall.entries.filter (fun e => e.no != d.no), nextNo := s.hall.nextNo + 1
          summaries := s.hall.summaries.map (fun y =>
            if y.no = d.no ∧ y.st ≠ 3 then { y with st := 3, result := d.result, doneNo := s.hall.nextNo } else y)
          channels := t.hall.channels, auditedThrough := s.hall.nextNo }
        arch := { s.arch with
          audit := t.arch.audit, auditNext := s.arch.auditNext + 1, keys := t.arch.keys, prints := t.arch.prints
          closing := t.arch.closing }
        cellar := { s.cellar with challenge := t.cellar.challenge } })) ∧
  (∀ (s : State) (m : Msg),
    (takeDispatch s 0x0001 = some m →
      ∃ t b r, exec .stateQuery s = .next t ∧ t = finishedAs s m { doneOf m r with answers := [{ rtype := 0x0020, payload := b }] } ∧
        halfAt b 0 = halfAt m.body 0 ∧ (channel s (halfAt m.body 0) = none → r = 3) ∧
        (∀ c, channel s (halfAt m.body 0) = some c → r = 0 ∧ wordAt b 4 = c.expected ∧ wordAt b 8 = c.expected - 1 ∧
          wordAt b 12 = c.completed)) ∧
    (takeDispatch s 0x0002 = some m →
      ∃ t b, exec .query s = .next t ∧
        t = { finishedAs s m { doneOf m 0 with answers := [{ rtype := 0x0021, payload := b }] } with fresh := t.fresh } ∧
        halfAt b 0 = halfAt m.body 0 ∧ wordAt b 4 = wordAt m.body 4 ∧ (halfAt m.body 0 ∈ queryItems → byteAt b 2 = 0) ∧
        (halfAt m.body 0 ∉ queryItems → halfAt m.body 0 ≠ 0x0502 → halfAt m.body 0 ≠ 0x0902 → byteAt b 2 = 1 ∧ b.length = 8)) ∧
    (takeDispatch s 0x0051 = some m →
      ∃ t b, exec .auditRead s = .next t ∧ t = finishedAs s m { doneOf m 0 with answers := [{ rtype := 0x0021, payload := b }] } ∧
        halfAt b 0 = 0x0202 ∧ byteAt b 2 = 0 ∧ wordAt b 4 = wordAt m.body 0 ∧ wordAt b 8 = s.arch.auditNext - 1))

/-- ADDRESS_PIN stores the pin of its body for the next ADDRESS_ASSIGN, with op 0 it clears it; the address held does not
change, nor anything but the message's dispatch and its result 0 (R137). GROUP_SET of one entry (R136): op 1 joins a group
the node is not in, its channel expecting the base; op 0 leaves a group with no held message; op 2 of a group that the node
is not in does nothing and gives result 3. KEY_ENROL (R150 to R153): a wrapped key whose unwrap under the signing role's key
and whose fingerprint hold, and which no other role holds, is reported done with the key for its completion record, result 0,
the keys in force not yet changed; an unwrap that fails, or a fingerprint that does not match, gives result 7, and one that
another role holds result 3. Revoke reports done with no key. -/
def Obligations.PinsGroupsAndKeys : Prop :=
  (∀ (s : State) (m : Msg), takeDispatch s 0x0004 = some m →
    (field (wordAt m.body 0) 31 28 = 1 →
      ∃ t, exec .addressPin s = .next t ∧
        t = finishedAs { s with arch := { s.arch with pin := some (BitVec.ofNat 12 (field (wordAt m.body 0) 11 0)) } } m
          (doneOf m 0)) ∧
    (field (wordAt m.body 0) 31 28 = 0 →
      ∃ t, exec .addressPinClear s = .next t ∧ t = finishedAs { s with arch := { s.arch with pin := none } } m (doneOf m 0))) ∧
  (∀ (s : State) (m : Msg) (g : Half) (op : Nat) (base : Word), takeDispatch s 0x0003 = some m →
    groupEntries ((wordAt m.body 0).toNat % 256) (m.body.drop 4) = [(g, op, base)] →
    (op = 1 → channel s g = none →
      ∃ t, exec .groupSet s = .next t ∧
        t = finishedAs { s with hall := { s.hall with
          channels := s.hall.channels ++
            [{ code := g, expected := base, completed := base - 1, held := [] }] } } m (doneOf m 0)) ∧
    (∀ c, op = 0 → channel s g = some c → c.held = [] →
      ∃ t, exec .groupSet s = .next t ∧
        t = finishedAs { s with hall := { s.hall with channels := s.hall.channels.filter (fun x => x.code != g) } } m (doneOf m 0)) ∧
    (op = 2 → channel s g = none → ∃ t, exec .groupSet s = .next t ∧ t = finishedAs s m (doneOf m 3))) ∧
  (∀ (s : State) (m : Msg), takeDispatch s 0x0050 = some m → (∀ d ∈ s.hall.done, d.no ≠ m.no) →
    (∀ kek key, keyOp m = 1 → roleKey s m.role.toNat = some kek → keyUnwrap kek ((m.body.drop 4).take 24) = some key →
      (fingerprint key = longAt m.body 28 → fingerprintTaken s (keyTarget m) (longAt m.body 28) = false →
        ∃ t, exec .keyEnrol s = .next t ∧ t = finishedAs s m { doneOf m 0 with key := some (keyTarget m, some key) }) ∧
      (fingerprint key = longAt m.body 28 → fingerprintTaken s (keyTarget m) (longAt m.body 28) = true →
        ∃ t, exec .keyEnrol s = .next t ∧ t = finishedAs s m (doneOf m 3)) ∧
      (fingerprint key ≠ longAt m.body 28 → ∃ t, exec .keyEnrol s = .next t ∧ t = finishedAs s m (doneOf m 7))) ∧
    (∀ kek, keyOp m = 1 → roleKey s m.role.toNat = some kek → keyUnwrap kek ((m.body.drop 4).take 24) = none →
      ∃ t, exec .keyEnrol s = .next t ∧ t = finishedAs s m (doneOf m 7)) ∧
    (keyOp m = 0 →
      ∃ t, exec .keyRevoke s = .next t ∧ t = finishedAs s m { doneOf m 0 with key := some (keyTarget m, none) }))

/-! ### Objects and the census -/

/-- The content of the shadow suits the class of its transfer (R232, R243, R247, R380, R381). -/
def contentHolds (s : State) (r : Transfer) : Prop :=
  (r.cls = 1 ∧ r.size ∈ slateSizes s) ∨ (r.cls = 2 ∧ r.size = 8192) ∨
    (r.cls = 3 ∧ calibrationReason s 3 (Memory.bytes s.arch.shadow 6172) r.size = none) ∨
    (r.cls = 4 ∧ calibrationReason s 4 (Memory.bytes s.arch.shadow 6172) r.size = none) ∨
    (r.cls = 5 ∧ patchOk (Memory.bytes s.arch.shadow 32) r.size = true) ∨
    (r.cls = 6 ∧ byteAt (Memory.bytes s.arch.shadow 1) 0 = 1 ∧ 80 ≤ r.size)

/-- The object that a transfer's shadow holds, as it stands once copied (R139). -/
def storedFrom (s : State) (r : Transfer) : Obj :=
  { data := Memory.below s.arch.shadow r.size, size := r.size, identity := r.identity, valid := true }

/-- s after the copy of r has ended, its OBJ_COMMIT reported done with result 0, its object in the Archive and, where asked, loads due
(R139, R233). -/
def copyEnded (s t : State) (r : Transfer) (chan : Half) (q : Word) (no : Nat) (arch : Archive → Archive) (cal fact : Bool) : State :=
  reportedDone { s with
    arch := arch { s.arch with copying := none, closing := some (r, no), copyBegun := true, badWords := t.arch.badWords }
    bindery := { s.bindery with
      loadDue := if cal || fact then some (s.bindery.loadDue.getD s.now) else s.bindery.loadDue
      loadCal := s.bindery.loadCal || cal, loadFactory := s.bindery.loadFactory || fact } }
    { chan := chan, seq := q, no := no, result := 0, answers := [], key := none }

/-- The object transfer: OBJ_BEGIN with none open opens one and clears the shadow; OBJ_DATA within the named transfer's size
stores its bytes at its offset and marks them valid, beyond it gives result 3, and for another transfer result 1; OBJ_COMMIT
of an object of any class whose check and content hold closes the transfer and starts its copy, that of a slate only once no
pass runs, and its cache entry is then invalid; one whose check fails closes it with result 2, and one whose content is
refused with result 3 and the EVENT of its class (R138, R139, R232, R243, R244, R247, R380, R381). Nothing else changes.
OBJ_COMMIT_COPY_END of a curve table: the stored object of its index holds the shadow's bytes below its size, is valid,
carries its identity, its working copy is to be loaded (R233), and the OBJ_COMMIT is reported done with result 0; the other
objects stay (R139). OBJ_COMMIT_COPY_END of the other classes, each done with result 0: a slate stands in its place, its
cache entry is to be filled, and a pass is wanted where it feeds a lane (R244); a calibration image, and a factory object
with its image, stand in place and their working copies are to be loaded, and the factory commit clears the defect map and
the disabled mask with EVENT 0x0802 (R233, R320); a patch stands in place (R380); and of a colophon object the maker's bytes
are taken (R381). Nothing else changes. -/
def Obligations.ObjectsAreTransferredAndCopied : Prop :=
  (∀ (s : State) (m : Msg),
    (takeDispatch s 0x0020 = some m → s.arch.transfer = none →
      ∃ t, exec .objBegin s = .next t ∧
        t = finishedAs { s with arch := { s.arch with
          shadow := [], closing := none, badWords := t.arch.badWords
          transfer := some
            { cls := byteAt m.body 0, index := byteAt m.body 1, size := (wordAt m.body 4).toNat, check := wordAt m.body 8,
              identity := wordAt m.body 12, chan := m.chan, seq := m.seq, no := m.no, covered := [], received := 0 } } } m
          (doneOf m 0)) ∧
    (∀ r, takeDispatch s 0x0021 = some m → s.arch.transfer = some r → namesTransfer r m.body = true →
      (wordAt m.body 8).toNat + (m.body.drop 12).length ≤ r.size → Memory.wf s.arch.shadow = true →
      ∃ t c, exec .objData s = .next t ∧
        (∀ i, i < (m.body.drop 12).length →
          Memory.read t.arch.shadow ((wordAt m.body 8).toNat + i) = (m.body.drop 12).getD i 0) ∧
        (∀ a, a < (wordAt m.body 8).toNat ∨ (wordAt m.body 8).toNat + (m.body.drop 12).length ≤ a →
          Memory.read t.arch.shadow a = Memory.read s.arch.shadow a) ∧
        (∃ x ∈ c, x.1 ≤ (wordAt m.body 8).toNat ∧ (wordAt m.body 8).toNat + (m.body.drop 12).length ≤ x.2) ∧
        t = finishedAs { s with arch := { s.arch with
          shadow := t.arch.shadow, transfer := some { r with covered := c, received := (c.map fun x => x.2 - x.1).sum } } } m
          (doneOf m 0)) ∧
    (∀ r, takeDispatch s 0x0021 = some m → s.arch.transfer = some r →
      (namesTransfer r m.body = false → ∃ t, exec .objData s = .next t ∧ t = finishedAs s m (doneOf m 1)) ∧
      (namesTransfer r m.body = true → r.size < (wordAt m.body 8).toNat + (m.body.drop 12).length →
        ∃ t, exec .objData s = .next t ∧ t = finishedAs s m (doneOf m 3))) ∧
    (∀ r, takeDispatch s 0x0022 = some m → s.arch.transfer = some r → namesTransfer r m.body = true →
      crc32c (Memory.bytes s.arch.shadow r.size) = r.check →
      (contentHolds s r →
        ∃ t, exec .objCommit s = .next t ∧ t.arch.copyBegun = !(r.cls == 1 && s.bindery.pass.isSome) ∧
          t = dispatchedTo { s with
            arch := { s.arch with
              transfer := none, copying := some (r, m.chan, m.seq, m.no), copyBegun := t.arch.copyBegun }
            screen := { s.screen with
              cache := if r.cls = 1 ∧ t.arch.copyBegun = true
                then s.screen.cache.map fun e => if e.slate = r.index.toNat then { e with st := 0 } else e
                else s.screen.cache } } m false) ∧
      (1 ≤ r.cls.toNat → r.cls.toNat ≤ 6 → ¬ contentHolds s r →
        ∃ t, exec .objCommit s = .next t ∧ (r.cls = 1 ∨ r.cls = 2 → eventRaised s t 0x0603) ∧
          (r.cls = 3 ∨ r.cls = 4 → eventRaised s t 0x0505) ∧ (r.cls = 5 → eventRaised s t 0x0B05) ∧
          t = reportedAs t (finishedAs { s with arch := { s.arch with transfer := none, closing := some (r, m.no) } } m
            (doneOf m 3)))) ∧
    (∀ r, takeDispatch s 0x0022 = some m → s.arch.transfer = some r → namesTransfer r m.body = true →
      crc32c (Memory.bytes s.arch.shadow r.size) ≠ r.check →
      ∃ t, exec .objCommit s = .next t ∧
        t = finishedAs { s with arch := { s.arch with transfer := none, closing := some (r, m.no) } } m (doneOf m 2))) ∧
  (∀ (s : State) (r : Transfer) (chan : Half) (q : Word) (no : Nat), s.arch.copying = some (r, chan, q, no) →
    hallDispatches s = true → s.arch.copyBegun = true → r.cls = 2 → r.index.toNat < s.arch.curves.length →
    ∃ t, exec .objCommitCopyEnd s = .next t ∧
      t = reportedDone { s with
        arch := { s.arch with
          copying := none, closing := some (r, no), badWords := t.arch.badWords
          curves := s.arch.curves.set r.index.toNat
            (some { data := Memory.below s.arch.shadow r.size, size := r.size, identity := r.identity, valid := true }) }
        bindery := { s.bindery with loadDue := some (s.bindery.loadDue.getD s.now), loadCurves := true }
        screen := { s.screen with counts := bump s.screen.counts 9 } }
        { chan := chan, seq := q, no := no, result := 0, answers := [], key := none }) ∧
  (∀ (s : State) (r : Transfer) (chan : Half) (q : Word) (no : Nat), s.arch.copying = some (r, chan, q, no) →
    hallDispatches s = true → s.arch.copyBegun = true ∨ s.bindery.pass = none →
    (r.cls = 1 →
      ∃ t, exec .objCommitCopyEnd s = .next t ∧
        t = { copyEnded s t r chan q no
                (fun a => { a with slates := s.arch.slates.set r.index.toNat (some (storedFrom s r)) }) false false with
          bindery := { s.bindery with passWanted := s.bindery.passWanted || slateFeeds s r.index.toNat }
          screen := { s.screen with
            cache := s.screen.cache.map (fun e => if e.slate = r.index.toNat then { e with st := 1 } else e)
            counts := bump s.screen.counts 8 } }) ∧
    (r.cls = 3 →
      ∃ t, exec .objCommitCopyEnd s = .next t ∧
        t = copyEnded s t r chan q no (fun a => { a with calibration := some (storedFrom s r) }) true false) ∧
    (r.cls = 4 →
      ∃ t, exec .objCommitCopyEnd s = .next t ∧ eventRaised s t 0x0802 ∧
        t = reportedAs t { copyEnded s t r chan q no
                (fun a => { a with
                  factory := some (objFrom s.arch.shadow 0 6144 r.identity)
                  calibration := some (objFrom s.arch.shadow 6144 (r.size - 6144) r.identity), mapRecords := [], disabled := [] })
                true true with
          coll := { s.coll with
            emitters := s.coll.emitters.filter (fun e => decide (e.2.count < 3))
            columns := s.coll.columns.filter (fun e => decide (e.2.count < 3))
            rows := s.coll.rows.filter (fun e => decide (e.2.count < 3)) } }) ∧
    (r.cls = 5 →
      ∃ t, exec .objCommitCopyEnd s = .next t ∧
        t = copyEnded s t r chan q no (fun a => { a with patch := some (storedFrom s r) }) false false) ∧
    (r.cls = 6 →
      ∃ t, exec .objCommitCopyEnd s = .next t ∧
        t = copyEnded s t r chan q no (fun a => { a with colophon := colophonOf (Memory.bytes s.arch.shadow 80) }) false false))

/-- CENSUS_AT with room and a time not past is armed, its dispatch finished; CENSUS_LATCH of the one armed census, at or
after its time, with valid time and no bank held, latches the bank at that instant, every section with the counts and levels
that its chapter names as they then stand (R183, R185), and starts its copier; the copy's end reports the CENSUS_AT with
result 0; the bank of 60 s counts as aged (R184, R186). A CENSUS_AT beside eight armed ones gets result 6; one whose time is
past, whose time comes with no valid time, or while a bank is held, gets result 6 and EVENT 0x0308, counted (R184, R187,
R191). Nothing else changes. CENSUS_READ of another census than the bank's, or with no bank, is reported done with result 6
and one CENSUS report of the census asked; of the bank's, with bit 0 of word 1 set, it releases the bank, and else leaves it
(R188). A range of at most 252 words of a section that the bank holds comes in one report: the census, the section, status 0
or, past its end, 3, the first word, the length and the words, a word that no error spoilt as it was latched (R189, R194); a
section that the bank does not hold gives result 3. Nothing else changes. -/
def Obligations.CensusIsLatchedAndRead : Prop :=
  ((∀ (s : State) (m : Msg), takeDispatch s 0x0012 = some m → s.mantel.censuses.length < 8 →
    s.mantel.time ≤ timeAt m.body 4 * 2 ^ 32 →
    ∃ t, exec .censusAt s = .next t ∧
      t = dispatchedTo { s with mantel := { s.mantel with
        censuses := s.mantel.censuses ++
          [{ chan := m.chan, seq := m.seq, no := m.no, id := wordAt m.body 0, t := timeAt m.body 4 }] } } m true) ∧
  (∀ (s : State) (m : Msg), takeDispatch s 0x0012 = some m →
    (8 ≤ s.mantel.censuses.length → exec .censusAt s = .next (finishedAs s m (doneOf m 6))) ∧
    (s.mantel.censuses.length < 8 → timeAt m.body 4 * 2 ^ 32 < s.mantel.time →
      ∃ t, exec .censusAt s = .next t ∧ eventRaised s t 0x0308 ∧
        t = reportedAs t (finishedAs { s with mantel := { s.mantel with counts := bump s.mantel.counts 11 } } m (doneOf m 6)))) ∧
  (∀ (s : State) (c : ArmedCensus), s.mantel.censuses = [c] → coreOn s = true →
    ∃ t, exec .censusLatch s = .next t ∧
      (timeValid s.mantel = false ∧ s.mantel.bank = none ∨
        timeValid s.mantel = true ∧
          (∃ b, s.mantel.bank = some b ∧ b.released = false ∧ b.aged = false ∧ t.now < b.latchedAt + 60000000000) →
        eventRaised s t 0x0308 ∧
        t = clockedAs t (reportedAs t (reportedDone { s with mantel := { s.mantel with censuses := [], counts := bump s.mantel.counts 11 } }
          { chan := c.chan, seq := c.seq, no := c.no, result := 6, answers := [], key := none })))) ∧
  (∀ (s : State) (c : ArmedCensus), s.mantel.censuses = [c] → coreOn s = true → timeValid s.mantel = true →
    s.mantel.bank = none → 0 < 4 * 2 ^ 32 + s.mantel.addend →
    ∃ t b x, exec .censusLatch s = .next t ∧ x = advanceToMantel s c.t ∧
      b.epoch = s.mantel.epoch ∧ b.lock = BitVec.ofNat 4 (lockCode s.mantel.lock) ∧
      b.sections =
        [(0x01, linkWords s), (0x02, []), (0x03, s.mantel.counts), (0x04, s.larder.counts),
          (0x05, s.bindery.counts.set 11 (BitVec.ofNat 32 s.bindery.atCap)), (0x06, s.screen.counts), (0x07, s.press.counts),
          (0x08, s.coll.counts.set 13 (BitVec.ofNat 32 (uninspected x))), (0x09, s.back.counts), (0x0A, s.legacy.counts),
          (0x0B, s.cellar.counts ++ [BitVec.ofNat 32 s.cellar.vcellMv, BitVec.ofNat 32 (cellCode s.cellar.cell)]),
          (0x0C, (closeRest x).power.counts),
          (0x0D, pack [(causeCode s.start.cause, 24), (bit s.start.strapsKept, 23)] ::
            (s.start.stepUs ++ [BitVec.ofNat 32 s.start.selfTestFailures])),
          (0x10, (filled (s.arch.wear.take (emitterCount s)) (emitterCount s)).map (BitVec.ofNat 32))] ∧
      b.id = c.id ∧ b.t = c.t ∧ b.latch = t.mantel.time / 2 ^ 32 ∧ c.t ≤ b.latch ∧
      b.latchedAt = t.now ∧ b.copying = some (c.chan, c.seq, c.no) ∧ b.released = false ∧ b.aged = false ∧
      t = clockedAs t { s with
        mantel := { s.mantel with censuses := [], bank := some b }, larder := { s.larder with badBankWords := [] } }) ∧
  (∀ (s : State) (b : Bank) (chan : Half) (q : Word) (no : Nat), s.mantel.bank = some b → b.copying = some (chan, q, no) →
    coreOn s = true →
    ∃ t, exec .censusCopyDone s = .next t ∧
      t = reportedDone { s with mantel := { s.mantel with bank := some { b with copying := none } } }
        { chan := chan, seq := q, no := no, result := 0, answers := [], key := none }) ∧
  (∀ (s : State) (b : Bank), s.mantel.bank = some b → b.aged = false → coreOn s = true →
    ∃ t, exec .censusAge s = .next t ∧ b.latchedAt + 60000000000 ≤ t.now ∧
      t = clockedAs t (reportedAs t { s with mantel := { s.mantel with bank := some { b with aged := true } } }))) ∧
  (∀ (s : State) (m : Msg), takeDispatch s 0x0013 = some m →
    ((∀ b, s.mantel.bank = some b → b.id ≠ wordAt m.body 0) →
      ∃ t p, exec .censusRead s = .next t ∧ wordAt p 0 = wordAt m.body 0 ∧
        t = finishedAs s m { doneOf m 6 with answers := [{ rtype := 0x0022, payload := p }] }) ∧
    (∀ b, s.mantel.bank = some b → b.id = wordAt m.body 0 → (wordAt m.body 4).getLsbD 0 = true →
      ∃ t d, exec .censusRead s = .next t ∧ d.chan = m.chan ∧ d.seq = m.seq ∧ d.no = m.no ∧ d.key = none ∧
        (∀ a ∈ d.answers, a.rtype = 0x0022 ∧ wordAt a.payload 0 = b.id) ∧
        t = finishedAs { s with mantel := { s.mantel with bank := some { b with released := true } } } m d) ∧
    (∀ b, s.mantel.bank = some b → b.id = wordAt m.body 0 →
      ∃ t d, exec .censusRead s = .next t ∧ d.chan = m.chan ∧ d.seq = m.seq ∧ d.no = m.no ∧ d.key = none ∧
        ((wordAt m.body 4).getLsbD 0 = false → t = finishedAs s m d) ∧
        (readSection s b (field (wordAt m.body 4) 31 24) = none → d.result = 3) ∧
        (∀ ws, readSection s b (field (wordAt m.body 4) 31 24) = some ws → d.result = 0 ∧
          ((wordAt m.body 12).toNat ≤ 252 → ∃ status,
            status = (if ws.length < (wordAt m.body 8).toNat + (wordAt m.body 12).toNat then 3 else 0) ∧
            d.answers = [{ rtype := 0x0022, payload := wordsBytes ([b.id,
              pack [(field (wordAt m.body 4) 31 24, 24), (0, 16), (1, 8), (status, 0)], wordAt m.body 8,
              BitVec.ofNat 32 ((ws.drop (wordAt m.body 8).toNat).take (wordAt m.body 12).toNat).length] ++
                (ws.drop (wordAt m.body 8).toNat).take (wordAt m.body 12).toNat) }])) ∧
        (∀ n ws, s.larder.badBankWords = [] → n ≠ 0 → b.sections.lookup n = some ws → readSection s b n = some ws)))

/-! ### Frames, feed, reports, the show and the Bindery -/

/-- The time at which a folio's quire that no slot holds is to be presented: its qtime extended, and the delay in force (R95, R196, R200). -/
def newPresentation (s : State) (f : Folio) : Nat := extendQtime s f.w3 + delayFor s f.w2 * 1000

/-- The slot that R196 opens for a new quire, with 1 where that supersedes the quire in it: a FREE one, else the oldest RECEIVING, else the
oldest READY. -/
def opensSlot (s : State) (i n : Nat) : Prop :=
  (s.larder.slots.findIdx? (fun x => x.st == .free) = some i ∧ n = 0) ∨
    (s.larder.slots.findIdx? (fun x => x.st == .free) = none ∧ n = 1 ∧
      (oldestSlot s.larder.slots .receiving = some i ∨
        oldestSlot s.larder.slots .receiving = none ∧ oldestSlot s.larder.slots .ready = some i))

/-- MERGE of a SIG folio whose quire a RECEIVING slot holds and of which some granule is new, its presentation no more than 1
s ahead: every payload byte stands in the slot at the folio's offset, every other byte of the slot is as it was, its granules
are covered, and it is READY when all are; nothing else changes but the port's count of first copies (R66, R69, R94, R95,
R195). While an entry to a rest state is under way no SIG folio is taken: one for the node or a group reverses the entry as
wake cause 2, where the programme is STREAM and the feed lost (R402, R403). MERGE of a SIG folio whose quire no slot holds:
presented more than 1 s ahead, it is dropped, with EVENT 0x0102 once for its quire (R95); past P, at or before the seam on
light, older than a quire held, or with no slot to open, it is late and counted (R196, R211); and else it opens its slot,
superseding the quire of one that is not free, which is counted, and every payload byte stands there (R196). -/
def Obligations.MergeStoresTheSignatureInItsSlot : Prop :=
  ((∀ (s : State) (p : Port) (f : Folio), portsTrain s = true → (getPort s p).st = .up → mode s = .native →
    Folio.stamped f = false → Folio.crcOk f = true → malformed s f = none → wouldUse s f = true → Folio.kind f = 1 →
    s.power.entryBegun = true → s.power.waking = none → s.screen.programme = .stream → s.larder.fstate = .lost →
    Folio.dgrp f = true ∨ Folio.dest f ≠ 0xFFF →
    exec (.merge p ⟨.whole f, none⟩) s = .next { s with
      power := { s.power with waking := some 2, wakeAt := s.now, counts := bump s.power.counts 16 } }) ∧
  ∀ (s : State) (p : Port) (f : Folio) (i : Nat) (x : Slot), portsTrain s = true → (getPort s p).st = .up → mode s = .native →
    Folio.stamped f = false → Folio.crcOk f = true → malformed s f = none → wouldUse s f = true → Folio.kind f = 1 →
    s.power.st = .s0 ∨ s.power.st = .s1 → s.power.entryBegun = false → slotOf s f.w2 = some i →
    s.larder.slots[i]? = some x → x.st = .receiving →
    x.pres ≤ mNs s + 1000000000 → Memory.wf x.data = true → (∃ g ∈ sigGranules f, g ∉ x.covered) →
    ∃ t y, exec (.merge p ⟨.whole f, none⟩) s = .next t ∧
      (∀ k, k < f.payload.length → Memory.read y.data (sigOff f * 64 + k) = f.payload.getD k 0) ∧
      (∀ a, a < sigOff f * 64 ∨ sigOff f * 64 + f.payload.length ≤ a → Memory.read y.data a = Memory.read x.data a) ∧
      (∀ g, g ∈ y.covered ↔ g ∈ x.covered ∨ g ∈ sigGranules f) ∧
      y = { x with
        data := y.data, covered := y.covered
        st := if (sigSize s x.cfmt x.depth + 63) / 64 ≤ y.covered.length then .ready else .receiving } ∧
      t = { setPort s p { getPort s p with counts := (getPort s p).counts.modify 5 (· + 1) } with
        larder := { s.larder with slots := s.larder.slots.set i y } }) ∧
  (∀ (s : State) (p : Port) (f : Folio), portsTrain s = true → (getPort s p).st = .up → mode s = .native →
    Folio.stamped f = false → Folio.crcOk f = true → malformed s f = none → wouldUse s f = true → Folio.kind f = 1 →
    s.power.st = .s0 ∨ s.power.st = .s1 → s.power.entryBegun = false → slotOf s f.w2 = none →
    (mNs s + 1000000000 < newPresentation s f →
      (f.w2 ∈ s.spine.earlyQuires → exec (.merge p ⟨.whole f, none⟩) s = .next s) ∧
      (f.w2 ∉ s.spine.earlyQuires →
        ∃ t, exec (.merge p ⟨.whole f, none⟩) s = .next t ∧ eventRaised s t 0x0102 ∧
          t = reportedAs t { s with spine := { s.spine with earlyQuires := f.w2 :: s.spine.earlyQuires } })) ∧
    (newPresentation s f ≤ mNs s + 1000000000 →
      (newPresentation s f * 2 ^ 32 ≤ s.mantel.p ∨ (∃ x, s.larder.seamOnLight = some x ∧ frameSeam s (newPresentation s f) ≤ x) ∨
          (∃ x ∈ s.larder.slots, x.st ≠ .free ∧ seqBelow x.quire f.w2 = false) ∨ (∀ i n, ¬ opensSlot s i n) →
        exec (.merge p ⟨.whole f, none⟩) s = .next { s with
          larder := { s.larder with counts := bump s.larder.counts 2, secLate := s.larder.secLate + 1 } }) ∧
      (∀ i n, s.mantel.p < newPresentation s f * 2 ^ 32 →
        (∀ x, s.larder.seamOnLight = some x → x < frameSeam s (newPresentation s f)) →
        (∀ x ∈ s.larder.slots, x.st ≠ .free → seqBelow x.quire f.w2 = true) → opensSlot s i n → sigGranules f ≠ [] →
        ∃ t y, exec (.merge p ⟨.whole f, none⟩) s = .next t ∧
          (∀ k, k < f.payload.length → Memory.read y.data (sigOff f * 64 + k) = f.payload.getD k 0) ∧
          (∀ a, a < sigOff f * 64 ∨ sigOff f * 64 + f.payload.length ≤ a → Memory.read y.data a = Memory.read [] a) ∧
          y.quire = f.w2 ∧ y.qtime = f.w3 ∧ y.pres = newPresentation s f ∧ y.depth = sigDepth f ∧ y.cfmt = sigCfmt f ∧
          y.covered = sigGranules f ∧
          y.st = (if (sigSize s (sigCfmt f) (sigDepth f) + 63) / 64 ≤ (sigGranules f).length then .ready else .receiving) ∧
          t.larder.counts = (if n = 0 then s.larder.counts else bump s.larder.counts 3) ∧
          t = { setPort s p { getPort s p with counts := (getPort s p).counts.modify 5 (· + 1) } with
            larder := { s.larder with
              slots := s.larder.slots.set i y, dropped := s.larder.dropped.filter fun d => d.1 != f.w2
              counts := t.larder.counts, secSuperseded := s.larder.secSuperseded + n } })))

/-- FEED_LOSS_POLICY puts its policy in force at its dispatch (R204); the feed is LOST when the timeout has passed since the
timer last restarted, with EVENT 0x0401 (R202, R203), and the hold of policy 3 ends its seconds after that; a policy that
replaces another while LOST counts its hold from the loss, and its hold and missing slate are told anew (log 50, DEDUCED).
PRESENTATION_DELAY is kept with its first quire (R200). Each of the two commands is reported done with result 0. Nothing else
changes; the slate cache may start a fill (R245). -/
def Obligations.FeedPolicyLossAndDelay : Prop :=
  (∀ (s : State) (m : Msg), takeDispatch s 0x0014 = some m →
    ∃ t, exec .feedLossPolicy s = .next t ∧
      t.larder.feed = {
        policy := field (wordAt m.body 0) 31 28, slate := field (wordAt m.body 0) 27 24
        timeoutMs := field (wordAt m.body 0) 15 0, fadeMs := field (wordAt m.body 4) 31 16
        holdS := field (wordAt m.body 4) 15 0 } ∧
      t = finishedAs { s with
        larder := { s.larder with feed := t.larder.feed, holdEnded := false, lossSlateTold := false }
        screen := { s.screen with cache := t.screen.cache } } m (doneOf m 0)) ∧
  (∀ (s : State) (m : Msg), takeDispatch s 0x0015 = some m →
    ∃ t, exec .presentationDelay s = .next t ∧
      t = finishedAs { s with
        arch := { s.arch with delayUs := (wordAt m.body 0).toNat }
        larder := { s.larder with delays := (wordAt m.body 4, (wordAt m.body 0).toNat) :: s.larder.delays } } m (doneOf m 0)) ∧
  (∀ s : State, coreOn s = true → s.larder.fstate = .live → s.larder.feedStopped = false → s.press.chosen = none →
    ∃ t, exec .feedLossExpiry s = .next t ∧ eventRaised s t 0x0401 ∧
      s.larder.feedRestart + s.larder.feed.timeoutMs * 1000000 ≤ t.now ∧
      t.larder.counts.getD 4 0 = (bump s.larder.counts 4).getD 4 0 ∧
      t = clockedAs t (reportedAs t { s with
        larder := { s.larder with fstate := .lost, lostAt := t.now, holdEnded := false } })) ∧
  (∀ s : State, coreOn s = true → s.larder.feed.policy = 3 → s.larder.fstate = .lost → legacyLoss s = false →
    ∃ t, exec .feedLossHoldEnd s = .next t ∧ s.larder.lostAt + s.larder.feed.holdS * 1000000000 ≤ t.now ∧
      t = clockedAs t { s with larder := { s.larder with holdEnded := true } })

/-- The reports of a report second: its end comes at S plus whole seconds, clears the second's tallies, those of the audit
log while the Archive is open, and takes over each port's CRC failures (R59, R479), more than 16 of which are degraded and
reported by LINK; each role's wrong tags and keyless attempts of the second, where there were any, are one audit entry of
outcome 4 or 5 each, with EVENT 0x0206 (R155, R156, R160); the EVENT report takes up to 63 records off queue 0x02 into queue
0x01, with room for it there (R112, R205); a watermark notice that stands is given as EVENT 0x0403, and its crossings start
again (R208). -/
def Obligations.ReportSecondEventsAndWatermarks : Prop :=
  (∀ s : State, running s = true →
    ∃ t, exec .reportSecondEnd s = .next t ∧ s.start.s + (s.start.secondsEnded + 1) * 1000000000 ≤ t.now ∧
      (s.press.secDropped + s.press.secWithdrawn ≠ 0 → eventRaised s t 0x0704) ∧
      (s.larder.secHolds + s.larder.secSuperseded + s.larder.secLate ≠ 0 → eventRaised s t 0x0405) ∧
      (s.coll.secOpens + s.coll.secShorts ≠ 0 → s.larder.events.length ≤ 240 → eventRaised s t 0x0801) ∧
      (archiveOpen s = true → t.hall.tagFails = [0, 0, 0] ∧ t.hall.keyless = [0, 0, 0]) ∧
      t.spine.east = { s.spine.east with
        crcLastSecond := BitVec.ofNat 32 s.spine.east.crcThisSecond, degraded := decide (16 < s.spine.east.crcThisSecond)
        crcThisSecond := 0, counts := t.spine.east.counts } ∧
      t.spine.west = { s.spine.west with
        crcLastSecond := BitVec.ofNat 32 s.spine.west.crcThisSecond, degraded := decide (16 < s.spine.west.crcThisSecond)
        crcThisSecond := 0, counts := t.spine.west.counts } ∧
      (16 < s.spine.east.crcThisSecond ∨ 16 < s.spine.west.crcThisSecond →
        reportQueued s t 0x0011 (linkPayload s 1).length fun b => b.take 4 = wordBytes 1) ∧
      (archiveOpen s = true → s.cellar.failAt = none → s.hall.tagFails.length = 3 → s.hall.keyless.length = 3 →
        t.arch.auditNext = s.arch.auditNext +
          BitVec.ofNat 32 ((s.hall.tagFails ++ s.hall.keyless).filter fun n => n != 0).length ∧
        ((∃ n ∈ s.hall.tagFails ++ s.hall.keyless, n ≠ 0) → eventRaised s t 0x0206) ∧
        ∀ r, r < 3 →
          (s.hall.tagFails.getD r 0 ≠ 0 → ∃ e ∈ t.arch.audit, e.chan = 0xFFFF ∧ e.role = BitVec.ofNat 2 r ∧ e.outcome = 4 ∧
            e.seq = BitVec.ofNat 32 (s.hall.tagFails.getD r 0)) ∧
          (s.hall.keyless.getD r 0 ≠ 0 → ∃ e ∈ t.arch.audit, e.chan = 0xFFFF ∧ e.role = BitVec.ofNat 2 r ∧ e.outcome = 5 ∧
            e.seq = BitVec.ofNat 32 (s.hall.keyless.getD r 0))) ∧
      t = clockedAs t (reportedAs t (queuedAs t { s with
        start := { s.start with secondsEnded := s.start.secondsEnded + 1 }
        spine := { s.spine with collisionReported := false, east := t.spine.east, west := t.spine.west }
        arch := { s.arch with audit := t.arch.audit, auditNext := t.arch.auditNext }
        larder := { s.larder with secHolds := 0, secSuperseded := 0, secLate := 0 }
        press := { s.press with secDropped := 0, secWithdrawn := 0 }
        coll := { s.coll with secOpens := 0, secShorts := 0 }
        back := { s.back with secDespite := 0, despiteMask := 0 }
        leaf := { s.leaf with secSig := 0, secCtl := 0 }
        hall := { s.hall with tagFails := t.hall.tagFails, keyless := t.hall.keyless } }))) ∧
  (∀ s : State, coreOn s = true → s.larder.events ≠ [] → s.larder.waiting = [] → reportLevel s + 17 ≤ 248 →
    ∃ t, exec .eventReportForm s = .next t ∧ t.larder.events = s.larder.events.drop 63 ∧
      (assigned s = true → portUp s .east = true → leafRole s = false →
        ∃ r ∈ t.larder.reports, r.kind = 3 ∧ r.spec = 0x0012 ∧ r.payload = eventPayload (s.larder.events.take 63)) ∧
      t = queuedAs t { s with larder := { s.larder with events := t.larder.events } }) ∧
  (∀ (s : State) (q : BitVec 2) (w : Watermark), q ≠ 0 → s.larder.waters[q.toNat - 1]? = some w → w.noticed = true →
    coreOn s = true →
    ∃ t, exec (.watermarkReport q) s = .next t ∧ eventRaised s t 0x0403 ∧
      (q ≠ 2 → ∃ v, t.larder.waters[q.toNat - 1]? = some v ∧ v.crossings = 0 ∧ v.noticed = false) ∧
      (∀ i, w.lastInterval = some i → s.start.s + (i + 1) * 100000000 ≤ t.now) ∧
      t = clockedAs t (reportedAs t s))

/-- A CUE at its dispatch is armed with its T in acceptance order and its dispatch is finished; of the show only the slate
cache may change (R179, R180, R245, R253). POWER_TOLERANCE is kept in the Archive and reported done, the power state changing
only out of S1 (R400, R402). -/
def Obligations.CueIsArmedAndToleranceKept : Prop :=
  (∀ (s : State) (m : Msg), takeDispatch s 0x0010 = some m →
    ∃ t c, exec .cue s = .next t ∧ c ∈ t.mantel.cues ∧ c.chan = m.chan ∧ c.seq = m.seq ∧ c.no = m.no ∧
      c.t = timeAt m.body 4 ∧ (c.late = true ↔ timeValid s.mantel = true ∧ c.t * 4294967296 < s.mantel.p) ∧
      t.mantel.cues = insertCue c s.mantel.cues ∧ t.mantel.cues.length = s.mantel.cues.length + 1 ∧
      t = dispatchedTo { s with
        mantel := { s.mantel with cues := t.mantel.cues }, screen := { s.screen with cache := t.screen.cache } } m true) ∧
  (∀ (s : State) (m : Msg), takeDispatch s 0x0011 = some m →
    ∃ t, exec .powerTolerance s = .next t ∧
      (s.power.st ≠ .s1 → t.power = s.power) ∧
      t = finishedAs { s with arch := { s.arch with tolUs := (wordAt m.body 0).toNat }, power := t.power } m (doneOf m 0))

/-- One lane's value at emitter i of a pass after stages 5 to 7: the level by the white-point gain of its colour group, its wear gain and the
group's temperature gain, each rounded to nearest and clamped (R217, R226 to R228). DARK reads 0 (R239). -/
def laneValue (s : State) (p : Pass) (src : LaneSrc) (i : Nat) : Nat :=
  match laneStages s src with
  | none => 0
  | some (es, _, _) =>
    let d := drivenBy s (i % rowWidth s)
    let e := es.getD ((i / rowWidth s * pixelsPerRow s + d.pixel) * components s + d.comp) 0
    let a := min 16777216 ((2 * (e * (p.lambda * s.bindery.params.w.getD d.group 0)) + 2 ^ 30) / 2 ^ 31)
    let b := min 16777216 ((2 * (a * s.bindery.wearGains.getD i 32768) + 32768) / 65536)
    min 16777216 ((2 * (b * p.gains.getD d.group 32768) + 32768) / 65536)

/-- A pass that ends writes its plate alone and hands a handle of its plate, epoch and slot to the Press, within 26.4 us and
10 ns for each emitter of its start (R215, R277); stated of a pass that is no frame pass or whose seam leaves the margin,
with no commit copy and no re-render waiting. A frame pass abandoned on the first tick at which Mantel time has reached 20 us
before its seam is no longer running, with EVENT 0x0504, no plate changes, and the quire it rendered is dropped from its
BOUND slot and counted as a hold (R216). The plate that a pass writes holds, for every emitter in the order of rows, the mix
of its two lanes (R229) through the output curve of its colour group, scaled to 20 bits (R230), where the pass leaves the
margin. What a lane holds before stage 5 is stages 1 to 4 of its pixels in order; with the linear transfer and no white
extraction an emitter's value is its row of the pixel's matrix over the widened codes, rounded once and clamped (R220, R221,
R225). The working copies: a load that is due starts when no pass runs or waits and none loads, at a pass's end with a gap
ahead or else 100 ms after it was asked for, from the objects that the Archive then holds, and a commit that completes while
it runs asks for another (R233); it ends within 1.5 ms, asks for a pass, and one that was forced and cost holds raises EVENT
0x0507; a slate cache entry being filled becomes valid (R245). The wear gains due are recomputed while no pass runs (R227).
Nothing else changes. -/
def Obligations.PassesAndWorkingCopies : Prop :=
  ((∀ (s : State) (p : Pass), s.bindery.pass = some p → coreOn s = true → s.bindery.reRenderDue = false → s.arch.copying = none →
    (p.isFrame = true → 0 ≤ 4 * 2 ^ 32 + s.mantel.addend ∧ mNs (advanceTo s (p.start + 26400 + 10 * emitterCount s)) + 20000 ≤ p.seam) →
    ∃ t, exec .passEnd s = .next t ∧ t.bindery.pass = none ∧ t.bindery.shown = some p ∧
      t.bindery.lastPassNs ≤ 26400 + 10 * emitterCount s ∧ t.now ≤ max s.now (p.start + 26400 + 10 * emitterCount s + 3) ∧
      (∀ k, k ≠ p.plate → t.larder.plates[k]? = s.larder.plates[k]?) ∧
      t = clockedAs t { s with
        larder := { s.larder with plates := t.larder.plates }
        bindery := { s.bindery with
          pass := none, shown := some p, lastPass := t.now, lastPassNs := t.bindery.lastPassNs
          longestNs := max s.bindery.longestNs t.bindery.lastPassNs, counts := t.bindery.counts }
        press := { s.press with crossing := s.press.crossing ++
          [.handle { plate := p.plate, epoch := p.epoch, isFrame := p.isFrame, seam := p.seam, slot := p.slot, quire := p.quire }] }
        fresh := t.fresh }) ∧
  (∀ (s : State) (p : Pass), s.bindery.pass = some p → coreOn s = true → p.isFrame = true → s.bindery.reRenderDue = false →
    s.arch.copying = none →
    ∃ t, exec .passAbandon s = .next t ∧ t.bindery.pass = none ∧ eventRaised s t 0x0504 ∧
      (0 < 4 * 2 ^ 32 + s.mantel.addend → p.seam ≤ mNs t + 20000 ∧
        (t.mantel.time : Int) < max (s.mantel.time + 1 : Int) (((p.seam - 20000 : Nat) : Int) * 2 ^ 32 + (4 * 2 ^ 32 + s.mantel.addend))) ∧
      (p.slot = none ∨ p.quire = none → t.larder.slots = s.larder.slots ∧ t.larder.secHolds = s.larder.secHolds) ∧
      (∀ i x, p.slot = some i → p.quire.isSome = true → s.larder.slots[i]? = some x →
        (x.st = .bound → t.larder.slots = s.larder.slots.set i Slot.empty ∧ t.larder.secHolds = s.larder.secHolds + 1 ∧
          t.larder.counts.getD 1 0 = (bump s.larder.counts 1).getD 1 0) ∧
        (x.st ≠ .bound → t.larder.slots = s.larder.slots ∧ t.larder.secHolds = s.larder.secHolds)) ∧
      t = clockedAs t (reportedAs t { s with
        larder := { s.larder with slots := t.larder.slots, secHolds := t.larder.secHolds }
        bindery := { s.bindery with pass := none, counts := t.bindery.counts } }))) ∧
  ((∀ (s : State) (p : Pass), s.bindery.pass = some p → coreOn s = true → s.bindery.reRenderDue = false → s.arch.copying = none →
    (p.isFrame = true → 0 ≤ 4 * 2 ^ 32 + s.mantel.addend ∧ mNs (advanceTo s (p.start + 26400 + 10 * emitterCount s)) + 20000 ≤ p.seam) →
    ∃ t ws, exec .passEnd s = .next t ∧ t.larder.plates = s.larder.plates.set p.plate ws ∧ ws.length = emitterCount s ∧
      ∀ i v oc, i < emitterCount s → oc = s.bindery.params.oc.getD (drivenBy s (i % rowWidth s)).group 0 →
        v = (2 * ((65536 - p.alpha) * laneValue s p p.laneA i + p.alpha * laneValue s p p.laneB i) + 65536) / 131072 →
        ws.getD i 0 =
          (2 * ((if oc = 0 then v else outputCurve s.bindery.curves oc v) * 1048575) + 16777216) / 33554432) ∧
  (∀ (s : State) (src : LaneSrc) (d : LaneData), laneData s src = some d →
    (laneStages s src).map (·.1.toList) = some ((List.range (pixelsPerRow s * scanRows s)).flatMap fun n =>
      (pixelStages s s.bindery.matrices.toArray d n).1.map (·.value))) ∧
  ∀ (s : State) (mats : Array Byte) (d : LaneData) (n : Nat), d.tf = 0 → d.extract = false →
    (pixelStages s mats d n).1.map (·.value) = (List.range (components s)).map fun i =>
      clampE ((2 * ((List.range d.comps).map fun j =>
        coefficient s mats n i j * ((min 16777216 ((2 * (widen d.depth (sampleAt d.bytes d.depth (n * d.comps + j)) * 16777216) + 65535) /
          131070) : Nat) : Int)).sum + 16384) / 32768)) ∧
  ((∀ (s : State) (d : Nat), s.bindery.loadDue = some d → coreOn s = true → s.bindery.pass = none → s.bindery.waiting = none →
    s.bindery.loading = none →
    ∃ t, exec .workingCopyLoad s = .next t ∧ t.bindery.loading = some t.now ∧
      (s.bindery.lastPass = s.now → gapAhead s = true → t.now = s.now ∧ t.bindery.loadForced = false) ∧
      (s.bindery.lastPass ≠ s.now ∨ gapAhead s = false → d + 100000000 ≤ t.now ∧ t.bindery.loadForced = true) ∧
      t = clockedAs t { s with bindery := { s.bindery with
        loadDue := none, loading := some t.now, loadForced := t.bindery.loadForced, loadHolds := 0, loadCal := false
        loadFactory := false, loadCurves := false
        loadFrom := { cal := s.bindery.loadCal, fact := s.bindery.loadFactory, tables := s.bindery.loadCurves
                      calibration := s.arch.calibration, factory := s.arch.factory, curves := s.arch.curves } } }) ∧
  (∀ (s : State) (d : Nat), s.bindery.loading = some d → coreOn s = true → s.bindery.reRenderDue = false →
    ∃ t, exec .workingCopyLoadEnd s = .next t ∧ t.now ≤ max s.now (d + 1500003) ∧
      (s.bindery.loadForced = true → s.bindery.loadHolds ≠ 0 → eventRaised s t 0x0507) ∧
      (s.bindery.loadFrom.cal = true → t.bindery.calEventDue = true ∧
        ∀ o, s.bindery.loadFrom.calibration = some o → o.valid = true →
          imageReason s (Memory.bytes o.data 28) (o.size == 2048 + arraySize s) = none →
          t.bindery.liveIdentity = o.identity ∧ t.bindery.fallback = false) ∧
      (s.bindery.loadFrom.cal = false → t.bindery.matrices = s.bindery.matrices ∧ t.bindery.params = s.bindery.params) ∧
      (s.bindery.loadFrom.tables = false → t.bindery.curves = s.bindery.curves) ∧
      (s.bindery.loadFrom.fact = false → t.bindery.factoryBlock = s.bindery.factoryBlock ∧
        t.bindery.wearGains = s.bindery.wearGains) ∧
      t = clockedAs t (reportedAs t { s with
        bindery := { s.bindery with
          loading := none, loadFrom := LoadSource.empty, loadForced := false, loadHolds := 0
          passWanted := true, calEventDue := t.bindery.calEventDue, fallback := t.bindery.fallback
          params := t.bindery.params, matrices := t.bindery.matrices, liveIdentity := t.bindery.liveIdentity
          curves := t.bindery.curves, factoryOk := t.bindery.factoryOk, factoryBlock := t.bindery.factoryBlock
          wearGains := t.bindery.wearGains, atCap := t.bindery.atCap, recomputeDue := t.bindery.recomputeDue
          counts := t.bindery.counts }
        fresh := t.fresh })) ∧
  (∀ s : State, coreOn s = true → s.bindery.recomputeDue = true → s.bindery.pass = none →
    ∃ t, exec .wearGainRecompute s = .next t ∧
      (s.bindery.factoryOk = true → ∀ g ∈ t.bindery.wearGains, g ≤ wearCap s) ∧
      t.bindery.wearGains = wearGainList s ∧
      t.bindery.atCap = (t.bindery.wearGains.filter (fun g => g == wearCap s)).length ∧
      (t.bindery.atCap ≠ s.bindery.atCap → eventRaised s t 0x0506) ∧
      t = reportedAs t { s with bindery := { s.bindery with
        wearGains := t.bindery.wearGains, atCap := t.bindery.atCap, recomputeDue := false, passWanted := true
        counts := t.bindery.counts } }) ∧
  (∀ (s : State) (e : Bool) (x : CacheEntry), coreOn s = true → s.screen.cache[bit e]? = some x → x.st = 1 →
    ∃ t, exec (.slateCacheFill e) s = .next t ∧
      t = { s with screen := { s.screen with
        cache := s.screen.cache.set (bit e) { x with st := 2 }, counts := bump s.screen.counts 5 } }))

/-! ### The Press, its protection, the TAP and the Collator -/

/-- TIMING_SET at its dispatch waits with the next epoch, 10 us at least, and the timing in force does not change (R274,
R275); the re-render it asks for may start its pass (R213). At its boundary it is in force, with the epoch that judges
plates, older handles are dropped, EVENT 0x0701 is raised, and a set that is not silent is reported done with result 0 (R275
to R277). Nothing else changes. -/
def Obligations.TimingSetWaitsAndApplies : Prop :=
  (∀ (s : State) (m : Msg), takeDispatch s 0x0030 = some m →
    ∃ t, exec .timingSet s = .next t ∧
      t.press.pendingSet = some {
        set := {
          epoch := s.press.lastEpoch + 1, deadNs := field (wordAt m.body 0) 15 0, minp := field (wordAt m.body 0) 25 16
          trims := [field (wordAt m.body 4) 31 24, field (wordAt m.body 4) 23 16, field (wordAt m.body 4) 15 8,
            field (wordAt m.body 4) 7 0] }
        apply := field (wordAt m.body 0) 31 30, due := s.now + 10000, chan := m.chan, seq := m.seq, no := m.no
        silent := false } ∧
      t = reportedAs t (dispatchedTo { s with
        press := { s.press with
          lastEpoch := s.press.lastEpoch + 1, pendingSet := t.press.pendingSet, crossing := t.press.crossing }
        bindery := t.bindery
        larder := { s.larder with slots := t.larder.slots, secSuperseded := t.larder.secSuperseded }
        screen := { s.screen with cache := t.screen.cache, counts := t.screen.counts }
        arch := { s.arch with copyBegun := t.arch.copyBegun } } m false)) ∧
  (∀ (s : State) (p : PendingSet), s.press.pendingSet = some p → coreOn s = true → s.press.running = true →
    s.cellar.failAt = none →
    ∃ t u, exec .timingSetApply s = .next t ∧ eventRaised s t 0x0701 ∧
      (0 < 4 * 2 ^ 32 + s.mantel.addend → boundaryOf s p ≤ mNs t) ∧
      u = { s with press := { s.press with
        timing := p.set, pendingSet := none, epochE := p.set.epoch
        handles := s.press.handles.filter (fun h => !epochOlder h.epoch p.set.epoch), counts := t.press.counts
        secDropped := t.press.secDropped, lastDroppedEpoch := t.press.lastDroppedEpoch } } ∧
      t = clockedAs t (reportedAs t (if p.silent then u
        else reportedDone u { chan := p.chan, seq := p.seq, no := p.no, result := 0, answers := [], key := none })))

/-- The width in 50 ps steps that R270 takes in the next row slot for sink or channel k, from the residue and the drive unit of its
emitter. -/
def pulseWidth (s : State) (k : Nat) : Nat :=
  let i := s.press.slot * rowWidth s + k
  let l := windowNow s
  let free := (((residuesOf s).getD i 0 + ((driveOf s i * l : Nat) : Int)) / 1048575).toNat
  let w := if l < free then l else free
  let minp := s.press.timing.minp
  if lineUnlocked s k then (if 32 * ((w + 16) / 32) < 32 * ((minp + 31) / 32) then 0 else 32 * ((w + 16) / 32))
  else if w < minp then 0 else w

/-- The Press at its instants: a handle or a withdrawal crosses (R277); a cut-off comes 2 us before a refresh seam, is taken
once, and chooses of the held handles one of the epoch in force whose seam is reached, if there is any (R277); a seam comes
at its time, counts a refresh, starts its first slot, puts the chosen plate on light and takes the next cut-off (R263, R277,
R278), and releases each cycle-by-cycle input in force that is not asserted, every other staying in force (R289); a row slot
runs once the refresh has begun, at its start, its row on or held off (R263, R284): the plate's drive unit is carried into
the residue, and a sink that nothing holds emits the width R270 takes from it, or a proof pulse at most 2,400 steps over it
(R270, R314); an input in force keeps its mapped rows off and its mapped groups dark (R288). -/
def Obligations.RefreshesHandlesAndCutoffs : Prop :=
  (∀ (s : State) (x : Crossing) (rest : List Crossing), s.press.crossing = x :: rest → pressRuns s = true →
    ∃ t, exec .handleArrive s = .next t ∧
      (∀ k, x = .withdraw k → t.press.handles = s.press.handles.filter (fun h => h.plate != k)) ∧
      (∀ h, x = .handle h → epochOlder h.epoch s.press.epochE = true → t.press.handles = s.press.handles) ∧
      (∀ h, x = .handle h → epochOlder h.epoch s.press.epochE = false →
        t.press.handles = (s.press.handles ++ [h]).drop (if 2 < s.press.handles.length + 1 then 1 else 0)) ∧
      t = { s with press := { s.press with
        crossing := rest, handles := t.press.handles, counts := t.press.counts, secDropped := t.press.secDropped
        secWithdrawn := t.press.secWithdrawn, lastDroppedEpoch := t.press.lastDroppedEpoch } }) ∧
  (∀ s : State, pressRuns s = true → s.press.cutoffDone = false →
    ∃ t, exec .plateCutoff s = .next t ∧ (0 < 4 * 2 ^ 32 + s.mantel.addend → nextSeam s ≤ mNs t + 2000) ∧
      (∀ h, t.press.chosen = some h → h ∈ s.press.handles ∧ h.epoch = t.press.epochE ∧ (h.isFrame = true → h.seam ≤ nextSeam s)) ∧
      (t.press.chosen = none → ∀ h ∈ s.press.handles, h.epoch = t.press.epochE → h.isFrame = true ∧ nextSeam s < h.seam) ∧
      (s.press.pendingSet = none → t.press.epochE = s.press.epochE) ∧
      t = clockedAs t { s with press := { s.press with
        epochE := t.press.epochE, handles := t.press.handles, chosen := t.press.chosen, cutoffDone := true
        counts := t.press.counts, secDropped := t.press.secDropped, lastDroppedEpoch := t.press.lastDroppedEpoch } }) ∧
  (∀ (s : State) (e : Int), pressRuns s = true →
    ∃ t, exec (.refreshSeam e) s = .next t ∧ t.press.refreshNo = s.press.refreshNo + 1 ∧ t.press.slot = 0 ∧
      t.press.lastSeam = nextSeam s ∧ t.press.seamSeen = true ∧ t.press.chosen = none ∧ t.press.cutoffDone = false ∧
      t.press.seamErrorPs = e ∧ t.larder.plates = s.larder.plates ∧
      (0 < 4 * 2 ^ 32 + s.mantel.addend → nextSeam s ≤ mNs t) ∧
      (∀ h, s.press.cutoffDone = true → s.press.chosen = some h → t.press.plateOn = h.plate ∧ t.press.plateEpoch = h.epoch ∧
        t.press.plateIsFrame = h.isFrame) ∧
      (s.press.cutoffDone = true → s.press.chosen = none → t.press.plateOn = s.press.plateOn) ∧
      t = clockedAs t (reportedAs t { s with
        press := t.press, larder := t.larder, bindery := t.bindery, coll := t.coll
        screen := { s.screen with cache := t.screen.cache, counts := t.screen.counts }
        spine := { s.spine with lastQuire := t.spine.lastQuire }
        prot := { s.prot with inputs := t.prot.inputs, resumeAtSeam := t.prot.resumeAtSeam }
        mantel := { s.mantel with hold := t.mantel.hold }, arch := { s.arch with copyBegun := t.arch.copyBegun }
        wire := t.wire, fresh := t.fresh })) ∧
  (∀ (s : State) (e : Int) (id : Nat) (x : TripInput), pressRuns s = true → s.prot.inputs[id]? = some x → x.inForce = true →
    ∃ t, exec (.refreshSeam e) s = .next t ∧
      (x.asserted = false → inputLatched s id = false →
        t.prot.inputs[id]? = some { x with inForce := false, quietSince := t.now }) ∧
      (x.asserted = true ∨ inputLatched s id = true → t.prot.inputs[id]? = some x)) ∧
  (∀ (s : State) (o r : List Reading) (iref : BitVec 4), pressRuns s = true → s.press.seamSeen = true →
    s.press.slotsDone = false → s.prot.frozen = false → s.press.darkGap = false →
    ∃ t, exec (.rowSlot ⟨o, r⟩ iref) s = .next t ∧ t.press.slot = s.press.slot + 1 ∧
      t.press.slotsDone = decide (scanRows s ≤ s.press.slot + 1) ∧ t.press.widths.length = rowWidth s ∧
      (0 < 4 * 2 ^ 32 + s.mantel.addend → slotStart s s.press.lastSeam s.press.slot ≤ mNs t) ∧
      (t.press.rowOn = none ∨ t.press.rowOn = some s.press.slot) ∧
      (cellarDark s = true → t.press.rowOn = none ∧ ∀ w ∈ t.press.widths, w = 0) ∧
      t = clockedAs t (reportedAs t { s with
        press := { s.press with
          residues := t.press.residues, counts := t.press.counts, widths := t.press.widths, rowOn := t.press.rowOn
          slot := s.press.slot + 1, slotL := t.press.slotL, slotsDone := t.press.slotsDone, trims6 := t.press.trims6 }
        straps := { s.straps with irefOpen := s.straps.irefOpen ||| iref }, coll := t.coll
        arch := { s.arch with wear := t.arch.wear, wearRest := t.arch.wearRest }, fresh := t.fresh })) ∧
  (∀ (s : State) (o r : List Reading) (iref : BitVec 4) (k w : Nat), pressRuns s = true → s.press.seamSeen = true →
    s.press.slotsDone = false → s.prot.frozen = false → s.press.darkGap = false → s.press.slot < scanRows s → k < rowWidth s →
    (residuesOf s).length = emitterCount s → w = pulseWidth s k →
    ∃ t, exec (.rowSlot ⟨o, r⟩ iref) s = .next t ∧
      (∀ i, i = s.press.slot * rowWidth s + k →
        t.press.residues.getD i 0 =
          (residuesOf s).getD i 0 + ((driveOf s i * windowNow s : Nat) : Int) - ((w * 1048575 : Nat) : Int)) ∧
      (rowOff s s.press.slot = true → t.press.rowOn = none ∧ ∀ v ∈ t.press.widths, v = 0) ∧
      (rowOff s s.press.slot = false → t.press.rowOn = some s.press.slot) ∧
      (rowOff s s.press.slot = false → sinkDark (noteIref s iref) k = false →
        (forceCode s k = 0 → t.press.widths[k]? = some w ∨
          (w < 2000 ∧ k ∈ t.coll.proofSinks ∧ t.press.widths[k]? = some (min (windowNow s) (w + 2400)))) ∧
        (forceCode s k = 2 → t.press.widths[k]? = some (windowNow s))) ∧
      (sinkDark (noteIref s iref) k = true → t.press.widths[k]? = some 0) ∧
      (∀ id x, s.prot.inputs[id]? = some x → x.inForce = true → inputPresent s id = true →
        ((inputMap s id).rowLo ≤ s.press.slot → s.press.slot < (inputMap s id).rowHi →
          t.press.rowOn = none ∧ ∀ v ∈ t.press.widths, v = 0) ∧
        (∀ p ∈ sinksOf s k, (inputMap s id).groups.getLsbD (sinkGroup p) = true → t.press.widths[k]? = some 0)))

/-- The PCLK and the delay lines: an unlocked line is noted with its trim at its end stop, 63 at the top and 0 at the bottom,
with EVENT 0x0702, and a relocked one is noted no more, its trim within 1 to 62, with EVENT 0x0703 (R269, R282); with PCLK
lost dark is forced, every output off, and no refresh runs; its return forces dark no longer for it, and the lines lock
within 200 us, each with a trim of its own from 0 to 63 (R26, R268, R299, R374). Nothing else changes. -/
def Obligations.DelayLinesAndPclk : Prop :=
  (∀ (s : State) (k : Nat) (top : Bool), pressRuns s = true → k < 192 → k ∉ s.press.unlocked →
    ∃ t, exec (.delayLineUnlock k top) s = .next t ∧ eventRaised s t 0x0702 ∧
      t = reportedAs t { s with press := { s.press with
        unlocked := s.press.unlocked ++ [k], trims6 := s.press.trims6.set k (if top then 63 else 0)
        counts := bump s.press.counts 11 } }) ∧
  (∀ (s : State) (k : Nat), pressRuns s = true → k ∈ s.press.unlocked →
    ∃ t v, exec (.delayLineRelock k) s = .next t ∧ eventRaised s t 0x0703 ∧ 1 ≤ v ∧ v ≤ 62 ∧
      t = reportedAs t { s with
        press := { s.press with unlocked := s.press.unlocked.filter (· != k), trims6 := s.press.trims6.set k v }
        fresh := s.fresh + 1 }) ∧
  (∀ s : State, coreOn s = true → s.prot.pclkLost = false →
    ∃ t, exec .pclkLoss s = .next t ∧ pressRuns t = false ∧ (cellarDark s = false → eventRaised s t 0x070B) ∧
      t = reportedAs t { s with
        prot := { s.prot with pclkLost := true }
        cellar := { s.cellar with darkPclk := true, counts := t.cellar.counts }
        press := { s.press with
          slotsDone := true, rowOn := none, widths := [], cutoffDone := false, seamSeen := false, counts := t.press.counts }
        coll := { s.coll with tests := [], proofSinks := [] }
        back := { s.back with alarms := t.back.alarms, buf0 := t.back.buf0, counts := t.back.counts }
        arch := { s.arch with wear := t.arch.wear, wearRest := t.arch.wearRest } }) ∧
  (∀ s : State, coreOn s = true → s.prot.pclkLost = true →
    ∃ t, exec .pclkRestore s = .next t ∧ s.now ≤ t.prot.linesLocked ∧ t.prot.linesLocked ≤ s.now + 200000 ∧
      t.press.trims6.length = 192 ∧ (∀ c ∈ t.press.trims6, c < 64) ∧
      (s.cellar.darkPclk = true → s.cellar.darkWatchdog = false → s.cellar.darkPower = false →
        t.press.residues = [] ∧ eventRaised s t 0x070B) ∧
      (s.cellar.darkWatchdog = true ∨ s.cellar.darkPower = true → t.press.residues = s.press.residues) ∧
      t = reportedAs t { s with
        prot := { s.prot with pclkLost := false, linesLocked := t.prot.linesLocked, resumeAtSeam := true }
        cellar := { s.cellar with darkPclk := false }
        press := { s.press with residues := t.press.residues, trims6 := t.press.trims6 }
        fresh := s.fresh + 2 })

/-- A trip input: asserted while the Press runs, it is in force, its mapped rows and groups are dark at once and held so
(R286, R288), and, where an episode begins, EVENT 0x0707 is raised; while the Press does not run it only stands asserted; one
that returned by the end of its blanking window is only counted (R286 to R288, R291, R303). Deasserted, it is no longer
asserted and its quiet time runs; and one that is neither asserted nor in force ends its episode, with EVENT 0x0708, when 1 s
of quiet has passed (R303). The other inputs stay, and nothing else changes. -/
def Obligations.TripInputsAssertQuietAndEnd : Prop :=
  ∀ (s : State) (id : Nat) (x : TripInput), s.prot.inputs[id]? = some x →
    (inputPresent s id = true → coreOn s = true → s.press.running = true → x.inForce = false →
      ∃ t y, exec (.tripInputAssert id false false) s = .next t ∧ y.asserted = true ∧ y.inForce = true ∧
        y.holding = inputLatched s id ∧ y.seen = true ∧
        (x.episode = false → x.seen = false ∨ x.quietSince + 1000000000 ≤ s.now → y.episode = true ∧ eventRaised s t 0x0707) ∧
        (x.episode = false → x.seen = true → s.now < x.quietSince + 1000000000 → y.episode = false) ∧
        (∀ r, s.press.rowOn = some r → (inputMap s id).rowLo ≤ r → r < (inputMap s id).rowHi →
          t.press.rowOn = none ∧ t.press.widths = []) ∧
        (∀ k, ∀ p ∈ sinksOf s k, (inputMap s id).groups.getLsbD (sinkGroup p) = true →
          t.press.widths.getD k 0 = 0 ∧ (groupsDark t).getLsbD (sinkGroup p) = true) ∧
        (∀ r, (inputMap s id).rowLo ≤ r → r < (inputMap s id).rowHi → rowTripped t r = true) ∧
        y = { x with
          asserted := true, inForce := true, holding := y.holding, seen := true, episode := y.episode
          assertions := y.assertions } ∧
        t = reportedAs t { s with
          prot := { s.prot with inputs := s.prot.inputs.set id y }
          press := { s.press with rowOn := t.press.rowOn, widths := t.press.widths, counts := t.press.counts }
          back := { s.back with alarms := t.back.alarms, buf0 := t.back.buf0, counts := t.back.counts }
          arch := { s.arch with wear := t.arch.wear, wearRest := t.arch.wearRest } }) ∧
    (inputPresent s id = true → coreOn s = false ∨ s.press.running = false →
      exec (.tripInputAssert id false false) s =
        .next { s with prot := { s.prot with inputs := s.prot.inputs.set id { x with asserted := true } } }) ∧
    (inputPresent s id = true → coreOn s = true →
      exec (.tripInputAssert id true true) s =
        .next { s with press := { s.press with counts := bump s.press.counts 25 } }) ∧
    (inputPresent s id = true → x.asserted = true →
      ∃ t, exec (.tripInputDeassert id) s = .next t ∧
        t = { s with prot := { s.prot with
          inputs := s.prot.inputs.set id { x with asserted := false, quietSince := s.now } } }) ∧
    (coreOn s = true → x.episode = true → x.inForce = false → x.asserted = false →
      ∃ t, exec (.tripEpisodeEnd id) s = .next t ∧ x.quietSince + 1000000000 ≤ t.now ∧ eventRaised s t 0x0708 ∧
        t = clockedAs t (reportedAs t { s with
          prot := { s.prot with inputs := s.prot.inputs.set id { x with episode := false, assertions := 0 } } }))

/-- From s to t the clocks stand at the refresh seam that an action of an instant waits for: on the first tick at which Mantel time has
reached it, at once when it has passed (R290, R294, R295). It is the first at or after the instant, and after a loss of PCLK one that is
still to come (R299). -/
def atWaitedSeam (s t : State) (due : Nat) : Prop :=
  0 < 4 * 2 ^ 32 + s.mantel.addend → seamFrom s (mantelOf s due) ≤ mNs t ∧ waitedSeam s due ≤ mNs t ∧
    (t.mantel.time : Int) <
      max (s.mantel.time + 1 : Int) ((seam16 (waitedSeam s due) * 65536 : Nat) + (4 * 2 ^ 32 + s.mantel.addend))

/-- TRIP_CLEAR and FORCE_OUTPUT wait for their refresh seam, 10 us at least after their dispatch, a TRIP_CLEAR that names an
input not assigned being refused with result 3 (R290, R294). At the first refresh seam from then on the clear of a latched
input no longer asserted is done with result 0, of one still asserted with result 6 (R290); a force set stands or is released
with EVENT 0x0709, its application seam noted, and is reported done, a set that lights a sink waking a node in S1 (R402), but
none applies under Cellar dark forcing (R294, R295); and the set ends with EVENT 0x070A at the first refresh seam at or after
its application seam plus limit_s (R295). Nothing else changes. -/
def Obligations.TripClearsAndForceSetsWaitForTheirSeam : Prop :=
  (∀ (s : State) (m : Msg), takeDispatch s 0x0033 = some m →
    ((∀ id ∈ [5, 6, 7], (byteAt m.body 3).getLsbD id = true → auxTrip s id = true) →
      ∃ t, exec .tripClear s = .next t ∧
        t = dispatchedTo { s with prot := { s.prot with
          clears := s.prot.clears ++
            [{ mask := byteAt m.body 3, due := s.now + 10000, chan := m.chan, seq := m.seq, no := m.no }] } } m false) ∧
    ((∃ id ∈ [5, 6, 7], (byteAt m.body 3).getLsbD id = true ∧ auxTrip s id = false) →
      ∃ t, exec .tripClear s = .next t ∧ t = finishedAs s m (doneOf m 3))) ∧
  (∀ (s : State) (c : ClearReq) (rest : List ClearReq) (id : Nat) (x : TripInput), s.prot.clears = c :: rest →
    pressRuns s = true → id < 8 → c.mask = BitVec.twoPow 8 id → s.prot.inputs[id]? = some x → inputLatched s id = true →
    x.inForce = true →
    ∃ t, exec .tripClearRelease s = .next t ∧ atWaitedSeam s t c.due ∧
      (x.asserted = false →
        (x.episode = true → eventRaised s t 0x0708) ∧
        t = clockedAs t (reportedAs t (reportedDone { s with
          prot := { s.prot with
            clears := rest
            inputs := s.prot.inputs.set id { x with
              inForce := false, holding := false, quietSince := t.now, episode := false
              assertions := if x.episode then 0 else x.assertions } }
          press := { s.press with counts := bump s.press.counts 26 } }
          { chan := c.chan, seq := c.seq, no := c.no, result := 0, answers := [], key := none }))) ∧
      (x.asserted = true →
        t = clockedAs t (reportedDone { s with
          prot := { s.prot with clears := rest }, press := { s.press with counts := bump s.press.counts 27 } }
          { chan := c.chan, seq := c.seq, no := c.no, result := 6, answers := [], key := none }))) ∧
  (∀ (s : State) (m : Msg), takeDispatch s 0x0032 = some m →
    (field (wordAt m.body 0) 31 30 = 1 →
      ∃ t f, exec .forceOutput s = .next t ∧ f.limitS = field (wordAt m.body 0) 15 0 ∧ f.width = field (wordAt m.body 4) 31 16 ∧
        f.codes = forceCodes m.body ∧ f.rows = forceRows m.body ∧ (s.power.st ≠ .s1 → t.power = s.power) ∧
        t = dispatchedTo { s with
          prot := { s.prot with forceWait := s.prot.forceWait ++ [(some f, s.now + 10000, m.chan, m.seq, m.no)] }
          power := t.power } m false) ∧
    (field (wordAt m.body 0) 31 30 = 0 →
      ∃ t, exec .forceOutputRelease s = .next t ∧
        t = dispatchedTo { s with
          prot := { s.prot with forceWait := s.prot.forceWait ++ [(none, s.now + 10000, m.chan, m.seq, m.no)] } } m false)) ∧
  (∀ (s : State) (f : Option ForceSet) (due : Nat) (ch : Half) (q : Word) (no : Nat)
    (rest : List (Option ForceSet × Nat × Half × Word × Nat)), s.prot.forceWait = (f, due, ch, q, no) :: rest →
    pressRuns s = true →
    (cellarDark s = true → exec .forceSetApply s = .next s) ∧
    (cellarDark s = false →
      ∃ t, exec .forceSetApply s = .next t ∧ eventRaised s t 0x0709 ∧ atWaitedSeam s t due ∧
        t.prot.forceAt = t.now - (mNs t - waitedSeam s due) ∧ (s.power.st ≠ .s1 → t.power = s.power) ∧
        (∀ g, f = some g → s.power.st = .s1 → s.power.waking = none → 2 ∈ g.codes ∨ 3 ∈ g.codes →
          t.power.waking = some 5 ∧ t.power.wakeAt = t.now ∧ t.power.st = .s1) ∧
        t = clockedAs t (reportedAs t (reportedDone { s with
          prot := { s.prot with force := f, forceAt := t.prot.forceAt, forceWait := rest }
          press := { s.press with counts := if f.isSome then bump s.press.counts 28 else s.press.counts }, power := t.power }
          { chan := ch, seq := q, no := no, result := 0, answers := [], key := none })))) ∧
  (∀ (s : State) (f : ForceSet), s.prot.force = some f → f.limitS ≠ 0 → pressRuns s = true → s.prot.forceWait = [] →
    ∃ t, exec .forceLimitExpire s = .next t ∧ eventRaised s t 0x070A ∧ atWaitedSeam s t (s.prot.forceAt + f.limitS * 1000000000) ∧
      t = clockedAs t (reportedAs t { s with
        prot := { s.prot with force := none }, press := { s.press with counts := bump s.press.counts 29 } }))

/-- What the TAP's instructions may change beside their own fields: the resume of the outputs, BYP_HOLD with its ports, and what a freeze
stops of the Press, with the charge of the pulses it cuts (R382). -/
def tapped (t s : State) : State :=
  reportedAs t (queuedAs t { s with
    prot := { s.prot with resumeAtSeam := t.prot.resumeAtSeam }
    press := { s.press with
      slotsDone := t.press.slotsDone, rowOn := t.press.rowOn, widths := t.press.widths, counts := t.press.counts }
    arch := { s.arch with wear := t.arch.wear, wearRest := t.arch.wearRest }
    spine := { s.spine with
      east := t.spine.east, west := t.spine.west, bypHold := t.spine.bypHold, senseDue := t.spine.senseDue } })

/-- JTAG: JTAG_ENABLE opens the TAP for its seconds and JTAG_DISABLE or the limit closes it, each with EVENT 0x070D and
BYPASS in force (R300, R303); under an enable each instruction is the one in force, EXTEST, HIGHZ and FREEZE freezing the
Press, and one that is in force already does nothing when it comes again (R298, R301); without an enable each acts as BYPASS;
BYPASS and Test-Logic-Reset end the one in force. Under SAMPLE/PRELOAD UPDATE_DR loads the cells and changes no pin, under
EXTEST cell 283 drives BYP_HOLD, which the Cellar's release holds low; CAPTURE_DR takes every pin but the ROW control cell
(R71, R301, R302). Nothing else changes. -/
def Obligations.TapInstructionsFollowTheEnable : Prop :=
  (∀ (s : State) (m : Msg), takeDispatch s 0x0070 = some m → field (wordAt m.body 0) 31 31 = 1 →
    ∃ t, exec .jtagEnable s = .next t ∧ eventRaised s t 0x070D ∧
      t = reportedAs t (finishedAs { s with prot := { s.prot with
        jtagOn := true, jtagUntil := some (s.now + field (wordAt m.body 0) 15 0 * 1000000000) } } m (doneOf m 0))) ∧
  (∀ (s : State) (m : Msg), takeDispatch s 0x0070 = some m → field (wordAt m.body 0) 31 31 = 0 → s.prot.jtagOn = true →
    ∃ t, exec .jtagDisable s = .next t ∧ eventRaised s t 0x070D ∧
      t = tapped t (finishedAs { s with prot := { s.prot with
        jtagOn := false, jtagUntil := none, tap := .bypass, frozen := false, frozenDark := false } } m (doneOf m 0))) ∧
  (∀ (s : State) (u : Nat), s.prot.jtagUntil = some u → running s = true → s.prot.jtagOn = true →
    ∃ t, exec .jtagEnableExpire s = .next t ∧ eventRaised s t 0x070D ∧ u ≤ t.now ∧
      t = clockedAs t (tapped t { s with prot := { s.prot with
        jtagOn := false, jtagUntil := none, tap := .bypass, frozen := false, frozenDark := false } })) ∧
  (∀ s : State, running s = true → s.prot.jtagOn = true →
    (s.prot.tap ≠ .extest →
      ∃ t, exec .extest s = .next t ∧ t.press.rowOn = none ∧
        t.spine.bypHold = (s.prot.driven.getLsbD 283 && !cellarReleases s) ∧
        t = tapped t { s with prot := { s.prot with tap := .extest, frozen := true, frozenDark := true } }) ∧
    (s.prot.tap ≠ .samplePreload →
      ∃ t, exec .samplePreload s = .next t ∧
        (s.prot.tap ≠ .extest → s.prot.tap ≠ .highz → t.spine = s.spine) ∧
        t = tapped t { s with prot := { s.prot with tap := .samplePreload, frozen := false, frozenDark := false } }) ∧
    (s.prot.tap ≠ .highz →
      ∃ t, exec .highz s = .next t ∧ t.press.rowOn = none ∧ t.spine.bypHold = false ∧
        t = tapped t { s with prot := { s.prot with tap := .highz, frozen := true, frozenDark := true } }) ∧
    (s.prot.tap ≠ .freeze →
      ∃ t, exec .freeze s = .next t ∧ eventRaised s t 0x070C ∧
        t = tapped t { s with prot := { s.prot with tap := .freeze, frozen := true, frozenDark := freezeBlanks s } }) ∧
    (s.prot.tap = .extest → exec .extest s = .next s) ∧ (s.prot.tap = .samplePreload → exec .samplePreload s = .next s) ∧
    (s.prot.tap = .highz → exec .highz s = .next s) ∧ (s.prot.tap = .freeze → exec .freeze s = .next s)) ∧
  (∀ s : State, running s = true →
    (∃ t, exec .bypass s = .next t ∧
      t = tapped t { s with prot := { s.prot with
        tap := .bypass, frozen := s.prot.frozen && s.prot.jtagOn && s.prot.tap == .bypass
        frozenDark := s.prot.frozenDark && s.prot.jtagOn && s.prot.tap == .bypass } }) ∧
    (∃ t, exec .tapReset s = .next t ∧
      t = tapped t { s with prot := { s.prot with tap := .bypass, frozen := false, frozenDark := false } }) ∧
    (s.prot.jtagOn = false → exec .extest s = exec .bypass s ∧ exec .samplePreload s = exec .bypass s ∧
      exec .highz s = exec .bypass s ∧ exec .freeze s = exec .bypass s)) ∧
  (∀ (s : State) (v : BitVec 294), running s = true → s.prot.jtagOn = true →
    (s.prot.tap = .samplePreload →
      ∃ t, exec (.updateDr v) s = .next t ∧ t = { s with prot := { s.prot with boundary := v, driven := v } }) ∧
    (s.prot.tap = .extest →
      ∃ t, exec (.updateDr v) s = .next t ∧ t.spine.bypHold = (v.getLsbD 283 && !cellarReleases s) ∧
        t = tapped t { s with prot := { s.prot with boundary := v, driven := v } }) ∧
    (s.prot.tap = .samplePreload ∨ s.prot.tap = .extest →
      ∃ t, exec (.captureDr v) s = .next t ∧
        (∀ i, i < 294 → t.prot.boundary.getLsbD i = (if i = 192 then s.prot.driven.getLsbD 192 else v.getLsbD i)) ∧
        t = { s with prot := { s.prot with boundary := t.prot.boundary } }))

/-- From s to t a record of a kind is declared for a row and a sink: gathered, and in the map while it has room, else unmapped with EVENT
0x0805; a short disables every sink of its channel, and nothing else is disabled (R317 to R321). -/
def declaredAs (s t : State) (kind row sink : Nat) (isShort : Bool) : Prop :=
  ∃ r : DefectRec, r.kind = BitVec.ofNat 4 kind ∧ r.row = BitVec.ofNat 8 row ∧ r.sink = BitVec.ofNat 8 sink ∧
    r.unmapped = decide (254 ≤ s.arch.mapRecords.length) ∧ t.coll.gathered = s.coll.gathered ++ [(s.now, r)] ∧
    (s.arch.mapRecords.length < 254 → t.arch.mapRecords = s.arch.mapRecords ++ [r]) ∧
    (254 ≤ s.arch.mapRecords.length → t.arch.mapRecords = s.arch.mapRecords ∧ eventRaised s t 0x0805) ∧
    (∀ p, p ∈ t.arch.disabled ↔ p ∈ s.arch.disabled ∨ (isShort = true ∧ p ∈ sinksOf s sink))

/-- The Collator: a first detection of an emitter leaves its FIFO and makes it SUSPECT with count 1, declaring nothing; a
third one of its kind in a later refresh declares it, with its record in the map, unmapped and with EVENT 0x0805 where the
map is full, and a DEFECT record gathered (R316 to R318, R320, R321); a third short of an emitter or of a column disables its
sinks for good, an open or a row disables none (R317, R319); a column detection keeps nothing that its refresh counted for
the column's emitters (R313); every other detection or pass leaves the FIFO too. A DEFECT report carries the records gathered
within 1 ms of the first, up to 63 (R321); the exclusion ends at its instant (R311). Nothing else changes. -/
def Obligations.CollatorTakesReportsAndResumes : Prop :=
  (∀ (s : State) (d : Detection) (rest : List Detection), s.coll.fifo = d :: rest → coreOn s = true → s.start.auxGood = true →
    s.cellar.failAt = none → s.cellar.isolated = false →
    ∃ t, exec .collatorDetection s = .next t ∧
      (∀ row k kind mv n, d = .emitter row k kind mv n → mapGet s.coll.emitters (row * rowWidth s + k) = none →
        t = { s with coll := { s.coll with
          fifo := rest
          emitters := mapSet s.coll.emitters (row * rowWidth s + k)
            { kind := kind, count := 1, lastRefresh := n, passes := 0, before := none } } }) ∧
      (∀ row k mv n o, d = .emitter row k .opn mv n → mapGet s.coll.emitters (row * rowWidth s + k) = some o → o.kind = .opn →
        o.count = 2 → o.lastRefresh ≠ n → s.arch.mapRecords.length < 254 →
        ∃ r : DefectRec, r.kind = 1 ∧ r.unmapped = false ∧ r.row = BitVec.ofNat 8 row ∧ r.sink = BitVec.ofNat 8 k ∧
          t.arch.mapRecords = s.arch.mapRecords ++ [r] ∧ t.coll.gathered = s.coll.gathered ++ [(s.now, r)] ∧
          t.arch.disabled = s.arch.disabled) ∧
      (∀ row k mv n o, d = .emitter row k .shrt mv n → mapGet s.coll.emitters (row * rowWidth s + k) = some o → o.kind = .shrt →
        o.count = 2 → o.lastRefresh ≠ n → declaredAs s t 2 row k true) ∧
      (∀ k kind mv n o, d = .column k kind mv n → mapGet s.coll.columns k = some o → o.kind = kind → o.count = 2 →
        o.lastRefresh ≠ n → (∀ e ∈ s.coll.emitters, e.1 % rowWidth s = k → e.2.lastRefresh ≠ n) →
        declaredAs s t (if kind = .shrt then 3 else 4) 0xFF k (kind == .shrt)) ∧
      (∀ row n o, d = .row row n → mapGet s.coll.rows row = some o → o.kind = .opn → o.count = 2 → o.lastRefresh ≠ n →
        declaredAs s t 5 row 0xFF false) ∧
      (∀ k kind mv n, d = .column k kind mv n →
        ∀ e ∈ t.coll.emitters, e.1 % rowWidth s = k → n ≠ 0 → e.2.lastRefresh ≠ n) ∧
      t = reportedAs t { s with
        coll := { s.coll with
          fifo := rest, emitters := t.coll.emitters, columns := t.coll.columns, rows := t.coll.rows
          gathered := t.coll.gathered, gatherSince := t.coll.gatherSince, counts := t.coll.counts }
        arch := { s.arch with
          mapRecords := t.arch.mapRecords, disabled := t.arch.disabled, defectCounts := t.arch.defectCounts } }) ∧
  (∀ s : State, coreOn s = true → gatheredNow s ≠ [] →
    ∃ t n, exec .defectReportSend s = .next t ∧ n = (gatheredNow s).length ∧ 1 ≤ n ∧ n ≤ 63 ∧
      (∀ g ∈ s.coll.gathered.take n, g.1 ≤ s.coll.gatherSince + 1000000) ∧
      (assigned s = true → portUp s .east = true → leafRole s = false → s.larder.waiting = [] → reportLevel s + 17 ≤ 248 →
        ∃ r ∈ t.larder.reports, r.kind = 3 ∧ r.spec = 0x0030 ∧
          r.payload = wordsBytes (BitVec.ofNat 32 n :: (s.coll.gathered.take n).flatMap (fun g => defectWords g.2))) ∧
      t = queuedAs t { s with coll := { s.coll with
        gathered := s.coll.gathered.drop n, gatherSince := t.coll.gatherSince } }) ∧
  (∀ s : State, coreOn s = true → s.power.driveGood = true → s.coll.excluded = true →
    ∃ t, exec .collatorExclusionEnd s = .next t ∧ s.coll.excludeUntil ≤ t.now ∧
      t = clockedAs t { s with coll := { s.coll with excluded := false } })

/-! ### The Backstair -/

/-- Participation, offers and the frame sent (R331, R336, R339, R342 to R344). PORTER_STOP, which stops Porter whenever it
comes (log 37), ends in SILENT, or once the frame on the bus has ended; after 11 recessive bits the node is ACTIVE, and its
first ANNOUNCE is due 100 ms after the first entry; the counter on a strobe's arrival, 80 counts a us since it was last set
and the counts of the crossing, less 3, is kept with a whole millisecond of Mantel time, newest of three (that the counter
keeps the node's own REFCLK is log 35). At bus idle, 8 bits later after a transmission in a PASSIVE class, the pending buffer
of the lowest identifier is offered, or of the lowest number, of those whose class is not BUS_OFF, only ANNOUNCE with no
station; an offer before it that was not sent is counted, one cancelled in word 5 alone (log 102). The frame sent leaves the
node in its format and its buffer, one taken off its class's transmit counter, and the next alarm is loaded into buffer 0. -/
def Obligations.BackstairParticipationAndOffers : Prop :=
  (∀ s : State,
    (s.back.pstate = .active → s.back.offered = none →
      ∃ t, exec .porterStop s = .next t ∧ t = { s with back := { s.back with pstate := .silent } }) ∧
    (s.back.pstate = .active → s.back.offered ≠ none →
      ∃ t, exec .porterStop s = .next t ∧ t = { s with back := { s.back with finishing := true } }) ∧
    (s.back.pstate = .integrating →
      ∃ t, exec .porterStop s = .next t ∧ t = { s with back := { s.back with pstate := .silent } })) ∧
  (∀ s : State, s.back.pstate = .integrating →
    ∃ t, exec .busIntegrated s = .next t ∧
      t = { s with back := { s.back with
        pstate := .active, excepted := false, firstActive := some (s.back.firstActive.getD s.now)
        announceDue := if s.back.firstActive = none then some (s.now + 100000000) else s.back.announceDue } }) ∧
  (∀ (s : State) (c : Word), coreOn s = true → svcOn s = true →
    ∃ t, exec (.correlationStrobe c) s = .next t ∧
      t = clockedAs t { s with back := { s.back with
        pairs := ((s.back.counter + BitVec.ofNat 32 ((t.now - s.back.countedAt) * 2 / 25) + c - 3, mNs t / 1000000 * 1000000) ::
          s.back.pairs).take 3 } }) ∧
  (∀ s : State, s.back.pstate = .active →
    (s.back.finishing = true →
      ∃ t, exec .serviceBusIdle s = .next t ∧
        t = { s with back := { s.back with
          pstate := .silent, finishing := false, offered := none, cancelled := false, excepted := false
          counts := t.back.counts } }) ∧
    (s.back.finishing = false →
      ∃ t, exec .serviceBusIdle s = .next t ∧
        (∀ i f, i ≤ 2 → bufferAt s i = some f → (classOf s (f.id.getLsbD 28)).st ≠ .busOff → s.back.station ≠ 0 ∨ i = 2 →
          ∃ j g, t.back.offered = some (j, g) ∧ (if byBuffer s then j ≤ i else g.id ≤ f.id)) ∧
        (∀ j g, t.back.offered = some (j, g) → bufferAt s j = some g ∧ (classOf s (g.id.getLsbD 28)).st ≠ .busOff ∧
          (s.back.station = 0 → j = 2)) ∧
        (s.back.suspend = true → s.now + 8 * arbBitNs s ≤ t.now) ∧ (s.back.suspend = false → t.now = s.now) ∧
        t = clockedAs t { s with back := { s.back with
          offered := t.back.offered, cancelled := false, excepted := false, suspend := false
          counts := if s.back.offered = none then s.back.counts
            else if s.back.cancelled then bump s.back.counts 5 else bump s.back.counts 4 } })) ∧
  (∀ (s : State) (i : Nat) (f : TxFrame), s.back.pstate = .active → s.back.offered = some (i, f) → s.back.excepted = false →
    ∃ t, exec .serviceFrameSent s = .next t ∧
      (classOf t (f.id.getLsbD 28)).txc = (classOf s (f.id.getLsbD 28)).txc - 1 ∧
      classOf t (!f.id.getLsbD 28) = classOf s (!f.id.getLsbD 28) ∧
      (s.back.cancelled = false →
        (i = 0 → t.back.buf0 = s.back.alarms.head? ∧ t.back.alarms = s.back.alarms.drop 1 ∧ t.back.buf1 = s.back.buf1 ∧
          t.back.buf2 = s.back.buf2) ∧
        (i = 1 → t.back.buf1 = none ∧ t.back.buf2 = s.back.buf2) ∧ (2 ≤ i → t.back.buf2 = none ∧ t.back.buf1 = s.back.buf1) ∧
        t.back.secDespite = s.back.secDespite) ∧
      (s.back.cancelled = true → t.back.buf1 = s.back.buf1 ∧ t.back.buf2 = s.back.buf2 ∧
        t.back.secDespite = s.back.secDespite + 1) ∧
      t = reportedAs t { s with
        wire := .service f.id f.data (!classicalOnly s) :: s.wire
        back := { s.back with
          pstate := if s.back.finishing then .silent else .active, finishing := false, offered := none, cancelled := false
          suspend := (classOf s (f.id.getLsbD 28)).st == .passive, alarm := t.back.alarm, chatter := t.back.chatter
          ackRun := 0, lone := false, counts := t.back.counts, secDespite := t.back.secDespite
          despiteMask := t.back.despiteMask, announceFails := t.back.announceFails, buf0 := t.back.buf0, buf1 := t.back.buf1
          buf2 := t.back.buf2, alarms := t.back.alarms } })

/-- The node takes part in the bus and hears frames of a class whose counters are below the limits, as on a bus without errors. -/
def hearsWell (s : State) (chatter fd : Bool) : Prop :=
  s.back.pstate = .active ∧ s.back.excepted = false ∧ (classicalOnly s = true → fd = false) ∧ s.back.lone = false ∧
    (classOf s chatter).st = .active ∧ (classOf s chatter).txc < 128 ∧ (classOf s chatter).rxc < 128 ∧
    s.back.priority = [] ∧ s.back.fifo = []

/-- s after a frame of a class was received on a bus without errors: acknowledged, one off the class's receive counter, and the counts
given (R331, R344, R346). -/
def heard (s : State) (chatter : Bool) (counts : Counters) : State :=
  { setClass s chatter { classOf s chatter with rxc := (classOf s chatter).rxc - 1 } with
    wire := .serviceAck :: s.wire
    back := { (setClass s chatter { classOf s chatter with rxc := (classOf s chatter).rxc - 1 }).back with
      counts := counts, ackRun := 0, suspend := false } }

/-- What a received frame leaves, on a bus without errors: it is acknowledged and counted at census words 0 and, an ALARM
one, 2, and at word 1 where it is stored (R349). The four ALARM kinds to every node or to this one are reported as EVENT
0x0901 with kind, source, item and data at their stamp, the counter on the cycle of their start less 2, those to another are
not (R333, R337 to R339, R347); TEMP, PSU_STATUS, FAN_STATUS and PEER_STATUS are kept by index and source with the time now
(R333, R334, R338; what is kept by which key is log 36); ANNOUNCE marks its serial heard (R336). A remote frame is only
acknowledged; a base identifier, or a reserved kind of class CHATTER or of class ALARM to another node, is counted at word
14, and a reserved kind of class ALARM to this node or to all at word 1, and ignored (R327, R333, R337, R349; log 101). At
CFG_SVC level 111 an FD frame is a protocol exception (R328). Nothing else changes. -/
def Obligations.BackstairFramesReceived : Prop :=
  (∀ (s : State) (f : ServiceFrame) (c : Instr) (k n : Nat),
    (c = .psuFault f ∧ k = 1 ∧ n = 2 ∨ c = .overtemp f ∧ k = 2 ∧ n = 2 ∨ c = .fanFault f ∧ k = 3 ∧ n = 1 ∨
      c = .peerFault f ∧ k = 4 ∧ n = 2) → hearsWell s false f.fd → f.chatter = false → n ≤ f.data.length →
    (f.dest = 0xFF ∨ (s.back.station ≠ 0 ∧ f.dest = s.back.station) → s.larder.events.length < 256 →
      ∃ t, exec c s = .next t ∧
        t.larder.events = s.larder.events ++ [{
          code := 0x0901, arg0 := BitVec.ofNat 16 (f.src.toNat * 256 + k * 16)
          tsec := tsecOf (stampTime s (counterNow s - f.stamp - 2)), tns := tnsOf (stampTime s (counterNow s - f.stamp - 2))
          arg1 := BitVec.ofNat 32 (f.item.toNat * 2 ^ 24 + beNat ((f.data ++ [0, 0, 0]).take 3)) }] ∧
        t = reportedAs t (heard s false (bump (bump (bump s.back.counts 0) 2) 1))) ∧
    (f.dest ≠ 0xFF → f.dest ≠ s.back.station → (∀ p ∈ s.back.patterns, p = none) →
      exec c s = .next (heard s false (bump (bump s.back.counts 0) 2)))) ∧
  (∀ (s : State) (f : ServiceFrame), hearsWell s true f.fd → f.chatter = true →
    (2 ≤ f.data.length → f.item.toNat < 64 →
      ∃ t g, exec (.temp f) s = .next t ∧
        { index := f.item.toNat, src := f.src, data := f.data.take 8, time := s.now, stamp := counterNow s - f.stamp - 2
          valid := halfAt f.data 0 != 0x8000, good := g } ∈ t.back.sensors ∧
        (halfAt f.data 0 ≠ 0x8000 → g = some (halfAt f.data 0, counterNow s - f.stamp - 2)) ∧
        (∀ k : Kept, k.index ≠ f.item.toNat → (k ∈ t.back.sensors ↔ k ∈ s.back.sensors)) ∧
        t = { heard s true t.back.counts with
          back := { (heard s true t.back.counts).back with sensors := t.back.sensors } }) ∧
    (8 ≤ f.data.length →
      ∃ t k, exec (.psuStatus f) s = .next t ∧ k ∈ t.back.supplies ∧ k.index = f.item.toNat ∧ k.src = f.src ∧
        k.data = f.data.take 8 ∧ k.time = s.now ∧ k.valid = true ∧
        (∀ k : Kept, ¬(k.index = f.item.toNat ∧ k.src = f.src) → (k ∈ t.back.supplies ↔ k ∈ s.back.supplies)) ∧
        t = { heard s true t.back.counts with
          back := { (heard s true t.back.counts).back with supplies := t.back.supplies } }) ∧
    (4 ≤ f.data.length →
      ∃ t k, exec (.fanStatus f) s = .next t ∧ k ∈ t.back.fans ∧ k.index = f.item.toNat ∧ k.src = f.src ∧
        k.data = f.data.take 8 ∧ k.time = s.now ∧ k.valid = true ∧
        (∀ k : Kept, ¬(k.index = f.item.toNat ∧ k.src = f.src) → (k ∈ t.back.fans ↔ k ∈ s.back.fans)) ∧
        t = { heard s true t.back.counts with
          back := { (heard s true t.back.counts).back with fans := t.back.fans } }) ∧
    (8 ≤ f.data.length → ¬(s.back.station ≠ 0 ∧ f.src = s.back.station) →
      ∃ t k, exec (.peerStatus f) s = .next t ∧ k ∈ t.back.peerStatus ∧ k.index = f.src.toNat - 0x10 ∧ k.src = f.src ∧
        k.data = f.data.take 8 ∧ k.time = s.now ∧ k.valid = true ∧
        (∀ k : Kept, ¬(k.index = f.src.toNat - 0x10 ∧ k.src = f.src) → (k ∈ t.back.peerStatus ↔ k ∈ s.back.peerStatus)) ∧
        t = { heard s true t.back.counts with
          back := { (heard s true t.back.counts).back with peerStatus := t.back.peerStatus } }) ∧
    (∀ low, 8 ≤ f.data.length → s.back.peers.length < 15 → longAt f.data 0 ≠ Config.serialFuses →
      ∃ t, exec (.announce low f) s = .next t ∧ (∃ p ∈ t.back.peers, p.serial = longAt f.data 0 ∧ p.heard = s.now) ∧
        (∀ p ∈ s.back.peers, s.now ≤ p.heard + 5000000000 → p.serial ≠ longAt f.data 0 → p ∈ t.back.peers) ∧
        t = { heard s true t.back.counts with
          back := { (heard s true t.back.counts).back with peers := t.back.peers, peersSince := t.back.peersSince } })) ∧
  (∀ (s : State) (b : Bool) (k : BitVec 4) (f : ServiceFrame), hearsWell s f.chatter f.fd →
    (∃ t, exec (.reservedKindFrame ⟨b, true, k, f⟩) s = .next t ∧ t = heard s f.chatter (bump s.back.counts 0)) ∧
    (∃ t, exec (.reservedKindFrame ⟨true, false, k, f⟩) s = .next t ∧
      t = heard s f.chatter (bump (bump s.back.counts 0) 14)) ∧
    (f.chatter = false → reservedKind k = true →
      ∃ t, exec (.reservedKindFrame ⟨false, false, k, f⟩) s = .next t ∧
        t = heard s false (bump (bump (bump s.back.counts 0) 2)
          (if f.dest = 0xFF ∨ (s.back.station ≠ 0 ∧ f.dest = s.back.station) then 1 else 14))) ∧
    (f.chatter = true → reservedKind k = true →
      ∃ t, exec (.reservedKindFrame ⟨false, false, k, f⟩) s = .next t ∧ t = heard s true (bump (bump s.back.counts 0) 14))) ∧
  (∀ (s : State) (f : ServiceFrame) (low : BitVec 24) (c : Instr), s.back.pstate = .active → s.back.excepted = false →
    classicalOnly s = true → f.fd = true →
    c ∈ [.psuFault f, .overtemp f, .fanFault f, .peerFault f, .announce low f, .temp f, .psuStatus f, .fanStatus f,
      .peerStatus f] →
    exec c s = .next { s with back := { s.back with counts := bump s.back.counts 12, excepted := true } })

/-- Error confinement: an error is counted and charged to its class, 8 on a sender's transmit counter and 1 on a receiver's
receive counter, with 8 more for a dominant bit right after a receiver's flag or an error in the flag itself, 8 more on
either for each 8 dominant bits in a row behind a flag, and nothing for an acknowledgement error of a PASSIVE sender that
sees no dominant bit (the charges beyond R344's own words are those of ISO 11898-1, log 6, PRESUMED); the class follows each
increment, an ACTIVE one whose counter reaches 128 being PASSIVE and a PASSIVE one whose transmit counter passes 255 BUS_OFF,
with EVENT 0x0902 and no further charge; a run of dominant bits behind an overload flag is charged alone; the other class and
the alarms that wait stay, and a sender's frame leaves the bus (R344). A protocol exception is counted, and the node waits
for bus idle (R327). A class leaves BUS_OFF with both counters 0; ALARM's recovery completes each waiting BUS_RESUME with
result 0; BUS_RESUME starts it, or answers 6 when ALARM is not BUS_OFF, and answers 7 after 10 s (R344, R345). A BUS_RESUME
body is 4 bytes; alarms that wait are offered and sent once ALARM is not BUS_OFF (R345). -/
def Obligations.BackstairErrorsAndRecovery : Prop :=
  (∀ (s : State) (kind : BusErrorKind) (ch tx df : Bool) (after : AfterFlag), s.back.pstate = .active → s.back.excepted = false →
    kind ≠ .protocolException → (classOf s ch).st ≠ .busOff → overloadRun after = false →
    ∃ t, exec (.serviceBusError ⟨kind, after⟩ false ch tx df) s = .next t ∧
      (tx = true → t.back.offered = none ∧ (classOf t ch).rxc = (classOf s ch).rxc ∧
        (after = .nothing → kind ≠ .ack ∨ (classOf s ch).st = .active → (classOf t ch).txc = (classOf s ch).txc + 8) ∧
        (after = .nothing → kind = .ack → (classOf s ch).st = .passive → (classOf t ch).txc = (classOf s ch).txc) ∧
        (after = .flagError → (classOf s ch).txc + 8 < 256 → (classOf t ch).txc = (classOf s ch).txc + 16) ∧
        (∀ n, after = .dominantRun n → (classOf s ch).txc + n / 8 * 8 < 256 →
          (classOf t ch).txc = (classOf s ch).txc + 8 + n / 8 * 8) ∧
        (∀ n, after = .dominantRun n → (classOf s ch).st = .passive → 255 < (classOf s ch).txc + 8 →
          (classOf t ch).txc = (classOf s ch).txc + 8 ∧ (classOf t ch).st = .busOff ∧ eventRaised s t 0x0902) ∧
        (after = .nothing → (classOf s ch).st = .active → 128 ≤ (classOf s ch).txc + 8 →
          (classOf t ch).st = .passive ∧ eventRaised s t 0x0902)) ∧
      (tx = false → (classOf s ch).txc < 256 → t.back.offered = s.back.offered ∧ (classOf t ch).txc = (classOf s ch).txc ∧
        (after = .nothing → (classOf t ch).rxc = (classOf s ch).rxc + 1) ∧
        (after = .dominant ∨ after = .flagError → (classOf t ch).rxc = (classOf s ch).rxc + 9) ∧
        (∀ n, after = .dominantRun n → 0 < n → (classOf t ch).rxc = (classOf s ch).rxc + 9 + n / 8 * 8)) ∧
      classOf t (!ch) = classOf s (!ch) ∧ t.back.counts.getD (errorCount kind) 0 = s.back.counts.getD (errorCount kind) 0 +
        (if errorCount kind < s.back.counts.length then 1 else 0) ∧
      t.wire = .errorFlag ((classOf s ch).st == .passive) :: s.wire ∧
      t = reportedAs t { s with
        wire := t.wire
        back := { s.back with
          pstate := t.back.pstate, offered := t.back.offered, cancelled := t.back.cancelled, finishing := t.back.finishing
          suspend := t.back.suspend, alarm := t.back.alarm, chatter := t.back.chatter, counts := t.back.counts
          ackRun := t.back.ackRun, lone := t.back.lone, announceFails := t.back.announceFails
          announceStopped := t.back.announceStopped, station := t.back.station, statusDue := t.back.statusDue
          buf1 := t.back.buf1, buf2 := t.back.buf2 } }) ∧
  (∀ (s : State) (kind : BusErrorKind) (ch tx df : Bool) (n : Nat), s.back.pstate = .active → s.back.excepted = false →
    kind ≠ .protocolException → (classOf s ch).st ≠ .busOff →
    (classOf s ch).txc + (if tx then n / 8 * 8 else 8) < 264 →
    ∃ t, exec (.serviceBusError ⟨kind, .overloadRun n⟩ false ch tx df) s = .next t ∧
      (tx = true → (classOf t ch).txc = (classOf s ch).txc + n / 8 * 8 ∧ (classOf t ch).rxc = (classOf s ch).rxc) ∧
      (tx = false → (classOf t ch).rxc = (classOf s ch).rxc + n / 8 * 8 ∧ (classOf t ch).txc = (classOf s ch).txc) ∧
      classOf t (!ch) = classOf s (!ch) ∧
      t = reportedAs t { s with back := { s.back with
        alarm := t.back.alarm, chatter := t.back.chatter, counts := t.back.counts } }) ∧
  (∀ (s : State) (b ch tx df : Bool) (after : AfterFlag), s.back.pstate = .active → s.back.excepted = false →
    ∃ t, exec (.serviceBusError ⟨.protocolException, after⟩ b ch tx df) s = .next t ∧
      t = { s with back := { s.back with counts := bump s.back.counts 12, excepted := true } }) ∧
  (∀ (s : State) (ch : Bool), (classOf s ch).st = .busOff → svcOn s = true →
    (ch = true →
      ∃ t, exec (.busOffRecovery ch) s = .next t ∧ eventRaised s t 0x0902 ∧
        t = reportedAs t { s with back := { s.back with chatter := { st := .active, txc := 0, rxc := 0, recovering := false } } }) ∧
    (ch = false → s.back.alarm.recovering = true →
      ∃ t, exec (.busOffRecovery ch) s = .next t ∧ eventRaised s t 0x0902 ∧
        t.hall.done = s.hall.done ++ s.back.resume.map (fun r =>
          { chan := r.1, seq := r.2.1, no := r.2.2.1, result := 0, answers := [], key := none }) ∧
        t = reportedAs t { s with
          back := { s.back with alarm := { st := .active, txc := 0, rxc := 0, recovering := false }, resume := [] }
          hall := { s.hall with done := t.hall.done, entries := t.hall.entries } })) ∧
  (∀ (s : State) (m : Msg), takeDispatch s 0x0060 = some m →
    (s.back.alarm.st = .busOff →
      ∃ t, exec .busResume s = .next t ∧
        t = dispatchedTo { s with back := { s.back with
          alarm := { s.back.alarm with recovering := true }
          resume := s.back.resume ++ [(m.chan, m.seq, m.no, s.now)] } } m false) ∧
    (s.back.alarm.st ≠ .busOff → ∃ t, exec .busResume s = .next t ∧ t = finishedAs s m (doneOf m 6))) ∧
  (∀ (s : State) (c : Half) (q : Word) (no b : Nat) (rest : List (Half × Word × Nat × Nat)),
    s.back.resume = (c, q, no, b) :: rest →
    ∃ t, exec .busResumeTimeout s = .next t ∧ b + 10000000000 ≤ t.now ∧
      (rest = [] → t.back.alarm = { s.back.alarm with recovering := false }) ∧ (rest ≠ [] → t.back.alarm = s.back.alarm) ∧
      t = clockedAs t (reportedDone { s with back := { s.back with resume := rest, alarm := t.back.alarm } }
        { chan := c, seq := q, no := no, result := 7, answers := [], key := none })) ∧
  (∀ (s : State) (chan : Half) (b : List Byte), bodyOk s chan 0x0060 b = true ↔ b.length = 4) ∧
  (∀ (s : State) (f : TxFrame), s.back.pstate = .active → s.back.finishing = false → s.back.alarm.st ≠ .busOff →
    s.back.station ≠ 0 → s.back.buf0 = some f → f.id.getLsbD 28 = false → s.back.buf1 = none → s.back.buf2 = none →
    ∃ t u, exec .serviceBusIdle s = .next t ∧ t.back.offered = some (0, f) ∧ exec .serviceFrameSent t = .next u ∧
      u.wire = .service f.id f.data (!classicalOnly s) :: s.wire ∧ u.back.buf0 = s.back.alarms.head?)

/-- What Porter queues: PEER_STATUS every 250 ms in buffer 1 and ANNOUNCE every second in buffer 2 (R335, R336); the station
of the node's rank among the serials heard, or 0 beyond the eighth, once the table, kept in INTEGRATING too, has stood for 3
s, with EVENT 0x0904 for a change (R336); the die measured every 10 ms, and a rise to 120 degrees C queues PEER_FAULT cause 3
(R334, R335). Nothing else changes. -/
def Obligations.BackstairOwnFramesAndStation : Prop :=
  (∀ s : State, s.back.pstate = .active → s.back.station ≠ 0 →
    ∃ t, exec .peerStatusSend s = .next t ∧ s.back.statusDue ≤ t.now ∧
      t = clockedAs t { s with back := { s.back with
        statusDue := t.now + 250000000
        buf1 := some { id := serviceId 1 0xC s.back.station.toNat 0xFF 0, data := peerStatusData s }
        cancelled := t.back.cancelled, counts := t.back.counts } }) ∧
  (∀ (s : State) (d : Nat), s.back.pstate = .active → s.back.announceDue = some d → s.back.announceStopped = false →
    ∃ t, exec .announceSend s = .next t ∧ d ≤ t.now ∧
      t = clockedAs t { s with back := { s.back with
        announceDue := some (t.now + 1000000000)
        buf2 := some { id := BitVec.ofNat 29 (0x18000000 + Config.serialFuses.toNat % 2 ^ 24)
                       data := longBytes Config.serialFuses }
        cancelled := t.back.cancelled, counts := t.back.counts } }) ∧
  (∀ s : State, s.back.pstate = .active ∨ s.back.pstate = .integrating →
    (∀ p ∈ s.back.peers, max s.now (s.back.peersSince + 3000000003) < p.heard + 5000000000) →
    ∃ t, exec .stationChoose s = .next t ∧ s.back.peersSince + 3000000000 ≤ t.now ∧
      t.back.station = (if s.back.announceStopped = true ∨
          8 ≤ (s.back.peers.filter fun p => p.serial < Config.serialFuses).length then 0
        else BitVec.ofNat 8 (0x10 + (s.back.peers.filter fun p => p.serial < Config.serialFuses).length)) ∧
      (t.back.station ≠ s.back.station → eventRaised s t 0x0904) ∧
      t = clockedAs t (reportedAs t { s with back := { s.back with
        station := t.back.station, statusDue := t.back.statusDue, buf0 := t.back.buf0, buf1 := t.back.buf1
        alarms := t.back.alarms, cancelled := t.back.cancelled, counts := t.back.counts } })) ∧
  (∀ (s : State) (v : Int), svcOn s = true →
    ∃ t, exec (.dieTempMeasure v) s = .next t ∧ (s.back.dieMeasured = true → s.back.dieTempAt + 10000000 ≤ t.now) ∧
      (s.back.station ≠ 0 → s.back.buf0 = none → s.back.alarms = [] → 1920 ≤ v →
        (s.back.dieMeasured = true → s.back.dieTemp < 1920) →
        t.back.buf0 = some { id := serviceId 0 4 s.back.station.toNat 0xFF 0, data := [3, 0xFF] }) ∧
      (v < 1920 → t.back.buf0 = s.back.buf0 ∧ t.back.alarms = s.back.alarms) ∧
      t = clockedAs t (reportedAs t { s with back := { s.back with
        dieTemp := v, dieTempAt := t.now, dieMeasured := true, buf0 := t.back.buf0, alarms := t.back.alarms
        counts := t.back.counts } }))

/-! ### The legacy port -/

/-- The start address and the personality at which a packet that began at an instant is read: those that stand, or, where a SET came
at or after it, those that the first such SET put aside (R357, R367). -/
def readsWith (s : State) (began : Nat) (r : ReadAs) : Prop :=
  (∀ x ∈ s.legacy.replaced, x.2.2 < began) ∧ r.start = s.legacy.blk.start ∧ r.personality = s.legacy.blk.personality ∨
    ∃ newer x older, s.legacy.replaced = newer ++ x :: older ∧ began ≤ x.2.2 ∧ (∀ y ∈ older, y.2.2 < began) ∧
      r.start = x.1 ∧ r.personality = x.2.1

/-- A level packet with a break of 88 us and a mark of 8 us, whole to its footprint, gives the level of its slots in U1.15,
8-bit under personality 1 and 16-bit under 2 and 3, and a standalone node under 3 its slate select and fade slots, and is the
newest valid data (R352, R353); a short break, or a framing error within the footprint, discards it, another start code is
counted, an RDM request with a framing error as a packet in error (R352, R366). A SET of the start address or personality
takes effect from the next packet: one that had begun, its time on the line as log 6 has it (PRESUMED), is read at the old
(R357, R367). After 1.25 s without one the data is lost, with EVENT 0x0A01, its slots kept, and the first packet restores it
with EVENT 0x0A02 (R355, R364); each loss tells anew of a loss slate not stored (R203). In the ring modes only the level
slots are read (R353). The port is served while CORE is on (log 67). Nothing else changes. Identify in a standalone mode
turns the light over every 500 ms (R357). A change stands in the legacy block by 300 ms, its count one more (R358, R366).
LEGACY_HOUSE writes its permission and cap and is done with result 0 (R362). Nothing else changes but the bad words that the
write makes good (R378). -/
def Obligations.LegacyLevelsBlockAndHouse : Prop :=
  ((∀ (s : State) (brk mab : Nat) (slots : List Byte) (r : ReadAs), portServes s [.dmxRdm, .dmx] = true → 88 ≤ brk → 8 ≤ mab →
    readsWith s (s.now - packetNs brk mab slots.length) r → 1 ≤ r.start → r.start + footprint r.personality ≤ 513 →
    r.start + footprint r.personality ≤ slots.length + 1 →
    ∃ t, exec (.dmxPacket brk mab 0 slots none) s = .next t ∧
      t.legacy.dmxLevel =
        (if r.personality = 1 then rdivN ((slots.getD (r.start - 1) 0).toNat * 32768) 255
         else rdivN ((256 * (slots.getD (r.start - 1) 0).toNat + (slots.getD r.start 0).toNat) * 32768) 65535) ∧
      (s.legacy.lost = false → t.larder = s.larder ∧ t.arch = s.arch ∧ t.legacy.afterLoss = s.legacy.afterLoss) ∧
      (s.legacy.lost = true → s.larder.events.length < 256 → t.larder.events = s.larder.events ++ [{
        code := 0x0A02, arg0 := 0, tsec := tsecOf (mNs s), tns := tnsOf (mNs s), arg1 := 0 }]) ∧
      (standalone s = false ∨ r.personality ≠ 3 →
        t.legacy.slateSel = s.legacy.slateSel ∧ t.legacy.fadeSlot = s.legacy.fadeSlot) ∧
      (standalone s = true → r.personality = 3 →
        t.legacy.slateSel = (slots.getD (r.start + 1) 0).toNat ∧ t.legacy.fadeSlot = (slots.getD (r.start + 2) 0).toNat) ∧
      t = reportedAs t { s with legacy := { s.legacy with
        coarse := t.legacy.coarse, fine := t.legacy.fine, dmxLevel := t.legacy.dmxLevel, slateSel := t.legacy.slateSel
        fadeSlot := t.legacy.fadeSlot, dmxSeen := true, lastValid := s.now, lost := false, afterLoss := t.legacy.afterLoss
        readAs := r.personality, replaced := [], counts := t.legacy.counts } }) ∧
  (∀ (s : State) (brk mab : Nat) (sc : Byte) (slots : List Byte) (e : Option Nat), portServes s [.dmxRdm, .dmx] = true →
    ((brk < 88 ∨ mab < 8) →
      ∃ t, exec (.dmxPacket brk mab sc slots e) s = .next t ∧
        t = { s with legacy := { s.legacy with counts := bump s.legacy.counts 1 } }) ∧
    (88 ≤ brk → 8 ≤ mab → sc ≠ 0 → ¬(sc = 0xCC ∧ legacyUse s = .dmxRdm) →
      ∃ t, exec (.dmxPacket brk mab sc slots e) s = .next t ∧
        t = { s with legacy := { s.legacy with counts := bump s.legacy.counts 2 } }) ∧
    (88 ≤ brk → 8 ≤ mab → legacyUse s = .dmxRdm →
      exec (.dmxPacket brk mab 0xCC slots none) s = .next s ∧
      ∀ k, ∃ t, exec (.dmxPacket brk mab 0xCC slots (some k)) s = .next t ∧
        t = { s with legacy := { s.legacy with counts := bump s.legacy.counts 1 } }) ∧
    (∀ k r, 88 ≤ brk → 8 ≤ mab → readsWith s (s.now - packetNs brk mab slots.length) r → k < r.start + footprint r.personality →
      ∃ t, exec (.dmxPacket brk mab 0 slots (some k)) s = .next t ∧
        t = { s with legacy := { s.legacy with counts := bump s.legacy.counts 1 } })) ∧
  (∀ s : State, portServes s [.dmxRdm, .dmx] = true → s.legacy.dmxSeen = true → s.legacy.lost = false →
    ∃ t, exec .dmxLoss s = .next t ∧ s.legacy.lastValid + 1250000000 ≤ t.now ∧ eventRaised s t 0x0A01 ∧
      t = clockedAs t (reportedAs t { s with
        legacy := { s.legacy with lost := true, counts := bump s.legacy.counts 7 }
        larder := { s.larder with lossSlateTold := false } }))) ∧
  ((∀ s : State, coreOn s = true → standalone s = true → s.legacy.identify = true →
    ∃ t, exec .identifyToggle s = .next t ∧ s.legacy.identifyDue ≤ t.now ∧
      t = clockedAs t { s with legacy := { s.legacy with
        identifyDark := !s.legacy.identifyDark, identifyDue := t.now + 500000000 } }) ∧
  (∀ (s : State) (due : Nat), running s = true → s.start.auxGood = true → s.cellar.isolated = false → s.cellar.failAt = none →
    s.legacy.writeDue = some due →
    ∃ t, exec .legacyBlockWrite s = .next t ∧ t.now ≤ max s.now (due + 3) ∧ (∀ o ∈ t.arch.badWords, o ∈ s.arch.badWords) ∧
      t = clockedAs t { s with
        arch := { s.arch with legacySaved := some s.legacy.blk, badWords := t.arch.badWords }
        legacy := { s.legacy with writeDue := none, counts := bump s.legacy.counts 9 }, fresh := s.fresh + 1 }) ∧
  (∀ (s : State) (m : Msg), takeDispatch s 0x0061 = some m →
    ∃ t, exec .legacyHouse s = .next t ∧
      t.legacy.blk = { s.legacy.blk with
        allow := (wordAt m.body 0).getLsbD 31, cap := (wordAt m.body 0).toNat % 65536 } ∧
      (∀ o ∈ t.arch.badWords, o ∈ s.arch.badWords) ∧
      t = finishedAs { s with
        legacy := { s.legacy with blk := t.legacy.blk, writeDue := none, counts := bump s.legacy.counts 9 }
        arch := { s.arch with legacySaved := some t.legacy.blk, badWords := t.arch.badWords } } m (doneOf m 0)))

/-- From s to t the port sent one RDM response, that began 176 us to 2.0 ms after its request and keeps LX_DE high while it is sent:
s but for it, the counts given and the free value of its delay (R351, R357; its length is that of log 6, PRESUMED). -/
def rdmReplied (s t : State) (pid : Half) (ack : Bool) (reason : Half) (data : List Byte) (counts : Counters) : Prop :=
  ∃ d, 176000 ≤ d ∧ d ≤ 2000000 ∧
    t = { s with
      wire := .rdm pid ack reason data d :: s.wire
      legacy := { s.legacy with
        counts := counts, replyFrom := s.now + d, replyUntil := s.now + d + 1000 * replyUs pid ack data }
      fresh := s.fresh + 1 }

/-- From s to t an RDM SET of the node's UID was refused as out of range, and changed nothing (R357). -/
def rdmRefused (s t : State) (pid : Half) : Prop := rdmReplied s t pid false 0x0006 [] (bump (bump s.legacy.counts 3) 4)

/-- From s to t an RDM SET of the node's UID was taken: its EVENT 0x0A03, its answer within 176 us to 2.0 ms, and of the port what v is
(R351, R357, R364). -/
def rdmTaken (s t : State) (pid : Half) (v : Legacy) : Prop :=
  eventRaised s t 0x0A03 ∧ ∃ d, 176000 ≤ d ∧ d ≤ 2000000 ∧
    t = reportedAs t { s with
      wire := .rdm pid true 0 [] d :: s.wire
      legacy := { v with
        counts := bump s.legacy.counts 3, replyFrom := s.now + d, replyUntil := s.now + d + 1000 * replyUs pid true [] }
      fresh := t.fresh }

/-- A GET to the node's UID is answered with its parameter's data, one to a broadcast reaches it and is not answered; a
parameter outside the table is NACKed as unknown, but a SET of one has no answer from a node without a manufacturer ID (R356,
R357). Discovery answers an unmuted responder in the branch, and DISC_MUTE and DISC_UN_MUTE set the mute, without an answer
where they come to a broadcast. Each answer begins 176 us to 2.0 ms after its request, and nothing else changes. A SET to the
node's UID within its range changes its variable, is answered and raised as EVENT 0x0A03, and is to be written within 300 ms;
outside its range it is NACKed as out of range and changes nothing (R357, R358, R364). A SET that changes identify raises
EVENT 0x0A05; identify shows from a standalone node, so elsewhere that EVENT is the only one and the SET, where it asks for
light or ends it, counts as ignored (R362, R364). A start address or personality replaced is kept for a packet in reception
(R367). Nothing else changes. -/
def Obligations.RdmAnswersAndSets : Prop :=
  ((∀ (s : State) (r : RdmRequest) (c : Instr) (pid : Half) (data : List Byte), portServes s [.dmxRdm] = true →
    (c, pid, data) ∈ [
      (Instr.supportedParameters r, 0x0050#16, [0x00, 0x80, 0x00, 0x81, 0x00, 0x82, 0x00, 0xE0, 0x00, 0xE1, 0x04, 0x00]),
      (Instr.deviceInfo r, 0x0060#16, deviceInfo s),
      (Instr.deviceModelDescription r, 0x0080#16, [0x46, 0x5A, 0x37, 0x32, 0x31, 0x36]),
      (Instr.manufacturerLabel r, 0x0081#16, unpad s.arch.colophon.makerName),
      (Instr.deviceLabelGet r, 0x0082#16, s.legacy.blk.label),
      (Instr.softwareVersionLabel r, 0x00C0#16, 0x42 :: hexBytes (patchShown s)),
      (Instr.dmxPersonalityGet r, 0x00E0#16, [BitVec.ofNat 8 s.legacy.blk.personality, 3]),
      (Instr.dmxStartAddressGet r, 0x00F0#16, beBytes 2 s.legacy.blk.start),
      (Instr.deviceHours r, 0x0400#16, beBytes 4 (s.arch.secondsPowered / 3600)),
      (Instr.identifyDeviceGet r, 0x1000#16, [BitVec.ofNat 8 (bit s.legacy.identify)])] →
    ∃ t, exec c s = .next t ∧
      (r.dest = rdmUid s → rdmReplied s t pid true 0 data (bump s.legacy.counts 3)) ∧
      (r.dest ≠ rdmUid s → t = s)) ∧
  (∀ (s : State) (r : RdmRequest), portServes s [.dmxRdm] = true → r.dest = rdmUid s →
    (∀ n, r.data = [BitVec.ofNat 8 n] → 1 ≤ n → n ≤ 3 →
      ∃ t, exec (.dmxPersonalityDescription r) s = .next t ∧
        rdmReplied s t 0x00E1 true 0 (BitVec.ofNat 8 n :: beBytes 2 (if n = 1 then 1 else if n = 2 then 2 else 4) ++
          (if n = 1 then [0x4C, 0x45, 0x56, 0x45, 0x4C, 0x38] else
            if n = 2 then [0x4C, 0x45, 0x56, 0x45, 0x4C, 0x31, 0x36] else [0x53, 0x4C, 0x41, 0x54, 0x45]))
          (bump s.legacy.counts 3)) ∧
    (∀ n, r.data = [n] → n = 0 ∨ 3 < n →
      ∃ t, exec (.dmxPersonalityDescription r) s = .next t ∧
        rdmReplied s t 0x00E1 false 0x0006 [] (bump (bump s.legacy.counts 3) 4)) ∧
    (∀ pid, (r.isSet = false ∨ s.arch.colophon.esta ≠ 0 → ∃ t, exec (.unknownPid r pid) s = .next t ∧
        rdmReplied s t pid false 0 [] (bump (bump s.legacy.counts 3) 4)) ∧
      (r.isSet = true → s.arch.colophon.esta = 0 → exec (.unknownPid r pid) s = .next s)) ∧
    (∃ t, exec (.discMute r) s = .next t ∧
        rdmReplied { s with legacy := { s.legacy with muted := true } } t 0x0002 true 0 [0, 0] (bump s.legacy.counts 3)) ∧
    (∃ t, exec (.discUnMute r) s = .next t ∧
        rdmReplied { s with legacy := { s.legacy with muted := false } } t 0x0003 true 0 [0, 0] (bump s.legacy.counts 3))) ∧
  (∀ (s : State) (r : RdmRequest), portServes s [.dmxRdm] = true → r.dest ≠ rdmUid s → rdmReaches s r.dest = true →
    exec (.discMute r) s = .next { s with legacy := { s.legacy with muted := true } } ∧
    exec (.discUnMute r) s = .next { s with legacy := { s.legacy with muted := false } }) ∧
  (∀ (s : State) (lower upper : BitVec 48), portServes s [.dmxRdm] = true →
    (s.legacy.muted = false → lower ≤ rdmUid s → rdmUid s ≤ upper →
      ∃ t, exec (.discUniqueBranch lower upper) s = .next t ∧
        rdmReplied s t 0x0001 true 0 (beBytes 6 (rdmUid s).toNat) (bump s.legacy.counts 3)) ∧
    (¬(s.legacy.muted = false ∧ lower ≤ rdmUid s ∧ rdmUid s ≤ upper) → exec (.discUniqueBranch lower upper) s = .next s))) ∧
  (∀ (s : State) (r : RdmRequest), portServes s [.dmxRdm] = true → r.dest = rdmUid s → s.arch.colophon.esta ≠ 0 →
    (∃ t, exec (.deviceLabelSet r) s = .next t ∧
      (r.data.length ≤ 32 → rdmTaken s t 0x0082 { s.legacy with
        blk := { s.legacy.blk with label := r.data }, writeDue := some (s.legacy.writeDue.getD (s.now + 300000000)) }) ∧
      (32 < r.data.length → rdmRefused s t 0x0082)) ∧
    (∀ n, n < 256 → r.data = [BitVec.ofNat 8 n] →
      ∃ t, exec (.dmxPersonalitySet r) s = .next t ∧
        (1 ≤ n ∧ n ≤ 3 ∧ s.legacy.blk.start + footprint n ≤ 513 → rdmTaken s t 0x00E0 { s.legacy with
          blk := { s.legacy.blk with personality := n }, writeDue := some (s.legacy.writeDue.getD (s.now + 300000000))
          replaced := (s.legacy.blk.start, s.legacy.blk.personality, s.now) :: s.legacy.replaced }) ∧
        (¬(1 ≤ n ∧ n ≤ 3 ∧ s.legacy.blk.start + footprint n ≤ 513) → rdmRefused s t 0x00E0)) ∧
    (∀ n, n < 65536 → r.data = beBytes 2 n →
      ∃ t, exec (.dmxStartAddressSet r) s = .next t ∧
        (1 ≤ n ∧ n + footprint s.legacy.blk.personality ≤ 513 → rdmTaken s t 0x00F0 { s.legacy with
          blk := { s.legacy.blk with start := n }, writeDue := some (s.legacy.writeDue.getD (s.now + 300000000))
          replaced := (s.legacy.blk.start, s.legacy.blk.personality, s.now) :: s.legacy.replaced }) ∧
        (¬(1 ≤ n ∧ n + footprint s.legacy.blk.personality ≤ 513) → rdmRefused s t 0x00F0)) ∧
    (∀ n, n < 256 → r.data = [BitVec.ofNat 8 n] →
      ∃ t, exec (.identifyDeviceSet r) s = .next t ∧
        (n ≤ 1 → (decide (n = 1) ≠ s.legacy.identify → eventRaised s t 0x0A05) ∧
          (decide (n = 1) = s.legacy.identify → standalone s = false → t.larder.events = s.larder.events) ∧ (standalone s = true → eventRaised s t 0x0A03) ∧
          ∃ d, 176000 ≤ d ∧ d ≤ 2000000 ∧ t = reportedAs t { s with
            wire := .rdm 0x1000 true 0 [] d :: s.wire
            legacy := { s.legacy with
              identify := decide (n = 1), identifyDark := false, identifyDue := s.now + 500000000
              replyFrom := s.now + d, replyUntil := s.now + d + 1000 * replyUs 0x1000 true []
              counts := bump (if standalone s = true ∨ n = 0 ∧ s.legacy.identify = false then s.legacy.counts
                else bump s.legacy.counts 8) 3 }
            fresh := s.fresh + 1 }) ∧
        (1 < n → rdmRefused s t 0x1000)))

/-- A 16-bit DALI frame counts (R366); a direct level to a broadcast or to the gear's own short address goes to that level,
brought between the minimum and maximum level, and arc level 0 stays 0, over the fade time in force from the next frame seam
(log 69); a query of the minimum level is answered 5.5 to 10.5 ms later; a frame of another length is ignored (R359). A
system failure applies the system failure level unless it is MASK, with EVENT 0x0A01, and the bus's return ends it with EVENT
0x0A02 (R359, R364). Nothing else changes. The frames are of IEC 62386 (log 6, PRESUMED). -/
def Obligations.DaliLevelsAndSystemFailure : Prop :=
  (∀ (s : State) (f : BitVec 24), portServes s [.dali] = true →
    (∀ n, n < 255 → s.legacy.dapcUntil = 0 → (f = BitVec.ofNat 24 (0xFE00 + n) ∨
        s.legacy.blk.short < 64 ∧ f = BitVec.ofNat 24 (s.legacy.blk.short * 512 + n)) →
      ∃ t, exec (.daliForwardFrame 16 f) s = .next t ∧
        t.legacy.daliTarget = (if n = 0 then 0 else min s.legacy.blk.maxLevel (max s.legacy.blk.minLevel n)) ∧
        t = { s with legacy := { s.legacy with
          daliFrom := t.legacy.daliFrom, daliTarget := t.legacy.daliTarget, daliFadeMs := daliFade s.legacy.blk
          daliPending := true, powerCycleSeen := false, limitError := t.legacy.limitError
          daliLast := if t.legacy.daliTarget = 0 then s.legacy.daliLast else t.legacy.daliTarget, enabledType := none
          lastConfig := none, lastValid := s.now, counts := bump s.legacy.counts 5 } }) ∧
    (f = 0xFFA2 →
      ∃ t d, exec (.daliForwardFrame 16 f) s = .next t ∧ 5500000 ≤ d ∧ d ≤ 10500000 ∧
        t = { s with
          wire := .dali (BitVec.ofNat 8 s.legacy.blk.minLevel) d :: s.wire
          legacy := { s.legacy with
            enabledType := none, lastConfig := none, lastValid := s.now, counts := bump (bump s.legacy.counts 5) 6 }
          fresh := s.fresh + 1 }) ∧
    (∀ nbits, nbits ≠ 16 → exec (.daliForwardFrame nbits f) s = .next s)) ∧
  (∀ s : State, portServes s [.dali] = true → s.legacy.daliFailed = false →
    ∃ t, exec .daliSystemFailure s = .next t ∧ eventRaised s t 0x0A01 ∧
      (s.legacy.blk.sysFail = 255 → t = reportedAs t { s with legacy := { s.legacy with
        daliFailed := true, lost := true, counts := bump s.legacy.counts 7 }, larder := { s.larder with
        lossSlateTold := false } }) ∧
      (s.legacy.blk.sysFail ≠ 255 →
        t.legacy.daliTarget = (if s.legacy.blk.sysFail = 0 then 0
          else min s.legacy.blk.maxLevel (max s.legacy.blk.minLevel s.legacy.blk.sysFail)) ∧
        t = reportedAs t { s with legacy := { s.legacy with
          daliFailed := true, lost := true, counts := bump s.legacy.counts 7, daliFrom := t.legacy.daliFrom
          daliTarget := t.legacy.daliTarget, daliFadeMs := 0, daliPending := true, powerCycleSeen := false
          limitError := t.legacy.limitError, daliLast := t.legacy.daliLast }, larder := { s.larder with
          lossSlateTold := false } })) ∧
  (∀ s : State, portServes s [.dali] = true → s.legacy.daliFailed = true →
    ∃ t, exec .daliBusReturn s = .next t ∧ eventRaised s t 0x0A02 ∧
      t = reportedAs t { s with legacy := { s.legacy with daliFailed := false, lost := false } })

/-! ### The Cellar, the Archive and the reader -/

/-- The tamper loop, sampled every second: the second open sample running is a tamper event, counted, timed by the RTC,
flagged for the next JOIN, and raised as EVENT 0x0B02; a first open sample, a third, or a closed one is none (R372). No
sample is taken in CUT_OFF (R370). Nothing else changes. The cell moves between its states by VCELL, temperature, charge
current and VDD_AUX, as the table of R370 states, and stays where none of its rows applies; a move is EVENT 0x0B07 (R392),
and CUT_OFF loses the RTC, its alarm, the tamper count and the recorded cause (R370, R411, R412). The states that VCELL
selects, and 4,059 mV for constant voltage, are log 65; charging is outside 0 to 45 C from no state (R369). -/
def Obligations.TamperAndTheCell : Prop :=
  ((∀ (s : State) (o : Bool), s.cellar.cell ≠ .cutOff →
    ∃ t, exec (.tamperSample o) s = .next t ∧ s.cellar.tamperDue ≤ t.now ∧
      (o = true → s.cellar.tamperOpens = 1 → (coreOn s = true → eventRaised s t 0x0B02) ∧
        t = clockedAs t (reportedAs t { s with
          cellar := { s.cellar with
            tamperDue := t.now + 1000000000, tamperClosed := false, tamperOpens := 2
            tamperEvents := s.cellar.tamperEvents + 1, lastTamper := tsecOf (rtcNs t)
            counts := s.cellar.counts.modify 5 (· + 1) }
          addr := { s.addr with tamperSinceJoin := true } })) ∧
      (¬(o = true ∧ s.cellar.tamperOpens = 1) →
        t = clockedAs t { s with cellar := { s.cellar with
          tamperDue := t.now + 1000000000, tamperClosed := !o
          tamperOpens := if o then min 2 (s.cellar.tamperOpens + 1) else 0 } })) ∧
  (∀ (s : State) (o : Bool), s.cellar.cell = .cutOff → exec (.tamperSample o) s = .next s)) ∧
  (∀ (s : State) (mv na : Nat) (c : Int),
    ∃ t, exec (.cellStateChange mv c na) s = .next t ∧
      (s.cellar.cell = .precharge → s.start.auxGood = true → 0 ≤ c → c ≤ 45 →
        t.cellar.cell = (if 3000 ≤ mv then .charge else .precharge)) ∧
      (s.cellar.cell = .charge → s.start.auxGood = true → 0 ≤ c → c ≤ 45 →
        t.cellar.cell = (if 4059 ≤ mv ∧ na < 2000 then .full else .charge)) ∧
      (s.cellar.cell = .full → s.start.auxGood = true → 0 ≤ c → c ≤ 45 →
        t.cellar.cell = (if mv < 4000 then .charge else .full)) ∧
      (s.cellar.cell ≠ .cutOff → s.cellar.cell ≠ .discharge → s.start.auxGood = true → (c < 0 ∨ 45 < c) →
        t.cellar.cell = .paused) ∧
      (s.cellar.cell = .paused → s.start.auxGood = true → (c < 1 ∨ 44 < c) → t.cellar.cell = .paused) ∧
      ((s.cellar.cell = .paused ∧ 1 ≤ c ∧ c ≤ 44 ∨ s.cellar.cell = .discharge ∧ 0 ≤ c ∧ c ≤ 45) → s.start.auxGood = true →
        t.cellar.cell = (if mv < 3000 then .precharge else if mv < 4000 then .charge else .full)) ∧
      (s.cellar.cell ≠ .cutOff → s.cellar.cell ≠ .discharge → s.start.auxGood = false → t.cellar.cell = .discharge) ∧
      (s.cellar.cell = .discharge → s.start.auxGood = false →
        t.cellar.cell = (if mv ≤ 2900 ∧ s.cellar.field = false then .cutOff else .discharge)) ∧
      (s.cellar.cell = .cutOff →
        t.cellar.cell = (if s.start.auxGood = false then .cutOff else if c < 0 ∨ 45 < c then .paused else .precharge)) ∧
      (t.cellar.cell ≠ s.cellar.cell → coreOn s = true → eventRaised s t 0x0B07) ∧
      (t.cellar.cell = .cutOff → s.cellar.cell ≠ .cutOff →
        t = reportedAs t { s with cellar := { s.cellar with
          vcellMv := mv, tempC := c, cell := .cutOff, rtc := 0, rtcPart := 0, rtcValid := false, rtcAlarm := none
          tamperEvents := 0, cause := none } }) ∧
      (t.cellar.cell ≠ .cutOff ∨ s.cellar.cell = .cutOff →
        t = reportedAs t { s with cellar := { s.cellar with vcellMv := mv, tempC := c, cell := t.cellar.cell } }))

/-- s with a persist of the wear integrals and the hours begun as in t, and a recompute of the wear gains to follow (R227, R383). -/
def persistedAs (t s : State) : State :=
  { s with
    arch := { s.arch with
      wearSaved := s.arch.wear, wearOld := s.arch.wearSaved, persistEnd := t.arch.persistEnd
      secondsPowered := t.arch.secondsPowered, poweredFrom := t.arch.poweredFrom, secondsLit := t.arch.secondsLit
      litNs := t.arch.litNs, litFrom := t.arch.litFrom, rtcAtPersist := t.arch.rtcAtPersist }
    bindery := { s.bindery with recomputeDue := true }, fresh := s.fresh + 1 }

/-- A wear list with the two emitters of the word of region 8 at an offset at 0 (R376, R378). -/
def pairLost (ws : List Nat) (off : Word) : List Nat :=
  (ws.set ((off.toNat - 0xC1800) / 8 * 2) 0).set ((off.toNat - 0xC1800) / 8 * 2 + 1) 0

/-- A word of the Archive with one bad bit is corrected and counted in word 12 of section 0x0B alone (R375, R394). One that
cannot be corrected, at a running node, is counted in word 13 and raised as EVENT 0x0B04; a region other than 6 and 8 is
judged at the next start-up, and region 8 loses the two counts of the word, with the integrals they gave (R378, R392, R394).
The hourly persist comes at a whole hour of Mantel time, the next one where this hour is persisted (log 50), ends within 1
ms, at an instant left open (log 3), stores the wear integrals and the hours, and is raised as EVENT 0x0B08 (R383, R392);
after a power-fail detect, and in the entry to a rest state, none starts (R395, R410), and in a brown-out of VDD_AUX the hour
passes without one (R406; log 40). Nothing else changes. -/
def Obligations.ArchiveErrorsAndTheHourlyPersist : Prop :=
  (∀ (s : State) (region : Nat) (off : Word), running s = true → archiveRegion off.toNat = region → off.toNat < 0x100000 →
    (∃ t, exec (.archiveEccError ⟨region, off⟩ true) s = .next t ∧
      t = { s with cellar := { s.cellar with counts := s.cellar.counts.modify 12 (· + 1) } }) ∧
    (∃ t, exec (.archiveEccError ⟨region, off⟩ false) s = .next t ∧ (coreOn s = true → eventRaised s t 0x0B04) ∧
      (region ≠ 6 → region ≠ 8 → t = reportedAs t { s with
        cellar := { s.cellar with counts := s.cellar.counts.modify 13 (· + 1) }
        arch := { s.arch with badWords := off.toNat :: s.arch.badWords } }) ∧
      (region = 8 → t = reportedAs t { s with
        cellar := { s.cellar with counts := s.cellar.counts.modify 13 (· + 1) }
        arch := { s.arch with
          wearSaved := pairLost s.arch.wearSaved off, wear := pairLost s.arch.wear off
          wearRest := pairLost s.arch.wearRest off } }))) ∧
  (∀ s : State, s.cellar.failAt ≠ none ∨ s.power.entryBegun = true → exec .wearPersist s = .next s) ∧
  (∀ s : State, coreOn s = true → archiveOpen s = false → s.cellar.failAt = none → s.power.entryBegun = false →
    0 < 4 * 2 ^ 32 + s.mantel.addend →
    ∃ t h, exec .wearPersist s = .next t ∧ h ≠ s.arch.hourDone ∧ h * 3600000000000 ≤ mNs t ∧
      t = clockedAs t { s with arch := { s.arch with hourDone := h } }) ∧
  (∀ s : State, coreOn s = true → archiveOpen s = true → s.cellar.failAt = none → s.power.entryBegun = false → 0 < 4 * 2 ^ 32 + s.mantel.addend →
    ∃ t h, exec .wearPersist s = .next t ∧ h ≠ s.arch.hourDone ∧ h * 3600000000000 ≤ mNs t ∧ eventRaised s t 0x0B08 ∧
      t.now ≤ t.arch.persistEnd ∧ t.arch.persistEnd ≤ t.now + 1000000 ∧
      t = clockedAs t (reportedAs t (persistedAs t { s with arch := { s.arch with hourDone := h } })))

/-- The reader's session (R388): a field opens one in the ready state and its loss voids the challenge; Inventory answers in
the slot that its mask gives, Select, Reset to Ready and Get System Information answer, Stay Quiet does not; a command
outside the list is refused with error 0x01. The states, the UID's byte order and the flags of Get System Information are
those of ISO/IEC 15693 (log 15, PRESUMED). Nothing else changes. -/
def Obligations.ReaderSession : Prop :=
  (∀ (s : State) (pj : Nat), s.cellar.field = false →
    ∃ t, exec (.readerFieldPresent pj) s = .next t ∧
      t = { s with cellar := { s.cellar with
        field := true, quiet := false, selected := false, reservoirPj := min pj 4320, counts := bump s.cellar.counts 6 } }) ∧
  (∀ s : State, ∃ t, exec .readerFieldLoss s = .next t ∧
      t = { s with cellar := { s.cellar with
        field := false, reservoirPj := 0, quiet := false, selected := false, challenge := none } }) ∧
  (∀ s : State, s.cellar.field = true →
    (s.cellar.quiet = false → ∀ (s16 : Bool) (n : Nat) (m : Long),
      (readerUid.toNat % 2 ^ n = m.toNat % 2 ^ n →
        ∃ t, exec (.inventory s16 (some 0) n m) s = .next t ∧
          t = { s with
            wire := .inventory (if s16 then BitVec.ofNat 4 (readerUid.toNat / 2 ^ n) else 0) (0 :: (longBytes readerUid).reverse)
              :: s.wire }) ∧
      (readerUid.toNat % 2 ^ n ≠ m.toNat % 2 ^ n → exec (.inventory s16 (some 0) n m) s = .next s)) ∧
    (∃ t, exec (.stayQuiet readerUid) s = .next t ∧ t = { s with
        cellar := { s.cellar with quiet := true, selected := false } }) ∧
    (∃ t, exec (.select readerUid) s = .next t ∧
        t = { s with
          wire := .reader none [] :: s.wire, cellar := { s.cellar with quiet := false, selected := true } }) ∧
    (∀ u, u ≠ readerUid → exec (.select u) s = .next { s with cellar := { s.cellar with selected := false } }) ∧
    (∃ t, exec (.resetToReady (.uid readerUid)) s = .next t ∧
        t = { s with
          wire := .reader none [] :: s.wire, cellar := { s.cellar with quiet := false, selected := false } }) ∧
    (∃ t, exec (.getSystemInformation (.uid readerUid)) s = .next t ∧
        t = { s with
          wire := .reader none ([0x07] ++ (longBytes readerUid).reverse ++ [0, 0, 0xFF, 0x1F]) :: s.wire }) ∧
    (∃ t, exec .readerCommandNotSupported s = .next t ∧ t = { s with wire := .reader (some 0x01) [] :: s.wire }))

/-- The case page is read by blocks of 32 bytes (R389); a range past block 255 is error 0x10 (R388). A read of block 8 issues
a challenge with the next counter (R390), which expires after 10 s. A write takes block 9 alone (error 0x12) with the Option
flag (error 0x01), one that names no challenge in force is refused with 0xA3, and one under a role's key with a right tag
pins the address, clears the pin or writes the label, voids the challenge, and is audited (R156, R388, R390, R391; the order
of refusals is log 64). Nothing else changes. -/
def Obligations.CasePageReadsAndWrites : Prop :=
  (∀ (s : State) (b : Byte), s.cellar.field = true → s.cellar.failAt = none → b ≠ 8 →
    ∃ t, exec (.readSingleBlock (.uid readerUid) b) s = .next t ∧
      t = { s with
        wire := .reader none (caseBlock s b.toNat) :: s.wire, cellar := { s.cellar with counts := bump s.cellar.counts 7 } }) ∧
  (∀ s : State, s.cellar.field = true → s.cellar.failAt = none → s.start.coreGood = true → s.start.sdGood = true →
    s.start.auxGood = true →
    ∃ t c, exec (.readSingleBlock (.uid readerUid) 8) s = .next t ∧ c.counter = s.cellar.challengeCount + 1 ∧
      c.issued = s.now ∧
      t = { s with
        wire := .reader none (longBytes c.counter ++ longBytes c.nonce ++ List.replicate 16 0) :: s.wire
        cellar := { s.cellar with
          challenge := some c, challengeCount := c.counter, counts := bump s.cellar.counts 7 } }) ∧
  (∀ (s : State) (b : Byte) (n : Nat), s.cellar.field = true →
    (256 < b.toNat + n → ∃ t, exec (.readMultipleBlocks (.uid readerUid) b n) s = .next t ∧
      t = { s with wire := .reader (some 0x10) [] :: s.wire }) ∧
    (s.cellar.failAt = none → 8 < b.toNat → b.toNat + 1 < 256 →
      ∃ t, exec (.readMultipleBlocks (.uid readerUid) b 2) s = .next t ∧
        t = { s with
          wire := .reader none (caseBlock s b.toNat ++ caseBlock s (b.toNat + 1)) :: s.wire
          cellar := { s.cellar with counts := bump (bump s.cellar.counts 7) 7 } })) ∧
  (∀ (s : State) (c : Challenge), s.cellar.challenge = some c →
    ∃ t, exec .challengeExpire s = .next t ∧ c.issued + 10000000000 ≤ t.now ∧
      t = clockedAs t { s with cellar := { s.cellar with challenge := none } }) ∧
  (∀ (s : State) (b : Byte) (o : Bool) (data : List Byte), s.cellar.field = true →
    (b ≠ 9 → ∃ t, exec (.writeSingleBlock (.uid readerUid) b o data) s = .next t ∧
      t = { s with wire := .reader (some 0x12) [] :: s.wire }) ∧
    (∃ t, exec (.writeSingleBlock (.uid readerUid) 9 false data) s = .next t ∧
      t = { s with wire := .reader (some 0x01) [] :: s.wire }) ∧
    (s.cellar.failAt = none → s.cellar.challenge = none → s.start.auxGood = true →
      ∃ t, exec (.writeSingleBlock (.uid readerUid) 9 true data) s = .next t ∧
        t = reportedAs t { s with
          wire := .reader (some 0xA3) [] :: s.wire, cellar := { s.cellar with counts := bump s.cellar.counts 9 }
          arch := { s.arch with audit := t.arch.audit, auditNext := t.arch.auditNext } }) ∧
    (∀ ch key, s.cellar.failAt = none → s.start.coreGood = true → s.start.sdGood = true → s.start.auxGood = true →
      s.cellar.challenge = some ch → ch.counter.setWidth 32 = wordAt data 4 → s.now ≤ ch.issued + 10000000000 →
      writeMalformed (wordAt data 0) = false → roleKey s (field (wordAt data 0) 31 30) = some key →
      tagOf key (longBytes ch.counter ++ longBytes ch.nonce ++ data.take 24) = (data.drop 24).take 8 →
      ∃ t, exec (.writeSingleBlock (.uid readerUid) 9 true data) s = .next t ∧
        (coreOn s = true → eventRaised s t 0x0B06) ∧
        t = reportedAs t { s with
          wire := .reader none [] :: s.wire
          cellar := { s.cellar with challenge := none, counts := bump s.cellar.counts 8 }
          arch := { s.arch with
            pin := if field (wordAt data 0) 29 24 = 1 then some (BitVec.ofNat 12 (field (wordAt data 0) 11 0))
              else if field (wordAt data 0) 29 24 = 2 then none else s.arch.pin
            label := if field (wordAt data 0) 29 24 = 3 then (data.drop 8).take 16 else s.arch.label
            audit := t.arch.audit, auditNext := s.arch.auditNext + 1 } }))

/-! ### The rest states -/

/-- s in a state of rest d from the entry that completes: DRIVE off and its time of entry kept (R399, R403, R409). -/
def restedIn (t s : State) (d : Rest) : State :=
  { s with
    power := { s.power with
      st := d, entering := none, entryBegun := false, enteredAt := t.now, driveGood := false
      msInRest := t.power.msInRest, counts := t.power.counts }
    coll := { s.coll with excluded := true }
    press := { s.press with rowOn := none, widths := [] }
    arch := { s.arch with
      litFrom := none, litNs := t.arch.litNs, wear := t.arch.wear, wearRest := t.arch.wearRest } }

/-- s with Mantel's anchor of t: from the clocks of t, what the anchor of an entry to d hands over (R182). -/
def anchoredAs (t s : State) (d : Rest) : State :=
  { s with mantel := { s.mantel with anchor := some {
    ringCount := t.now, time := t.mantel.time, addend := s.mantel.addend, p := t.mantel.p, epoch := s.mantel.epoch
    lock := s.mantel.lock, alarm := wakeAlarm s d } } }

/-- s with the persist that an entry makes, where the Archive takes bursts, counted for the hour that t stands in (R383, R406). -/
def persistedForEntry (t s : State) : State :=
  let u := if archiveOpen s then persistedAs t s else s
  { u with arch := { u.arch with hourDone := mNs t / 3600000000000 } }

/-- s with the Press stopped, its pass lost, and Porter stopped or at the end of its frame (R279, R331, R403). -/
def stoppedAs (t s : State) : State :=
  { s with
    press := { s.press with running := false, slotsDone := true, rowOn := none, widths := [] }
    bindery := { s.bindery with pass := none, waiting := none }
    back := { s.back with pstate := t.back.pstate, finishing := t.back.finishing } }

/-- STATE_ENTRY (R401, R403, R404, R407), in two rows (log 42): S1 comes at its frame seam with DRIVE off and EVENT 0x0C01; a
deeper entry begins there when the Hall is quiet, within 1 ms of its seam, with EVENT 0x0C01, for S4 kept with its RTC time
for after the wake (R376; log 41); one that R72 or R79 has come to refuse is answered by SPL_ANSWER and is S3 instead (R102,
R410). With it Mantel hands over its anchor for S2 and S3 (R182), the wear is persisted for S3 and S4 and the held messages
go for S3 (R122, R383); a force set that lights a sink wakes the node from S1 at once (R402). The next STATE_ENTRY ends it
with the Press and Porter stopped: S3 with the queues flushed (R207), S4 with GSP of cause 0x05, LEAVE, BYP_HOLD low and the
return alarm in the RTC (R405); a JTAG enable ends there, its EVENT kept (R300). A Hall busy to 1 ms past the seam drops the
entry, counted, with EVENT 0x0C02 once a minute. Nothing else changes. Wakes (R402): the wake alarm and SB_RX start causes 3
and 4 in S2 and S3. WAKE_READY comes within the state's wake time of its cause, at an instant left open (R398; log 3), and is
S0 with the cause and EVENT 0x0C01; from S1 DRIVE comes back and the Collator judges nothing for 100 ms (R311); from S2 the
Press runs dark to its next seam with Mantel in HOLDOVER (R182, R279), its delay lines locked anew at open trims (R268); from
S3 the slots, the bank and the timing set are lost too (R276; log 41), and the journal is replayed (R399). From S2 and S3 the
watchdog counts from the wake (R373), and what the Cellar kept is reported (R376), with audit entries that a brown-out held
back (R158, R406). A wake in an entry reverses it: S0 again, the anchor gone, and what was kept reported (R403). The hourly
persist in S2 wakes nothing (R383, R409). -/
def Obligations.RestStatesAndWakes : Prop :=
  (∀ (s u : State) (d : Rest) (seam : Nat), s.power.entering = some (d, seam) → s.power.waking = none → coreOn s = true →
    0 < 4 * 2 ^ 32 + s.mantel.addend → u = advanceToSeam s seam →
    (d ≠ .s0 → d ≠ .s1 → s.power.entryBegun = false → seam + 1000000 < mNs u →
      exec .stateEntry s = .next { u with power := { s.power with entering := none } }) ∧
    (d = .s1 → forcedOn s = true → ∃ t, exec .stateEntry s = .next t ∧ t.power.st = .s1 ∧ t.power.waking = some 5 ∧
      t.power.wakeAt = t.now) ∧
    (d = .s1 → forcedOn s = false →
      ∃ t, exec .stateEntry s = .next t ∧ seam ≤ mNs t ∧ eventRaised s t 0x0C01 ∧ t.power.counts = bump s.power.counts 0 ∧
        t.power.msInRest = s.power.msInRest ∧ t = clockedAs t (reportedAs t (restedIn t s .s1))) ∧
    (d = .s2 → s.power.entryBegun = false → hallQuiet s = true → mNs u ≤ seam + 1000000 →
      ∃ t, exec .stateEntry s = .next t ∧ seam ≤ mNs t ∧ eventRaised s t 0x0C01 ∧
        t = clockedAs t (reportedAs t (anchoredAs t { s with power := { s.power with entryBegun := true } } .s2))) ∧
    (d = .s3 → s.power.entryBegun = false → hallQuiet s = true → mNs u ≤ seam + 1000000 → s.cellar.failAt = none →
      ∃ t, exec .stateEntry s = .next t ∧ seam ≤ mNs t ∧ eventRaised s t 0x0C01 ∧ (∀ c ∈ t.hall.channels, c.held = []) ∧
        (archiveOpen s = true → t.arch.wearSaved = s.arch.wear) ∧
        t = clockedAs t (reportedAs t (anchoredAs t (persistedForEntry t { s with
          power := { s.power with entryBegun := true }, hall := { s.hall with channels := t.hall.channels } }) .s3))) ∧
    (∀ r, d = .s4 → s.power.entryBegun = false → hallQuiet s = true → mNs u ≤ seam + 1000000 → bypassRefusal u false = some r →
      ∃ t, exec .stateEntry s = .next t ∧
        (mapGet s.power.blockedMinute (100 + r) ≠ some (minuteOf t) → ∃ q, answerQueued s t q 0 r) ∧
        t = clockedAs t (reportedAs t (queuedAs t { s with
          power := { s.power with entering := some (.s3, seam), blockedMinute := t.power.blockedMinute }, fresh := t.fresh }))) ∧
    (d = .s4 → s.power.entryBegun = false → hallQuiet s = true → mNs u ≤ seam + 1000000 → bypassRefusal u false = none →
      s.spine.returnWin = none → s.cellar.failAt = none →
      ∃ t, exec .stateEntry s = .next t ∧ seam ≤ mNs t ∧ (∃ e ∈ t.cellar.unreported, e.code = 0x0C01) ∧
        (archiveOpen s = true → eventRaised s t 0x0B08) ∧
        t = clockedAs t (reportedAs t (persistedForEntry t { s with power := { s.power with entryBegun := true } }))) ∧
    (d = .s2 → s.power.entryBegun = true →
      ∃ t, exec .stateEntry s = .next t ∧ seam ≤ mNs t ∧
        (s.power.st = .s0 → t.power.counts = bump s.power.counts 1 ∧ t.power.msInRest = s.power.msInRest) ∧
        t = clockedAs t (stoppedAs t (restedIn t { s with fresh := s.fresh + 1 } .s2))) ∧
    (d = .s3 → s.power.entryBegun = true → s.prot.jtagOn = false →
      ∃ t, exec .stateEntry s = .next t ∧ seam ≤ mNs t ∧ t.larder.reports = [] ∧ t.larder.waiting = [] ∧
        t.larder.events = [] ∧ (s.larder.events ≠ [] → ∃ e ∈ t.cellar.unreported, e.code = 0x0406 ∧ e.arg0 = 2) ∧
        (s.power.st = .s0 → t.power.counts = bump s.power.counts 2) ∧
        t = clockedAs t (reportedAs t (stoppedAs t (restedIn t { s with
          larder := { s.larder with reports := [], waiting := [] }, fresh := s.fresh + 1 } .s3)))) ∧
    (d = .s3 ∨ d = .s4 → s.power.entryBegun = true → s.prot.jtagOn = true →
      ∃ t, exec .stateEntry s = .next t ∧ t.prot.jtagOn = false ∧ ∃ e ∈ t.cellar.unreported, e.code = 0x070D ∧ e.arg1 = 2) ∧
    (d = .s4 → s.power.entryBegun = true → mode s = .native → s.prot.jtagOn = false →
      ∃ t f, exec .stateEntry s = .next t ∧ seam ≤ mNs t ∧ t.spine.bypHold = false ∧
        f = mkFolio 6 0 s.addr.addr.toNat 5 s.addr.reportSeq 0 (gspPayload s) ∧
        t.wire = .leave .west 16 :: .leave .east 16 :: .folio .west f :: .folio .east f :: s.wire ∧
        t.cellar.rtcAlarm = (s.spine.returnWin.map fun w => w.tw + w.len / 2 - 690000000) ∧
        (s.power.st = .s0 → t.power.counts = bump s.power.counts 3) ∧
        t = clockedAs t (queuedAs t (stoppedAs t (restedIn t { s with
          spine := t.spine, wire := t.wire
          cellar := { s.cellar with rtcAlarm := t.cellar.rtcAlarm, counts := bump s.cellar.counts 1 }
          back := { s.back with pstate := .off }, fresh := s.fresh + 1 } .s4)))) ∧
    (d ≠ .s0 → d ≠ .s1 → s.power.entryBegun = false → hallQuiet s = false →
      ∃ t, exec .stateEntryDrop s = .next t ∧ seam + 1000000 ≤ mNs t ∧
        (mapGet s.power.blockedMinute 2 ≠ some (minuteOf t) → eventRaised s t 0x0C02 ∧ t.power.reason = 2) ∧
        t = clockedAs t (reportedAs t { s with power := { s.power with
          entering := none, counts := bump s.power.counts 17, reason := t.power.reason
          blockedMinute := t.power.blockedMinute } }))) ∧
  ((∀ s : State, (s.power.st = .s2 ∨ s.power.st = .s3) → s.power.waking = none →
    (∀ a w, s.mantel.anchor = some a → a.alarm = some w → 0 < 4 * 2 ^ 32 + s.mantel.addend →
      ∃ t, exec .wakeAlarm s = .next t ∧ w ≤ mNs t ∧
        t = clockedAs t { s with power := { s.power with
          waking := some 3, wakeAt := t.now
          counts := if s.power.entryBegun then bump s.power.counts 16 else s.power.counts } }) ∧
    (s.back.pstate = .silent →
      ∃ t, exec .sbRxWake s = .next t ∧
        t = { s with power := { s.power with
          waking := some 4, wakeAt := s.now
          counts := if s.power.entryBegun then bump s.power.counts 16 else s.power.counts } })) ∧
  (∀ (s : State) (cause : Nat), s.power.waking = some cause → s.power.entryBegun = false →
    ∃ t, exec .wakeReady s = .next t ∧ t.now ≤ max s.now (s.power.wakeAt + wakeUs s.power.st * 1000 + 3) ∧
      t.power.st = .s0 ∧ t.power.waking = none ∧ t.power.entering = none ∧ t.power.lastSt = s.power.st ∧
      t.power.lastCause = cause ∧ (s.power.st ≠ .s2 → s.power.st ≠ .s3 → eventRaised s t 0x0C01) ∧
      (s.power.st = .s1 → auxIn s = true →
        t = clockedAs t (reportedAs t { s with
          power := { s.power with
            st := .s0, waking := none, entering := none, lastSt := .s1, lastCause := cause, driveGood := true
            msInRest := t.power.msInRest, counts := t.power.counts }
          prot := { s.prot with resumeAtSeam := true }
          coll := { s.coll with excluded := true, excludeUntil := t.now + 100000000 }, fresh := s.fresh + 1 })) ∧
      (s.power.st = .s2 → s.larder.events.length + s.cellar.unreported.length ≤ 240 →
        (∃ e ∈ t.larder.events.drop s.larder.events.length, e.code = 0x0C01) ∧
          ∀ e ∈ s.cellar.unreported, e ∈ t.larder.events) ∧
      (s.power.st = .s2 ∨ s.power.st = .s3 → t.cellar.lastKick = t.now ∧ t.cellar.warned = false) ∧
      (s.power.st = .s2 → t.mantel.lock = .holdover ∧ t.mantel.anchor = none ∧ t.press.running = true ∧
        t.press.seamSeen = false ∧ t.press.residues = [] ∧ t.press.trims6.length = 192 ∧ (∀ x ∈ t.press.trims6, x < 64) ∧
        t.prot.resumeAtSeam = true ∧
        (s.back.pstate = .silent → t.back.pstate = .integrating) ∧
        t = clockedAs t (reportedAs t { s with
          power := t.power, mantel := t.mantel, press := t.press, prot := t.prot, back := t.back
          hall := { s.hall with auditedThrough := t.hall.auditedThrough }
          arch := { s.arch with audit := t.arch.audit, auditNext := t.arch.auditNext }
          coll := { s.coll with excluded := t.coll.excluded, excludeUntil := t.coll.excludeUntil }
          cellar := { s.cellar with lastKick := t.now, warned := false }, fresh := s.fresh + 2 })) ∧
      (s.power.st = .s3 → t.mantel.lock = .holdover ∧ t.mantel.bank = none ∧ t.press.running = true ∧
        t.prot.force = none ∧ t.prot.resumeAtSeam = true ∧ t.larder.slots = State.reset.larder.slots ∧
        t.press.timing = { epoch := 0, deadNs := defaultDead s, minp := 128, trims := [255, 255, 255, 255] } ∧
        (∀ e ∈ t.hall.entries, e.dispatched = false) ∧ t.hall.channels = s.hall.channels ∧ t.arch.keys = s.arch.keys)) ∧
  (∀ (s : State) (cause seam : Nat) (d : Rest), s.power.waking = some cause → s.power.entryBegun = true →
    s.power.entering = some (d, seam) → s.power.st = .s0 →
    ∃ t, exec .wakeReady s = .next t ∧ t.now ≤ max s.now (s.power.wakeAt + wakeUs d * 1000 + 3) ∧
      (s.larder.events.length + s.cellar.unreported.length ≤ 240 →
        (∃ e ∈ t.larder.events.drop s.larder.events.length, e.code = 0x0C01) ∧ ∀ e ∈ s.cellar.unreported, e ∈ t.larder.events) ∧
      t.cellar.unreported = [] ∧
      t = clockedAs t (reportedAs t { s with
        mantel := { s.mantel with anchor := none }
        power := { s.power with
          waking := none, entering := none, entryBegun := false, lastSt := d, lastCause := cause
          counts := bump s.power.counts (3 + cause) }
        fresh := s.fresh + 1 })) ∧
  (∀ s : State, s.power.st = .s2 → s.power.waking = none → archiveOpen s = true → s.cellar.failAt = none → 0 < 4 * 2 ^ 32 + s.mantel.addend →
    ∃ t h, exec .maintenanceWake s = .next t ∧ h ≠ s.arch.hourDone ∧ h * 3600000000000 ≤ mNs t ∧
      t.now ≤ t.arch.persistEnd ∧ t.arch.persistEnd ≤ t.now + 1000000 ∧
      t = clockedAs t (persistedAs t { s with
        power := { s.power with counts := bump s.power.counts 12 }, arch := { s.arch with hourDone := h } })))

/-! ### The gathered roles -/

/-- A leaf's HELLO: its serial, the role bit and its position (R423, R424). -/
def helloSent (down : Bool) (k : BitVec 6) : Sent :=
  .leaf down 6 k 0 (longBytes Config.serialFuses ++ wordBytes (BitVec.ofNat 32 (2 ^ 28 + k.toNat)))

/-- Hops and positions (R424, R426, R435): a leaf is one above its upstream chip, or unpositioned below position 63, with
EVENT 0x0112; a head holds a table of its leaves; a hop that comes up sends four HELLOs, that of an unpositioned leaf with a
position left open, and raises EVENT 0x0110, as one that goes down does, which keeps the position. A HELLO goes downstream
once a second with the chip's own position, and one received names its chip to the head and the position above to a leaf,
which hears its upstream chip alone (log 70). Nothing else changes. -/
def Obligations.LeafHopsAndPositions : Prop :=
  ∀ s : State, linkRuns s = true →
    (∀ pos ser, mode s = .leaf → s.leaf.upHop = false →
      ∃ t k, exec (.leafHopUp true pos ser) s = .next t ∧ eventRaised s t 0x0110 ∧
        (pos = 63 → s.leaf.refused = false → eventRaised s t 0x0112) ∧ (pos ≠ 63 → k = pos + 1) ∧
        t = reportedAs t { s with
          wire := List.replicate 4 (helloSent false k) ++ s.wire
          leaf := { s.leaf with
            upHop := true, upSerial := ser, position := if pos = 63 then none else some (pos + 1)
            refused := decide (pos = 63) }
          fresh := t.fresh }) ∧
    (∀ pos ser k, mode s = .leaf → s.leaf.downHop = false → s.leaf.position = some k →
      ∃ t, exec (.leafHopUp false pos ser) s = .next t ∧ eventRaised s t 0x0110 ∧
        t = reportedAs t { s with
          wire := List.replicate 4 (helloSent true k) ++ s.wire
          leaf := { s.leaf with downHop := true, helloDue := s.now + 1000000000 } }) ∧
    (∀ pos ser, mode s = .head → s.leaf.downHop = false →
      ∃ t, exec (.leafHopUp false pos ser) s = .next t ∧ eventRaised s t 0x0110 ∧
        (∃ e ∈ t.leaf.table, e.pos = pos ∧ e.serial = ser) ∧
        (∀ e : LeafEntry, e.pos ≠ pos → (e ∈ t.leaf.table ↔ e ∈ s.leaf.table)) ∧
        t = reportedAs t { s with
          wire := List.replicate 4 (Sent.leaf true 6 0 0 (longBytes Config.serialFuses ++ [0, 0, 0, 0])) ++ s.wire
          leaf := { s.leaf with downHop := true, helloDue := s.now + 1000000000, table := t.leaf.table } }) ∧
    (s.leaf.upHop = true →
      ∃ t, exec (.leafHopDown true) s = .next t ∧ eventRaised s t 0x0110 ∧
        t = reportedAs t { s with leaf := { s.leaf with upHop := false } }) ∧
    (s.leaf.downHop = true →
      ∃ t, exec (.leafHopDown false) s = .next t ∧ eventRaised s t 0x0110 ∧
        t = reportedAs t { s with leaf := { s.leaf with downHop := false } }) ∧
    (∀ pos ser, mode s = .head →
      (s.leaf.downHop = true →
        ∃ t, exec (.leafHello true pos ser) s = .next t ∧ s.leaf.helloDue ≤ t.now ∧ t.now ≤ max s.now (s.leaf.helloDue + 3) ∧
          t = clockedAs t { s with
            wire := .leaf true 6 0 0 (longBytes Config.serialFuses ++ [0, 0, 0, 0]) :: s.wire
            leaf := { s.leaf with helloDue := t.now + 1000000000 } }) ∧
      ∃ t, exec (.leafHello false pos ser) s = .next t ∧ (∃ e ∈ t.leaf.table, e.pos = pos ∧ e.serial = ser) ∧
        (∀ e : LeafEntry, e.pos ≠ pos → (e ∈ t.leaf.table ↔ e ∈ s.leaf.table)) ∧
        t = { s with leaf := { s.leaf with table := t.leaf.table } }) ∧
    (∀ pos ser k, mode s = .leaf → s.leaf.downHop = true → s.leaf.position = some k →
      ∃ t, exec (.leafHello true pos ser) s = .next t ∧ s.leaf.helloDue ≤ t.now ∧ t.now ≤ max s.now (s.leaf.helloDue + 3) ∧
        t = clockedAs t { s with
          wire := helloSent true k :: s.wire, leaf := { s.leaf with helloDue := t.now + 1000000000 } }) ∧
    (∀ pos, mode s = .leaf →
      (pos ≠ 63 →
        ∃ t, exec (.leafHello false pos s.leaf.upSerial) s = .next t ∧
          t = { s with leaf := { s.leaf with position := some (pos + 1), refused := false } }) ∧
      (pos = 63 →
        ∃ t, exec (.leafHello false pos s.leaf.upSerial) s = .next t ∧ (s.leaf.refused = false → eventRaised s t 0x0112) ∧
          t = reportedAs t { s with leaf := { s.leaf with position := none, refused := true } }))

/-- Carried folios (R423, R425 to R428): a leaf passes a folio for another leaf on unchanged, takes its own as a WEST
arrival, and passes one for every leaf on and takes it; a packet whose CRC fails is dropped and counted; upward, a leaf
passes the folio on, an own one behind it, and the head queues it, its src and sequence kept, and learns the leaf's address;
a leaf's GSP without room waits ahead of every report. A queued packet leaves in order, and a leaf's own queue is log 70.
Nothing else changes. -/
def Obligations.CarriedFoliosPassAndArrive : Prop :=
  (∀ (s : State) (leaf : BitVec 6) (f : Folio), leafLinked s = true →
    (∀ u, ∃ t, exec (.carryDown leaf u false) s = .next t ∧ t = { s with leaf := { s.leaf with dropped := s.leaf.dropped + 1 } }) ∧
    (s.leaf.position ≠ some leaf → leaf ≠ 0 → s.leaf.downHop = true →
      ∃ t, exec (.carryDown leaf (.whole f) true) s = .next t ∧
        t = { s with wire := .leaf true 1 leaf 0 (folioBytes f) :: s.wire }) ∧
    (s.leaf.position = some leaf → coreOn s = true →
      exec (.carryDown leaf (.whole f) true) s = .next (mergeUnit s .west (.whole f))) ∧
    (leaf = 0 → s.leaf.position ≠ some 0 → s.leaf.downHop = true → coreOn s = true →
      exec (.carryDown 0 (.whole f) true) s =
        .next (mergeUnit { s with wire := .leaf true 1 0 0 (folioBytes f) :: s.wire } .west (.whole f))) ∧
    (∀ g, ∃ t, exec (.carryUp leaf g false) s = .next t ∧
      t = { s with leaf := { s.leaf with dropped := s.leaf.dropped + 1 } }) ∧
    (s.larder.reports = [] →
      ∃ t, exec (.carryUp leaf f true) s = .next t ∧
        t = { s with wire := .leaf false 2 leaf 0 (folioBytes f) :: s.wire }) ∧
    (∀ k r, s.leaf.position = some k → s.larder.reports = [r] → s.larder.waiting = [] → mayLeave s r = true →
      ∃ t, exec .leafQueueSend s = .next t ∧
        t = { s with
          wire := .leaf false 2 k 0 (folioBytes (ownFolio s r)) :: s.wire, larder := { s.larder with reports := [] } })) ∧
  (∀ (s : State) (leaf : BitVec 6) (f : Folio), linkRuns s = true → mode s = .head →
    (coreOn s = true → portUp s .east = true → s.larder.waiting = [] →
      reportLevel s + (f.payload.length + 83) / 64 ≤ 248 →
      ∃ t, exec (.carryUp leaf f true) s = .next t ∧
        (∃ r ∈ t.larder.reports, r.payload = f.payload ∧ r.seq = f.w2 ∧ r.leafSrc = some (BitVec.ofNat 12 (Folio.src f)) ∧
          r.dueEast = true) ∧
        (∃ e ∈ t.leaf.table, e.pos = leaf ∧
          (Folio.kind f ≠ 5 → e.addr = BitVec.ofNat 12 (Folio.src f))) ∧
        (∀ e : LeafEntry, e.pos ≠ leaf → (e ∈ t.leaf.table ↔ e ∈ s.leaf.table)) ∧
        t.addr.reportSeq = s.addr.reportSeq ∧
        t = queuedAs t { s with leaf := { s.leaf with table := t.leaf.table } }) ∧
    (coreOn s = true → Folio.kind f = 6 → 256 ≤ reportLevel s → (∀ w ∈ s.larder.waiting, w.kind = 3 ∨ w.kind = 4 ∨ w.kind = 5) →
      (∀ w ∈ s.larder.waiting, isAck w = false) →
      ∃ t r, exec (.carryUp leaf f true) s = .next t ∧ t.larder.waiting = r :: s.larder.waiting ∧ r.kind = 6 ∧
        r.payload = f.payload ∧ r.seq = f.w2 ∧ r.leafSrc = some (BitVec.ofNat 12 (Folio.src f)) ∧
        t = { s with larder := { s.larder with waiting := t.larder.waiting }, leaf := { s.leaf with table := t.leaf.table } }) ∧
    (∀ pos g rest, s.leaf.downHop = true → s.leaf.queue = (pos, g) :: rest →
      ∃ t, exec .leafQueueSend s = .next t ∧
        t = { s with
          wire := .leaf true 1 pos 0 (folioBytes g) :: s.wire, leaf := { s.leaf with queue := rest } }))

/-- Time at a leaf (R430): the head sends its time every millisecond, but none while it is bypassed (R436); a leaf passes
TIME on with its residence added and measures its offset from it, time plus correction plus path delay, and a measurement
moves no time; after 4 ms without it the leaf holds over, with EVENT 0x0301 (R191). The path delay is the median of the last
eight round trips less their turnarounds, halved. Nothing else changes. -/
def Obligations.LeafTimeAndPathDelay : Prop :=
  (∀ s : State, linkRuns s = true → mode s = .head → coreOn s = true → s.leaf.downHop = true →
    (s.spine.bypHold = false → exec .leafTimeSend s = .next s) ∧
    (s.spine.bypHold = true → ∃ t, exec .leafTimeSend s = .next t ∧ s.leaf.timeDue ≤ t.now ∧ t.now ≤ max s.now (s.leaf.timeDue + 3) ∧
      t = clockedAs t { s with
        wire := .leaf true 3 0 0 (timePayload (t.mantel.time / 65536) (lockCode s.mantel.lock)) :: s.wire
        leaf := { s.leaf with timeDue := t.now + 1000000 } })) ∧
  (∀ (s : State) (corr m16 stamp res : Nat) (lock : BitVec 4), leafLinked s = true → coreOn s = true → s.leaf.downHop = true →
    ∃ t, exec (.time corr m16 lock stamp res) s = .next t ∧
      t.mantel.carried = (lock == 2 || lock == 3 || lock == 4) ∧
      t.mantel.west.o = (stamp : Int) - (m16 + corr + s.leaf.pathDelay16) ∧ t.mantel.west.lastMeasured = s.now ∧
      t.mantel.lastSync = s.now ∧ t.mantel.counts = bump s.mantel.counts 3 ∧
      (s.mantel.lock = .holdover → t.mantel.lock = .locked) ∧ (s.mantel.lock = .unset → t.mantel.lock = .acquiring) ∧
      t.mantel.time = s.mantel.time ∧ t.mantel.p = s.mantel.p ∧ t.mantel.east = s.mantel.east ∧
      t = reportedAs t { s with
        wire := .leaf true 3 0 (BitVec.ofNat 32 (corr + res)) (timePayload m16 lock.toNat) :: s.wire
        leaf := { s.leaf with lastTime := s.now }, mantel := t.mantel
        press := { s.press with pllAddend := t.press.pllAddend }
        start := { s.start with stepUs := t.start.stepUs }, fresh := t.fresh }) ∧
  (∀ s : State, coreOn s = true → mode s = .leaf → s.mantel.lock = .locked →
    ∃ t, exec .leafTimeTimeout s = .next t ∧ s.leaf.lastTime + 4000000 ≤ t.now ∧
      t.now ≤ max s.now (s.leaf.lastTime + 4000003) ∧ eventRaised s t 0x0301 ∧
      t = clockedAs t (reportedAs t { s with mantel := { s.mantel with
        lock := .holdover, holdoverSince := t.now, counts := bump s.mantel.counts 7, lockRun := 0, bigRun := 0
        cues := t.mantel.cues } })) ∧
  (∀ (s : State) (pos : BitVec 6) (a b : Nat), linkRuns s = true → mode s ≠ .leafFz → s.leaf.downHop = true →
    ∃ t, exec (.pdelayReq pos a b) s = .next t ∧
      t = { s with wire := .leaf true 5 pos 0 (wordsBytes [BitVec.ofNat 32 a, BitVec.ofNat 32 b]) :: s.wire }) ∧
  (∀ (s : State) (k : BitVec 6), leafLinked s = true → s.leaf.position = some k →
    (∃ t j, exec .pdelayReqSend s = .next t ∧ s.leaf.pdelayDue ≤ t.now ∧ t.now ≤ max s.now (s.leaf.pdelayDue + 3) ∧ j ≤ 39 ∧
      t = clockedAs t { s with
        wire := .leaf false 4 k 0 [] :: s.wire
        leaf := { s.leaf with
          pdelayDue := t.now + 100000000, pdelaySent := some (mantelAt t (10 * t.now + j)).toNat }
        fresh := s.fresh + 1 }) ∧
    (∀ t1 turn arr, s.leaf.pdelaySent = some t1 →
      ∃ t, exec (.pdelayResp k turn arr) s = .next t ∧
        (s.leaf.delays = [] → t.leaf.pathDelay16 = rdiv ((arr : Int) - t1 - turn) 2) ∧
        t = { s with leaf := { s.leaf with
          pdelaySent := none, delays := ((arr : Int) - t1 - turn) :: s.leaf.delays.take 7
          pathDelay16 := halfMedian (((arr : Int) - t1 - turn) :: s.leaf.delays.take 7) } }))

/-- The FZ5140-format leaf (R433): a packet for another chip is passed on unchanged and counted; COUNT numbers the chip and
goes on with one more, 64 or more is taken by none, with EVENT 0x0112 (R435); PIXELS are written at their offset, and dropped
as a twin and counted where every granule they touch is covered (R66); LATCH at a numbered chip closes the frame at its rate,
its edge less (chip + 1) x 128 ns being an edge of Mantel, and the frame, presented 0.5 ms after it, is late where its render
point has passed; GAIN sets the level and, 10 us later, a timing set of its trims and dead time, one out of range being
ignored and counted; STATUS_REQ is answered; a packet of any other type is passed on unchanged and counted. How a frame opens
and what a misfit does are log 73, and the hop is log 89. Nothing else changes. -/
def Obligations.FzLeafPackets : Prop :=
  ∀ s : State, fzHears s = true → s.leaf.downHop = true →
    (∀ c : BitVec 7, s.leaf.chip ≠ some c → c ≠ 127 →
      (∀ off data, exec (.pixels c off data) s = .next { s with
        wire := .fz true 1 c (BitVec.ofNat 32 off) data :: s.wire
        leaf := { s.leaf with fzCounted := s.leaf.fzCounted + 1 } }) ∧
      exec (.statusReq c) s = .next { s with
        wire := .fz true 5 c 0 [] :: s.wire, leaf := { s.leaf with fzCounted := s.leaf.fzCounted + 1 } }) ∧
    (∀ n : Byte,
      ∃ t, exec (.count n) s = .next t ∧ (64 ≤ n.toNat → eventRaised s t 0x0112) ∧
        t = reportedAs t { s with
          wire := .fz true 4 127 0 (wordBytes (BitVec.ofNat 32 ((n.toNat + 1) % 256))) :: s.wire
          leaf := { s.leaf with
            chip := if n.toNat < 64 then some (BitVec.ofNat 7 n.toNat) else none, fzOverflow := decide (64 ≤ n.toNat) } }) ∧
    (∀ (c : BitVec 7) (off i : Nat) (data : List Byte) (x : Slot), s.leaf.chip = some c → c ≠ 127 →
      1 ≤ data.length → off + data.length ≤ sigSize s 0 3 → slotOf s (s.leaf.fzFrame + 1) = some i → s.larder.slots[i]? = some x →
      Memory.wf x.data = true → pixelsTwin x off data.length = false →
      ∃ t y, exec (.pixels c off data) s = .next t ∧ t.larder.slots[i]? = some y ∧
        (∀ k, k < data.length → Memory.read y.data (off + k) = data.getD k 0) ∧
        (∀ a, a < off ∨ off + data.length ≤ a → Memory.read y.data a = Memory.read x.data a) ∧
        (∀ j, j ≠ i → t.larder.slots[j]? = s.larder.slots[j]?) ∧
        t = { s with
          larder := { s.larder with slots := t.larder.slots }
          leaf := { s.leaf with fzWritten := (off, off + data.length) :: s.leaf.fzWritten } }) ∧
    (∀ (c : BitVec 7) (off i : Nat) (data : List Byte) (x : Slot), s.leaf.chip = some c → c ≠ 127 →
      1 ≤ data.length → off + data.length ≤ sigSize s 0 3 → slotOf s (s.leaf.fzFrame + 1) = some i → s.larder.slots[i]? = some x →
      (∀ g, off / 64 ≤ g → 64 * g < off + data.length → g ∈ x.covered) →
      ∃ t, exec (.pixels c off data) s = .next t ∧
        t = { s with spine := { s.spine with west := { s.spine.west with counts := bump s.spine.west.counts 6 } } }) ∧
    (∀ (c : BitVec 7) (off : Nat) (data : List Byte), s.leaf.chip = some c → c ≠ 127 →
      (data = [] ∨ sigSize s 0 3 < off + data.length) →
      exec (.pixels c off data) s = .next { s with leaf := { s.leaf with fzCounted := s.leaf.fzCounted + 1 } }) ∧
    (∀ (k : BitVec 7) (rate : Byte) (frame : BitVec 24) (stamp : Nat), s.leaf.chip = some k → 1 ≤ rate.toNat →
      rate.toNat ≤ 240 →
      ∃ t pres, exec (.latch rate frame stamp) s = .next t ∧ t.mantel.time = s.mantel.time ∧ t.mantel.p = s.mantel.p ∧
        (s.mantel.lastEdge = none →
          t.mantel.lastEdge = some (stamp - (k.toNat + 1) * 1280) ∧ t.mantel.lastSync = s.now) ∧
        pres = (mantelAt t (stamp - (k.toNat + 1) * 1280) / 65536).toNat + 500000 ∧
        (slotOf s (s.leaf.fzFrame + 1) = none → t.larder.slots = s.larder.slots ∧ t.larder.secLate = s.larder.secLate) ∧
        (∀ i x, slotOf s (s.leaf.fzFrame + 1) = some i → s.larder.slots[i]? = some x →
          (mNs s + 250000 ≤ frameSeam s pres →
            t.larder.slots = s.larder.slots.set i { x with pres := pres } ∧ t.larder.secLate = s.larder.secLate) ∧
          (frameSeam s pres < mNs s + 250000 →
            t.larder.slots = s.larder.slots.set i Slot.empty ∧ t.larder.secLate = s.larder.secLate + 1)) ∧
        t = reportedAs t { s with
          wire := .fz true 2 127 0 (wordBytes (rate ++ frame)) :: s.wire
          leaf := { s.leaf with fzFrame := s.leaf.fzFrame + 1, fzRate := rate.toNat }, mantel := t.mantel
          larder := { s.larder with slots := t.larder.slots, secLate := t.larder.secLate }
          press := { s.press with pllAddend := t.press.pllAddend }
          start := { s.start with stepUs := t.start.stepUs }, fresh := t.fresh }) ∧
    (∀ (c : BitVec 7) (level : Half) (trims : Word) (dead : Half), s.leaf.chip = some c → c ≠ 127 →
      ∃ t p, exec (.gain c level trims dead) s = .next t ∧ t.press.pendingSet = some p ∧ p.silent = true ∧ p.apply = 0 ∧
        p.due = s.now + 10000 ∧ p.set = {
          epoch := s.press.lastEpoch + 1, minp := 128
          deadNs := if 40 ≤ dead.toNat ∧ dead.toNat ≤ 400 then dead.toNat else s.press.timing.deadNs
          trims := [field trims 31 24, field trims 23 16, field trims 15 8, field trims 7 0] } ∧
        t = reportedAs t { s with
          leaf := { s.leaf with
            fzLevel := some (min level.toNat 32768)
            fzCounted := if dead ≠ 0 ∧ (dead.toNat < 40 ∨ 400 < dead.toNat) then s.leaf.fzCounted + 1 else s.leaf.fzCounted }
          press := { s.press with
            lastEpoch := s.press.lastEpoch + 1, pendingSet := some p, crossing := t.press.crossing }
          bindery := t.bindery
          larder := { s.larder with slots := t.larder.slots, secSuperseded := t.larder.secSuperseded }
          screen := { s.screen with cache := t.screen.cache, counts := t.screen.counts }
          arch := { s.arch with copyBegun := t.arch.copyBegun } }) ∧
    (∀ (leaf : BitVec 6) (f : Folio) (ok : Bool),
      exec (.carryDown leaf (.whole f) ok) s = .next { s with
        wire := .fz true (BitVec.ofNat 4 (field f.w0 31 28)) (BitVec.ofNat 7 (field f.w0 27 21)) f.w1 f.payload :: s.wire
        leaf := { s.leaf with fzCounted := s.leaf.fzCounted + 1 } } ∧
      exec (.carryUp leaf f true) s = .next { s with
        wire := .fz false (BitVec.ofNat 4 (field f.w0 31 28)) (BitVec.ofNat 7 (field f.w0 27 21)) f.w1 f.payload :: s.wire
        leaf := { s.leaf with fzCounted := s.leaf.fzCounted + 1 } }) ∧
    (∀ c : BitVec 7, s.leaf.chip = some c → c ≠ 127 →
      ∃ t, exec (.statusReq c) s = .next t ∧ t = { s with wire := .fz false 6 c 0 (statusPayload s) :: s.wire })

/-! ### Mantel -/

/-- From s to t a TIME_SOURCE made x the source in force and kept it in the Archive, done with result 0; what Mantel makes of it is
stated at MantelLossStepsAndHolds (R168). -/
def sourceKept (s t : State) (m : Msg) (x : TimeSource) : Prop :=
  t.arch.source = some x ∧ t.mantel.time = s.mantel.time ∧ t.mantel.p = s.mantel.p ∧ t.mantel.addend = s.mantel.addend ∧
    t = reportedAs t (finishedAs { s with
      arch := { s.arch with source := some x }, mantel := t.mantel
      start := { s.start with stepUs := t.start.stepUs } } m (doneOf m 0))

/-- TIME_SOURCE by its type: its body is 12 bytes that name a ring master, 8 that name SYNC_IN at 1 to 240 Hz, or 4 for free
run, and any other is malformed; the named source is kept in the Archive, and done with result 0; SYNC_IN where CFG_AUX
assigns none is done with result 6. While none is kept, a node of the ring follows the master that the first valid Sync in
domain 0 from src 0x000 named (R168). ASYMMETRY_SET is two words, and port values 2 and 3 make it malformed; it keeps EAST's
or WEST's path asymmetry within 100,000 ps, and one outside is done with result 3 and changes nothing; a measurement of its
own instant still uses the old one, and every later one subtracts what is kept (R166, R192). Nothing else changes. -/
def Obligations.TimeSourceAndAsymmetry : Prop :=
  ((∀ (s : State) (chan : Half) (b : List Byte),
    bodyOk s chan 0x0040 b = true ↔
      (field (wordAt b 0) 31 28 = 0 ∧ b.length = 12) ∨
      (field (wordAt b 0) 31 28 = 1 ∧ b.length = 8 ∧ 1 ≤ (wordAt b 4).toNat ∧ (wordAt b 4).toNat ≤ 240) ∨
      (field (wordAt b 0) 31 28 = 2 ∧ b.length = 4)) ∧
  (∀ (s : State) (m : Msg), takeDispatch s 0x0040 = some m →
    (sourceType m = 0 →
      ∃ t, exec .timeSourceRingMaster s = .next t ∧
        sourceKept s t m (.ringMaster (BitVec.ofNat 8 (field (wordAt m.body 0) 7 0)) (longAt m.body 4))) ∧
    (sourceType m = 1 → hasSyncIn s = true →
      ∃ t, exec .timeSourceSyncIn s = .next t ∧
        sourceKept s t m (.syncIn (BitVec.ofNat 8 (field (wordAt m.body 0) 7 0)) (wordAt m.body 4).toNat)) ∧
    (sourceType m = 1 → hasSyncIn s = false →
      ∃ t, exec .timeSourceSyncIn s = .next t ∧ t = finishedAs s m (doneOf m 6)) ∧
    (sourceType m = 2 →
      ∃ t, exec .timeSourceFreeRun s = .next t ∧
        sourceKept s t m (.freeRun (BitVec.ofNat 8 (field (wordAt m.body 0) 7 0))))) ∧
  (∀ (s : State) (p : Port) (h : PtpHead) (li : Int) (two : Bool) (t1 t2 : Nat), hears s p = true → mode s ≠ .standalone →
    s.arch.source = none → ptpOk h = true → h.dest = 0xFFF → h.domain = 0 → -7 ≤ li → li ≤ 0 →
    (s.mantel.firstMaster = none ∨ s.mantel.firstMaster = some h.identity →
      ∃ t, exec (.sync p h li two t1 t2) s = .next t ∧ t.mantel.firstMaster = some h.identity ∧ t.mantel.lastSync = s.now) ∧
    (∀ i, s.mantel.firstMaster = some i → i ≠ h.identity →
      ∃ t, exec (.sync p h li two t1 t2) s = .next t ∧ t.mantel.firstMaster = some i ∧ t.mantel.lastSync = s.mantel.lastSync))) ∧
  (∀ (s : State) (m : Msg), takeDispatch s 0x0041 = some m →
    ∃ t, exec .asymmetrySet s = .next t ∧
      ((wordAt m.body 4).toInt.natAbs ≤ 100000 → field (wordAt m.body 0) 31 30 = 0 →
        t = finishedAs { s with
          arch := { s.arch with asymEast := (wordAt m.body 4).toInt }
          mantel := { s.mantel with asymWas := some (s.now, asymmetryUsed s .east, asymmetryUsed s .west) } } m (doneOf m 0)) ∧
      ((wordAt m.body 4).toInt.natAbs ≤ 100000 → field (wordAt m.body 0) 31 30 ≠ 0 →
        t = finishedAs { s with
          arch := { s.arch with asymWest := (wordAt m.body 4).toInt }
          mantel := { s.mantel with asymWas := some (s.now, asymmetryUsed s .east, asymmetryUsed s .west) } } m (doneOf m 0)) ∧
      (100000 < (wordAt m.body 4).toInt.natAbs → t = finishedAs s m (doneOf m 3))) ∧
  (∀ (s : State) (chan : Half) (b : List Byte),
    bodyOk s chan 0x0041 b = true ↔ b.length = 8 ∧ field (wordAt b 0) 31 30 ≠ 2 ∧ field (wordAt b 0) 31 30 ≠ 3) ∧
  (∀ (s : State) (p : Port) (ms : Int), (∀ w, s.mantel.asymWas = some w → w.1 ≠ s.now) →
    (portSync (measure s p ms) p).o =
      ms - (portSync s p).d - of16 (match p with | .east => s.arch.asymEast | .west => s.arch.asymWest))

/-- s with what a message of the time protocol or an edge may change: Mantel but for its time and P, the length of the lock's start-up step,
the EVENTs raised, and the free values of the servo (R172 to R174; log 3). -/
def measuredAs (t s : State) : State :=
  reportedAs t { s with
    mantel := { t.mantel with time := s.mantel.time, p := s.mantel.p }
    press := { s.press with pllAddend := t.press.pllAddend }
    start := { s.start with stepUs := t.start.stepUs }, fresh := t.fresh }

/-- The messages of the named master (R167 to R170): a Sync to all nodes is kept, one of two steps until its Follow_Up of the
same sequence; one in another domain, or of another master, is only counted, the latter with EVENT 0x0307 once in 10 s (R187,
R191); one to another destination does nothing. Delay_Resp to the node gives the path delay of a port, the mean of both ways
for the first one, and the offset less path delay and asymmetry. Delay_Req leaves on its own port once a second (R169). None
of them moves time, and nothing else changes. -/
def Obligations.SyncMessagesMeasure : Prop :=
  (∀ (s : State) (p : Port) (h : PtpHead) (li : Int) (d : Byte) (t1 t2 : Nat), hears s p = true →
    named s = some (d, some h.identity) → ptpOk h = true → h.dest = 0xFFF → h.domain = d → -7 ≤ li → li ≤ 0 →
    (∃ t, exec (.sync p h li true t1 t2) s = .next t ∧
      t = setSync { s with mantel := { s.mantel with
        logInterval := li, lastSync := s.now, counts := bump s.mantel.counts (if p = .west then 0 else 1) } } p
        { portSync s p with pending := some (h.seqId, mantelAt s t2 - of16 (ingressPs s p),
            rdiv ((t2 : Int) * 65536) 10 - of16 (ingressPs s p), h.correction, s.now) }) ∧
    (∃ t, exec (.sync p h li false t1 t2) s = .next t ∧
      (portSync t p).sync = some ((t1 : Int) * 65536, mantelAt s t2 - of16 (ingressPs s p), h.correction) ∧
      (portSync t p).pending = none ∧ t.mantel.lastSync = s.now ∧ t.mantel.logInterval = li ∧
      ((portSync s p).delays ≠ [] → (portSync t p).o =
        mantelAt s t2 - of16 (ingressPs s p) - (t1 : Int) * 65536 - h.correction - (portSync s p).d - of16 (asymmetryUsed s p)) ∧
      t = measuredAs t s)) ∧
  (∀ (s : State) (p : Port) (h : PtpHead) (li : Int) (two : Bool) (d : Byte) (m : Option Long) (t1 t2 : Nat),
    hears s p = true → named s = some (d, m) → ptpOk h = true →
    (h.dest ≠ 0xFFF → exec (.sync p h li two t1 t2) s = .next s) ∧
    (h.dest = 0xFFF → h.domain ≠ d → exec (.sync p h li two t1 t2) s =
      .next { s with mantel := { s.mantel with counts := bump s.mantel.counts 2 } }) ∧
    (∀ i, h.dest = 0xFFF → h.domain = d → m = some i → i ≠ h.identity →
      ∃ t, exec (.sync p h li two t1 t2) s = .next t ∧
        (s.mantel.masterReported ≠ some (reportInterval s 10000000000) → eventRaised s t 0x0307) ∧
        t = reportedAs t { s with mantel := { s.mantel with
          counts := bump s.mantel.counts 2, masterReported := some (reportInterval s 10000000000) } })) ∧
  (∀ (s : State) (p : Port) (h : PtpHead) (d : Byte) (t1 at' : Nat) (t2 ring c : Int), hears s p = true →
    named s = some (d, some h.identity) → ptpOk h = true → h.dest = 0xFFF → h.domain = d →
    (portSync s p).pending = some (h.seqId, t2, ring, c, at') → s.now ≤ at' + syncInterval s →
    ∃ t, exec (.followUp p h t1) s = .next t ∧ (portSync t p).sync = some ((t1 : Int) * 65536, t2, c + h.correction) ∧
      (portSync t p).pending = none ∧ (portSync t p).prevSync = some ((t1 : Int) * 65536, ring - (c + h.correction)) ∧
      ((portSync s p).delays ≠ [] → (portSync t p).o =
        t2 - (t1 : Int) * 65536 - (c + h.correction) - (portSync s p).d - of16 (asymmetryUsed s p)) ∧
      t = measuredAs t s) ∧
  (∀ (s : State) (p : Port) (h : PtpHead) (m : Option Long) (t4 : Nat) (t1 t2 c t3 : Int), hears s p = true →
    named s = some (h.domain, m) → ptpOk h = true → h.dest = s.addr.addr → (portSync s p).sync = some (t1, t2, c) →
    (portSync s p).t3 = some (h.seqId, t3) →
    ∃ t, exec (.delayResp p h Config.serialFuses (if p = .east then 1 else 2) t4) s = .next t ∧ (portSync t p).t3 = none ∧
      (portSync t p).delays = (t2 - t1 - c + ((t4 : Int) * 65536 - t3 - h.correction)) :: (portSync s p).delays.take 7 ∧
      ((portSync s p).delays = [] →
        (portSync t p).d = rdiv (t2 - t1 - c + ((t4 : Int) * 65536 - t3 - h.correction)) 2) ∧
      (portSync t p).o = t2 - t1 - c - (portSync t p).d - of16 (asymmetryUsed s p) ∧ (portSync t p).lastMeasured = s.now ∧
      t = measuredAs t s) ∧
  (∀ (s : State) (p : Port), hears s p = true → assigned s = true → leafRole s = false → s.larder.waiting = [] →
    reportLevel s + 1 ≤ 248 →
    ∃ t, exec (.delayReqSend p) s = .next t ∧ (portSync s p).reqDue ≤ t.now ∧ t.now ≤ max s.now ((portSync s p).reqDue + 3) ∧
      (∃ r ∈ t.larder.reports, r.kind = 4 ∧ r.dueEast = (p == .east) ∧ r.dueWest = (p == .west) ∧
        r.payload = delayReqPayload (sourceDomain s) p (portSync s p).reqSeq) ∧ t.addr.reportSeq = s.addr.reportSeq ∧
      t = clockedAs t (queuedAs t (setSync s p
        { portSync s p with reqSeq := (portSync s p).reqSeq + 1, reqDue := t.now + 1000000000 })))

/-- From s to t a TIME_SOURCE made x the source in force, done with result 0: one that names another source, or comes in FREE, starts ACQUIRING
from no measurement, with no rate, no path delay and no step asked for of the old one, and EVENT 0x0301 where the lock state changes; one
that names the same source changes nothing of Mantel (R168, R172, R191; logs 54 and 96). -/
def sourceNamed (s t : State) (m : Msg) (x : TimeSource) : Prop :=
  (sourceNow s = some x → s.mantel.lock ≠ .free → t.mantel = s.mantel) ∧
    (sourceNow s ≠ some x ∨ s.mantel.lock = .free →
      (s.mantel.lock ≠ .acquiring → eventRaised s t 0x0301) ∧
      t.mantel = { s.mantel with
        lock := .acquiring, validOnEntry := timeValid s.mantel, firstMeasure := true, lockRun := 0, bigRun := 0
        stepPending := none, rate := none, noStep := false, east := s.mantel.east.forget, west := s.mantel.west.forget
        diffs := [], lastEdge := none, prefRun := 0, holdoverLast := t.mantel.holdoverLast, cues := t.mantel.cues }) ∧
    t = reportedAs t (finishedAs { s with arch := { s.arch with source := some x }, mantel := t.mantel } m (doneOf m 0))

/-- Loss, edges, steps and holds (R172, R174 to R176): after four intervals without its source a LOCKED node holds over at
the same addend, with EVENT 0x0301, but one that comes as the next command at that instant has arrived (R192; log 97);
RTC_SET copies Mantel time 64 s after the last one (R371). A SYNC_IN edge is dated, one that no period expects is only
counted; the eighth measurement in a row within 100 ns locks, and the third in a row beyond 10 us asks for a step. A step
moves Mantel time at a refresh seam of the old grid (the edges that count are log 56, holds and quires at a step log 57, the
RTC's crystal log 58), after a pending set whose boundary that seam is (R283), and P never back: within 1 s a step back is a
hold that ends when time passes P again, beyond it a new epoch starts, each with its EVENT (R191). A census due by the seam
latches before a step back (R192). TIME_SOURCE: a ring master or SYNC_IN named anew, or named in FREE, starts ACQUIRING with
nothing taken over from the old source, and free run is FREE at the addend that stands, which ends start-up's step 12 from
UNSET (R168, R172, R191, R414; the servo's rate and gain are log 54, and a step kept or dropped log 96). -/
def Obligations.MantelLossStepsAndHolds : Prop :=
  (∀ s : State, coreOn s = true → s.mantel.lock = .locked →
    (mode s ≠ .leaf → s.now ≤ s.mantel.lastSync + 4 * nominalInterval s →
      arrivalFollows (advanceTo s (s.mantel.lastSync + 4 * nominalInterval s)) = true →
      exec .masterLossTimeout s = .next (advanceTo s (s.mantel.lastSync + 4 * nominalInterval s))) ∧
    (mode s ≠ .leaf → s.pending = [] ∨ s.mantel.lastSync + 4 * nominalInterval s < s.now →
      ∃ t, exec .masterLossTimeout s = .next t ∧ s.mantel.lastSync + 4 * nominalInterval s ≤ t.now ∧
        t.now ≤ max s.now (s.mantel.lastSync + 4 * nominalInterval s + 3) ∧ eventRaised s t 0x0301 ∧
        t = clockedAs t (reportedAs t { s with mantel := { s.mantel with
          lock := .holdover, holdoverSince := t.now, counts := bump s.mantel.counts 7, lockRun := 0, bigRun := 0
          lastEdge := none, cues := t.mantel.cues } })) ∧
    ∃ t, exec .rtcSet s = .next t ∧ t.cellar.rtc = mNs t ∧ t.cellar.rtcPart = 0 ∧
      s.mantel.rtcSetAt + 64000000000 ≤ t.now ∧ t.now ≤ max s.now (s.mantel.rtcSetAt + 64000000003) ∧
      t = clockedAs t { s with
        cellar := { s.cellar with rtcValid := true }, mantel := { s.mantel with rtcSetAt := t.now } }) ∧
  (∀ (s : State) (d : Byte) (rate stamp : Nat), ruledSource s = some (.syncIn d rate) → rate ≠ 0 → coreOn s = true →
    hasSyncIn s = true →
    (∀ e, s.mantel.lastEdge = some e → edgeStale e stamp rate = false → edgeExpected e stamp rate = false →
      exec (.syncInEdge stamp) s = .next { s with mantel := { s.mantel with counts := bump s.mantel.counts 2 } }) ∧
    ((∀ e, s.mantel.lastEdge = some e → edgeStale e stamp rate = true) →
      ∃ t, exec (.syncInEdge stamp) s = .next t ∧ t.mantel.lastEdge = some stamp ∧ t.mantel.lastSync = s.now ∧
        (s.mantel.lock ≠ .free → t.mantel.lastOffset = edgeOffset (mantelAt s stamp) rate) ∧
        (s.mantel.lock = .acquiring → s.mantel.firstMeasure = false → s.mantel.stepPending = none →
          (edgeOffset (mantelAt s stamp) rate).natAbs ≤ 6553600 →
          t.mantel.lock = (if 7 ≤ s.mantel.lockRun then .locked else .acquiring) ∧ t.mantel.stepPending = none) ∧
        (s.mantel.lock = .locked → s.mantel.noStep = false → s.mantel.stepPending = none →
          655360000 < (edgeOffset (mantelAt s stamp) rate).natAbs →
          t.mantel.stepPending = (if 2 ≤ s.mantel.bigRun then some (-(edgeOffset (mantelAt s stamp) rate) * 65536) else none) ∧
            t.mantel.addend = s.mantel.addend) ∧
        t = measuredAs t s)) ∧
  (∀ (s u : State) (j : Int), coreOn s = true → s.mantel.stepPending = some j → u = advanceToSeam s (nextSeam s) →
    0 ≤ (u.mantel.time : Int) + j → u.mantel.time ≤ u.mantel.p →
    (∀ q, j ≠ 0 → s.press.pendingSet = some q → s.press.running = true → appliesAtSeam s q = true →
      boundaryOf s q = nextSeam s → s.cellar.failAt = none →
      ∃ t, exec .mantelStep s = .next t ∧ t.press.timing = q.set ∧ t.press.pendingSet = none ∧ t.press.epochE = q.set.epoch ∧
        (t.mantel.time : Int) = u.mantel.time + j) ∧
    (s.press.pendingSet = none →
      (0 < j →
        ∃ t, exec .mantelStep s = .next t ∧ (t.mantel.time : Int) = u.mantel.time + j ∧
          t.mantel.p = max u.mantel.p t.mantel.time ∧ eventRaised s t 0x0302 ∧ t.mantel.stepPending = none ∧
          t.mantel.epoch = s.mantel.epoch ∧ t.mantel.addend = s.mantel.addend ∧ t.press.darkGap = true ∧
          t = clockedAs t (reportedAs t { s with
            mantel := t.mantel, press := t.press
            larder := { s.larder with slots := t.larder.slots, secSuperseded := t.larder.secSuperseded }
            bindery := { s.bindery with
              pass := t.bindery.pass, waiting := t.bindery.waiting, passWanted := t.bindery.passWanted } })) ∧
      (j < 0 → ∃ t, exec .mantelStep s = .next t ∧ ∀ c ∈ t.mantel.censuses, u.mantel.time < c.t * 2 ^ 32) ∧
      (j < 0 → (∀ c ∈ s.mantel.censuses, u.mantel.time < c.t * 2 ^ 32) →
        (u.mantel.p : Int) - (u.mantel.time + j) ≤ 1000000000 * 2 ^ 32 →
        ∃ t, exec .mantelStep s = .next t ∧ (t.mantel.time : Int) = u.mantel.time + j ∧ t.mantel.p = u.mantel.p ∧
          (s.mantel.hold = false → eventRaised s t 0x0303) ∧ t.mantel.hold = true ∧ t.mantel.stepPending = none ∧
          t.mantel.epoch = s.mantel.epoch ∧ t.mantel.addend = s.mantel.addend ∧
          t = clockedAs t (reportedAs t { s with
            mantel := t.mantel
            press := { s.press with
              handles := s.press.handles ++ s.press.chosen.toList, chosen := none, cutoffDone := false, seamSeen := false
              slotsDone := true, darkGap := true, rowOn := none, widths := [], counts := bump s.press.counts 12 } })) ∧
      (j < 0 → (∀ c ∈ s.mantel.censuses, u.mantel.time < c.t * 2 ^ 32) →
        1000000000 * 2 ^ 32 < (u.mantel.p : Int) - (u.mantel.time + j) →
        ∃ t, exec .mantelStep s = .next t ∧ (t.mantel.time : Int) = u.mantel.time + j ∧ t.mantel.p = t.mantel.time ∧
          eventRaised s t 0x0304 ∧ t.mantel.hold = false ∧ t.mantel.stepPending = none ∧
          t.mantel.epoch = s.mantel.epoch + 1 ∧ t.mantel.addend = s.mantel.addend ∧ t.press.darkGap = true ∧
          t.screen.fade = none ∧ t.screen.level = none ∧
          t = clockedAs t (reportedAs t { s with
            mantel := t.mantel, press := t.press, bindery := t.bindery, screen := t.screen
            larder := { s.larder with
              slots := t.larder.slots, secSuperseded := t.larder.secSuperseded, seamOnLight := none, dropped := [] } }))) ∧
    (j = 0 → exec .mantelStep s = .next { s with mantel := { s.mantel with stepPending := none } })) ∧
  (∀ s : State, coreOn s = true → s.mantel.hold = true → 0 < 4 * 2 ^ 32 + s.mantel.addend →
    ∃ t, exec .holdEnd s = .next t ∧ s.mantel.p ≤ t.mantel.time ∧ eventRaised s t 0x0303 ∧
      t = clockedAs t (reportedAs t { s with mantel := { s.mantel with hold := false } })) ∧
  ∀ (s : State) (m : Msg), takeDispatch s 0x0040 = some m →
    (sourceType m = 0 →
      ∃ t, exec .timeSourceRingMaster s = .next t ∧
        sourceNamed s t m (.ringMaster (BitVec.ofNat 8 (field (wordAt m.body 0) 7 0)) (longAt m.body 4))) ∧
    (sourceType m = 1 → hasSyncIn s = true →
      ∃ t, exec .timeSourceSyncIn s = .next t ∧
        sourceNamed s t m (.syncIn (BitVec.ofNat 8 (field (wordAt m.body 0) 7 0)) (wordAt m.body 4).toNat)) ∧
    (sourceType m = 2 →
      ∃ t, exec .timeSourceFreeRun s = .next t ∧ (s.mantel.lock ≠ .free → eventRaised s t 0x0301) ∧
        t = reportedAs t (finishedAs { s with
          arch := { s.arch with source := some (.freeRun (BitVec.ofNat 8 (field (wordAt m.body 0) 7 0))) }
          start := { s.start with stepUs := t.start.stepUs }
          mantel := { s.mantel with
            lock := .free, stepPending := none, holdoverLast := t.mantel.holdoverLast
            cues := t.mantel.cues } } m (doneOf m 0)))
end

