-- ==== Sys2Proof/Laws/Memory.lean ====
section
/-! SUPPORT. The laws of an addressed buffer: a read after a write, and that every operation keeps the canonical form. -/

namespace Sys2Proof.Machine

open Sys2Proof

theorem Memory.read_write_same (m : Memory) (a : Nat) (v : Byte) (h : Memory.wf m = true) :
    Memory.read (Memory.write m a v) a = v := by
  suffices h : ∀ lo, Memory.wfFrom lo m = true → Memory.read (Memory.write m a v) a = v from h 0 ‹_›
  clear h
  induction m with
  | nil => intro lo _; by_cases hv : v = 0#8 <;> simp [Memory.write, Memory.read, hv]
  | cons c r ih =>
    obtain ⟨k, b⟩ := c
    intro lo h
    simp only [Memory.wfFrom, Bool.and_eq_true, decide_eq_true_eq] at h
    obtain ⟨⟨_, _⟩, hr⟩ := h
    have below : ∀ (r : Memory) (k : Nat), a < k → Memory.wfFrom k r = true → Memory.read r a = 0 := by
      intro r
      induction r with
      | nil => intros; rfl
      | cons c r ih =>
        obtain ⟨j, d⟩ := c
        intro k hk hw
        simp only [Memory.wfFrom, Bool.and_eq_true, decide_eq_true_eq] at hw
        simp only [Memory.read]
        rw [if_neg (by omega)]
        exact ih (j + 1) (by omega) hw.2
    simp only [Memory.write]
    split
    · by_cases hv : v = 0
      · rw [if_pos hv]
        simp only [Memory.read]
        rw [if_neg (by omega), hv]
        exact below r (k + 1) (by omega) hr
      · rw [if_neg hv]
        simp [Memory.read]
    · split
      · rename_i hak
        subst hak
        by_cases hv : v = 0
        · rw [if_pos hv, hv]
          exact below r (a + 1) (by omega) hr
        · rw [if_neg hv]
          simp [Memory.read]
      · simp only [Memory.read]
        rw [if_neg (by omega)]
        exact ih (k + 1) hr

theorem Memory.read_write_other (m : Memory) (a x : Nat) (v : Byte) (hx : x ≠ a) :
    Memory.read (Memory.write m a v) x = Memory.read m x := by
  induction m with
  | nil =>
    by_cases hv : v = 0#8
    · simp [Memory.write, hv]
    · simp [Memory.write, Memory.read, hv, Ne.symm hx]
  | cons c r ih =>
    obtain ⟨k, b⟩ := c
    simp only [Memory.write]
    split
    · by_cases hv : v = 0#8
      · simp [hv]
      · simp [hv, Memory.read, Ne.symm hx]
    · split
      · rename_i hak
        subst hak
        by_cases hv : v = 0#8
        · simp [hv, Memory.read, Ne.symm hx]
        · simp [hv, Memory.read, Ne.symm hx]
      · simp only [Memory.read, ih]

theorem Memory.write_wfFrom (m : Memory) (lo a : Nat) (v : Byte) (ha : lo ≤ a) (h : Memory.wfFrom lo m = true) :
    Memory.wfFrom lo (Memory.write m a v) = true := by
  induction m generalizing lo with
  | nil => by_cases hv : v = 0#8 <;> simp [Memory.write, Memory.wfFrom, hv, ha]
  | cons c r ih =>
    obtain ⟨k, b⟩ := c
    simp only [Memory.wfFrom, Bool.and_eq_true, decide_eq_true_eq, bne_iff_ne] at h
    obtain ⟨⟨hk, hb⟩, hr⟩ := h
    simp only [Memory.write]
    split
    · rename_i hak
      by_cases hv : v = 0
      · rw [if_pos hv]
        simp only [Memory.wfFrom, Bool.and_eq_true, decide_eq_true_eq, bne_iff_ne]
        exact ⟨⟨hk, hb⟩, hr⟩
      · rw [if_neg hv]
        simp only [Memory.wfFrom, Bool.and_eq_true, decide_eq_true_eq, bne_iff_ne]
        exact ⟨⟨ha, hv⟩, ⟨by omega, hb⟩, hr⟩
    · split
      · by_cases hv : v = 0
        · rw [if_pos hv]
          cases r with
          | nil => rfl
          | cons d r =>
            simp only [Memory.wfFrom, Bool.and_eq_true, decide_eq_true_eq, bne_iff_ne] at hr ⊢
            exact ⟨⟨by omega, hr.1.2⟩, hr.2⟩
        · rw [if_neg hv]
          simp only [Memory.wfFrom, Bool.and_eq_true, decide_eq_true_eq, bne_iff_ne]
          exact ⟨⟨hk, hv⟩, hr⟩
      · simp only [Memory.wfFrom, Bool.and_eq_true, decide_eq_true_eq, bne_iff_ne]
        exact ⟨⟨hk, hb⟩, ih (k + 1) (by omega) hr⟩

/-- One byte written keeps the canonical form. -/
theorem Memory.write_wf (m : Memory) (a : Nat) (v : Byte) (h : Memory.wf m = true) :
    Memory.wf (Memory.write m a v) = true := Memory.write_wfFrom m 0 a v (Nat.zero_le a) h

/-- Bytes written keep the canonical form. -/
theorem Memory.writeBytes_wf (m : Memory) (a : Nat) (bs : List Byte) (h : Memory.wf m = true) :
    Memory.wf (Memory.writeBytes m a bs) = true := by
  induction bs generalizing m a with
  | nil => exact h
  | cons b bs ih => exact ih _ _ (Memory.write_wf m a b h)

@[simp] theorem Memory.wf_nil : Memory.wf [] = true := rfl

/-- A byte string as a memory has the canonical form. -/
theorem Memory.ofBytes_wf (bs : List Byte) : Memory.wf (Memory.ofBytes bs) = true :=
  Memory.writeBytes_wf [] 0 bs rfl

theorem Memory.wfFrom_filter (m : Memory) (p : Host.Cell → Bool) (lo : Nat) (h : Memory.wfFrom lo m = true) :
    Memory.wfFrom lo (m.filter p) = true := by
  induction m generalizing lo with
  | nil => rfl
  | cons c r ih =>
    obtain ⟨k, b⟩ := c
    simp only [Memory.wfFrom, Bool.and_eq_true, decide_eq_true_eq] at h
    obtain ⟨⟨hk, hb⟩, hr⟩ := h
    rw [List.filter_cons]
    split
    · simp only [Memory.wfFrom, Bool.and_eq_true, decide_eq_true_eq]
      exact ⟨⟨hk, hb⟩, ih _ hr⟩
    · have weaken : ∀ (m : Memory) (i j : Nat), i ≤ j → Memory.wfFrom j m = true → Memory.wfFrom i m = true := by
        intro m i j hij hw
        cases m with
        | nil => rfl
        | cons d t =>
          simp only [Memory.wfFrom, Bool.and_eq_true, decide_eq_true_eq] at hw ⊢
          exact ⟨⟨by omega, hw.1.2⟩, hw.2⟩
      exact weaken _ lo (k + 1) (by omega) (ih _ hr)

/-- The cells below an address keep the canonical form. -/
theorem Memory.below_wf (m : Memory) (n : Nat) (h : Memory.wf m = true) : Memory.wf (Memory.below m n) = true :=
  Memory.wfFrom_filter m _ 0 h

end Sys2Proof.Machine
end

