-- ==== Sys2Proof/Laws/PerInstr.lean ====
section
/-! SUPPORT. Statements about every command as syntax, one lemma per constructor. NoWord: no word of any width spells the
command, since the table gives its row no bits (log 8). -/

namespace Sys2Proof.Laws.NoWord

open Sys2Proof

/-- No word spells this command. -/
def Statement (i : Instr) : Prop := ∀ nbits w : Nat, decodeTableWord nbits w ≠ some i

theorem powerUp (ioFell : Bool) : Statement (.powerUp ioFell) := fun _ _ => nofun
theorem firstLight : Statement (.firstLight) := fun _ _ => nofun
theorem strapSample (codes : List (List Nat)) (irefPa : List Nat) : Statement (.strapSample codes irefPa) := fun _ _ => nofun
theorem resetN : Statement (.resetN) := fun _ _ => nofun
theorem vddIoBrownout : Statement (.vddIoBrownout) := fun _ _ => nofun
theorem powerFailDetect (core sd : Bool) : Statement (.powerFailDetect core sd) := fun _ _ => nofun
theorem archiveIsolate : Statement (.archiveIsolate) := fun _ _ => nofun
theorem supplyBrownout (supply : Supply) (mv : BitVec 16) : Statement (.supplyBrownout supply mv) := fun _ _ => nofun
theorem supplyRestored (supply : Supply) : Statement (.supplyRestored supply) := fun _ _ => nofun
theorem portSignalDetect (p : Port) : Statement (.portSignalDetect p) := fun _ _ => nofun
theorem portAcquired (p : Port) : Statement (.portAcquired p) := fun _ _ => nofun
theorem fastAcquireFallback (p : Port) : Statement (.fastAcquireFallback p) := fun _ _ => nofun
theorem blockLock (p : Port) : Statement (.blockLock p) := fun _ _ => nofun
theorem deskew (p : Port) (delays : LaneDelays) : Statement (.deskew p delays) := fun _ _ => nofun
theorem confirm (p : Port) (peerTwoLanes : Bool) (peerLow : BitVec 16) : Statement (.confirm p peerTwoLanes peerLow) := fun _ _ => nofun
theorem portLoss (p : Port) (cutRx cutTx : Bool) : Statement (.portLoss p cutRx cutTx) := fun _ _ => nofun
theorem rateSuspectTimeout (p : Port) : Statement (.rateSuspectTimeout p) := fun _ _ => nofun
theorem identSend (p : Port) : Statement (.identSend p) := fun _ _ => nofun
theorem identReceive (p : Port) (serial : Long) : Statement (.identReceive p serial) := fun _ _ => nofun
theorem leaveReceive (p : Port) : Statement (.leaveReceive p) := fun _ _ => nofun
theorem fastAcquireEnd (p : Port) : Statement (.fastAcquireEnd p) := fun _ _ => nofun
theorem folioForward (p : Port) (u : RxUnit) (residence : Nat) : Statement (.folioForward p u residence) := fun _ _ => nofun
theorem merge (p : Port) (c : Arrival) : Statement (.merge p c) := fun _ _ => nofun
theorem mergeEntryExpire : Statement (.mergeEntryExpire) := fun _ _ => nofun
theorem vacancyFill (p : Port) (vacancy : Folio) : Statement (.vacancyFill p vacancy) := fun _ _ => nofun
theorem ctlJudge : Statement (.ctlJudge) := fun _ _ => nofun
theorem journalCommit (readBackOk : Bool) : Statement (.journalCommit readBackOk) := fun _ _ => nofun
theorem completionRecord : Statement (.completionRecord) := fun _ _ => nofun
theorem stateQuery : Statement (.stateQuery) := fun _ _ => nofun
theorem query : Statement (.query) := fun _ _ => nofun
theorem groupSet : Statement (.groupSet) := fun _ _ => nofun
theorem addressPin : Statement (.addressPin) := fun _ _ => nofun
theorem addressPinClear : Statement (.addressPinClear) := fun _ _ => nofun
theorem cue : Statement (.cue) := fun _ _ => nofun
theorem powerTolerance : Statement (.powerTolerance) := fun _ _ => nofun
theorem censusAt : Statement (.censusAt) := fun _ _ => nofun
theorem censusRead : Statement (.censusRead) := fun _ _ => nofun
theorem feedLossPolicy : Statement (.feedLossPolicy) := fun _ _ => nofun
theorem presentationDelay : Statement (.presentationDelay) := fun _ _ => nofun
theorem objBegin : Statement (.objBegin) := fun _ _ => nofun
theorem objData : Statement (.objData) := fun _ _ => nofun
theorem objCommit : Statement (.objCommit) := fun _ _ => nofun
theorem objCommitCopyEnd : Statement (.objCommitCopyEnd) := fun _ _ => nofun
theorem timingSet : Statement (.timingSet) := fun _ _ => nofun
theorem timingSetApply : Statement (.timingSetApply) := fun _ _ => nofun
theorem forceOutput : Statement (.forceOutput) := fun _ _ => nofun
theorem forceOutputRelease : Statement (.forceOutputRelease) := fun _ _ => nofun
theorem forceSetApply : Statement (.forceSetApply) := fun _ _ => nofun
theorem forceLimitExpire : Statement (.forceLimitExpire) := fun _ _ => nofun
theorem tripClear : Statement (.tripClear) := fun _ _ => nofun
theorem tripClearRelease : Statement (.tripClearRelease) := fun _ _ => nofun
theorem timeSourceRingMaster : Statement (.timeSourceRingMaster) := fun _ _ => nofun
theorem timeSourceSyncIn : Statement (.timeSourceSyncIn) := fun _ _ => nofun
theorem timeSourceFreeRun : Statement (.timeSourceFreeRun) := fun _ _ => nofun
theorem asymmetrySet : Statement (.asymmetrySet) := fun _ _ => nofun
theorem keyEnrol : Statement (.keyEnrol) := fun _ _ => nofun
theorem keyRevoke : Statement (.keyRevoke) := fun _ _ => nofun
theorem auditRead : Statement (.auditRead) := fun _ _ => nofun
theorem busResume : Statement (.busResume) := fun _ _ => nofun
theorem busResumeTimeout : Statement (.busResumeTimeout) := fun _ _ => nofun
theorem legacyHouse : Statement (.legacyHouse) := fun _ _ => nofun
theorem jtagEnable : Statement (.jtagEnable) := fun _ _ => nofun
theorem jtagDisable : Statement (.jtagDisable) := fun _ _ => nofun
theorem jtagEnableExpire : Statement (.jtagEnableExpire) := fun _ _ => nofun
theorem extest : Statement (.extest) := fun _ _ => nofun
theorem samplePreload : Statement (.samplePreload) := fun _ _ => nofun
theorem highz : Statement (.highz) := fun _ _ => nofun
theorem freeze : Statement (.freeze) := fun _ _ => nofun
theorem bypass : Statement (.bypass) := fun _ _ => nofun
theorem tapReset : Statement (.tapReset) := fun _ _ => nofun
theorem updateDr (cells : BitVec 294) : Statement (.updateDr cells) := fun _ _ => nofun
theorem captureDr (pins : BitVec 294) : Statement (.captureDr pins) := fun _ _ => nofun
theorem enumStart (splSeq epoch : Word) (reassign : Bool) : Statement (.enumStart splSeq epoch reassign) := fun _ _ => nofun
theorem addressAssign (splSeq epoch : Word) (entries : List AssignEntry) : Statement (.addressAssign splSeq epoch entries) := fun _ _ => nofun
theorem ringMap (splSeq epoch : Word) (size : Nat) (inserted : List Bool) : Statement (.ringMap splSeq epoch size inserted) := fun _ _ => nofun
theorem spliceWindow (splSeq : Word) (target : Long) (pos : BitVec 16) (action : Word) (tw : Nat) (wUs : Word) : Statement (.spliceWindow splSeq target pos action tw wUs) := fun _ _ => nofun
theorem spliceWindowStart : Statement (.spliceWindowStart) := fun _ _ => nofun
theorem spliceReturn : Statement (.spliceReturn) := fun _ _ => nofun
theorem spliceWindowEnd : Statement (.spliceWindowEnd) := fun _ _ => nofun
theorem bypassInsert : Statement (.bypassInsert) := fun _ _ => nofun
theorem bypassRelease : Statement (.bypassRelease) := fun _ _ => nofun
theorem bypSenseSample (east west : Bool) : Statement (.bypSenseSample east west) := fun _ _ => nofun
theorem bypassRetry : Statement (.bypassRetry) := fun _ _ => nofun
theorem selfTest (port lane : Byte) (crcFailures : Nat) (eastPs westPs : Nat) : Statement (.selfTest port lane crcFailures eastPs westPs) := fun _ _ => nofun
theorem selfTestRetry : Statement (.selfTestRetry) := fun _ _ => nofun
theorem sync (p : Port) (h : PtpHead) (logInterval : Int) (twoStep : Bool) (t1 t2 : Nat) : Statement (.sync p h logInterval twoStep t1 t2) := fun _ _ => nofun
theorem followUp (p : Port) (h : PtpHead) (t1 : Nat) : Statement (.followUp p h t1) := fun _ _ => nofun
theorem delayResp (p : Port) (h : PtpHead) (reqIdentity : Long) (reqPort : BitVec 16) (t4 : Nat) : Statement (.delayResp p h reqIdentity reqPort t4) := fun _ _ => nofun
theorem delayReqSend (p : Port) : Statement (.delayReqSend p) := fun _ _ => nofun
theorem masterLossTimeout : Statement (.masterLossTimeout) := fun _ _ => nofun
theorem syncInEdge (stamp : Nat) : Statement (.syncInEdge stamp) := fun _ _ => nofun
theorem mantelStep : Statement (.mantelStep) := fun _ _ => nofun
theorem holdEnd : Statement (.holdEnd) := fun _ _ => nofun
theorem rtcSet : Statement (.rtcSet) := fun _ _ => nofun
theorem refreshSeam (errorPs : Int) : Statement (.refreshSeam errorPs) := fun _ _ => nofun
theorem rowSlot (readings : SlotReadings) (irefOpen : BitVec 4) : Statement (.rowSlot readings irefOpen) := fun _ _ => nofun
theorem plateCutoff : Statement (.plateCutoff) := fun _ _ => nofun
theorem handleArrive : Statement (.handleArrive) := fun _ _ => nofun
theorem renderPoint : Statement (.renderPoint) := fun _ _ => nofun
theorem passEnd : Statement (.passEnd) := fun _ _ => nofun
theorem passAbandon : Statement (.passAbandon) := fun _ _ => nofun
theorem workingCopyLoad : Statement (.workingCopyLoad) := fun _ _ => nofun
theorem workingCopyLoadEnd : Statement (.workingCopyLoadEnd) := fun _ _ => nofun
theorem wearGainRecompute : Statement (.wearGainRecompute) := fun _ _ => nofun
theorem slateCacheFill (entry : Bool) : Statement (.slateCacheFill entry) := fun _ _ => nofun
theorem feedLossExpiry : Statement (.feedLossExpiry) := fun _ _ => nofun
theorem feedLossHoldEnd : Statement (.feedLossHoldEnd) := fun _ _ => nofun
theorem larderEccError (word : BadWord) (corrected : Bool) : Statement (.larderEccError word corrected) := fun _ _ => nofun
theorem reportSecondEnd : Statement (.reportSecondEnd) := fun _ _ => nofun
theorem watermarkReport (queue : BitVec 2) : Statement (.watermarkReport queue) := fun _ _ => nofun
theorem eventReportForm : Statement (.eventReportForm) := fun _ _ => nofun
theorem censusLatch : Statement (.censusLatch) := fun _ _ => nofun
theorem censusCopyDone : Statement (.censusCopyDone) := fun _ _ => nofun
theorem censusAge : Statement (.censusAge) := fun _ _ => nofun
theorem tripInputAssert (id : Nat) (inWindow returned : Bool) : Statement (.tripInputAssert id inWindow returned) := fun _ _ => nofun
theorem tripInputDeassert (id : Nat) : Statement (.tripInputDeassert id) := fun _ _ => nofun
theorem tripEpisodeEnd (id : Nat) : Statement (.tripEpisodeEnd id) := fun _ _ => nofun
theorem delayLineUnlock (sink : Nat) (atTop : Bool) : Statement (.delayLineUnlock sink atTop) := fun _ _ => nofun
theorem delayLineRelock (sink : Nat) : Statement (.delayLineRelock sink) := fun _ _ => nofun
theorem pclkLoss : Statement (.pclkLoss) := fun _ _ => nofun
theorem pclkRestore : Statement (.pclkRestore) := fun _ _ => nofun
theorem collatorDetection : Statement (.collatorDetection) := fun _ _ => nofun
theorem defectReportSend : Statement (.defectReportSend) := fun _ _ => nofun
theorem collatorExclusionEnd : Statement (.collatorExclusionEnd) := fun _ _ => nofun
theorem wearPersist : Statement (.wearPersist) := fun _ _ => nofun
theorem watchdogKick : Statement (.watchdogKick) := fun _ _ => nofun
theorem watchdogWarning : Statement (.watchdogWarning) := fun _ _ => nofun
theorem watchdogExpiry : Statement (.watchdogExpiry) := fun _ _ => nofun
theorem tamperSample (isOpen : Bool) : Statement (.tamperSample isOpen) := fun _ _ => nofun
theorem cellStateChange (vcellMv : Nat) (tempC : Int) (chargeNa : Nat) : Statement (.cellStateChange vcellMv tempC chargeNa) := fun _ _ => nofun
theorem archiveEccError (word : BadWord) (corrected : Bool) : Statement (.archiveEccError word corrected) := fun _ _ => nofun
theorem readerFieldPresent (reservoirPj : Nat) : Statement (.readerFieldPresent reservoirPj) := fun _ _ => nofun
theorem readerFieldLoss : Statement (.readerFieldLoss) := fun _ _ => nofun
theorem inventory (slots16 : Bool) (afi : Option Byte) (maskLen : Nat) (mask : Long) : Statement (.inventory slots16 afi maskLen mask) := fun _ _ => nofun
theorem stayQuiet (uid : Long) : Statement (.stayQuiet uid) := fun _ _ => nofun
theorem select (uid : Long) : Statement (.select uid) := fun _ _ => nofun
theorem resetToReady (addr : ReaderAddr) : Statement (.resetToReady addr) := fun _ _ => nofun
theorem readSingleBlock (addr : ReaderAddr) (block : Byte) : Statement (.readSingleBlock addr block) := fun _ _ => nofun
theorem readMultipleBlocks (addr : ReaderAddr) (first : Byte) (count : Nat) : Statement (.readMultipleBlocks addr first count) := fun _ _ => nofun
theorem getSystemInformation (addr : ReaderAddr) : Statement (.getSystemInformation addr) := fun _ _ => nofun
theorem writeSingleBlock (addr : ReaderAddr) (block : Byte) (optionFlag : Bool) (data : List Byte) : Statement (.writeSingleBlock addr block optionFlag data) := fun _ _ => nofun
theorem challengeExpire : Statement (.challengeExpire) := fun _ _ => nofun
theorem stateEntry : Statement (.stateEntry) := fun _ _ => nofun
theorem stateEntryDrop : Statement (.stateEntryDrop) := fun _ _ => nofun
theorem wakeAlarm : Statement (.wakeAlarm) := fun _ _ => nofun
theorem sbRxWake : Statement (.sbRxWake) := fun _ _ => nofun
theorem s4ReturnAlarm : Statement (.s4ReturnAlarm) := fun _ _ => nofun
theorem wakeReady : Statement (.wakeReady) := fun _ _ => nofun
theorem maintenanceWake : Statement (.maintenanceWake) := fun _ _ => nofun
theorem dieTempMeasure (temp16 : Int) : Statement (.dieTempMeasure temp16) := fun _ _ => nofun
theorem correlationStrobe (counter : Word) : Statement (.correlationStrobe counter) := fun _ _ => nofun
theorem busIntegrated : Statement (.busIntegrated) := fun _ _ => nofun
theorem porterStop : Statement (.porterStop) := fun _ _ => nofun
theorem serviceBusIdle : Statement (.serviceBusIdle) := fun _ _ => nofun
theorem serviceFrameSent : Statement (.serviceFrameSent) := fun _ _ => nofun
theorem serviceBusError (error : BusError) (beforeClass chatter transmitting dataField : Bool) : Statement (.serviceBusError error beforeClass chatter transmitting dataField) := fun _ _ => nofun
theorem busOffRecovery (chatter : Bool) : Statement (.busOffRecovery chatter) := fun _ _ => nofun
theorem psuFault (f : ServiceFrame) : Statement (.psuFault f) := fun _ _ => nofun
theorem overtemp (f : ServiceFrame) : Statement (.overtemp f) := fun _ _ => nofun
theorem fanFault (f : ServiceFrame) : Statement (.fanFault f) := fun _ _ => nofun
theorem peerFault (f : ServiceFrame) : Statement (.peerFault f) := fun _ _ => nofun
theorem announce (idLow : BitVec 24) (f : ServiceFrame) : Statement (.announce idLow f) := fun _ _ => nofun
theorem temp (f : ServiceFrame) : Statement (.temp f) := fun _ _ => nofun
theorem psuStatus (f : ServiceFrame) : Statement (.psuStatus f) := fun _ _ => nofun
theorem fanStatus (f : ServiceFrame) : Statement (.fanStatus f) := fun _ _ => nofun
theorem peerStatus (f : ServiceFrame) : Statement (.peerStatus f) := fun _ _ => nofun
theorem peerStatusSend : Statement (.peerStatusSend) := fun _ _ => nofun
theorem announceSend : Statement (.announceSend) := fun _ _ => nofun
theorem stationChoose : Statement (.stationChoose) := fun _ _ => nofun
theorem dmxPacket (breakUs mabUs : Nat) (startCode : Byte) (slots : List Byte) (framingErrorAt : Option Nat) : Statement (.dmxPacket breakUs mabUs startCode slots framingErrorAt) := fun _ _ => nofun
theorem dmxLoss : Statement (.dmxLoss) := fun _ _ => nofun
theorem discUniqueBranch (lower upper : BitVec 48) : Statement (.discUniqueBranch lower upper) := fun _ _ => nofun
theorem discMute (r : RdmRequest) : Statement (.discMute r) := fun _ _ => nofun
theorem discUnMute (r : RdmRequest) : Statement (.discUnMute r) := fun _ _ => nofun
theorem supportedParameters (r : RdmRequest) : Statement (.supportedParameters r) := fun _ _ => nofun
theorem deviceInfo (r : RdmRequest) : Statement (.deviceInfo r) := fun _ _ => nofun
theorem deviceModelDescription (r : RdmRequest) : Statement (.deviceModelDescription r) := fun _ _ => nofun
theorem manufacturerLabel (r : RdmRequest) : Statement (.manufacturerLabel r) := fun _ _ => nofun
theorem deviceLabelGet (r : RdmRequest) : Statement (.deviceLabelGet r) := fun _ _ => nofun
theorem deviceLabelSet (r : RdmRequest) : Statement (.deviceLabelSet r) := fun _ _ => nofun
theorem softwareVersionLabel (r : RdmRequest) : Statement (.softwareVersionLabel r) := fun _ _ => nofun
theorem dmxPersonalityGet (r : RdmRequest) : Statement (.dmxPersonalityGet r) := fun _ _ => nofun
theorem dmxPersonalitySet (r : RdmRequest) : Statement (.dmxPersonalitySet r) := fun _ _ => nofun
theorem dmxPersonalityDescription (r : RdmRequest) : Statement (.dmxPersonalityDescription r) := fun _ _ => nofun
theorem dmxStartAddressGet (r : RdmRequest) : Statement (.dmxStartAddressGet r) := fun _ _ => nofun
theorem dmxStartAddressSet (r : RdmRequest) : Statement (.dmxStartAddressSet r) := fun _ _ => nofun
theorem deviceHours (r : RdmRequest) : Statement (.deviceHours r) := fun _ _ => nofun
theorem identifyDeviceGet (r : RdmRequest) : Statement (.identifyDeviceGet r) := fun _ _ => nofun
theorem identifyDeviceSet (r : RdmRequest) : Statement (.identifyDeviceSet r) := fun _ _ => nofun
theorem unknownPid (r : RdmRequest) (pid : Half) : Statement (.unknownPid r pid) := fun _ _ => nofun
theorem identifyToggle : Statement (.identifyToggle) := fun _ _ => nofun
theorem legacyBlockWrite : Statement (.legacyBlockWrite) := fun _ _ => nofun
theorem daliForwardFrame (nbits : Nat) (frame : BitVec 24) : Statement (.daliForwardFrame nbits frame) := fun _ _ => nofun
theorem daliSystemFailure : Statement (.daliSystemFailure) := fun _ _ => nofun
theorem leafHopUp (upstream : Bool) (peerPos : BitVec 6) (peerSerial : Long) : Statement (.leafHopUp upstream peerPos peerSerial) := fun _ _ => nofun
theorem leafHopDown (upstream : Bool) : Statement (.leafHopDown upstream) := fun _ _ => nofun
theorem leafHello (sending : Bool) (pos : BitVec 6) (serial : Long) : Statement (.leafHello sending pos serial) := fun _ _ => nofun
theorem carryDown (leaf : BitVec 6) (u : RxUnit) (crcOk : Bool) : Statement (.carryDown leaf u crcOk) := fun _ _ => nofun
theorem carryUp (leaf : BitVec 6) (f : Folio) (crcOk : Bool) : Statement (.carryUp leaf f crcOk) := fun _ _ => nofun
theorem leafQueueSend : Statement (.leafQueueSend) := fun _ _ => nofun
theorem time (correction : Nat) (mantel16 : Nat) (lock : BitVec 4) (stamp16 : Nat) (residence : Nat) : Statement (.time correction mantel16 lock stamp16 residence) := fun _ _ => nofun
theorem leafTimeSend : Statement (.leafTimeSend) := fun _ _ => nofun
theorem leafTimeTimeout : Statement (.leafTimeTimeout) := fun _ _ => nofun
theorem pdelayReq (pos : BitVec 6) (stamp16 turnaround16 : Nat) : Statement (.pdelayReq pos stamp16 turnaround16) := fun _ _ => nofun
theorem pdelayReqSend : Statement (.pdelayReqSend) := fun _ _ => nofun
theorem pdelayResp (pos : BitVec 6) (turnaround16 : Nat) (arrival16 : Nat) : Statement (.pdelayResp pos turnaround16 arrival16) := fun _ _ => nofun
theorem pixels (chip : BitVec 7) (offset : Nat) (data : List Byte) : Statement (.pixels chip offset data) := fun _ _ => nofun
theorem latch (rate : Byte) (frame : BitVec 24) (stamp : Nat) : Statement (.latch rate frame stamp) := fun _ _ => nofun
theorem gain (chip : BitVec 7) (level : Half) (trims : Word) (deadNs : Half) : Statement (.gain chip level trims deadNs) := fun _ _ => nofun
theorem count (n : Byte) : Statement (.count n) := fun _ _ => nofun
theorem statusReq (chip : BitVec 7) : Statement (.statusReq chip) := fun _ _ => nofun
theorem ringPllLoss : Statement (.ringPllLoss) := fun _ _ => nofun
theorem cellarResetHoldEnd : Statement (.cellarResetHoldEnd) := fun _ _ => nofun
theorem daliBusReturn : Statement (.daliBusReturn) := fun _ _ => nofun
theorem readerCommandNotSupported : Statement (.readerCommandNotSupported) := fun _ _ => nofun
theorem reservedKindFrame (f : OddFrame) : Statement (.reservedKindFrame f) := fun _ _ => nofun

end Sys2Proof.Laws.NoWord
end

