-- ==== Sys2Proof/Laws/State.lean ====
section
/-! SUPPORT. What each named update of the state leaves unchanged, one lemma per field, so that no later proof unfolds a
record update. -/

namespace Sys2Proof.Machine

open Sys2Proof

variable (s : State)

/-! ### send -/

@[simp] theorem send_now (x : Sent) : (send s x).now = s.now := rfl
@[simp] theorem send_start (x : Sent) : (send s x).start = s.start := rfl
@[simp] theorem send_straps (x : Sent) : (send s x).straps = s.straps := rfl
@[simp] theorem send_spine (x : Sent) : (send s x).spine = s.spine := rfl
@[simp] theorem send_addr (x : Sent) : (send s x).addr = s.addr := rfl
@[simp] theorem send_hall (x : Sent) : (send s x).hall = s.hall := rfl
@[simp] theorem send_mantel (x : Sent) : (send s x).mantel = s.mantel := rfl
@[simp] theorem send_larder (x : Sent) : (send s x).larder = s.larder := rfl
@[simp] theorem send_screen (x : Sent) : (send s x).screen = s.screen := rfl
@[simp] theorem send_bindery (x : Sent) : (send s x).bindery = s.bindery := rfl
@[simp] theorem send_press (x : Sent) : (send s x).press = s.press := rfl
@[simp] theorem send_prot (x : Sent) : (send s x).prot = s.prot := rfl
@[simp] theorem send_coll (x : Sent) : (send s x).coll = s.coll := rfl
@[simp] theorem send_back (x : Sent) : (send s x).back = s.back := rfl
@[simp] theorem send_legacy (x : Sent) : (send s x).legacy = s.legacy := rfl
@[simp] theorem send_cellar (x : Sent) : (send s x).cellar = s.cellar := rfl
@[simp] theorem send_arch (x : Sent) : (send s x).arch = s.arch := rfl
@[simp] theorem send_power (x : Sent) : (send s x).power = s.power := rfl
@[simp] theorem send_leaf (x : Sent) : (send s x).leaf = s.leaf := rfl
@[simp] theorem send_fresh (x : Sent) : (send s x).fresh = s.fresh := rfl
@[simp] theorem send_pending (x : Sent) : (send s x).pending = s.pending := rfl

/-! ### setPort -/

@[simp] theorem setPort_now (p : Port) (x : PortS) : (setPort s p x).now = s.now := by cases p <;> rfl
@[simp] theorem setPort_start (p : Port) (x : PortS) : (setPort s p x).start = s.start := by cases p <;> rfl
@[simp] theorem setPort_straps (p : Port) (x : PortS) : (setPort s p x).straps = s.straps := by cases p <;> rfl
@[simp] theorem setPort_addr (p : Port) (x : PortS) : (setPort s p x).addr = s.addr := by cases p <;> rfl
@[simp] theorem setPort_hall (p : Port) (x : PortS) : (setPort s p x).hall = s.hall := by cases p <;> rfl
@[simp] theorem setPort_mantel (p : Port) (x : PortS) : (setPort s p x).mantel = s.mantel := by cases p <;> rfl
@[simp] theorem setPort_larder (p : Port) (x : PortS) : (setPort s p x).larder = s.larder := by cases p <;> rfl
@[simp] theorem setPort_screen (p : Port) (x : PortS) : (setPort s p x).screen = s.screen := by cases p <;> rfl
@[simp] theorem setPort_bindery (p : Port) (x : PortS) : (setPort s p x).bindery = s.bindery := by cases p <;> rfl
@[simp] theorem setPort_press (p : Port) (x : PortS) : (setPort s p x).press = s.press := by cases p <;> rfl
@[simp] theorem setPort_prot (p : Port) (x : PortS) : (setPort s p x).prot = s.prot := by cases p <;> rfl
@[simp] theorem setPort_coll (p : Port) (x : PortS) : (setPort s p x).coll = s.coll := by cases p <;> rfl
@[simp] theorem setPort_back (p : Port) (x : PortS) : (setPort s p x).back = s.back := by cases p <;> rfl
@[simp] theorem setPort_legacy (p : Port) (x : PortS) : (setPort s p x).legacy = s.legacy := by cases p <;> rfl
@[simp] theorem setPort_cellar (p : Port) (x : PortS) : (setPort s p x).cellar = s.cellar := by cases p <;> rfl
@[simp] theorem setPort_arch (p : Port) (x : PortS) : (setPort s p x).arch = s.arch := by cases p <;> rfl
@[simp] theorem setPort_power (p : Port) (x : PortS) : (setPort s p x).power = s.power := by cases p <;> rfl
@[simp] theorem setPort_leaf (p : Port) (x : PortS) : (setPort s p x).leaf = s.leaf := by cases p <;> rfl
@[simp] theorem setPort_wire (p : Port) (x : PortS) : (setPort s p x).wire = s.wire := by cases p <;> rfl
@[simp] theorem setPort_fresh (p : Port) (x : PortS) : (setPort s p x).fresh = s.fresh := by cases p <;> rfl
@[simp] theorem setPort_pending (p : Port) (x : PortS) : (setPort s p x).pending = s.pending := by cases p <;> rfl

/-! ### countPort -/

@[simp] theorem countPort_now (p : Port) (i : Nat) : (countPort s p i).now = s.now := by cases p <;> rfl
@[simp] theorem countPort_start (p : Port) (i : Nat) : (countPort s p i).start = s.start := by cases p <;> rfl
@[simp] theorem countPort_straps (p : Port) (i : Nat) : (countPort s p i).straps = s.straps := by cases p <;> rfl
@[simp] theorem countPort_addr (p : Port) (i : Nat) : (countPort s p i).addr = s.addr := by cases p <;> rfl
@[simp] theorem countPort_hall (p : Port) (i : Nat) : (countPort s p i).hall = s.hall := by cases p <;> rfl
@[simp] theorem countPort_mantel (p : Port) (i : Nat) : (countPort s p i).mantel = s.mantel := by cases p <;> rfl
@[simp] theorem countPort_larder (p : Port) (i : Nat) : (countPort s p i).larder = s.larder := by cases p <;> rfl
@[simp] theorem countPort_screen (p : Port) (i : Nat) : (countPort s p i).screen = s.screen := by cases p <;> rfl
@[simp] theorem countPort_bindery (p : Port) (i : Nat) : (countPort s p i).bindery = s.bindery := by cases p <;> rfl
@[simp] theorem countPort_press (p : Port) (i : Nat) : (countPort s p i).press = s.press := by cases p <;> rfl
@[simp] theorem countPort_prot (p : Port) (i : Nat) : (countPort s p i).prot = s.prot := by cases p <;> rfl
@[simp] theorem countPort_coll (p : Port) (i : Nat) : (countPort s p i).coll = s.coll := by cases p <;> rfl
@[simp] theorem countPort_back (p : Port) (i : Nat) : (countPort s p i).back = s.back := by cases p <;> rfl
@[simp] theorem countPort_legacy (p : Port) (i : Nat) : (countPort s p i).legacy = s.legacy := by cases p <;> rfl
@[simp] theorem countPort_cellar (p : Port) (i : Nat) : (countPort s p i).cellar = s.cellar := by cases p <;> rfl
@[simp] theorem countPort_arch (p : Port) (i : Nat) : (countPort s p i).arch = s.arch := by cases p <;> rfl
@[simp] theorem countPort_power (p : Port) (i : Nat) : (countPort s p i).power = s.power := by cases p <;> rfl
@[simp] theorem countPort_leaf (p : Port) (i : Nat) : (countPort s p i).leaf = s.leaf := by cases p <;> rfl
@[simp] theorem countPort_wire (p : Port) (i : Nat) : (countPort s p i).wire = s.wire := by cases p <;> rfl
@[simp] theorem countPort_fresh (p : Port) (i : Nat) : (countPort s p i).fresh = s.fresh := by cases p <;> rfl
@[simp] theorem countPort_pending (p : Port) (i : Nat) : (countPort s p i).pending = s.pending := by cases p <;> rfl

/-! ### setSync -/

@[simp] theorem setSync_now (p : Port) (x : PortSync) : (setSync s p x).now = s.now := by cases p <;> rfl
@[simp] theorem setSync_start (p : Port) (x : PortSync) : (setSync s p x).start = s.start := by cases p <;> rfl
@[simp] theorem setSync_straps (p : Port) (x : PortSync) : (setSync s p x).straps = s.straps := by cases p <;> rfl
@[simp] theorem setSync_spine (p : Port) (x : PortSync) : (setSync s p x).spine = s.spine := by cases p <;> rfl
@[simp] theorem setSync_addr (p : Port) (x : PortSync) : (setSync s p x).addr = s.addr := by cases p <;> rfl
@[simp] theorem setSync_hall (p : Port) (x : PortSync) : (setSync s p x).hall = s.hall := by cases p <;> rfl
@[simp] theorem setSync_larder (p : Port) (x : PortSync) : (setSync s p x).larder = s.larder := by cases p <;> rfl
@[simp] theorem setSync_screen (p : Port) (x : PortSync) : (setSync s p x).screen = s.screen := by cases p <;> rfl
@[simp] theorem setSync_bindery (p : Port) (x : PortSync) : (setSync s p x).bindery = s.bindery := by cases p <;> rfl
@[simp] theorem setSync_press (p : Port) (x : PortSync) : (setSync s p x).press = s.press := by cases p <;> rfl
@[simp] theorem setSync_prot (p : Port) (x : PortSync) : (setSync s p x).prot = s.prot := by cases p <;> rfl
@[simp] theorem setSync_coll (p : Port) (x : PortSync) : (setSync s p x).coll = s.coll := by cases p <;> rfl
@[simp] theorem setSync_back (p : Port) (x : PortSync) : (setSync s p x).back = s.back := by cases p <;> rfl
@[simp] theorem setSync_legacy (p : Port) (x : PortSync) : (setSync s p x).legacy = s.legacy := by cases p <;> rfl
@[simp] theorem setSync_cellar (p : Port) (x : PortSync) : (setSync s p x).cellar = s.cellar := by cases p <;> rfl
@[simp] theorem setSync_arch (p : Port) (x : PortSync) : (setSync s p x).arch = s.arch := by cases p <;> rfl
@[simp] theorem setSync_power (p : Port) (x : PortSync) : (setSync s p x).power = s.power := by cases p <;> rfl
@[simp] theorem setSync_leaf (p : Port) (x : PortSync) : (setSync s p x).leaf = s.leaf := by cases p <;> rfl
@[simp] theorem setSync_wire (p : Port) (x : PortSync) : (setSync s p x).wire = s.wire := by cases p <;> rfl
@[simp] theorem setSync_fresh (p : Port) (x : PortSync) : (setSync s p x).fresh = s.fresh := by cases p <;> rfl
@[simp] theorem setSync_pending (p : Port) (x : PortSync) : (setSync s p x).pending = s.pending := by cases p <;> rfl

/-! ### advance -/

@[simp] theorem advance_start (n : Nat) : (advance s n).start = s.start := rfl
@[simp] theorem advance_straps (n : Nat) : (advance s n).straps = s.straps := rfl
@[simp] theorem advance_spine (n : Nat) : (advance s n).spine = s.spine := rfl
@[simp] theorem advance_addr (n : Nat) : (advance s n).addr = s.addr := rfl
@[simp] theorem advance_hall (n : Nat) : (advance s n).hall = s.hall := rfl
@[simp] theorem advance_larder (n : Nat) : (advance s n).larder = s.larder := rfl
@[simp] theorem advance_screen (n : Nat) : (advance s n).screen = s.screen := rfl
@[simp] theorem advance_bindery (n : Nat) : (advance s n).bindery = s.bindery := rfl
@[simp] theorem advance_press (n : Nat) : (advance s n).press = s.press := rfl
@[simp] theorem advance_prot (n : Nat) : (advance s n).prot = s.prot := rfl
@[simp] theorem advance_coll (n : Nat) : (advance s n).coll = s.coll := rfl
@[simp] theorem advance_back (n : Nat) : (advance s n).back = s.back := rfl
@[simp] theorem advance_legacy (n : Nat) : (advance s n).legacy = s.legacy := rfl
@[simp] theorem advance_arch (n : Nat) : (advance s n).arch = s.arch := rfl
@[simp] theorem advance_power (n : Nat) : (advance s n).power = s.power := rfl
@[simp] theorem advance_leaf (n : Nat) : (advance s n).leaf = s.leaf := rfl
@[simp] theorem advance_wire (n : Nat) : (advance s n).wire = s.wire := rfl
@[simp] theorem advance_fresh (n : Nat) : (advance s n).fresh = s.fresh := rfl
@[simp] theorem advance_pending (n : Nat) : (advance s n).pending = s.pending := rfl

/-! ### advanceTo -/

@[simp] theorem advanceTo_start (t : Nat) : (advanceTo s t).start = s.start := rfl
@[simp] theorem advanceTo_straps (t : Nat) : (advanceTo s t).straps = s.straps := rfl
@[simp] theorem advanceTo_spine (t : Nat) : (advanceTo s t).spine = s.spine := rfl
@[simp] theorem advanceTo_addr (t : Nat) : (advanceTo s t).addr = s.addr := rfl
@[simp] theorem advanceTo_hall (t : Nat) : (advanceTo s t).hall = s.hall := rfl
@[simp] theorem advanceTo_larder (t : Nat) : (advanceTo s t).larder = s.larder := rfl
@[simp] theorem advanceTo_screen (t : Nat) : (advanceTo s t).screen = s.screen := rfl
@[simp] theorem advanceTo_bindery (t : Nat) : (advanceTo s t).bindery = s.bindery := rfl
@[simp] theorem advanceTo_press (t : Nat) : (advanceTo s t).press = s.press := rfl
@[simp] theorem advanceTo_prot (t : Nat) : (advanceTo s t).prot = s.prot := rfl
@[simp] theorem advanceTo_coll (t : Nat) : (advanceTo s t).coll = s.coll := rfl
@[simp] theorem advanceTo_back (t : Nat) : (advanceTo s t).back = s.back := rfl
@[simp] theorem advanceTo_legacy (t : Nat) : (advanceTo s t).legacy = s.legacy := rfl
@[simp] theorem advanceTo_arch (t : Nat) : (advanceTo s t).arch = s.arch := rfl
@[simp] theorem advanceTo_power (t : Nat) : (advanceTo s t).power = s.power := rfl
@[simp] theorem advanceTo_leaf (t : Nat) : (advanceTo s t).leaf = s.leaf := rfl
@[simp] theorem advanceTo_wire (t : Nat) : (advanceTo s t).wire = s.wire := rfl
@[simp] theorem advanceTo_fresh (t : Nat) : (advanceTo s t).fresh = s.fresh := rfl
@[simp] theorem advanceTo_pending (t : Nat) : (advanceTo s t).pending = s.pending := rfl

/-! ### advanceToMantel -/

@[simp] theorem advanceToMantel_start (t : Nat) : (advanceToMantel s t).start = s.start := rfl
@[simp] theorem advanceToMantel_straps (t : Nat) : (advanceToMantel s t).straps = s.straps := rfl
@[simp] theorem advanceToMantel_spine (t : Nat) : (advanceToMantel s t).spine = s.spine := rfl
@[simp] theorem advanceToMantel_addr (t : Nat) : (advanceToMantel s t).addr = s.addr := rfl
@[simp] theorem advanceToMantel_hall (t : Nat) : (advanceToMantel s t).hall = s.hall := rfl
@[simp] theorem advanceToMantel_larder (t : Nat) : (advanceToMantel s t).larder = s.larder := rfl
@[simp] theorem advanceToMantel_screen (t : Nat) : (advanceToMantel s t).screen = s.screen := rfl
@[simp] theorem advanceToMantel_bindery (t : Nat) : (advanceToMantel s t).bindery = s.bindery := rfl
@[simp] theorem advanceToMantel_press (t : Nat) : (advanceToMantel s t).press = s.press := rfl
@[simp] theorem advanceToMantel_prot (t : Nat) : (advanceToMantel s t).prot = s.prot := rfl
@[simp] theorem advanceToMantel_coll (t : Nat) : (advanceToMantel s t).coll = s.coll := rfl
@[simp] theorem advanceToMantel_back (t : Nat) : (advanceToMantel s t).back = s.back := rfl
@[simp] theorem advanceToMantel_legacy (t : Nat) : (advanceToMantel s t).legacy = s.legacy := rfl
@[simp] theorem advanceToMantel_arch (t : Nat) : (advanceToMantel s t).arch = s.arch := rfl
@[simp] theorem advanceToMantel_power (t : Nat) : (advanceToMantel s t).power = s.power := rfl
@[simp] theorem advanceToMantel_leaf (t : Nat) : (advanceToMantel s t).leaf = s.leaf := rfl
@[simp] theorem advanceToMantel_wire (t : Nat) : (advanceToMantel s t).wire = s.wire := rfl
@[simp] theorem advanceToMantel_fresh (t : Nat) : (advanceToMantel s t).fresh = s.fresh := rfl
@[simp] theorem advanceToMantel_pending (t : Nat) : (advanceToMantel s t).pending = s.pending := rfl

/-! ### watermark -/

@[simp] theorem watermark_now (b k : Nat) : (watermark b k s).now = s.now := rfl
@[simp] theorem watermark_start (b k : Nat) : (watermark b k s).start = s.start := rfl
@[simp] theorem watermark_straps (b k : Nat) : (watermark b k s).straps = s.straps := rfl
@[simp] theorem watermark_spine (b k : Nat) : (watermark b k s).spine = s.spine := rfl
@[simp] theorem watermark_addr (b k : Nat) : (watermark b k s).addr = s.addr := rfl
@[simp] theorem watermark_hall (b k : Nat) : (watermark b k s).hall = s.hall := rfl
@[simp] theorem watermark_mantel (b k : Nat) : (watermark b k s).mantel = s.mantel := rfl
@[simp] theorem watermark_screen (b k : Nat) : (watermark b k s).screen = s.screen := rfl
@[simp] theorem watermark_bindery (b k : Nat) : (watermark b k s).bindery = s.bindery := rfl
@[simp] theorem watermark_press (b k : Nat) : (watermark b k s).press = s.press := rfl
@[simp] theorem watermark_prot (b k : Nat) : (watermark b k s).prot = s.prot := rfl
@[simp] theorem watermark_coll (b k : Nat) : (watermark b k s).coll = s.coll := rfl
@[simp] theorem watermark_back (b k : Nat) : (watermark b k s).back = s.back := rfl
@[simp] theorem watermark_legacy (b k : Nat) : (watermark b k s).legacy = s.legacy := rfl
@[simp] theorem watermark_cellar (b k : Nat) : (watermark b k s).cellar = s.cellar := rfl
@[simp] theorem watermark_arch (b k : Nat) : (watermark b k s).arch = s.arch := rfl
@[simp] theorem watermark_power (b k : Nat) : (watermark b k s).power = s.power := rfl
@[simp] theorem watermark_leaf (b k : Nat) : (watermark b k s).leaf = s.leaf := rfl
@[simp] theorem watermark_wire (b k : Nat) : (watermark b k s).wire = s.wire := rfl
@[simp] theorem watermark_fresh (b k : Nat) : (watermark b k s).fresh = s.fresh := rfl
@[simp] theorem watermark_pending (b k : Nat) : (watermark b k s).pending = s.pending := rfl

/-! ### markDispatched -/

@[simp] theorem markDispatched_now (n : Nat) (b : Bool) : (markDispatched s n b).now = s.now := rfl
@[simp] theorem markDispatched_start (n : Nat) (b : Bool) : (markDispatched s n b).start = s.start := rfl
@[simp] theorem markDispatched_straps (n : Nat) (b : Bool) : (markDispatched s n b).straps = s.straps := rfl
@[simp] theorem markDispatched_spine (n : Nat) (b : Bool) : (markDispatched s n b).spine = s.spine := rfl
@[simp] theorem markDispatched_addr (n : Nat) (b : Bool) : (markDispatched s n b).addr = s.addr := rfl
@[simp] theorem markDispatched_mantel (n : Nat) (b : Bool) : (markDispatched s n b).mantel = s.mantel := rfl
@[simp] theorem markDispatched_larder (n : Nat) (b : Bool) : (markDispatched s n b).larder = s.larder := rfl
@[simp] theorem markDispatched_screen (n : Nat) (b : Bool) : (markDispatched s n b).screen = s.screen := rfl
@[simp] theorem markDispatched_bindery (n : Nat) (b : Bool) : (markDispatched s n b).bindery = s.bindery := rfl
@[simp] theorem markDispatched_press (n : Nat) (b : Bool) : (markDispatched s n b).press = s.press := rfl
@[simp] theorem markDispatched_prot (n : Nat) (b : Bool) : (markDispatched s n b).prot = s.prot := rfl
@[simp] theorem markDispatched_coll (n : Nat) (b : Bool) : (markDispatched s n b).coll = s.coll := rfl
@[simp] theorem markDispatched_back (n : Nat) (b : Bool) : (markDispatched s n b).back = s.back := rfl
@[simp] theorem markDispatched_legacy (n : Nat) (b : Bool) : (markDispatched s n b).legacy = s.legacy := rfl
@[simp] theorem markDispatched_cellar (n : Nat) (b : Bool) : (markDispatched s n b).cellar = s.cellar := rfl
@[simp] theorem markDispatched_arch (n : Nat) (b : Bool) : (markDispatched s n b).arch = s.arch := rfl
@[simp] theorem markDispatched_power (n : Nat) (b : Bool) : (markDispatched s n b).power = s.power := rfl
@[simp] theorem markDispatched_leaf (n : Nat) (b : Bool) : (markDispatched s n b).leaf = s.leaf := rfl
@[simp] theorem markDispatched_wire (n : Nat) (b : Bool) : (markDispatched s n b).wire = s.wire := rfl
@[simp] theorem markDispatched_fresh (n : Nat) (b : Bool) : (markDispatched s n b).fresh = s.fresh := rfl
@[simp] theorem markDispatched_pending (n : Nat) (b : Bool) : (markDispatched s n b).pending = s.pending := rfl

/-! ### reportDone -/

@[simp] theorem reportDone_now (c : Half) (q : Word) (n : Nat) (r : BitVec 4) (a : List Answer) : (reportDone s c q n r a).now = s.now := rfl
@[simp] theorem reportDone_start (c : Half) (q : Word) (n : Nat) (r : BitVec 4) (a : List Answer) : (reportDone s c q n r a).start = s.start := rfl
@[simp] theorem reportDone_straps (c : Half) (q : Word) (n : Nat) (r : BitVec 4) (a : List Answer) : (reportDone s c q n r a).straps = s.straps := rfl
@[simp] theorem reportDone_spine (c : Half) (q : Word) (n : Nat) (r : BitVec 4) (a : List Answer) : (reportDone s c q n r a).spine = s.spine := rfl
@[simp] theorem reportDone_addr (c : Half) (q : Word) (n : Nat) (r : BitVec 4) (a : List Answer) : (reportDone s c q n r a).addr = s.addr := rfl
@[simp] theorem reportDone_mantel (c : Half) (q : Word) (n : Nat) (r : BitVec 4) (a : List Answer) : (reportDone s c q n r a).mantel = s.mantel := rfl
@[simp] theorem reportDone_larder (c : Half) (q : Word) (n : Nat) (r : BitVec 4) (a : List Answer) : (reportDone s c q n r a).larder = s.larder := rfl
@[simp] theorem reportDone_screen (c : Half) (q : Word) (n : Nat) (r : BitVec 4) (a : List Answer) : (reportDone s c q n r a).screen = s.screen := rfl
@[simp] theorem reportDone_bindery (c : Half) (q : Word) (n : Nat) (r : BitVec 4) (a : List Answer) : (reportDone s c q n r a).bindery = s.bindery := rfl
@[simp] theorem reportDone_press (c : Half) (q : Word) (n : Nat) (r : BitVec 4) (a : List Answer) : (reportDone s c q n r a).press = s.press := rfl
@[simp] theorem reportDone_prot (c : Half) (q : Word) (n : Nat) (r : BitVec 4) (a : List Answer) : (reportDone s c q n r a).prot = s.prot := rfl
@[simp] theorem reportDone_coll (c : Half) (q : Word) (n : Nat) (r : BitVec 4) (a : List Answer) : (reportDone s c q n r a).coll = s.coll := rfl
@[simp] theorem reportDone_back (c : Half) (q : Word) (n : Nat) (r : BitVec 4) (a : List Answer) : (reportDone s c q n r a).back = s.back := rfl
@[simp] theorem reportDone_legacy (c : Half) (q : Word) (n : Nat) (r : BitVec 4) (a : List Answer) : (reportDone s c q n r a).legacy = s.legacy := rfl
@[simp] theorem reportDone_cellar (c : Half) (q : Word) (n : Nat) (r : BitVec 4) (a : List Answer) : (reportDone s c q n r a).cellar = s.cellar := rfl
@[simp] theorem reportDone_arch (c : Half) (q : Word) (n : Nat) (r : BitVec 4) (a : List Answer) : (reportDone s c q n r a).arch = s.arch := rfl
@[simp] theorem reportDone_power (c : Half) (q : Word) (n : Nat) (r : BitVec 4) (a : List Answer) : (reportDone s c q n r a).power = s.power := rfl
@[simp] theorem reportDone_leaf (c : Half) (q : Word) (n : Nat) (r : BitVec 4) (a : List Answer) : (reportDone s c q n r a).leaf = s.leaf := rfl
@[simp] theorem reportDone_wire (c : Half) (q : Word) (n : Nat) (r : BitVec 4) (a : List Answer) : (reportDone s c q n r a).wire = s.wire := rfl
@[simp] theorem reportDone_fresh (c : Half) (q : Word) (n : Nat) (r : BitVec 4) (a : List Answer) : (reportDone s c q n r a).fresh = s.fresh := rfl
@[simp] theorem reportDone_pending (c : Half) (q : Word) (n : Nat) (r : BitVec 4) (a : List Answer) : (reportDone s c q n r a).pending = s.pending := rfl

/-! ### doneWith -/

@[simp] theorem doneWith_now (m : Msg) (r : BitVec 4) : (doneWith s m r).now = s.now := rfl
@[simp] theorem doneWith_start (m : Msg) (r : BitVec 4) : (doneWith s m r).start = s.start := rfl
@[simp] theorem doneWith_straps (m : Msg) (r : BitVec 4) : (doneWith s m r).straps = s.straps := rfl
@[simp] theorem doneWith_spine (m : Msg) (r : BitVec 4) : (doneWith s m r).spine = s.spine := rfl
@[simp] theorem doneWith_addr (m : Msg) (r : BitVec 4) : (doneWith s m r).addr = s.addr := rfl
@[simp] theorem doneWith_mantel (m : Msg) (r : BitVec 4) : (doneWith s m r).mantel = s.mantel := rfl
@[simp] theorem doneWith_larder (m : Msg) (r : BitVec 4) : (doneWith s m r).larder = s.larder := rfl
@[simp] theorem doneWith_screen (m : Msg) (r : BitVec 4) : (doneWith s m r).screen = s.screen := rfl
@[simp] theorem doneWith_bindery (m : Msg) (r : BitVec 4) : (doneWith s m r).bindery = s.bindery := rfl
@[simp] theorem doneWith_press (m : Msg) (r : BitVec 4) : (doneWith s m r).press = s.press := rfl
@[simp] theorem doneWith_prot (m : Msg) (r : BitVec 4) : (doneWith s m r).prot = s.prot := rfl
@[simp] theorem doneWith_coll (m : Msg) (r : BitVec 4) : (doneWith s m r).coll = s.coll := rfl
@[simp] theorem doneWith_back (m : Msg) (r : BitVec 4) : (doneWith s m r).back = s.back := rfl
@[simp] theorem doneWith_legacy (m : Msg) (r : BitVec 4) : (doneWith s m r).legacy = s.legacy := rfl
@[simp] theorem doneWith_cellar (m : Msg) (r : BitVec 4) : (doneWith s m r).cellar = s.cellar := rfl
@[simp] theorem doneWith_arch (m : Msg) (r : BitVec 4) : (doneWith s m r).arch = s.arch := rfl
@[simp] theorem doneWith_power (m : Msg) (r : BitVec 4) : (doneWith s m r).power = s.power := rfl
@[simp] theorem doneWith_leaf (m : Msg) (r : BitVec 4) : (doneWith s m r).leaf = s.leaf := rfl
@[simp] theorem doneWith_wire (m : Msg) (r : BitVec 4) : (doneWith s m r).wire = s.wire := rfl
@[simp] theorem doneWith_fresh (m : Msg) (r : BitVec 4) : (doneWith s m r).fresh = s.fresh := rfl
@[simp] theorem doneWith_pending (m : Msg) (r : BitVec 4) : (doneWith s m r).pending = s.pending := rfl

/-! ### setChannel -/

@[simp] theorem setChannel_now (c : Channel) : (setChannel s c).now = s.now := rfl
@[simp] theorem setChannel_start (c : Channel) : (setChannel s c).start = s.start := rfl
@[simp] theorem setChannel_straps (c : Channel) : (setChannel s c).straps = s.straps := rfl
@[simp] theorem setChannel_spine (c : Channel) : (setChannel s c).spine = s.spine := rfl
@[simp] theorem setChannel_addr (c : Channel) : (setChannel s c).addr = s.addr := rfl
@[simp] theorem setChannel_mantel (c : Channel) : (setChannel s c).mantel = s.mantel := rfl
@[simp] theorem setChannel_larder (c : Channel) : (setChannel s c).larder = s.larder := rfl
@[simp] theorem setChannel_screen (c : Channel) : (setChannel s c).screen = s.screen := rfl
@[simp] theorem setChannel_bindery (c : Channel) : (setChannel s c).bindery = s.bindery := rfl
@[simp] theorem setChannel_press (c : Channel) : (setChannel s c).press = s.press := rfl
@[simp] theorem setChannel_prot (c : Channel) : (setChannel s c).prot = s.prot := rfl
@[simp] theorem setChannel_coll (c : Channel) : (setChannel s c).coll = s.coll := rfl
@[simp] theorem setChannel_back (c : Channel) : (setChannel s c).back = s.back := rfl
@[simp] theorem setChannel_legacy (c : Channel) : (setChannel s c).legacy = s.legacy := rfl
@[simp] theorem setChannel_cellar (c : Channel) : (setChannel s c).cellar = s.cellar := rfl
@[simp] theorem setChannel_arch (c : Channel) : (setChannel s c).arch = s.arch := rfl
@[simp] theorem setChannel_power (c : Channel) : (setChannel s c).power = s.power := rfl
@[simp] theorem setChannel_leaf (c : Channel) : (setChannel s c).leaf = s.leaf := rfl
@[simp] theorem setChannel_wire (c : Channel) : (setChannel s c).wire = s.wire := rfl
@[simp] theorem setChannel_fresh (c : Channel) : (setChannel s c).fresh = s.fresh := rfl
@[simp] theorem setChannel_pending (c : Channel) : (setChannel s c).pending = s.pending := rfl

/-! ### setSlot -/

@[simp] theorem setSlot_now (i : Nat) (x : Slot) : (setSlot s i x).now = s.now := rfl
@[simp] theorem setSlot_start (i : Nat) (x : Slot) : (setSlot s i x).start = s.start := rfl
@[simp] theorem setSlot_straps (i : Nat) (x : Slot) : (setSlot s i x).straps = s.straps := rfl
@[simp] theorem setSlot_spine (i : Nat) (x : Slot) : (setSlot s i x).spine = s.spine := rfl
@[simp] theorem setSlot_addr (i : Nat) (x : Slot) : (setSlot s i x).addr = s.addr := rfl
@[simp] theorem setSlot_hall (i : Nat) (x : Slot) : (setSlot s i x).hall = s.hall := rfl
@[simp] theorem setSlot_mantel (i : Nat) (x : Slot) : (setSlot s i x).mantel = s.mantel := rfl
@[simp] theorem setSlot_screen (i : Nat) (x : Slot) : (setSlot s i x).screen = s.screen := rfl
@[simp] theorem setSlot_bindery (i : Nat) (x : Slot) : (setSlot s i x).bindery = s.bindery := rfl
@[simp] theorem setSlot_press (i : Nat) (x : Slot) : (setSlot s i x).press = s.press := rfl
@[simp] theorem setSlot_prot (i : Nat) (x : Slot) : (setSlot s i x).prot = s.prot := rfl
@[simp] theorem setSlot_coll (i : Nat) (x : Slot) : (setSlot s i x).coll = s.coll := rfl
@[simp] theorem setSlot_back (i : Nat) (x : Slot) : (setSlot s i x).back = s.back := rfl
@[simp] theorem setSlot_legacy (i : Nat) (x : Slot) : (setSlot s i x).legacy = s.legacy := rfl
@[simp] theorem setSlot_cellar (i : Nat) (x : Slot) : (setSlot s i x).cellar = s.cellar := rfl
@[simp] theorem setSlot_arch (i : Nat) (x : Slot) : (setSlot s i x).arch = s.arch := rfl
@[simp] theorem setSlot_power (i : Nat) (x : Slot) : (setSlot s i x).power = s.power := rfl
@[simp] theorem setSlot_leaf (i : Nat) (x : Slot) : (setSlot s i x).leaf = s.leaf := rfl
@[simp] theorem setSlot_wire (i : Nat) (x : Slot) : (setSlot s i x).wire = s.wire := rfl
@[simp] theorem setSlot_fresh (i : Nat) (x : Slot) : (setSlot s i x).fresh = s.fresh := rfl
@[simp] theorem setSlot_pending (i : Nat) (x : Slot) : (setSlot s i x).pending = s.pending := rfl

/-! ### countLarder -/

@[simp] theorem countLarder_now (i : Nat) : (countLarder s i).now = s.now := rfl
@[simp] theorem countLarder_start (i : Nat) : (countLarder s i).start = s.start := rfl
@[simp] theorem countLarder_straps (i : Nat) : (countLarder s i).straps = s.straps := rfl
@[simp] theorem countLarder_spine (i : Nat) : (countLarder s i).spine = s.spine := rfl
@[simp] theorem countLarder_addr (i : Nat) : (countLarder s i).addr = s.addr := rfl
@[simp] theorem countLarder_hall (i : Nat) : (countLarder s i).hall = s.hall := rfl
@[simp] theorem countLarder_mantel (i : Nat) : (countLarder s i).mantel = s.mantel := rfl
@[simp] theorem countLarder_screen (i : Nat) : (countLarder s i).screen = s.screen := rfl
@[simp] theorem countLarder_bindery (i : Nat) : (countLarder s i).bindery = s.bindery := rfl
@[simp] theorem countLarder_press (i : Nat) : (countLarder s i).press = s.press := rfl
@[simp] theorem countLarder_prot (i : Nat) : (countLarder s i).prot = s.prot := rfl
@[simp] theorem countLarder_coll (i : Nat) : (countLarder s i).coll = s.coll := rfl
@[simp] theorem countLarder_back (i : Nat) : (countLarder s i).back = s.back := rfl
@[simp] theorem countLarder_legacy (i : Nat) : (countLarder s i).legacy = s.legacy := rfl
@[simp] theorem countLarder_cellar (i : Nat) : (countLarder s i).cellar = s.cellar := rfl
@[simp] theorem countLarder_arch (i : Nat) : (countLarder s i).arch = s.arch := rfl
@[simp] theorem countLarder_power (i : Nat) : (countLarder s i).power = s.power := rfl
@[simp] theorem countLarder_leaf (i : Nat) : (countLarder s i).leaf = s.leaf := rfl
@[simp] theorem countLarder_wire (i : Nat) : (countLarder s i).wire = s.wire := rfl
@[simp] theorem countLarder_fresh (i : Nat) : (countLarder s i).fresh = s.fresh := rfl
@[simp] theorem countLarder_pending (i : Nat) : (countLarder s i).pending = s.pending := rfl

/-! ### countMantel -/

@[simp] theorem countMantel_now (i : Nat) : (countMantel s i).now = s.now := rfl
@[simp] theorem countMantel_start (i : Nat) : (countMantel s i).start = s.start := rfl
@[simp] theorem countMantel_straps (i : Nat) : (countMantel s i).straps = s.straps := rfl
@[simp] theorem countMantel_spine (i : Nat) : (countMantel s i).spine = s.spine := rfl
@[simp] theorem countMantel_addr (i : Nat) : (countMantel s i).addr = s.addr := rfl
@[simp] theorem countMantel_hall (i : Nat) : (countMantel s i).hall = s.hall := rfl
@[simp] theorem countMantel_larder (i : Nat) : (countMantel s i).larder = s.larder := rfl
@[simp] theorem countMantel_screen (i : Nat) : (countMantel s i).screen = s.screen := rfl
@[simp] theorem countMantel_bindery (i : Nat) : (countMantel s i).bindery = s.bindery := rfl
@[simp] theorem countMantel_press (i : Nat) : (countMantel s i).press = s.press := rfl
@[simp] theorem countMantel_prot (i : Nat) : (countMantel s i).prot = s.prot := rfl
@[simp] theorem countMantel_coll (i : Nat) : (countMantel s i).coll = s.coll := rfl
@[simp] theorem countMantel_back (i : Nat) : (countMantel s i).back = s.back := rfl
@[simp] theorem countMantel_legacy (i : Nat) : (countMantel s i).legacy = s.legacy := rfl
@[simp] theorem countMantel_cellar (i : Nat) : (countMantel s i).cellar = s.cellar := rfl
@[simp] theorem countMantel_arch (i : Nat) : (countMantel s i).arch = s.arch := rfl
@[simp] theorem countMantel_power (i : Nat) : (countMantel s i).power = s.power := rfl
@[simp] theorem countMantel_leaf (i : Nat) : (countMantel s i).leaf = s.leaf := rfl
@[simp] theorem countMantel_wire (i : Nat) : (countMantel s i).wire = s.wire := rfl
@[simp] theorem countMantel_fresh (i : Nat) : (countMantel s i).fresh = s.fresh := rfl
@[simp] theorem countMantel_pending (i : Nat) : (countMantel s i).pending = s.pending := rfl

/-! ### countPress -/

@[simp] theorem countPress_now (i : Nat) : (countPress s i).now = s.now := rfl
@[simp] theorem countPress_start (i : Nat) : (countPress s i).start = s.start := rfl
@[simp] theorem countPress_straps (i : Nat) : (countPress s i).straps = s.straps := rfl
@[simp] theorem countPress_spine (i : Nat) : (countPress s i).spine = s.spine := rfl
@[simp] theorem countPress_addr (i : Nat) : (countPress s i).addr = s.addr := rfl
@[simp] theorem countPress_hall (i : Nat) : (countPress s i).hall = s.hall := rfl
@[simp] theorem countPress_mantel (i : Nat) : (countPress s i).mantel = s.mantel := rfl
@[simp] theorem countPress_larder (i : Nat) : (countPress s i).larder = s.larder := rfl
@[simp] theorem countPress_screen (i : Nat) : (countPress s i).screen = s.screen := rfl
@[simp] theorem countPress_bindery (i : Nat) : (countPress s i).bindery = s.bindery := rfl
@[simp] theorem countPress_prot (i : Nat) : (countPress s i).prot = s.prot := rfl
@[simp] theorem countPress_coll (i : Nat) : (countPress s i).coll = s.coll := rfl
@[simp] theorem countPress_back (i : Nat) : (countPress s i).back = s.back := rfl
@[simp] theorem countPress_legacy (i : Nat) : (countPress s i).legacy = s.legacy := rfl
@[simp] theorem countPress_cellar (i : Nat) : (countPress s i).cellar = s.cellar := rfl
@[simp] theorem countPress_arch (i : Nat) : (countPress s i).arch = s.arch := rfl
@[simp] theorem countPress_power (i : Nat) : (countPress s i).power = s.power := rfl
@[simp] theorem countPress_leaf (i : Nat) : (countPress s i).leaf = s.leaf := rfl
@[simp] theorem countPress_wire (i : Nat) : (countPress s i).wire = s.wire := rfl
@[simp] theorem countPress_fresh (i : Nat) : (countPress s i).fresh = s.fresh := rfl
@[simp] theorem countPress_pending (i : Nat) : (countPress s i).pending = s.pending := rfl

/-! ### countBindery -/

@[simp] theorem countBindery_now (i n : Nat) : (countBindery s i n).now = s.now := rfl
@[simp] theorem countBindery_start (i n : Nat) : (countBindery s i n).start = s.start := rfl
@[simp] theorem countBindery_straps (i n : Nat) : (countBindery s i n).straps = s.straps := rfl
@[simp] theorem countBindery_spine (i n : Nat) : (countBindery s i n).spine = s.spine := rfl
@[simp] theorem countBindery_addr (i n : Nat) : (countBindery s i n).addr = s.addr := rfl
@[simp] theorem countBindery_hall (i n : Nat) : (countBindery s i n).hall = s.hall := rfl
@[simp] theorem countBindery_mantel (i n : Nat) : (countBindery s i n).mantel = s.mantel := rfl
@[simp] theorem countBindery_larder (i n : Nat) : (countBindery s i n).larder = s.larder := rfl
@[simp] theorem countBindery_screen (i n : Nat) : (countBindery s i n).screen = s.screen := rfl
@[simp] theorem countBindery_press (i n : Nat) : (countBindery s i n).press = s.press := rfl
@[simp] theorem countBindery_prot (i n : Nat) : (countBindery s i n).prot = s.prot := rfl
@[simp] theorem countBindery_coll (i n : Nat) : (countBindery s i n).coll = s.coll := rfl
@[simp] theorem countBindery_back (i n : Nat) : (countBindery s i n).back = s.back := rfl
@[simp] theorem countBindery_legacy (i n : Nat) : (countBindery s i n).legacy = s.legacy := rfl
@[simp] theorem countBindery_cellar (i n : Nat) : (countBindery s i n).cellar = s.cellar := rfl
@[simp] theorem countBindery_arch (i n : Nat) : (countBindery s i n).arch = s.arch := rfl
@[simp] theorem countBindery_power (i n : Nat) : (countBindery s i n).power = s.power := rfl
@[simp] theorem countBindery_leaf (i n : Nat) : (countBindery s i n).leaf = s.leaf := rfl
@[simp] theorem countBindery_wire (i n : Nat) : (countBindery s i n).wire = s.wire := rfl
@[simp] theorem countBindery_fresh (i n : Nat) : (countBindery s i n).fresh = s.fresh := rfl
@[simp] theorem countBindery_pending (i n : Nat) : (countBindery s i n).pending = s.pending := rfl

/-! ### countColl -/

@[simp] theorem countColl_now (i n : Nat) : (countColl s i n).now = s.now := rfl
@[simp] theorem countColl_start (i n : Nat) : (countColl s i n).start = s.start := rfl
@[simp] theorem countColl_straps (i n : Nat) : (countColl s i n).straps = s.straps := rfl
@[simp] theorem countColl_spine (i n : Nat) : (countColl s i n).spine = s.spine := rfl
@[simp] theorem countColl_addr (i n : Nat) : (countColl s i n).addr = s.addr := rfl
@[simp] theorem countColl_hall (i n : Nat) : (countColl s i n).hall = s.hall := rfl
@[simp] theorem countColl_mantel (i n : Nat) : (countColl s i n).mantel = s.mantel := rfl
@[simp] theorem countColl_larder (i n : Nat) : (countColl s i n).larder = s.larder := rfl
@[simp] theorem countColl_screen (i n : Nat) : (countColl s i n).screen = s.screen := rfl
@[simp] theorem countColl_bindery (i n : Nat) : (countColl s i n).bindery = s.bindery := rfl
@[simp] theorem countColl_press (i n : Nat) : (countColl s i n).press = s.press := rfl
@[simp] theorem countColl_prot (i n : Nat) : (countColl s i n).prot = s.prot := rfl
@[simp] theorem countColl_back (i n : Nat) : (countColl s i n).back = s.back := rfl
@[simp] theorem countColl_legacy (i n : Nat) : (countColl s i n).legacy = s.legacy := rfl
@[simp] theorem countColl_cellar (i n : Nat) : (countColl s i n).cellar = s.cellar := rfl
@[simp] theorem countColl_arch (i n : Nat) : (countColl s i n).arch = s.arch := rfl
@[simp] theorem countColl_power (i n : Nat) : (countColl s i n).power = s.power := rfl
@[simp] theorem countColl_leaf (i n : Nat) : (countColl s i n).leaf = s.leaf := rfl
@[simp] theorem countColl_wire (i n : Nat) : (countColl s i n).wire = s.wire := rfl
@[simp] theorem countColl_fresh (i n : Nat) : (countColl s i n).fresh = s.fresh := rfl
@[simp] theorem countColl_pending (i n : Nat) : (countColl s i n).pending = s.pending := rfl

/-! ### countBack -/

@[simp] theorem countBack_now (i : Nat) : (countBack s i).now = s.now := rfl
@[simp] theorem countBack_start (i : Nat) : (countBack s i).start = s.start := rfl
@[simp] theorem countBack_straps (i : Nat) : (countBack s i).straps = s.straps := rfl
@[simp] theorem countBack_spine (i : Nat) : (countBack s i).spine = s.spine := rfl
@[simp] theorem countBack_addr (i : Nat) : (countBack s i).addr = s.addr := rfl
@[simp] theorem countBack_hall (i : Nat) : (countBack s i).hall = s.hall := rfl
@[simp] theorem countBack_mantel (i : Nat) : (countBack s i).mantel = s.mantel := rfl
@[simp] theorem countBack_larder (i : Nat) : (countBack s i).larder = s.larder := rfl
@[simp] theorem countBack_screen (i : Nat) : (countBack s i).screen = s.screen := rfl
@[simp] theorem countBack_bindery (i : Nat) : (countBack s i).bindery = s.bindery := rfl
@[simp] theorem countBack_press (i : Nat) : (countBack s i).press = s.press := rfl
@[simp] theorem countBack_prot (i : Nat) : (countBack s i).prot = s.prot := rfl
@[simp] theorem countBack_coll (i : Nat) : (countBack s i).coll = s.coll := rfl
@[simp] theorem countBack_legacy (i : Nat) : (countBack s i).legacy = s.legacy := rfl
@[simp] theorem countBack_cellar (i : Nat) : (countBack s i).cellar = s.cellar := rfl
@[simp] theorem countBack_arch (i : Nat) : (countBack s i).arch = s.arch := rfl
@[simp] theorem countBack_power (i : Nat) : (countBack s i).power = s.power := rfl
@[simp] theorem countBack_leaf (i : Nat) : (countBack s i).leaf = s.leaf := rfl
@[simp] theorem countBack_wire (i : Nat) : (countBack s i).wire = s.wire := rfl
@[simp] theorem countBack_fresh (i : Nat) : (countBack s i).fresh = s.fresh := rfl
@[simp] theorem countBack_pending (i : Nat) : (countBack s i).pending = s.pending := rfl

/-! ### countPower -/

@[simp] theorem countPower_now (i : Nat) : (countPower s i).now = s.now := rfl
@[simp] theorem countPower_start (i : Nat) : (countPower s i).start = s.start := rfl
@[simp] theorem countPower_straps (i : Nat) : (countPower s i).straps = s.straps := rfl
@[simp] theorem countPower_spine (i : Nat) : (countPower s i).spine = s.spine := rfl
@[simp] theorem countPower_addr (i : Nat) : (countPower s i).addr = s.addr := rfl
@[simp] theorem countPower_hall (i : Nat) : (countPower s i).hall = s.hall := rfl
@[simp] theorem countPower_mantel (i : Nat) : (countPower s i).mantel = s.mantel := rfl
@[simp] theorem countPower_larder (i : Nat) : (countPower s i).larder = s.larder := rfl
@[simp] theorem countPower_screen (i : Nat) : (countPower s i).screen = s.screen := rfl
@[simp] theorem countPower_bindery (i : Nat) : (countPower s i).bindery = s.bindery := rfl
@[simp] theorem countPower_press (i : Nat) : (countPower s i).press = s.press := rfl
@[simp] theorem countPower_prot (i : Nat) : (countPower s i).prot = s.prot := rfl
@[simp] theorem countPower_coll (i : Nat) : (countPower s i).coll = s.coll := rfl
@[simp] theorem countPower_back (i : Nat) : (countPower s i).back = s.back := rfl
@[simp] theorem countPower_legacy (i : Nat) : (countPower s i).legacy = s.legacy := rfl
@[simp] theorem countPower_cellar (i : Nat) : (countPower s i).cellar = s.cellar := rfl
@[simp] theorem countPower_arch (i : Nat) : (countPower s i).arch = s.arch := rfl
@[simp] theorem countPower_leaf (i : Nat) : (countPower s i).leaf = s.leaf := rfl
@[simp] theorem countPower_wire (i : Nat) : (countPower s i).wire = s.wire := rfl
@[simp] theorem countPower_fresh (i : Nat) : (countPower s i).fresh = s.fresh := rfl
@[simp] theorem countPower_pending (i : Nat) : (countPower s i).pending = s.pending := rfl

/-! ### countCellar -/

@[simp] theorem countCellar_now (i : Nat) : (countCellar s i).now = s.now := rfl
@[simp] theorem countCellar_start (i : Nat) : (countCellar s i).start = s.start := rfl
@[simp] theorem countCellar_straps (i : Nat) : (countCellar s i).straps = s.straps := rfl
@[simp] theorem countCellar_spine (i : Nat) : (countCellar s i).spine = s.spine := rfl
@[simp] theorem countCellar_addr (i : Nat) : (countCellar s i).addr = s.addr := rfl
@[simp] theorem countCellar_hall (i : Nat) : (countCellar s i).hall = s.hall := rfl
@[simp] theorem countCellar_mantel (i : Nat) : (countCellar s i).mantel = s.mantel := rfl
@[simp] theorem countCellar_larder (i : Nat) : (countCellar s i).larder = s.larder := rfl
@[simp] theorem countCellar_screen (i : Nat) : (countCellar s i).screen = s.screen := rfl
@[simp] theorem countCellar_bindery (i : Nat) : (countCellar s i).bindery = s.bindery := rfl
@[simp] theorem countCellar_press (i : Nat) : (countCellar s i).press = s.press := rfl
@[simp] theorem countCellar_prot (i : Nat) : (countCellar s i).prot = s.prot := rfl
@[simp] theorem countCellar_coll (i : Nat) : (countCellar s i).coll = s.coll := rfl
@[simp] theorem countCellar_back (i : Nat) : (countCellar s i).back = s.back := rfl
@[simp] theorem countCellar_legacy (i : Nat) : (countCellar s i).legacy = s.legacy := rfl
@[simp] theorem countCellar_arch (i : Nat) : (countCellar s i).arch = s.arch := rfl
@[simp] theorem countCellar_power (i : Nat) : (countCellar s i).power = s.power := rfl
@[simp] theorem countCellar_leaf (i : Nat) : (countCellar s i).leaf = s.leaf := rfl
@[simp] theorem countCellar_wire (i : Nat) : (countCellar s i).wire = s.wire := rfl
@[simp] theorem countCellar_fresh (i : Nat) : (countCellar s i).fresh = s.fresh := rfl
@[simp] theorem countCellar_pending (i : Nat) : (countCellar s i).pending = s.pending := rfl

/-! ### countLegacy -/

@[simp] theorem countLegacy_now (i : Nat) : (countLegacy s i).now = s.now := rfl
@[simp] theorem countLegacy_start (i : Nat) : (countLegacy s i).start = s.start := rfl
@[simp] theorem countLegacy_straps (i : Nat) : (countLegacy s i).straps = s.straps := rfl
@[simp] theorem countLegacy_spine (i : Nat) : (countLegacy s i).spine = s.spine := rfl
@[simp] theorem countLegacy_addr (i : Nat) : (countLegacy s i).addr = s.addr := rfl
@[simp] theorem countLegacy_hall (i : Nat) : (countLegacy s i).hall = s.hall := rfl
@[simp] theorem countLegacy_mantel (i : Nat) : (countLegacy s i).mantel = s.mantel := rfl
@[simp] theorem countLegacy_larder (i : Nat) : (countLegacy s i).larder = s.larder := rfl
@[simp] theorem countLegacy_screen (i : Nat) : (countLegacy s i).screen = s.screen := rfl
@[simp] theorem countLegacy_bindery (i : Nat) : (countLegacy s i).bindery = s.bindery := rfl
@[simp] theorem countLegacy_press (i : Nat) : (countLegacy s i).press = s.press := rfl
@[simp] theorem countLegacy_prot (i : Nat) : (countLegacy s i).prot = s.prot := rfl
@[simp] theorem countLegacy_coll (i : Nat) : (countLegacy s i).coll = s.coll := rfl
@[simp] theorem countLegacy_back (i : Nat) : (countLegacy s i).back = s.back := rfl
@[simp] theorem countLegacy_cellar (i : Nat) : (countLegacy s i).cellar = s.cellar := rfl
@[simp] theorem countLegacy_arch (i : Nat) : (countLegacy s i).arch = s.arch := rfl
@[simp] theorem countLegacy_power (i : Nat) : (countLegacy s i).power = s.power := rfl
@[simp] theorem countLegacy_leaf (i : Nat) : (countLegacy s i).leaf = s.leaf := rfl
@[simp] theorem countLegacy_wire (i : Nat) : (countLegacy s i).wire = s.wire := rfl
@[simp] theorem countLegacy_fresh (i : Nat) : (countLegacy s i).fresh = s.fresh := rfl
@[simp] theorem countLegacy_pending (i : Nat) : (countLegacy s i).pending = s.pending := rfl

/-! ### countShow -/

@[simp] theorem countShow_now (i : Nat) : (countShow s i).now = s.now := rfl
@[simp] theorem countShow_start (i : Nat) : (countShow s i).start = s.start := rfl
@[simp] theorem countShow_straps (i : Nat) : (countShow s i).straps = s.straps := rfl
@[simp] theorem countShow_spine (i : Nat) : (countShow s i).spine = s.spine := rfl
@[simp] theorem countShow_addr (i : Nat) : (countShow s i).addr = s.addr := rfl
@[simp] theorem countShow_hall (i : Nat) : (countShow s i).hall = s.hall := rfl
@[simp] theorem countShow_mantel (i : Nat) : (countShow s i).mantel = s.mantel := rfl
@[simp] theorem countShow_larder (i : Nat) : (countShow s i).larder = s.larder := rfl
@[simp] theorem countShow_bindery (i : Nat) : (countShow s i).bindery = s.bindery := rfl
@[simp] theorem countShow_press (i : Nat) : (countShow s i).press = s.press := rfl
@[simp] theorem countShow_prot (i : Nat) : (countShow s i).prot = s.prot := rfl
@[simp] theorem countShow_coll (i : Nat) : (countShow s i).coll = s.coll := rfl
@[simp] theorem countShow_back (i : Nat) : (countShow s i).back = s.back := rfl
@[simp] theorem countShow_legacy (i : Nat) : (countShow s i).legacy = s.legacy := rfl
@[simp] theorem countShow_cellar (i : Nat) : (countShow s i).cellar = s.cellar := rfl
@[simp] theorem countShow_arch (i : Nat) : (countShow s i).arch = s.arch := rfl
@[simp] theorem countShow_power (i : Nat) : (countShow s i).power = s.power := rfl
@[simp] theorem countShow_leaf (i : Nat) : (countShow s i).leaf = s.leaf := rfl
@[simp] theorem countShow_wire (i : Nat) : (countShow s i).wire = s.wire := rfl
@[simp] theorem countShow_fresh (i : Nat) : (countShow s i).fresh = s.fresh := rfl
@[simp] theorem countShow_pending (i : Nat) : (countShow s i).pending = s.pending := rfl

/-! ### auditWrite -/

@[simp] theorem auditWrite_now (c d : Half) (q : Word) (r : BitVec 2) (o x : BitVec 4) (b : Bool) : (auditWrite s c d q r o x b).now = s.now := by simp only [auditWrite, auditAt]
@[simp] theorem auditWrite_start (c d : Half) (q : Word) (r : BitVec 2) (o x : BitVec 4) (b : Bool) : (auditWrite s c d q r o x b).start = s.start := by simp only [auditWrite, auditAt]
@[simp] theorem auditWrite_straps (c d : Half) (q : Word) (r : BitVec 2) (o x : BitVec 4) (b : Bool) : (auditWrite s c d q r o x b).straps = s.straps := by simp only [auditWrite, auditAt]
@[simp] theorem auditWrite_spine (c d : Half) (q : Word) (r : BitVec 2) (o x : BitVec 4) (b : Bool) : (auditWrite s c d q r o x b).spine = s.spine := by simp only [auditWrite, auditAt]
@[simp] theorem auditWrite_addr (c d : Half) (q : Word) (r : BitVec 2) (o x : BitVec 4) (b : Bool) : (auditWrite s c d q r o x b).addr = s.addr := by simp only [auditWrite, auditAt]
@[simp] theorem auditWrite_hall (c d : Half) (q : Word) (r : BitVec 2) (o x : BitVec 4) (b : Bool) : (auditWrite s c d q r o x b).hall = s.hall := by simp only [auditWrite, auditAt]
@[simp] theorem auditWrite_mantel (c d : Half) (q : Word) (r : BitVec 2) (o x : BitVec 4) (b : Bool) : (auditWrite s c d q r o x b).mantel = s.mantel := by simp only [auditWrite, auditAt]
@[simp] theorem auditWrite_larder (c d : Half) (q : Word) (r : BitVec 2) (o x : BitVec 4) (b : Bool) : (auditWrite s c d q r o x b).larder = s.larder := by simp only [auditWrite, auditAt]
@[simp] theorem auditWrite_screen (c d : Half) (q : Word) (r : BitVec 2) (o x : BitVec 4) (b : Bool) : (auditWrite s c d q r o x b).screen = s.screen := by simp only [auditWrite, auditAt]
@[simp] theorem auditWrite_bindery (c d : Half) (q : Word) (r : BitVec 2) (o x : BitVec 4) (b : Bool) : (auditWrite s c d q r o x b).bindery = s.bindery := by simp only [auditWrite, auditAt]
@[simp] theorem auditWrite_press (c d : Half) (q : Word) (r : BitVec 2) (o x : BitVec 4) (b : Bool) : (auditWrite s c d q r o x b).press = s.press := by simp only [auditWrite, auditAt]
@[simp] theorem auditWrite_prot (c d : Half) (q : Word) (r : BitVec 2) (o x : BitVec 4) (b : Bool) : (auditWrite s c d q r o x b).prot = s.prot := by simp only [auditWrite, auditAt]
@[simp] theorem auditWrite_coll (c d : Half) (q : Word) (r : BitVec 2) (o x : BitVec 4) (b : Bool) : (auditWrite s c d q r o x b).coll = s.coll := by simp only [auditWrite, auditAt]
@[simp] theorem auditWrite_back (c d : Half) (q : Word) (r : BitVec 2) (o x : BitVec 4) (b : Bool) : (auditWrite s c d q r o x b).back = s.back := by simp only [auditWrite, auditAt]
@[simp] theorem auditWrite_legacy (c d : Half) (q : Word) (r : BitVec 2) (o x : BitVec 4) (b : Bool) : (auditWrite s c d q r o x b).legacy = s.legacy := by simp only [auditWrite, auditAt]
@[simp] theorem auditWrite_cellar (c d : Half) (q : Word) (r : BitVec 2) (o x : BitVec 4) (b : Bool) : (auditWrite s c d q r o x b).cellar = s.cellar := by simp only [auditWrite, auditAt]
@[simp] theorem auditWrite_power (c d : Half) (q : Word) (r : BitVec 2) (o x : BitVec 4) (b : Bool) : (auditWrite s c d q r o x b).power = s.power := by simp only [auditWrite, auditAt]
@[simp] theorem auditWrite_leaf (c d : Half) (q : Word) (r : BitVec 2) (o x : BitVec 4) (b : Bool) : (auditWrite s c d q r o x b).leaf = s.leaf := by simp only [auditWrite, auditAt]
@[simp] theorem auditWrite_wire (c d : Half) (q : Word) (r : BitVec 2) (o x : BitVec 4) (b : Bool) : (auditWrite s c d q r o x b).wire = s.wire := by simp only [auditWrite, auditAt]
@[simp] theorem auditWrite_fresh (c d : Half) (q : Word) (r : BitVec 2) (o x : BitVec 4) (b : Bool) : (auditWrite s c d q r o x b).fresh = s.fresh := by simp only [auditWrite, auditAt]
@[simp] theorem auditWrite_pending (c d : Half) (q : Word) (r : BitVec 2) (o x : BitVec 4) (b : Bool) : (auditWrite s c d q r o x b).pending = s.pending := by simp only [auditWrite, auditAt]

/-! ### auditRecord -/

@[simp] theorem auditRecord_now (c d : Half) (q : Word) (r : BitVec 2) (o x : BitVec 4) (n : Nat) : (auditRecord s c d q r o x n).now = s.now := by simp only [auditRecord, auditWrite, auditAt]
@[simp] theorem auditRecord_start (c d : Half) (q : Word) (r : BitVec 2) (o x : BitVec 4) (n : Nat) : (auditRecord s c d q r o x n).start = s.start := by simp only [auditRecord, auditWrite, auditAt]
@[simp] theorem auditRecord_straps (c d : Half) (q : Word) (r : BitVec 2) (o x : BitVec 4) (n : Nat) : (auditRecord s c d q r o x n).straps = s.straps := by simp only [auditRecord, auditWrite, auditAt]
@[simp] theorem auditRecord_spine (c d : Half) (q : Word) (r : BitVec 2) (o x : BitVec 4) (n : Nat) : (auditRecord s c d q r o x n).spine = s.spine := by simp only [auditRecord, auditWrite, auditAt]
@[simp] theorem auditRecord_addr (c d : Half) (q : Word) (r : BitVec 2) (o x : BitVec 4) (n : Nat) : (auditRecord s c d q r o x n).addr = s.addr := by simp only [auditRecord, auditWrite, auditAt]
@[simp] theorem auditRecord_mantel (c d : Half) (q : Word) (r : BitVec 2) (o x : BitVec 4) (n : Nat) : (auditRecord s c d q r o x n).mantel = s.mantel := by simp only [auditRecord, auditWrite, auditAt]
@[simp] theorem auditRecord_larder (c d : Half) (q : Word) (r : BitVec 2) (o x : BitVec 4) (n : Nat) : (auditRecord s c d q r o x n).larder = s.larder := by simp only [auditRecord, auditWrite, auditAt]
@[simp] theorem auditRecord_screen (c d : Half) (q : Word) (r : BitVec 2) (o x : BitVec 4) (n : Nat) : (auditRecord s c d q r o x n).screen = s.screen := by simp only [auditRecord, auditWrite, auditAt]
@[simp] theorem auditRecord_bindery (c d : Half) (q : Word) (r : BitVec 2) (o x : BitVec 4) (n : Nat) : (auditRecord s c d q r o x n).bindery = s.bindery := by simp only [auditRecord, auditWrite, auditAt]
@[simp] theorem auditRecord_press (c d : Half) (q : Word) (r : BitVec 2) (o x : BitVec 4) (n : Nat) : (auditRecord s c d q r o x n).press = s.press := by simp only [auditRecord, auditWrite, auditAt]
@[simp] theorem auditRecord_prot (c d : Half) (q : Word) (r : BitVec 2) (o x : BitVec 4) (n : Nat) : (auditRecord s c d q r o x n).prot = s.prot := by simp only [auditRecord, auditWrite, auditAt]
@[simp] theorem auditRecord_coll (c d : Half) (q : Word) (r : BitVec 2) (o x : BitVec 4) (n : Nat) : (auditRecord s c d q r o x n).coll = s.coll := by simp only [auditRecord, auditWrite, auditAt]
@[simp] theorem auditRecord_back (c d : Half) (q : Word) (r : BitVec 2) (o x : BitVec 4) (n : Nat) : (auditRecord s c d q r o x n).back = s.back := by simp only [auditRecord, auditWrite, auditAt]
@[simp] theorem auditRecord_legacy (c d : Half) (q : Word) (r : BitVec 2) (o x : BitVec 4) (n : Nat) : (auditRecord s c d q r o x n).legacy = s.legacy := by simp only [auditRecord, auditWrite, auditAt]
@[simp] theorem auditRecord_cellar (c d : Half) (q : Word) (r : BitVec 2) (o x : BitVec 4) (n : Nat) : (auditRecord s c d q r o x n).cellar = s.cellar := by simp only [auditRecord, auditWrite, auditAt]
@[simp] theorem auditRecord_power (c d : Half) (q : Word) (r : BitVec 2) (o x : BitVec 4) (n : Nat) : (auditRecord s c d q r o x n).power = s.power := by simp only [auditRecord, auditWrite, auditAt]
@[simp] theorem auditRecord_leaf (c d : Half) (q : Word) (r : BitVec 2) (o x : BitVec 4) (n : Nat) : (auditRecord s c d q r o x n).leaf = s.leaf := by simp only [auditRecord, auditWrite, auditAt]
@[simp] theorem auditRecord_wire (c d : Half) (q : Word) (r : BitVec 2) (o x : BitVec 4) (n : Nat) : (auditRecord s c d q r o x n).wire = s.wire := by simp only [auditRecord, auditWrite, auditAt]
@[simp] theorem auditRecord_fresh (c d : Half) (q : Word) (r : BitVec 2) (o x : BitVec 4) (n : Nat) : (auditRecord s c d q r o x n).fresh = s.fresh := by simp only [auditRecord, auditWrite, auditAt]
@[simp] theorem auditRecord_pending (c d : Half) (q : Word) (r : BitVec 2) (o x : BitVec 4) (n : Nat) : (auditRecord s c d q r o x n).pending = s.pending := by simp only [auditRecord, auditWrite, auditAt]

/-! ### commitEntry -/

@[simp] theorem commitEntry_now (m : Msg) : (commitEntry s m).now = s.now := by simp only [commitEntry]
@[simp] theorem commitEntry_start (m : Msg) : (commitEntry s m).start = s.start := by simp only [commitEntry]
@[simp] theorem commitEntry_straps (m : Msg) : (commitEntry s m).straps = s.straps := by simp only [commitEntry]
@[simp] theorem commitEntry_spine (m : Msg) : (commitEntry s m).spine = s.spine := by simp only [commitEntry]
@[simp] theorem commitEntry_addr (m : Msg) : (commitEntry s m).addr = s.addr := by simp only [commitEntry]
@[simp] theorem commitEntry_mantel (m : Msg) : (commitEntry s m).mantel = s.mantel := by simp only [commitEntry]
@[simp] theorem commitEntry_larder (m : Msg) : (commitEntry s m).larder = s.larder := by simp only [commitEntry]
@[simp] theorem commitEntry_screen (m : Msg) : (commitEntry s m).screen = s.screen := by simp only [commitEntry]
@[simp] theorem commitEntry_bindery (m : Msg) : (commitEntry s m).bindery = s.bindery := by simp only [commitEntry]
@[simp] theorem commitEntry_press (m : Msg) : (commitEntry s m).press = s.press := by simp only [commitEntry]
@[simp] theorem commitEntry_prot (m : Msg) : (commitEntry s m).prot = s.prot := by simp only [commitEntry]
@[simp] theorem commitEntry_coll (m : Msg) : (commitEntry s m).coll = s.coll := by simp only [commitEntry]
@[simp] theorem commitEntry_back (m : Msg) : (commitEntry s m).back = s.back := by simp only [commitEntry]
@[simp] theorem commitEntry_legacy (m : Msg) : (commitEntry s m).legacy = s.legacy := by simp only [commitEntry]
@[simp] theorem commitEntry_cellar (m : Msg) : (commitEntry s m).cellar = s.cellar := by simp only [commitEntry]
@[simp] theorem commitEntry_arch (m : Msg) : (commitEntry s m).arch = s.arch := by simp only [commitEntry]
@[simp] theorem commitEntry_power (m : Msg) : (commitEntry s m).power = s.power := by simp only [commitEntry]
@[simp] theorem commitEntry_leaf (m : Msg) : (commitEntry s m).leaf = s.leaf := by simp only [commitEntry]
@[simp] theorem commitEntry_wire (m : Msg) : (commitEntry s m).wire = s.wire := by simp only [commitEntry]
@[simp] theorem commitEntry_fresh (m : Msg) : (commitEntry s m).fresh = s.fresh := by simp only [commitEntry]
@[simp] theorem commitEntry_pending (m : Msg) : (commitEntry s m).pending = s.pending := by simp only [commitEntry]

/-! ### writeCompletion -/

@[simp] theorem writeCompletion_now (d : Done) : (writeCompletion s d).now = s.now := by simp only [writeCompletion]
@[simp] theorem writeCompletion_start (d : Done) : (writeCompletion s d).start = s.start := by simp only [writeCompletion]
@[simp] theorem writeCompletion_straps (d : Done) : (writeCompletion s d).straps = s.straps := by simp only [writeCompletion]
@[simp] theorem writeCompletion_spine (d : Done) : (writeCompletion s d).spine = s.spine := by simp only [writeCompletion]
@[simp] theorem writeCompletion_addr (d : Done) : (writeCompletion s d).addr = s.addr := by simp only [writeCompletion]
@[simp] theorem writeCompletion_mantel (d : Done) : (writeCompletion s d).mantel = s.mantel := by simp only [writeCompletion]
@[simp] theorem writeCompletion_larder (d : Done) : (writeCompletion s d).larder = s.larder := by simp only [writeCompletion]
@[simp] theorem writeCompletion_screen (d : Done) : (writeCompletion s d).screen = s.screen := by simp only [writeCompletion]
@[simp] theorem writeCompletion_bindery (d : Done) : (writeCompletion s d).bindery = s.bindery := by simp only [writeCompletion]
@[simp] theorem writeCompletion_press (d : Done) : (writeCompletion s d).press = s.press := by simp only [writeCompletion]
@[simp] theorem writeCompletion_prot (d : Done) : (writeCompletion s d).prot = s.prot := by simp only [writeCompletion]
@[simp] theorem writeCompletion_coll (d : Done) : (writeCompletion s d).coll = s.coll := by simp only [writeCompletion]
@[simp] theorem writeCompletion_back (d : Done) : (writeCompletion s d).back = s.back := by simp only [writeCompletion]
@[simp] theorem writeCompletion_legacy (d : Done) : (writeCompletion s d).legacy = s.legacy := by simp only [writeCompletion]
@[simp] theorem writeCompletion_cellar (d : Done) : (writeCompletion s d).cellar = s.cellar := by simp only [writeCompletion]
@[simp] theorem writeCompletion_power (d : Done) : (writeCompletion s d).power = s.power := by simp only [writeCompletion]
@[simp] theorem writeCompletion_leaf (d : Done) : (writeCompletion s d).leaf = s.leaf := by simp only [writeCompletion]
@[simp] theorem writeCompletion_wire (d : Done) : (writeCompletion s d).wire = s.wire := by simp only [writeCompletion]
@[simp] theorem writeCompletion_fresh (d : Done) : (writeCompletion s d).fresh = s.fresh := by simp only [writeCompletion]
@[simp] theorem writeCompletion_pending (d : Done) : (writeCompletion s d).pending = s.pending := by simp only [writeCompletion]

/-! ### Free values -/

@[simp] theorem freeValue_now (s : State) : (freeValue s).2.now = s.now := rfl
@[simp] theorem freeBelow_now (s : State) (n : Nat) : (freeBelow s n).2.now = s.now := rfl
@[simp] theorem freeValue_start (s : State) : (freeValue s).2.start = s.start := rfl
@[simp] theorem freeBelow_start (s : State) (n : Nat) : (freeBelow s n).2.start = s.start := rfl
@[simp] theorem freeValue_straps (s : State) : (freeValue s).2.straps = s.straps := rfl
@[simp] theorem freeBelow_straps (s : State) (n : Nat) : (freeBelow s n).2.straps = s.straps := rfl
@[simp] theorem freeValue_spine (s : State) : (freeValue s).2.spine = s.spine := rfl
@[simp] theorem freeBelow_spine (s : State) (n : Nat) : (freeBelow s n).2.spine = s.spine := rfl
@[simp] theorem freeValue_addr (s : State) : (freeValue s).2.addr = s.addr := rfl
@[simp] theorem freeBelow_addr (s : State) (n : Nat) : (freeBelow s n).2.addr = s.addr := rfl
@[simp] theorem freeValue_hall (s : State) : (freeValue s).2.hall = s.hall := rfl
@[simp] theorem freeBelow_hall (s : State) (n : Nat) : (freeBelow s n).2.hall = s.hall := rfl
@[simp] theorem freeValue_mantel (s : State) : (freeValue s).2.mantel = s.mantel := rfl
@[simp] theorem freeBelow_mantel (s : State) (n : Nat) : (freeBelow s n).2.mantel = s.mantel := rfl
@[simp] theorem freeValue_larder (s : State) : (freeValue s).2.larder = s.larder := rfl
@[simp] theorem freeBelow_larder (s : State) (n : Nat) : (freeBelow s n).2.larder = s.larder := rfl
@[simp] theorem freeValue_screen (s : State) : (freeValue s).2.screen = s.screen := rfl
@[simp] theorem freeBelow_screen (s : State) (n : Nat) : (freeBelow s n).2.screen = s.screen := rfl
@[simp] theorem freeValue_bindery (s : State) : (freeValue s).2.bindery = s.bindery := rfl
@[simp] theorem freeBelow_bindery (s : State) (n : Nat) : (freeBelow s n).2.bindery = s.bindery := rfl
@[simp] theorem freeValue_press (s : State) : (freeValue s).2.press = s.press := rfl
@[simp] theorem freeBelow_press (s : State) (n : Nat) : (freeBelow s n).2.press = s.press := rfl
@[simp] theorem freeValue_prot (s : State) : (freeValue s).2.prot = s.prot := rfl
@[simp] theorem freeBelow_prot (s : State) (n : Nat) : (freeBelow s n).2.prot = s.prot := rfl
@[simp] theorem freeValue_coll (s : State) : (freeValue s).2.coll = s.coll := rfl
@[simp] theorem freeBelow_coll (s : State) (n : Nat) : (freeBelow s n).2.coll = s.coll := rfl
@[simp] theorem freeValue_back (s : State) : (freeValue s).2.back = s.back := rfl
@[simp] theorem freeBelow_back (s : State) (n : Nat) : (freeBelow s n).2.back = s.back := rfl
@[simp] theorem freeValue_legacy (s : State) : (freeValue s).2.legacy = s.legacy := rfl
@[simp] theorem freeBelow_legacy (s : State) (n : Nat) : (freeBelow s n).2.legacy = s.legacy := rfl
@[simp] theorem freeValue_cellar (s : State) : (freeValue s).2.cellar = s.cellar := rfl
@[simp] theorem freeBelow_cellar (s : State) (n : Nat) : (freeBelow s n).2.cellar = s.cellar := rfl
@[simp] theorem freeValue_arch (s : State) : (freeValue s).2.arch = s.arch := rfl
@[simp] theorem freeBelow_arch (s : State) (n : Nat) : (freeBelow s n).2.arch = s.arch := rfl
@[simp] theorem freeValue_power (s : State) : (freeValue s).2.power = s.power := rfl
@[simp] theorem freeBelow_power (s : State) (n : Nat) : (freeBelow s n).2.power = s.power := rfl
@[simp] theorem freeValue_leaf (s : State) : (freeValue s).2.leaf = s.leaf := rfl
@[simp] theorem freeBelow_leaf (s : State) (n : Nat) : (freeBelow s n).2.leaf = s.leaf := rfl
@[simp] theorem freeValue_wire (s : State) : (freeValue s).2.wire = s.wire := rfl
@[simp] theorem freeBelow_wire (s : State) (n : Nat) : (freeBelow s n).2.wire = s.wire := rfl
@[simp] theorem freeValue_pending (s : State) : (freeValue s).2.pending = s.pending := rfl
@[simp] theorem freeBelow_pending (s : State) (n : Nat) : (freeBelow s n).2.pending = s.pending := rfl

/-! ### What the updates set -/

@[simp] theorem send_wire (s : State) (x : Sent) : (send s x).wire = x :: s.wire := rfl

@[simp] theorem getPort_setPort (s : State) (p : Port) (x : PortS) : getPort (setPort s p x) p = x := by cases p <;> rfl

@[simp] theorem getPort_setPort_other (s : State) (p : Port) (x : PortS) :
    getPort (setPort s p x) (otherPort p) = getPort s (otherPort p) := by cases p <;> rfl

@[simp] theorem portSync_setSync (s : State) (p : Port) (x : PortSync) : portSync (setSync s p x) p = x := by
  cases p <;> rfl

@[simp] theorem advance_now (s : State) (n : Nat) : (advance s n).now = s.now + 4 * n := rfl

theorem advanceTo_now (s : State) (t : Nat) : (advanceTo s t).now = s.now + 4 * ((t - s.now + 3) / 4) := rfl

/-- The clocks never run back, and reach the instant they are moved to. -/
theorem advanceTo_reaches (s : State) (t : Nat) : t ≤ (advanceTo s t).now ∧ s.now ≤ (advanceTo s t).now := by
  rw [advanceTo_now]; omega

@[simp] theorem setPort_spine_mergeMem (s : State) (p : Port) (x : PortS) : (setPort s p x).spine.mergeMem = s.spine.mergeMem := by cases p <;> rfl
@[simp] theorem setPort_spine_bypHold (s : State) (p : Port) (x : PortS) : (setPort s p x).spine.bypHold = s.spine.bypHold := by cases p <;> rfl
@[simp] theorem setPort_spine_pllLocked (s : State) (p : Port) (x : PortS) : (setPort s p x).spine.pllLocked = s.spine.pllLocked := by cases p <;> rfl
@[simp] theorem setPort_spine_selfTestPassed (s : State) (p : Port) (x : PortS) : (setPort s p x).spine.selfTestPassed = s.spine.selfTestPassed := by cases p <;> rfl
@[simp] theorem setPort_spine_selfTestFailed (s : State) (p : Port) (x : PortS) : (setPort s p x).spine.selfTestFailed = s.spine.selfTestFailed := by cases p <;> rfl
@[simp] theorem setPort_spine_internalSelfTest (s : State) (p : Port) (x : PortS) : (setPort s p x).spine.internalSelfTest = s.spine.internalSelfTest := by cases p <;> rfl
@[simp] theorem setPort_spine_senseDue (s : State) (p : Port) (x : PortS) : (setPort s p x).spine.senseDue = s.spine.senseDue := by cases p <;> rfl
@[simp] theorem setPort_spine_switchRetries (s : State) (p : Port) (x : PortS) : (setPort s p x).spine.switchRetries = s.spine.switchRetries := by cases p <;> rfl
@[simp] theorem setPort_spine_retryDue (s : State) (p : Port) (x : PortS) : (setPort s p x).spine.retryDue = s.spine.retryDue := by cases p <;> rfl
@[simp] theorem setPort_spine_switchFailed (s : State) (p : Port) (x : PortS) : (setPort s p x).spine.switchFailed = s.spine.switchFailed := by cases p <;> rfl
@[simp] theorem setPort_spine_stuck (s : State) (p : Port) (x : PortS) : (setPort s p x).spine.stuck = s.spine.stuck := by cases p <;> rfl
@[simp] theorem setPort_spine_switchFaultSeen (s : State) (p : Port) (x : PortS) : (setPort s p x).spine.switchFaultSeen = s.spine.switchFaultSeen := by cases p <;> rfl
@[simp] theorem setPort_spine_switchFaultsLogged (s : State) (p : Port) (x : PortS) : (setPort s p x).spine.switchFaultsLogged = s.spine.switchFaultsLogged := by cases p <;> rfl
@[simp] theorem setPort_spine_ringMap (s : State) (p : Port) (x : PortS) : (setPort s p x).spine.ringMap = s.spine.ringMap := by cases p <;> rfl
@[simp] theorem setPort_spine_leaveWin (s : State) (p : Port) (x : PortS) : (setPort s p x).spine.leaveWin = s.spine.leaveWin := by cases p <;> rfl
@[simp] theorem setPort_spine_returnWin (s : State) (p : Port) (x : PortS) : (setPort s p x).spine.returnWin = s.spine.returnWin := by cases p <;> rfl
@[simp] theorem setPort_spine_watched (s : State) (p : Port) (x : PortS) : (setPort s p x).spine.watched = s.spine.watched := by cases p <;> rfl
@[simp] theorem setPort_spine_leftAt (s : State) (p : Port) (x : PortS) : (setPort s p x).spine.leftAt = s.spine.leftAt := by cases p <;> rfl
@[simp] theorem setPort_spine_selfTestDue (s : State) (p : Port) (x : PortS) : (setPort s p x).spine.selfTestDue = s.spine.selfTestDue := by cases p <;> rfl
@[simp] theorem setPort_spine_splSeen (s : State) (p : Port) (x : PortS) : (setPort s p x).spine.splSeen = s.spine.splSeen := by cases p <;> rfl
@[simp] theorem setPort_spine_untold (s : State) (p : Port) (x : PortS) : (setPort s p x).spine.untold = s.spine.untold := by cases p <;> rfl
@[simp] theorem setPort_spine_malformed (s : State) (p : Port) (x : PortS) : (setPort s p x).spine.malformed = s.spine.malformed := by cases p <;> rfl
@[simp] theorem setPort_spine_collisionReported (s : State) (p : Port) (x : PortS) : (setPort s p x).spine.collisionReported = s.spine.collisionReported := by cases p <;> rfl
@[simp] theorem setPort_spine_earlyQuires (s : State) (p : Port) (x : PortS) : (setPort s p x).spine.earlyQuires = s.spine.earlyQuires := by cases p <;> rfl
@[simp] theorem setPort_spine_ctlQueue (s : State) (p : Port) (x : PortS) : (setPort s p x).spine.ctlQueue = s.spine.ctlQueue := by cases p <;> rfl
@[simp] theorem setPort_spine_sigCopied (s : State) (p : Port) (x : PortS) : (setPort s p x).spine.sigCopied = s.spine.sigCopied := by cases p <;> rfl
@[simp] theorem setPort_spine_lastQuire (s : State) (p : Port) (x : PortS) : (setPort s p x).spine.lastQuire = s.spine.lastQuire := by cases p <;> rfl

/-! ### Whole states and instants -/

/-- Two states with the same fields are one state. -/
theorem state_ext (a b : State) (h1 : a.now = b.now) (h2 : a.start = b.start) (h3 : a.straps = b.straps)
    (h4 : a.spine = b.spine) (h5 : a.addr = b.addr) (h6 : a.hall = b.hall) (h7 : a.mantel = b.mantel)
    (h8 : a.larder = b.larder) (h9 : a.screen = b.screen) (h10 : a.bindery = b.bindery) (h11 : a.press = b.press)
    (h12 : a.prot = b.prot) (h13 : a.coll = b.coll) (h14 : a.back = b.back) (h15 : a.legacy = b.legacy)
    (h16 : a.cellar = b.cellar) (h17 : a.arch = b.arch) (h18 : a.power = b.power) (h19 : a.leaf = b.leaf)
    (h20 : a.wire = b.wire) (h21 : a.fresh = b.fresh) (h22 : a.pending = b.pending) : a = b := by
  cases a; cases b; simp_all

/-- An advance to an instant goes at most 3 ns beyond it. -/
theorem advanceTo_bound (s : State) (t : Nat) : (advanceTo s t).now ≤ max s.now (t + 3) := by rw [advanceTo_now]; omega

/-- Advancing the RTC changes nothing of CELL but its count. -/
@[simp] theorem rtcOn_cell (ns : Nat) : (rtcOn s ns).cell = s.cellar.cell := by unfold rtcOn; split <;> rfl
@[simp] theorem rtcOn_failAt (ns : Nat) : (rtcOn s ns).failAt = s.cellar.failAt := by unfold rtcOn; split <;> rfl
@[simp] theorem rtcOn_isolated (ns : Nat) : (rtcOn s ns).isolated = s.cellar.isolated := by unfold rtcOn; split <;> rfl
@[simp] theorem rtcOn_rtcValid (ns : Nat) : (rtcOn s ns).rtcValid = s.cellar.rtcValid := by unfold rtcOn; split <;> rfl
@[simp] theorem rtcOn_counts (ns : Nat) : (rtcOn s ns).counts = s.cellar.counts := by unfold rtcOn; split <;> rfl
@[simp] theorem rtcOn_rtcAlarm (ns : Nat) : (rtcOn s ns).rtcAlarm = s.cellar.rtcAlarm := by unfold rtcOn; split <;> rfl
@[simp] theorem rtcOn_watchdogArmed (ns : Nat) : (rtcOn s ns).watchdogArmed = s.cellar.watchdogArmed := by
  unfold rtcOn; split <;> rfl
@[simp] theorem rtcOn_cause (ns : Nat) : (rtcOn s ns).cause = s.cellar.cause := by unfold rtcOn; split <;> rfl

/-- An advance to a Mantel time reaches it, while a tick moves Mantel forward. -/
theorem advanceToMantel_reaches (s : State) (t : Nat) (h : 0 < tickUnits s.mantel) :
    t ≤ mNs (advanceToMantel s t) := by
  unfold advanceToMantel advanceToUnits mNs advance Mantel.ticks
  dsimp only
  rw [Nat.le_div_iff_mul_le (by decide), show ((t * 2 ^ 32 : Nat) : Int) = (t : Int) * 2 ^ 32 from by push_cast; rfl]
  by_cases h0 : (t : Int) * 2 ^ 32 ≤ s.mantel.time
  · have hk : ∀ n : Nat, (s.mantel.time : Int) ≤ s.mantel.time + n * tickUnits s.mantel := fun n => by
      have := Int.mul_nonneg (Int.natCast_nonneg n) (Int.le_of_lt h); omega
    have := hk ((((t : Int) * 2 ^ 32 - s.mantel.time + tickUnits s.mantel - 1) / tickUnits s.mantel).toNat)
    omega
  · have h1 : 0 ≤ ((t : Int) * 2 ^ 32 - s.mantel.time + tickUnits s.mantel - 1) / tickUnits s.mantel :=
      Int.ediv_nonneg (by omega) (by omega)
    have h2 := Int.emod_add_mul_ediv ((t : Int) * 2 ^ 32 - s.mantel.time + tickUnits s.mantel - 1) (tickUnits s.mantel)
    have h3 := Int.emod_lt_of_pos ((t : Int) * 2 ^ 32 - s.mantel.time + tickUnits s.mantel - 1) h
    rw [Int.toNat_of_nonneg h1]
    rw [Int.mul_comm (tickUnits s.mantel)] at h2
    omega


end Sys2Proof.Machine
end

