-- ==== Sys2Proof/Laws/Queues.lean ====
section
/-! SUPPORT. What the report and event queues do to the state: which fields an operation that queues or logs leaves
unchanged. -/

namespace Sys2Proof.Machine

open Sys2Proof

variable (s : State)

@[simp] theorem logEvent_now (e : EventRec) : (logEvent s e).now = s.now := by simp only [logEvent, refuseBurst]; (repeat' split) <;> rfl
@[simp] theorem logEvent_start (e : EventRec) : (logEvent s e).start = s.start := by simp only [logEvent, refuseBurst]; (repeat' split) <;> rfl
@[simp] theorem logEvent_straps (e : EventRec) : (logEvent s e).straps = s.straps := by simp only [logEvent, refuseBurst]; (repeat' split) <;> rfl
@[simp] theorem logEvent_spine (e : EventRec) : (logEvent s e).spine = s.spine := by simp only [logEvent, refuseBurst]; (repeat' split) <;> rfl
@[simp] theorem logEvent_addr (e : EventRec) : (logEvent s e).addr = s.addr := by simp only [logEvent, refuseBurst]; (repeat' split) <;> rfl
@[simp] theorem logEvent_hall (e : EventRec) : (logEvent s e).hall = s.hall := by simp only [logEvent, refuseBurst]; (repeat' split) <;> rfl
@[simp] theorem logEvent_mantel (e : EventRec) : (logEvent s e).mantel = s.mantel := by simp only [logEvent, refuseBurst]; (repeat' split) <;> rfl
@[simp] theorem logEvent_larder (e : EventRec) : (logEvent s e).larder = s.larder := by simp only [logEvent, refuseBurst]; (repeat' split) <;> rfl
@[simp] theorem logEvent_screen (e : EventRec) : (logEvent s e).screen = s.screen := by simp only [logEvent, refuseBurst]; (repeat' split) <;> rfl
@[simp] theorem logEvent_bindery (e : EventRec) : (logEvent s e).bindery = s.bindery := by simp only [logEvent, refuseBurst]; (repeat' split) <;> rfl
@[simp] theorem logEvent_press (e : EventRec) : (logEvent s e).press = s.press := by simp only [logEvent, refuseBurst]; (repeat' split) <;> rfl
@[simp] theorem logEvent_prot (e : EventRec) : (logEvent s e).prot = s.prot := by simp only [logEvent, refuseBurst]; (repeat' split) <;> rfl
@[simp] theorem logEvent_coll (e : EventRec) : (logEvent s e).coll = s.coll := by simp only [logEvent, refuseBurst]; (repeat' split) <;> rfl
@[simp] theorem logEvent_back (e : EventRec) : (logEvent s e).back = s.back := by simp only [logEvent, refuseBurst]; (repeat' split) <;> rfl
@[simp] theorem logEvent_legacy (e : EventRec) : (logEvent s e).legacy = s.legacy := by simp only [logEvent, refuseBurst]; (repeat' split) <;> rfl
@[simp] theorem logEvent_cellar_cell (e : EventRec) : (logEvent s e).cellar.cell = s.cellar.cell := by simp only [logEvent, refuseBurst]; (repeat' split) <;> rfl
@[simp] theorem logEvent_cellar_vcellMv (e : EventRec) : (logEvent s e).cellar.vcellMv = s.cellar.vcellMv := by simp only [logEvent, refuseBurst]; (repeat' split) <;> rfl
@[simp] theorem logEvent_cellar_tempC (e : EventRec) : (logEvent s e).cellar.tempC = s.cellar.tempC := by simp only [logEvent, refuseBurst]; (repeat' split) <;> rfl
@[simp] theorem logEvent_cellar_rtc (e : EventRec) : (logEvent s e).cellar.rtc = s.cellar.rtc := by simp only [logEvent, refuseBurst]; (repeat' split) <;> rfl
@[simp] theorem logEvent_cellar_rtcPart (e : EventRec) : (logEvent s e).cellar.rtcPart = s.cellar.rtcPart := by simp only [logEvent, refuseBurst]; (repeat' split) <;> rfl
@[simp] theorem logEvent_cellar_rtcValid (e : EventRec) : (logEvent s e).cellar.rtcValid = s.cellar.rtcValid := by simp only [logEvent, refuseBurst]; (repeat' split) <;> rfl
@[simp] theorem logEvent_cellar_rtcAlarm (e : EventRec) : (logEvent s e).cellar.rtcAlarm = s.cellar.rtcAlarm := by simp only [logEvent, refuseBurst]; (repeat' split) <;> rfl
@[simp] theorem logEvent_cellar_tamperOpens (e : EventRec) : (logEvent s e).cellar.tamperOpens = s.cellar.tamperOpens := by simp only [logEvent, refuseBurst]; (repeat' split) <;> rfl
@[simp] theorem logEvent_cellar_tamperClosed (e : EventRec) : (logEvent s e).cellar.tamperClosed = s.cellar.tamperClosed := by simp only [logEvent, refuseBurst]; (repeat' split) <;> rfl
@[simp] theorem logEvent_cellar_tamperEvents (e : EventRec) : (logEvent s e).cellar.tamperEvents = s.cellar.tamperEvents := by simp only [logEvent, refuseBurst]; (repeat' split) <;> rfl
@[simp] theorem logEvent_cellar_lastTamper (e : EventRec) : (logEvent s e).cellar.lastTamper = s.cellar.lastTamper := by simp only [logEvent, refuseBurst]; (repeat' split) <;> rfl
@[simp] theorem logEvent_cellar_tamperDue (e : EventRec) : (logEvent s e).cellar.tamperDue = s.cellar.tamperDue := by simp only [logEvent, refuseBurst]; (repeat' split) <;> rfl
@[simp] theorem logEvent_cellar_cause (e : EventRec) : (logEvent s e).cellar.cause = s.cellar.cause := by simp only [logEvent, refuseBurst]; (repeat' split) <;> rfl
@[simp] theorem logEvent_cellar_watchdogArmed (e : EventRec) : (logEvent s e).cellar.watchdogArmed = s.cellar.watchdogArmed := by simp only [logEvent, refuseBurst]; (repeat' split) <;> rfl
@[simp] theorem logEvent_cellar_lastKick (e : EventRec) : (logEvent s e).cellar.lastKick = s.cellar.lastKick := by simp only [logEvent, refuseBurst]; (repeat' split) <;> rfl
@[simp] theorem logEvent_cellar_warned (e : EventRec) : (logEvent s e).cellar.warned = s.cellar.warned := by simp only [logEvent, refuseBurst]; (repeat' split) <;> rfl
@[simp] theorem logEvent_cellar_darkPclk (e : EventRec) : (logEvent s e).cellar.darkPclk = s.cellar.darkPclk := by simp only [logEvent, refuseBurst]; (repeat' split) <;> rfl
@[simp] theorem logEvent_cellar_darkWatchdog (e : EventRec) : (logEvent s e).cellar.darkWatchdog = s.cellar.darkWatchdog := by simp only [logEvent, refuseBurst]; (repeat' split) <;> rfl
@[simp] theorem logEvent_cellar_darkPower (e : EventRec) : (logEvent s e).cellar.darkPower = s.cellar.darkPower := by simp only [logEvent, refuseBurst]; (repeat' split) <;> rfl
@[simp] theorem logEvent_cellar_failAt (e : EventRec) : (logEvent s e).cellar.failAt = s.cellar.failAt := by simp only [logEvent, refuseBurst]; (repeat' split) <;> rfl
@[simp] theorem logEvent_cellar_isolated (e : EventRec) : (logEvent s e).cellar.isolated = s.cellar.isolated := by simp only [logEvent, refuseBurst]; (repeat' split) <;> rfl
@[simp] theorem logEvent_cellar_field (e : EventRec) : (logEvent s e).cellar.field = s.cellar.field := by simp only [logEvent, refuseBurst]; (repeat' split) <;> rfl
@[simp] theorem logEvent_cellar_reservoirPj (e : EventRec) : (logEvent s e).cellar.reservoirPj = s.cellar.reservoirPj := by simp only [logEvent, refuseBurst]; (repeat' split) <;> rfl
@[simp] theorem logEvent_cellar_quiet (e : EventRec) : (logEvent s e).cellar.quiet = s.cellar.quiet := by simp only [logEvent, refuseBurst]; (repeat' split) <;> rfl
@[simp] theorem logEvent_cellar_selected (e : EventRec) : (logEvent s e).cellar.selected = s.cellar.selected := by simp only [logEvent, refuseBurst]; (repeat' split) <;> rfl
@[simp] theorem logEvent_cellar_challenge (e : EventRec) : (logEvent s e).cellar.challenge = s.cellar.challenge := by simp only [logEvent, refuseBurst]; (repeat' split) <;> rfl
@[simp] theorem logEvent_cellar_challengeCount (e : EventRec) : (logEvent s e).cellar.challengeCount = s.cellar.challengeCount := by simp only [logEvent, refuseBurst]; (repeat' split) <;> rfl
@[simp] theorem logEvent_cellar_unreported (e : EventRec) : (logEvent s e).cellar.unreported = s.cellar.unreported := by simp only [logEvent, refuseBurst]; (repeat' split) <;> rfl
@[simp] theorem logEvent_power (e : EventRec) : (logEvent s e).power = s.power := by simp only [logEvent, refuseBurst]; (repeat' split) <;> rfl
@[simp] theorem logEvent_leaf (e : EventRec) : (logEvent s e).leaf = s.leaf := by simp only [logEvent, refuseBurst]; (repeat' split) <;> rfl
@[simp] theorem logEvent_wire (e : EventRec) : (logEvent s e).wire = s.wire := by simp only [logEvent, refuseBurst]; (repeat' split) <;> rfl
@[simp] theorem logEvent_fresh (e : EventRec) : (logEvent s e).fresh = s.fresh := by simp only [logEvent, refuseBurst]; (repeat' split) <;> rfl
@[simp] theorem logEvent_pending (e : EventRec) : (logEvent s e).pending = s.pending := by simp only [logEvent, refuseBurst]; (repeat' split) <;> rfl

@[simp] theorem queueEvent_now (e : EventRec) : (queueEvent s e).now = s.now := by unfold queueEvent; split <;> rfl
@[simp] theorem queueEvent_start (e : EventRec) : (queueEvent s e).start = s.start := by unfold queueEvent; split <;> rfl
@[simp] theorem queueEvent_straps (e : EventRec) : (queueEvent s e).straps = s.straps := by unfold queueEvent; split <;> rfl
@[simp] theorem queueEvent_spine (e : EventRec) : (queueEvent s e).spine = s.spine := by unfold queueEvent; split <;> rfl
@[simp] theorem queueEvent_addr (e : EventRec) : (queueEvent s e).addr = s.addr := by unfold queueEvent; split <;> rfl
@[simp] theorem queueEvent_hall (e : EventRec) : (queueEvent s e).hall = s.hall := by unfold queueEvent; split <;> rfl
@[simp] theorem queueEvent_mantel (e : EventRec) : (queueEvent s e).mantel = s.mantel := by unfold queueEvent; split <;> rfl
@[simp] theorem queueEvent_screen (e : EventRec) : (queueEvent s e).screen = s.screen := by unfold queueEvent; split <;> rfl
@[simp] theorem queueEvent_bindery (e : EventRec) : (queueEvent s e).bindery = s.bindery := by unfold queueEvent; split <;> rfl
@[simp] theorem queueEvent_press (e : EventRec) : (queueEvent s e).press = s.press := by unfold queueEvent; split <;> rfl
@[simp] theorem queueEvent_prot (e : EventRec) : (queueEvent s e).prot = s.prot := by unfold queueEvent; split <;> rfl
@[simp] theorem queueEvent_coll (e : EventRec) : (queueEvent s e).coll = s.coll := by unfold queueEvent; split <;> rfl
@[simp] theorem queueEvent_back (e : EventRec) : (queueEvent s e).back = s.back := by unfold queueEvent; split <;> rfl
@[simp] theorem queueEvent_legacy (e : EventRec) : (queueEvent s e).legacy = s.legacy := by unfold queueEvent; split <;> rfl
@[simp] theorem queueEvent_cellar (e : EventRec) : (queueEvent s e).cellar = s.cellar := by unfold queueEvent; split <;> rfl
@[simp] theorem queueEvent_arch (e : EventRec) : (queueEvent s e).arch = s.arch := by unfold queueEvent; split <;> rfl
@[simp] theorem queueEvent_power (e : EventRec) : (queueEvent s e).power = s.power := by unfold queueEvent; split <;> rfl
@[simp] theorem queueEvent_leaf (e : EventRec) : (queueEvent s e).leaf = s.leaf := by unfold queueEvent; split <;> rfl
@[simp] theorem queueEvent_wire (e : EventRec) : (queueEvent s e).wire = s.wire := by unfold queueEvent; split <;> rfl
@[simp] theorem queueEvent_fresh (e : EventRec) : (queueEvent s e).fresh = s.fresh := by unfold queueEvent; split <;> rfl
@[simp] theorem queueEvent_pending (e : EventRec) : (queueEvent s e).pending = s.pending := by unfold queueEvent; split <;> rfl

@[simp] theorem raiseAt_now (n : Nat) (c a : Half) (b : Word) : (raiseAt s n c a b).now = s.now := by simp [raiseAt]
@[simp] theorem raiseAt_start (n : Nat) (c a : Half) (b : Word) : (raiseAt s n c a b).start = s.start := by simp [raiseAt]
@[simp] theorem raiseAt_straps (n : Nat) (c a : Half) (b : Word) : (raiseAt s n c a b).straps = s.straps := by simp [raiseAt]
@[simp] theorem raiseAt_spine (n : Nat) (c a : Half) (b : Word) : (raiseAt s n c a b).spine = s.spine := by simp [raiseAt]
@[simp] theorem raiseAt_addr (n : Nat) (c a : Half) (b : Word) : (raiseAt s n c a b).addr = s.addr := by simp [raiseAt]
@[simp] theorem raiseAt_hall (n : Nat) (c a : Half) (b : Word) : (raiseAt s n c a b).hall = s.hall := by simp [raiseAt]
@[simp] theorem raiseAt_mantel (n : Nat) (c a : Half) (b : Word) : (raiseAt s n c a b).mantel = s.mantel := by simp [raiseAt]
@[simp] theorem raiseAt_screen (n : Nat) (c a : Half) (b : Word) : (raiseAt s n c a b).screen = s.screen := by simp [raiseAt]
@[simp] theorem raiseAt_bindery (n : Nat) (c a : Half) (b : Word) : (raiseAt s n c a b).bindery = s.bindery := by simp [raiseAt]
@[simp] theorem raiseAt_press (n : Nat) (c a : Half) (b : Word) : (raiseAt s n c a b).press = s.press := by simp [raiseAt]
@[simp] theorem raiseAt_prot (n : Nat) (c a : Half) (b : Word) : (raiseAt s n c a b).prot = s.prot := by simp [raiseAt]
@[simp] theorem raiseAt_coll (n : Nat) (c a : Half) (b : Word) : (raiseAt s n c a b).coll = s.coll := by simp [raiseAt]
@[simp] theorem raiseAt_back (n : Nat) (c a : Half) (b : Word) : (raiseAt s n c a b).back = s.back := by simp [raiseAt]
@[simp] theorem raiseAt_legacy (n : Nat) (c a : Half) (b : Word) : (raiseAt s n c a b).legacy = s.legacy := by simp [raiseAt]
@[simp] theorem raiseAt_cellar_cell (n : Nat) (c a : Half) (b : Word) : (raiseAt s n c a b).cellar.cell = s.cellar.cell := by simp [raiseAt]
@[simp] theorem raiseAt_cellar_vcellMv (n : Nat) (c a : Half) (b : Word) : (raiseAt s n c a b).cellar.vcellMv = s.cellar.vcellMv := by simp [raiseAt]
@[simp] theorem raiseAt_cellar_tempC (n : Nat) (c a : Half) (b : Word) : (raiseAt s n c a b).cellar.tempC = s.cellar.tempC := by simp [raiseAt]
@[simp] theorem raiseAt_cellar_rtc (n : Nat) (c a : Half) (b : Word) : (raiseAt s n c a b).cellar.rtc = s.cellar.rtc := by simp [raiseAt]
@[simp] theorem raiseAt_cellar_rtcPart (n : Nat) (c a : Half) (b : Word) : (raiseAt s n c a b).cellar.rtcPart = s.cellar.rtcPart := by simp [raiseAt]
@[simp] theorem raiseAt_cellar_rtcValid (n : Nat) (c a : Half) (b : Word) : (raiseAt s n c a b).cellar.rtcValid = s.cellar.rtcValid := by simp [raiseAt]
@[simp] theorem raiseAt_cellar_rtcAlarm (n : Nat) (c a : Half) (b : Word) : (raiseAt s n c a b).cellar.rtcAlarm = s.cellar.rtcAlarm := by simp [raiseAt]
@[simp] theorem raiseAt_cellar_tamperOpens (n : Nat) (c a : Half) (b : Word) : (raiseAt s n c a b).cellar.tamperOpens = s.cellar.tamperOpens := by simp [raiseAt]
@[simp] theorem raiseAt_cellar_tamperClosed (n : Nat) (c a : Half) (b : Word) : (raiseAt s n c a b).cellar.tamperClosed = s.cellar.tamperClosed := by simp [raiseAt]
@[simp] theorem raiseAt_cellar_tamperEvents (n : Nat) (c a : Half) (b : Word) : (raiseAt s n c a b).cellar.tamperEvents = s.cellar.tamperEvents := by simp [raiseAt]
@[simp] theorem raiseAt_cellar_lastTamper (n : Nat) (c a : Half) (b : Word) : (raiseAt s n c a b).cellar.lastTamper = s.cellar.lastTamper := by simp [raiseAt]
@[simp] theorem raiseAt_cellar_tamperDue (n : Nat) (c a : Half) (b : Word) : (raiseAt s n c a b).cellar.tamperDue = s.cellar.tamperDue := by simp [raiseAt]
@[simp] theorem raiseAt_cellar_cause (n : Nat) (c a : Half) (b : Word) : (raiseAt s n c a b).cellar.cause = s.cellar.cause := by simp [raiseAt]
@[simp] theorem raiseAt_cellar_watchdogArmed (n : Nat) (c a : Half) (b : Word) : (raiseAt s n c a b).cellar.watchdogArmed = s.cellar.watchdogArmed := by simp [raiseAt]
@[simp] theorem raiseAt_cellar_lastKick (n : Nat) (c a : Half) (b : Word) : (raiseAt s n c a b).cellar.lastKick = s.cellar.lastKick := by simp [raiseAt]
@[simp] theorem raiseAt_cellar_warned (n : Nat) (c a : Half) (b : Word) : (raiseAt s n c a b).cellar.warned = s.cellar.warned := by simp [raiseAt]
@[simp] theorem raiseAt_cellar_darkPclk (n : Nat) (c a : Half) (b : Word) : (raiseAt s n c a b).cellar.darkPclk = s.cellar.darkPclk := by simp [raiseAt]
@[simp] theorem raiseAt_cellar_darkWatchdog (n : Nat) (c a : Half) (b : Word) : (raiseAt s n c a b).cellar.darkWatchdog = s.cellar.darkWatchdog := by simp [raiseAt]
@[simp] theorem raiseAt_cellar_darkPower (n : Nat) (c a : Half) (b : Word) : (raiseAt s n c a b).cellar.darkPower = s.cellar.darkPower := by simp [raiseAt]
@[simp] theorem raiseAt_cellar_failAt (n : Nat) (c a : Half) (b : Word) : (raiseAt s n c a b).cellar.failAt = s.cellar.failAt := by simp [raiseAt]
@[simp] theorem raiseAt_cellar_isolated (n : Nat) (c a : Half) (b : Word) : (raiseAt s n c a b).cellar.isolated = s.cellar.isolated := by simp [raiseAt]
@[simp] theorem raiseAt_cellar_field (n : Nat) (c a : Half) (b : Word) : (raiseAt s n c a b).cellar.field = s.cellar.field := by simp [raiseAt]
@[simp] theorem raiseAt_cellar_reservoirPj (n : Nat) (c a : Half) (b : Word) : (raiseAt s n c a b).cellar.reservoirPj = s.cellar.reservoirPj := by simp [raiseAt]
@[simp] theorem raiseAt_cellar_quiet (n : Nat) (c a : Half) (b : Word) : (raiseAt s n c a b).cellar.quiet = s.cellar.quiet := by simp [raiseAt]
@[simp] theorem raiseAt_cellar_selected (n : Nat) (c a : Half) (b : Word) : (raiseAt s n c a b).cellar.selected = s.cellar.selected := by simp [raiseAt]
@[simp] theorem raiseAt_cellar_challenge (n : Nat) (c a : Half) (b : Word) : (raiseAt s n c a b).cellar.challenge = s.cellar.challenge := by simp [raiseAt]
@[simp] theorem raiseAt_cellar_challengeCount (n : Nat) (c a : Half) (b : Word) : (raiseAt s n c a b).cellar.challengeCount = s.cellar.challengeCount := by simp [raiseAt]
@[simp] theorem raiseAt_cellar_unreported (n : Nat) (c a : Half) (b : Word) : (raiseAt s n c a b).cellar.unreported = s.cellar.unreported := by simp [raiseAt]
@[simp] theorem raiseAt_power (n : Nat) (c a : Half) (b : Word) : (raiseAt s n c a b).power = s.power := by simp [raiseAt]
@[simp] theorem raiseAt_leaf (n : Nat) (c a : Half) (b : Word) : (raiseAt s n c a b).leaf = s.leaf := by simp [raiseAt]
@[simp] theorem raiseAt_wire (n : Nat) (c a : Half) (b : Word) : (raiseAt s n c a b).wire = s.wire := by simp [raiseAt]
@[simp] theorem raiseAt_fresh (n : Nat) (c a : Half) (b : Word) : (raiseAt s n c a b).fresh = s.fresh := by simp [raiseAt]
@[simp] theorem raiseAt_pending (n : Nat) (c a : Half) (b : Word) : (raiseAt s n c a b).pending = s.pending := by simp [raiseAt]

@[simp] theorem raise_now (c a : Half) (b : Word) : (raise s c a b).now = s.now := by simp [raise]
@[simp] theorem raise_start (c a : Half) (b : Word) : (raise s c a b).start = s.start := by simp [raise]
@[simp] theorem raise_straps (c a : Half) (b : Word) : (raise s c a b).straps = s.straps := by simp [raise]
@[simp] theorem raise_spine (c a : Half) (b : Word) : (raise s c a b).spine = s.spine := by simp [raise]
@[simp] theorem raise_addr (c a : Half) (b : Word) : (raise s c a b).addr = s.addr := by simp [raise]
@[simp] theorem raise_hall (c a : Half) (b : Word) : (raise s c a b).hall = s.hall := by simp [raise]
@[simp] theorem raise_mantel (c a : Half) (b : Word) : (raise s c a b).mantel = s.mantel := by simp [raise]
@[simp] theorem raise_screen (c a : Half) (b : Word) : (raise s c a b).screen = s.screen := by simp [raise]
@[simp] theorem raise_bindery (c a : Half) (b : Word) : (raise s c a b).bindery = s.bindery := by simp [raise]
@[simp] theorem raise_press (c a : Half) (b : Word) : (raise s c a b).press = s.press := by simp [raise]
@[simp] theorem raise_prot (c a : Half) (b : Word) : (raise s c a b).prot = s.prot := by simp [raise]
@[simp] theorem raise_coll (c a : Half) (b : Word) : (raise s c a b).coll = s.coll := by simp [raise]
@[simp] theorem raise_back (c a : Half) (b : Word) : (raise s c a b).back = s.back := by simp [raise]
@[simp] theorem raise_legacy (c a : Half) (b : Word) : (raise s c a b).legacy = s.legacy := by simp [raise]
@[simp] theorem raise_cellar_cell (c a : Half) (b : Word) : (raise s c a b).cellar.cell = s.cellar.cell := by simp [raise]
@[simp] theorem raise_cellar_vcellMv (c a : Half) (b : Word) : (raise s c a b).cellar.vcellMv = s.cellar.vcellMv := by simp [raise]
@[simp] theorem raise_cellar_tempC (c a : Half) (b : Word) : (raise s c a b).cellar.tempC = s.cellar.tempC := by simp [raise]
@[simp] theorem raise_cellar_rtc (c a : Half) (b : Word) : (raise s c a b).cellar.rtc = s.cellar.rtc := by simp [raise]
@[simp] theorem raise_cellar_rtcPart (c a : Half) (b : Word) : (raise s c a b).cellar.rtcPart = s.cellar.rtcPart := by simp [raise]
@[simp] theorem raise_cellar_rtcValid (c a : Half) (b : Word) : (raise s c a b).cellar.rtcValid = s.cellar.rtcValid := by simp [raise]
@[simp] theorem raise_cellar_rtcAlarm (c a : Half) (b : Word) : (raise s c a b).cellar.rtcAlarm = s.cellar.rtcAlarm := by simp [raise]
@[simp] theorem raise_cellar_tamperOpens (c a : Half) (b : Word) : (raise s c a b).cellar.tamperOpens = s.cellar.tamperOpens := by simp [raise]
@[simp] theorem raise_cellar_tamperClosed (c a : Half) (b : Word) : (raise s c a b).cellar.tamperClosed = s.cellar.tamperClosed := by simp [raise]
@[simp] theorem raise_cellar_tamperEvents (c a : Half) (b : Word) : (raise s c a b).cellar.tamperEvents = s.cellar.tamperEvents := by simp [raise]
@[simp] theorem raise_cellar_lastTamper (c a : Half) (b : Word) : (raise s c a b).cellar.lastTamper = s.cellar.lastTamper := by simp [raise]
@[simp] theorem raise_cellar_tamperDue (c a : Half) (b : Word) : (raise s c a b).cellar.tamperDue = s.cellar.tamperDue := by simp [raise]
@[simp] theorem raise_cellar_cause (c a : Half) (b : Word) : (raise s c a b).cellar.cause = s.cellar.cause := by simp [raise]
@[simp] theorem raise_cellar_watchdogArmed (c a : Half) (b : Word) : (raise s c a b).cellar.watchdogArmed = s.cellar.watchdogArmed := by simp [raise]
@[simp] theorem raise_cellar_lastKick (c a : Half) (b : Word) : (raise s c a b).cellar.lastKick = s.cellar.lastKick := by simp [raise]
@[simp] theorem raise_cellar_warned (c a : Half) (b : Word) : (raise s c a b).cellar.warned = s.cellar.warned := by simp [raise]
@[simp] theorem raise_cellar_darkPclk (c a : Half) (b : Word) : (raise s c a b).cellar.darkPclk = s.cellar.darkPclk := by simp [raise]
@[simp] theorem raise_cellar_darkWatchdog (c a : Half) (b : Word) : (raise s c a b).cellar.darkWatchdog = s.cellar.darkWatchdog := by simp [raise]
@[simp] theorem raise_cellar_darkPower (c a : Half) (b : Word) : (raise s c a b).cellar.darkPower = s.cellar.darkPower := by simp [raise]
@[simp] theorem raise_cellar_failAt (c a : Half) (b : Word) : (raise s c a b).cellar.failAt = s.cellar.failAt := by simp [raise]
@[simp] theorem raise_cellar_isolated (c a : Half) (b : Word) : (raise s c a b).cellar.isolated = s.cellar.isolated := by simp [raise]
@[simp] theorem raise_cellar_field (c a : Half) (b : Word) : (raise s c a b).cellar.field = s.cellar.field := by simp [raise]
@[simp] theorem raise_cellar_reservoirPj (c a : Half) (b : Word) : (raise s c a b).cellar.reservoirPj = s.cellar.reservoirPj := by simp [raise]
@[simp] theorem raise_cellar_quiet (c a : Half) (b : Word) : (raise s c a b).cellar.quiet = s.cellar.quiet := by simp [raise]
@[simp] theorem raise_cellar_selected (c a : Half) (b : Word) : (raise s c a b).cellar.selected = s.cellar.selected := by simp [raise]
@[simp] theorem raise_cellar_challenge (c a : Half) (b : Word) : (raise s c a b).cellar.challenge = s.cellar.challenge := by simp [raise]
@[simp] theorem raise_cellar_challengeCount (c a : Half) (b : Word) : (raise s c a b).cellar.challengeCount = s.cellar.challengeCount := by simp [raise]
@[simp] theorem raise_cellar_unreported (c a : Half) (b : Word) : (raise s c a b).cellar.unreported = s.cellar.unreported := by simp [raise]

/-- An EVENT changes the Cellar's counts alone: a record refused after detect is counted (R384, R394). -/
theorem raise_cellar_eq (c a : Half) (b : Word) :
    (raise s c a b).cellar = { s.cellar with counts := (raise s c a b).cellar.counts } := by
  have h : ∀ e, (logEvent s e).cellar = { s.cellar with counts := (logEvent s e).cellar.counts } := by
    intro e
    simp only [logEvent, refuseBurst]; (repeat' split) <;> rfl
  simp only [raise, raiseAt, queueEvent_cellar]
  exact h _

/-! With no power fail under way, an EVENT leaves the Cellar as it was: no burst is refused (R384, R394). -/

theorem logEvent_cellar (e : EventRec) (h : s.cellar.failAt = none) : (logEvent s e).cellar = s.cellar := by
  simp only [logEvent, refuseBurst, h]; (repeat' split) <;> first | rfl | simp_all
theorem raise_cellar (c a : Half) (b : Word) (h : s.cellar.failAt = none) : (raise s c a b).cellar = s.cellar := by
  simp [raise, raiseAt, logEvent_cellar, h]
@[simp] theorem raise_power (c a : Half) (b : Word) : (raise s c a b).power = s.power := by simp [raise]
@[simp] theorem raise_leaf (c a : Half) (b : Word) : (raise s c a b).leaf = s.leaf := by simp [raise]
@[simp] theorem raise_wire (c a : Half) (b : Word) : (raise s c a b).wire = s.wire := by simp [raise]
@[simp] theorem raise_fresh (c a : Half) (b : Word) : (raise s c a b).fresh = s.fresh := by simp [raise]
@[simp] theorem raise_pending (c a : Half) (b : Word) : (raise s c a b).pending = s.pending := by simp [raise]

@[simp] theorem raiseHeld_now (c a : Half) (b : Word) : (raiseHeld s c a b).now = s.now := by simp [raiseHeld]
@[simp] theorem raiseHeld_start (c a : Half) (b : Word) : (raiseHeld s c a b).start = s.start := by simp [raiseHeld]
@[simp] theorem raiseHeld_straps (c a : Half) (b : Word) : (raiseHeld s c a b).straps = s.straps := by simp [raiseHeld]
@[simp] theorem raiseHeld_spine (c a : Half) (b : Word) : (raiseHeld s c a b).spine = s.spine := by simp [raiseHeld]
@[simp] theorem raiseHeld_addr (c a : Half) (b : Word) : (raiseHeld s c a b).addr = s.addr := by simp [raiseHeld]
@[simp] theorem raiseHeld_hall (c a : Half) (b : Word) : (raiseHeld s c a b).hall = s.hall := by simp [raiseHeld]
@[simp] theorem raiseHeld_mantel (c a : Half) (b : Word) : (raiseHeld s c a b).mantel = s.mantel := by simp [raiseHeld]
@[simp] theorem raiseHeld_larder (c a : Half) (b : Word) : (raiseHeld s c a b).larder = s.larder := by simp [raiseHeld]
@[simp] theorem raiseHeld_screen (c a : Half) (b : Word) : (raiseHeld s c a b).screen = s.screen := by simp [raiseHeld]
@[simp] theorem raiseHeld_bindery (c a : Half) (b : Word) : (raiseHeld s c a b).bindery = s.bindery := by simp [raiseHeld]
@[simp] theorem raiseHeld_press (c a : Half) (b : Word) : (raiseHeld s c a b).press = s.press := by simp [raiseHeld]
@[simp] theorem raiseHeld_prot (c a : Half) (b : Word) : (raiseHeld s c a b).prot = s.prot := by simp [raiseHeld]
@[simp] theorem raiseHeld_coll (c a : Half) (b : Word) : (raiseHeld s c a b).coll = s.coll := by simp [raiseHeld]
@[simp] theorem raiseHeld_back (c a : Half) (b : Word) : (raiseHeld s c a b).back = s.back := by simp [raiseHeld]
@[simp] theorem raiseHeld_legacy (c a : Half) (b : Word) : (raiseHeld s c a b).legacy = s.legacy := by simp [raiseHeld]
@[simp] theorem raiseHeld_power (c a : Half) (b : Word) : (raiseHeld s c a b).power = s.power := by simp [raiseHeld]
@[simp] theorem raiseHeld_leaf (c a : Half) (b : Word) : (raiseHeld s c a b).leaf = s.leaf := by simp [raiseHeld]
@[simp] theorem raiseHeld_wire (c a : Half) (b : Word) : (raiseHeld s c a b).wire = s.wire := by simp [raiseHeld]
@[simp] theorem raiseHeld_fresh (c a : Half) (b : Word) : (raiseHeld s c a b).fresh = s.fresh := by simp [raiseHeld]
@[simp] theorem raiseHeld_pending (c a : Half) (b : Word) : (raiseHeld s c a b).pending = s.pending := by simp [raiseHeld]

@[simp] theorem raiseCellar_now (c a : Half) (b : Word) : (raiseCellar s c a b).now = s.now := by unfold raiseCellar; split <;> simp [raiseKept]
@[simp] theorem raiseCellar_start (c a : Half) (b : Word) : (raiseCellar s c a b).start = s.start := by unfold raiseCellar; split <;> simp [raiseKept]
@[simp] theorem raiseCellar_straps (c a : Half) (b : Word) : (raiseCellar s c a b).straps = s.straps := by unfold raiseCellar; split <;> simp [raiseKept]
@[simp] theorem raiseCellar_spine (c a : Half) (b : Word) : (raiseCellar s c a b).spine = s.spine := by unfold raiseCellar; split <;> simp [raiseKept]
@[simp] theorem raiseCellar_addr (c a : Half) (b : Word) : (raiseCellar s c a b).addr = s.addr := by unfold raiseCellar; split <;> simp [raiseKept]
@[simp] theorem raiseCellar_hall (c a : Half) (b : Word) : (raiseCellar s c a b).hall = s.hall := by unfold raiseCellar; split <;> simp [raiseKept]
@[simp] theorem raiseCellar_mantel (c a : Half) (b : Word) : (raiseCellar s c a b).mantel = s.mantel := by unfold raiseCellar; split <;> simp [raiseKept]
@[simp] theorem raiseCellar_screen (c a : Half) (b : Word) : (raiseCellar s c a b).screen = s.screen := by unfold raiseCellar; split <;> simp [raiseKept]
@[simp] theorem raiseCellar_bindery (c a : Half) (b : Word) : (raiseCellar s c a b).bindery = s.bindery := by unfold raiseCellar; split <;> simp [raiseKept]
@[simp] theorem raiseCellar_press (c a : Half) (b : Word) : (raiseCellar s c a b).press = s.press := by unfold raiseCellar; split <;> simp [raiseKept]
@[simp] theorem raiseCellar_prot (c a : Half) (b : Word) : (raiseCellar s c a b).prot = s.prot := by unfold raiseCellar; split <;> simp [raiseKept]
@[simp] theorem raiseCellar_coll (c a : Half) (b : Word) : (raiseCellar s c a b).coll = s.coll := by unfold raiseCellar; split <;> simp [raiseKept]
@[simp] theorem raiseCellar_back (c a : Half) (b : Word) : (raiseCellar s c a b).back = s.back := by unfold raiseCellar; split <;> simp [raiseKept]
@[simp] theorem raiseCellar_legacy (c a : Half) (b : Word) : (raiseCellar s c a b).legacy = s.legacy := by unfold raiseCellar; split <;> simp [raiseKept]
@[simp] theorem raiseCellar_power (c a : Half) (b : Word) : (raiseCellar s c a b).power = s.power := by unfold raiseCellar; split <;> simp [raiseKept]
@[simp] theorem raiseCellar_leaf (c a : Half) (b : Word) : (raiseCellar s c a b).leaf = s.leaf := by unfold raiseCellar; split <;> simp [raiseKept]
@[simp] theorem raiseCellar_wire (c a : Half) (b : Word) : (raiseCellar s c a b).wire = s.wire := by unfold raiseCellar; split <;> simp [raiseKept]
@[simp] theorem raiseCellar_fresh (c a : Half) (b : Word) : (raiseCellar s c a b).fresh = s.fresh := by unfold raiseCellar; split <;> simp [raiseKept]
@[simp] theorem raiseCellar_pending (c a : Half) (b : Word) : (raiseCellar s c a b).pending = s.pending := by unfold raiseCellar; split <;> simp [raiseKept]

@[simp] theorem settle_now  : (settle s).now = s.now := by simp [settle]
@[simp] theorem settle_start  : (settle s).start = s.start := by simp [settle]
@[simp] theorem settle_straps  : (settle s).straps = s.straps := by simp [settle]
@[simp] theorem settle_addr  : (settle s).addr = s.addr := by simp [settle]
@[simp] theorem settle_hall  : (settle s).hall = s.hall := by simp [settle]
@[simp] theorem settle_mantel  : (settle s).mantel = s.mantel := by simp [settle]
@[simp] theorem settle_screen  : (settle s).screen = s.screen := by simp [settle]
@[simp] theorem settle_bindery  : (settle s).bindery = s.bindery := by simp [settle]
@[simp] theorem settle_press  : (settle s).press = s.press := by simp [settle]
@[simp] theorem settle_prot  : (settle s).prot = s.prot := by simp [settle]
@[simp] theorem settle_coll  : (settle s).coll = s.coll := by simp [settle]
@[simp] theorem settle_back  : (settle s).back = s.back := by simp [settle]
@[simp] theorem settle_legacy  : (settle s).legacy = s.legacy := by simp [settle]
@[simp] theorem settle_cellar  : (settle s).cellar = s.cellar := by simp [settle]
@[simp] theorem settle_arch  : (settle s).arch = s.arch := by simp [settle]
@[simp] theorem settle_power  : (settle s).power = s.power := by simp [settle]
@[simp] theorem settle_leaf  : (settle s).leaf = s.leaf := by simp [settle]
@[simp] theorem settle_wire  : (settle s).wire = s.wire := by simp [settle]
@[simp] theorem settle_fresh  : (settle s).fresh = s.fresh := by simp [settle]
@[simp] theorem settle_pending  : (settle s).pending = s.pending := by simp [settle]

@[simp] theorem enterQueue_now (f : OwnFolio) : (enterQueue s f).now = s.now := by simp [enterQueue]
@[simp] theorem enterQueue_start (f : OwnFolio) : (enterQueue s f).start = s.start := by simp [enterQueue]
@[simp] theorem enterQueue_straps (f : OwnFolio) : (enterQueue s f).straps = s.straps := by simp [enterQueue]
@[simp] theorem enterQueue_mantel (f : OwnFolio) : (enterQueue s f).mantel = s.mantel := by simp [enterQueue]
@[simp] theorem enterQueue_screen (f : OwnFolio) : (enterQueue s f).screen = s.screen := by simp [enterQueue]
@[simp] theorem enterQueue_bindery (f : OwnFolio) : (enterQueue s f).bindery = s.bindery := by simp [enterQueue]
@[simp] theorem enterQueue_press (f : OwnFolio) : (enterQueue s f).press = s.press := by simp [enterQueue]
@[simp] theorem enterQueue_prot (f : OwnFolio) : (enterQueue s f).prot = s.prot := by simp [enterQueue]
@[simp] theorem enterQueue_coll (f : OwnFolio) : (enterQueue s f).coll = s.coll := by simp [enterQueue]
@[simp] theorem enterQueue_back (f : OwnFolio) : (enterQueue s f).back = s.back := by simp [enterQueue]
@[simp] theorem enterQueue_legacy (f : OwnFolio) : (enterQueue s f).legacy = s.legacy := by simp [enterQueue]
@[simp] theorem enterQueue_cellar (f : OwnFolio) : (enterQueue s f).cellar = s.cellar := by simp [enterQueue]
@[simp] theorem enterQueue_arch (f : OwnFolio) : (enterQueue s f).arch = s.arch := by simp [enterQueue]
@[simp] theorem enterQueue_power (f : OwnFolio) : (enterQueue s f).power = s.power := by simp [enterQueue]
@[simp] theorem enterQueue_leaf (f : OwnFolio) : (enterQueue s f).leaf = s.leaf := by simp [enterQueue]
@[simp] theorem enterQueue_wire (f : OwnFolio) : (enterQueue s f).wire = s.wire := by simp [enterQueue]
@[simp] theorem enterQueue_fresh (f : OwnFolio) : (enterQueue s f).fresh = s.fresh := by simp [enterQueue]
@[simp] theorem enterQueue_pending (f : OwnFolio) : (enterQueue s f).pending = s.pending := by simp [enterQueue]

@[simp] theorem queueOwn_now (f : OwnFolio) : (queueOwn s f).now = s.now := by unfold queueOwn; split <;> simp
@[simp] theorem queueOwn_start (f : OwnFolio) : (queueOwn s f).start = s.start := by unfold queueOwn; split <;> simp
@[simp] theorem queueOwn_straps (f : OwnFolio) : (queueOwn s f).straps = s.straps := by unfold queueOwn; split <;> simp
@[simp] theorem queueOwn_mantel (f : OwnFolio) : (queueOwn s f).mantel = s.mantel := by unfold queueOwn; split <;> simp
@[simp] theorem queueOwn_screen (f : OwnFolio) : (queueOwn s f).screen = s.screen := by unfold queueOwn; split <;> simp
@[simp] theorem queueOwn_bindery (f : OwnFolio) : (queueOwn s f).bindery = s.bindery := by unfold queueOwn; split <;> simp
@[simp] theorem queueOwn_press (f : OwnFolio) : (queueOwn s f).press = s.press := by unfold queueOwn; split <;> simp
@[simp] theorem queueOwn_prot (f : OwnFolio) : (queueOwn s f).prot = s.prot := by unfold queueOwn; split <;> simp
@[simp] theorem queueOwn_coll (f : OwnFolio) : (queueOwn s f).coll = s.coll := by unfold queueOwn; split <;> simp
@[simp] theorem queueOwn_back (f : OwnFolio) : (queueOwn s f).back = s.back := by unfold queueOwn; split <;> simp
@[simp] theorem queueOwn_legacy (f : OwnFolio) : (queueOwn s f).legacy = s.legacy := by unfold queueOwn; split <;> simp
@[simp] theorem queueOwn_cellar (f : OwnFolio) : (queueOwn s f).cellar = s.cellar := by unfold queueOwn; split <;> simp
@[simp] theorem queueOwn_arch (f : OwnFolio) : (queueOwn s f).arch = s.arch := by unfold queueOwn; split <;> simp
@[simp] theorem queueOwn_power (f : OwnFolio) : (queueOwn s f).power = s.power := by unfold queueOwn; split <;> simp
@[simp] theorem queueOwn_leaf (f : OwnFolio) : (queueOwn s f).leaf = s.leaf := by unfold queueOwn; split <;> simp
@[simp] theorem queueOwn_wire (f : OwnFolio) : (queueOwn s f).wire = s.wire := by unfold queueOwn; split <;> simp
@[simp] theorem queueOwn_fresh (f : OwnFolio) : (queueOwn s f).fresh = s.fresh := by unfold queueOwn; split <;> simp
@[simp] theorem queueOwn_pending (f : OwnFolio) : (queueOwn s f).pending = s.pending := by unfold queueOwn; split <;> simp

@[simp] theorem queueReport_now (t : Half) (p : List Byte) : (queueReport s t p).now = s.now := by simp [queueReport]
@[simp] theorem queueReport_start (t : Half) (p : List Byte) : (queueReport s t p).start = s.start := by simp [queueReport]
@[simp] theorem queueReport_straps (t : Half) (p : List Byte) : (queueReport s t p).straps = s.straps := by simp [queueReport]
@[simp] theorem queueReport_mantel (t : Half) (p : List Byte) : (queueReport s t p).mantel = s.mantel := by simp [queueReport]
@[simp] theorem queueReport_screen (t : Half) (p : List Byte) : (queueReport s t p).screen = s.screen := by simp [queueReport]
@[simp] theorem queueReport_bindery (t : Half) (p : List Byte) : (queueReport s t p).bindery = s.bindery := by simp [queueReport]
@[simp] theorem queueReport_press (t : Half) (p : List Byte) : (queueReport s t p).press = s.press := by simp [queueReport]
@[simp] theorem queueReport_prot (t : Half) (p : List Byte) : (queueReport s t p).prot = s.prot := by simp [queueReport]
@[simp] theorem queueReport_coll (t : Half) (p : List Byte) : (queueReport s t p).coll = s.coll := by simp [queueReport]
@[simp] theorem queueReport_back (t : Half) (p : List Byte) : (queueReport s t p).back = s.back := by simp [queueReport]
@[simp] theorem queueReport_legacy (t : Half) (p : List Byte) : (queueReport s t p).legacy = s.legacy := by simp [queueReport]
@[simp] theorem queueReport_cellar (t : Half) (p : List Byte) : (queueReport s t p).cellar = s.cellar := by simp [queueReport]
@[simp] theorem queueReport_arch (t : Half) (p : List Byte) : (queueReport s t p).arch = s.arch := by simp [queueReport]
@[simp] theorem queueReport_power (t : Half) (p : List Byte) : (queueReport s t p).power = s.power := by simp [queueReport]
@[simp] theorem queueReport_leaf (t : Half) (p : List Byte) : (queueReport s t p).leaf = s.leaf := by simp [queueReport]
@[simp] theorem queueReport_wire (t : Half) (p : List Byte) : (queueReport s t p).wire = s.wire := by simp [queueReport]
@[simp] theorem queueReport_fresh (t : Half) (p : List Byte) : (queueReport s t p).fresh = s.fresh := by simp [queueReport]
@[simp] theorem queueReport_pending (t : Half) (p : List Byte) : (queueReport s t p).pending = s.pending := by simp [queueReport]

@[simp] theorem queueSpl_now (t : Half) (p : List Byte) : (queueSpl s t p).now = s.now := by simp [queueSpl]
@[simp] theorem queueSpl_start (t : Half) (p : List Byte) : (queueSpl s t p).start = s.start := by simp [queueSpl]
@[simp] theorem queueSpl_straps (t : Half) (p : List Byte) : (queueSpl s t p).straps = s.straps := by simp [queueSpl]
@[simp] theorem queueSpl_mantel (t : Half) (p : List Byte) : (queueSpl s t p).mantel = s.mantel := by simp [queueSpl]
@[simp] theorem queueSpl_screen (t : Half) (p : List Byte) : (queueSpl s t p).screen = s.screen := by simp [queueSpl]
@[simp] theorem queueSpl_bindery (t : Half) (p : List Byte) : (queueSpl s t p).bindery = s.bindery := by simp [queueSpl]
@[simp] theorem queueSpl_press (t : Half) (p : List Byte) : (queueSpl s t p).press = s.press := by simp [queueSpl]
@[simp] theorem queueSpl_prot (t : Half) (p : List Byte) : (queueSpl s t p).prot = s.prot := by simp [queueSpl]
@[simp] theorem queueSpl_coll (t : Half) (p : List Byte) : (queueSpl s t p).coll = s.coll := by simp [queueSpl]
@[simp] theorem queueSpl_back (t : Half) (p : List Byte) : (queueSpl s t p).back = s.back := by simp [queueSpl]
@[simp] theorem queueSpl_legacy (t : Half) (p : List Byte) : (queueSpl s t p).legacy = s.legacy := by simp [queueSpl]
@[simp] theorem queueSpl_cellar (t : Half) (p : List Byte) : (queueSpl s t p).cellar = s.cellar := by simp [queueSpl]
@[simp] theorem queueSpl_arch (t : Half) (p : List Byte) : (queueSpl s t p).arch = s.arch := by simp [queueSpl]
@[simp] theorem queueSpl_power (t : Half) (p : List Byte) : (queueSpl s t p).power = s.power := by simp [queueSpl]
@[simp] theorem queueSpl_leaf (t : Half) (p : List Byte) : (queueSpl s t p).leaf = s.leaf := by simp [queueSpl]
@[simp] theorem queueSpl_wire (t : Half) (p : List Byte) : (queueSpl s t p).wire = s.wire := by simp [queueSpl]
@[simp] theorem queueSpl_fresh (t : Half) (p : List Byte) : (queueSpl s t p).fresh = s.fresh := by simp [queueSpl]
@[simp] theorem queueSpl_pending (t : Half) (p : List Byte) : (queueSpl s t p).pending = s.pending := by simp [queueSpl]

@[simp] theorem queueLink_now (w : Nat) : (queueLink s w).now = s.now := by simp [queueLink]
@[simp] theorem queueLink_start (w : Nat) : (queueLink s w).start = s.start := by simp [queueLink]
@[simp] theorem queueLink_straps (w : Nat) : (queueLink s w).straps = s.straps := by simp [queueLink]
@[simp] theorem queueLink_mantel (w : Nat) : (queueLink s w).mantel = s.mantel := by simp [queueLink]
@[simp] theorem queueLink_screen (w : Nat) : (queueLink s w).screen = s.screen := by simp [queueLink]
@[simp] theorem queueLink_bindery (w : Nat) : (queueLink s w).bindery = s.bindery := by simp [queueLink]
@[simp] theorem queueLink_press (w : Nat) : (queueLink s w).press = s.press := by simp [queueLink]
@[simp] theorem queueLink_prot (w : Nat) : (queueLink s w).prot = s.prot := by simp [queueLink]
@[simp] theorem queueLink_coll (w : Nat) : (queueLink s w).coll = s.coll := by simp [queueLink]
@[simp] theorem queueLink_back (w : Nat) : (queueLink s w).back = s.back := by simp [queueLink]
@[simp] theorem queueLink_legacy (w : Nat) : (queueLink s w).legacy = s.legacy := by simp [queueLink]
@[simp] theorem queueLink_cellar (w : Nat) : (queueLink s w).cellar = s.cellar := by simp [queueLink]
@[simp] theorem queueLink_arch (w : Nat) : (queueLink s w).arch = s.arch := by simp [queueLink]
@[simp] theorem queueLink_power (w : Nat) : (queueLink s w).power = s.power := by simp [queueLink]
@[simp] theorem queueLink_leaf (w : Nat) : (queueLink s w).leaf = s.leaf := by simp [queueLink]
@[simp] theorem queueLink_wire (w : Nat) : (queueLink s w).wire = s.wire := by simp [queueLink]
@[simp] theorem queueLink_fresh (w : Nat) : (queueLink s w).fresh = s.fresh := by simp [queueLink]
@[simp] theorem queueLink_pending (w : Nat) : (queueLink s w).pending = s.pending := by simp [queueLink]

@[simp] theorem queueAck_now (c : Half) (q : Word) (d : Bool) : (queueAck s c q d).now = s.now := by simp [queueAck]
@[simp] theorem queueAck_start (c : Half) (q : Word) (d : Bool) : (queueAck s c q d).start = s.start := by simp [queueAck]
@[simp] theorem queueAck_straps (c : Half) (q : Word) (d : Bool) : (queueAck s c q d).straps = s.straps := by simp [queueAck]
@[simp] theorem queueAck_mantel (c : Half) (q : Word) (d : Bool) : (queueAck s c q d).mantel = s.mantel := by simp [queueAck]
@[simp] theorem queueAck_screen (c : Half) (q : Word) (d : Bool) : (queueAck s c q d).screen = s.screen := by simp [queueAck]
@[simp] theorem queueAck_bindery (c : Half) (q : Word) (d : Bool) : (queueAck s c q d).bindery = s.bindery := by simp [queueAck]
@[simp] theorem queueAck_press (c : Half) (q : Word) (d : Bool) : (queueAck s c q d).press = s.press := by simp [queueAck]
@[simp] theorem queueAck_prot (c : Half) (q : Word) (d : Bool) : (queueAck s c q d).prot = s.prot := by simp [queueAck]
@[simp] theorem queueAck_coll (c : Half) (q : Word) (d : Bool) : (queueAck s c q d).coll = s.coll := by simp [queueAck]
@[simp] theorem queueAck_back (c : Half) (q : Word) (d : Bool) : (queueAck s c q d).back = s.back := by simp [queueAck]
@[simp] theorem queueAck_legacy (c : Half) (q : Word) (d : Bool) : (queueAck s c q d).legacy = s.legacy := by simp [queueAck]
@[simp] theorem queueAck_cellar (c : Half) (q : Word) (d : Bool) : (queueAck s c q d).cellar = s.cellar := by simp [queueAck]
@[simp] theorem queueAck_arch (c : Half) (q : Word) (d : Bool) : (queueAck s c q d).arch = s.arch := by simp [queueAck]
@[simp] theorem queueAck_power (c : Half) (q : Word) (d : Bool) : (queueAck s c q d).power = s.power := by simp [queueAck]
@[simp] theorem queueAck_leaf (c : Half) (q : Word) (d : Bool) : (queueAck s c q d).leaf = s.leaf := by simp [queueAck]
@[simp] theorem queueAck_wire (c : Half) (q : Word) (d : Bool) : (queueAck s c q d).wire = s.wire := by simp [queueAck]
@[simp] theorem queueAck_fresh (c : Half) (q : Word) (d : Bool) : (queueAck s c q d).fresh = s.fresh := by simp [queueAck]
@[simp] theorem queueAck_pending (c : Half) (q : Word) (d : Bool) : (queueAck s c q d).pending = s.pending := by simp [queueAck]

@[simp] theorem queueNack_now (c : Half) (q : Word) (r : Nat) : (queueNack s c q r).now = s.now := by simp [queueNack]
@[simp] theorem queueNack_start (c : Half) (q : Word) (r : Nat) : (queueNack s c q r).start = s.start := by simp [queueNack]
@[simp] theorem queueNack_straps (c : Half) (q : Word) (r : Nat) : (queueNack s c q r).straps = s.straps := by simp [queueNack]
@[simp] theorem queueNack_mantel (c : Half) (q : Word) (r : Nat) : (queueNack s c q r).mantel = s.mantel := by simp [queueNack]
@[simp] theorem queueNack_screen (c : Half) (q : Word) (r : Nat) : (queueNack s c q r).screen = s.screen := by simp [queueNack]
@[simp] theorem queueNack_bindery (c : Half) (q : Word) (r : Nat) : (queueNack s c q r).bindery = s.bindery := by simp [queueNack]
@[simp] theorem queueNack_press (c : Half) (q : Word) (r : Nat) : (queueNack s c q r).press = s.press := by simp [queueNack]
@[simp] theorem queueNack_prot (c : Half) (q : Word) (r : Nat) : (queueNack s c q r).prot = s.prot := by simp [queueNack]
@[simp] theorem queueNack_coll (c : Half) (q : Word) (r : Nat) : (queueNack s c q r).coll = s.coll := by simp [queueNack]
@[simp] theorem queueNack_back (c : Half) (q : Word) (r : Nat) : (queueNack s c q r).back = s.back := by simp [queueNack]
@[simp] theorem queueNack_legacy (c : Half) (q : Word) (r : Nat) : (queueNack s c q r).legacy = s.legacy := by simp [queueNack]
@[simp] theorem queueNack_cellar (c : Half) (q : Word) (r : Nat) : (queueNack s c q r).cellar = s.cellar := by simp [queueNack]
@[simp] theorem queueNack_arch (c : Half) (q : Word) (r : Nat) : (queueNack s c q r).arch = s.arch := by simp [queueNack]
@[simp] theorem queueNack_power (c : Half) (q : Word) (r : Nat) : (queueNack s c q r).power = s.power := by simp [queueNack]
@[simp] theorem queueNack_leaf (c : Half) (q : Word) (r : Nat) : (queueNack s c q r).leaf = s.leaf := by simp [queueNack]
@[simp] theorem queueNack_wire (c : Half) (q : Word) (r : Nat) : (queueNack s c q r).wire = s.wire := by simp [queueNack]
@[simp] theorem queueNack_fresh (c : Half) (q : Word) (r : Nat) : (queueNack s c q r).fresh = s.fresh := by simp [queueNack]
@[simp] theorem queueNack_pending (c : Half) (q : Word) (r : Nat) : (queueNack s c q r).pending = s.pending := by simp [queueNack]

@[simp] theorem watermark_larder_slots (b k : Nat) : (watermark b k s).larder.slots = s.larder.slots := rfl
@[simp] theorem watermark_larder_plates (b k : Nat) : (watermark b k s).larder.plates = s.larder.plates := rfl
@[simp] theorem watermark_larder_seamOnLight (b k : Nat) : (watermark b k s).larder.seamOnLight = s.larder.seamOnLight := rfl
@[simp] theorem watermark_larder_fstate (b k : Nat) : (watermark b k s).larder.fstate = s.larder.fstate := rfl
@[simp] theorem watermark_larder_feed (b k : Nat) : (watermark b k s).larder.feed = s.larder.feed := rfl
@[simp] theorem watermark_larder_feedSince (b k : Nat) : (watermark b k s).larder.feedSince = s.larder.feedSince := rfl
@[simp] theorem watermark_larder_feedStopped (b k : Nat) : (watermark b k s).larder.feedStopped = s.larder.feedStopped := rfl
@[simp] theorem watermark_larder_feedRestart (b k : Nat) : (watermark b k s).larder.feedRestart = s.larder.feedRestart := rfl
@[simp] theorem watermark_larder_lostAt (b k : Nat) : (watermark b k s).larder.lostAt = s.larder.lostAt := rfl
@[simp] theorem watermark_larder_holdEnded (b k : Nat) : (watermark b k s).larder.holdEnded = s.larder.holdEnded := rfl
@[simp] theorem watermark_larder_reports (b k : Nat) : (watermark b k s).larder.reports = s.larder.reports := rfl
@[simp] theorem watermark_larder_waiting (b k : Nat) : (watermark b k s).larder.waiting = s.larder.waiting := rfl
@[simp] theorem watermark_larder_events (b k : Nat) : (watermark b k s).larder.events = s.larder.events := rfl
@[simp] theorem watermark_larder_secHolds (b k : Nat) : (watermark b k s).larder.secHolds = s.larder.secHolds := rfl
@[simp] theorem watermark_larder_secSuperseded (b k : Nat) : (watermark b k s).larder.secSuperseded = s.larder.secSuperseded := rfl
@[simp] theorem watermark_larder_secLate (b k : Nat) : (watermark b k s).larder.secLate = s.larder.secLate := rfl
@[simp] theorem watermark_larder_delays (b k : Nat) : (watermark b k s).larder.delays = s.larder.delays := rfl
@[simp] theorem watermark_larder_delayBase (b k : Nat) : (watermark b k s).larder.delayBase = s.larder.delayBase := rfl
@[simp] theorem watermark_larder_lossSlateTold (b k : Nat) : (watermark b k s).larder.lossSlateTold = s.larder.lossSlateTold := rfl
@[simp] theorem watermark_larder_dropped (b k : Nat) : (watermark b k s).larder.dropped = s.larder.dropped := rfl
@[simp] theorem watermark_larder_badBankWords (b k : Nat) : (watermark b k s).larder.badBankWords = s.larder.badBankWords := rfl

@[simp] theorem queueEvent_larder_slots (e : EventRec) : (queueEvent s e).larder.slots = s.larder.slots := by unfold queueEvent; split <;> rfl
@[simp] theorem queueEvent_larder_plates (e : EventRec) : (queueEvent s e).larder.plates = s.larder.plates := by unfold queueEvent; split <;> rfl
@[simp] theorem queueEvent_larder_seamOnLight (e : EventRec) : (queueEvent s e).larder.seamOnLight = s.larder.seamOnLight := by unfold queueEvent; split <;> rfl
@[simp] theorem queueEvent_larder_fstate (e : EventRec) : (queueEvent s e).larder.fstate = s.larder.fstate := by unfold queueEvent; split <;> rfl
@[simp] theorem queueEvent_larder_feed (e : EventRec) : (queueEvent s e).larder.feed = s.larder.feed := by unfold queueEvent; split <;> rfl
@[simp] theorem queueEvent_larder_feedSince (e : EventRec) : (queueEvent s e).larder.feedSince = s.larder.feedSince := by unfold queueEvent; split <;> rfl
@[simp] theorem queueEvent_larder_feedStopped (e : EventRec) : (queueEvent s e).larder.feedStopped = s.larder.feedStopped := by unfold queueEvent; split <;> rfl
@[simp] theorem queueEvent_larder_feedRestart (e : EventRec) : (queueEvent s e).larder.feedRestart = s.larder.feedRestart := by unfold queueEvent; split <;> rfl
@[simp] theorem queueEvent_larder_lostAt (e : EventRec) : (queueEvent s e).larder.lostAt = s.larder.lostAt := by unfold queueEvent; split <;> rfl
@[simp] theorem queueEvent_larder_holdEnded (e : EventRec) : (queueEvent s e).larder.holdEnded = s.larder.holdEnded := by unfold queueEvent; split <;> rfl
@[simp] theorem queueEvent_larder_reports (e : EventRec) : (queueEvent s e).larder.reports = s.larder.reports := by unfold queueEvent; split <;> rfl
@[simp] theorem queueEvent_larder_waiting (e : EventRec) : (queueEvent s e).larder.waiting = s.larder.waiting := by unfold queueEvent; split <;> rfl
@[simp] theorem queueEvent_larder_secHolds (e : EventRec) : (queueEvent s e).larder.secHolds = s.larder.secHolds := by unfold queueEvent; split <;> rfl
@[simp] theorem queueEvent_larder_secSuperseded (e : EventRec) : (queueEvent s e).larder.secSuperseded = s.larder.secSuperseded := by unfold queueEvent; split <;> rfl
@[simp] theorem queueEvent_larder_secLate (e : EventRec) : (queueEvent s e).larder.secLate = s.larder.secLate := by unfold queueEvent; split <;> rfl
@[simp] theorem queueEvent_larder_delays (e : EventRec) : (queueEvent s e).larder.delays = s.larder.delays := by unfold queueEvent; split <;> rfl
@[simp] theorem queueEvent_larder_delayBase (e : EventRec) : (queueEvent s e).larder.delayBase = s.larder.delayBase := by unfold queueEvent; split <;> rfl
@[simp] theorem queueEvent_larder_lossSlateTold (e : EventRec) : (queueEvent s e).larder.lossSlateTold = s.larder.lossSlateTold := by unfold queueEvent; split <;> rfl
@[simp] theorem queueEvent_larder_dropped (e : EventRec) : (queueEvent s e).larder.dropped = s.larder.dropped := by unfold queueEvent; split <;> rfl
@[simp] theorem queueEvent_larder_badBankWords (e : EventRec) : (queueEvent s e).larder.badBankWords = s.larder.badBankWords := by unfold queueEvent; split <;> rfl

@[simp] theorem raiseAt_larder_slots (n : Nat) (c a : Half) (b : Word) : (raiseAt s n c a b).larder.slots = s.larder.slots := by simp [raiseAt]
@[simp] theorem raiseAt_larder_plates (n : Nat) (c a : Half) (b : Word) : (raiseAt s n c a b).larder.plates = s.larder.plates := by simp [raiseAt]
@[simp] theorem raiseAt_larder_seamOnLight (n : Nat) (c a : Half) (b : Word) : (raiseAt s n c a b).larder.seamOnLight = s.larder.seamOnLight := by simp [raiseAt]
@[simp] theorem raiseAt_larder_fstate (n : Nat) (c a : Half) (b : Word) : (raiseAt s n c a b).larder.fstate = s.larder.fstate := by simp [raiseAt]
@[simp] theorem raiseAt_larder_feed (n : Nat) (c a : Half) (b : Word) : (raiseAt s n c a b).larder.feed = s.larder.feed := by simp [raiseAt]
@[simp] theorem raiseAt_larder_feedSince (n : Nat) (c a : Half) (b : Word) : (raiseAt s n c a b).larder.feedSince = s.larder.feedSince := by simp [raiseAt]
@[simp] theorem raiseAt_larder_feedStopped (n : Nat) (c a : Half) (b : Word) : (raiseAt s n c a b).larder.feedStopped = s.larder.feedStopped := by simp [raiseAt]
@[simp] theorem raiseAt_larder_feedRestart (n : Nat) (c a : Half) (b : Word) : (raiseAt s n c a b).larder.feedRestart = s.larder.feedRestart := by simp [raiseAt]
@[simp] theorem raiseAt_larder_lostAt (n : Nat) (c a : Half) (b : Word) : (raiseAt s n c a b).larder.lostAt = s.larder.lostAt := by simp [raiseAt]
@[simp] theorem raiseAt_larder_holdEnded (n : Nat) (c a : Half) (b : Word) : (raiseAt s n c a b).larder.holdEnded = s.larder.holdEnded := by simp [raiseAt]
@[simp] theorem raiseAt_larder_reports (n : Nat) (c a : Half) (b : Word) : (raiseAt s n c a b).larder.reports = s.larder.reports := by simp [raiseAt]
@[simp] theorem raiseAt_larder_waiting (n : Nat) (c a : Half) (b : Word) : (raiseAt s n c a b).larder.waiting = s.larder.waiting := by simp [raiseAt]
@[simp] theorem raiseAt_larder_secHolds (n : Nat) (c a : Half) (b : Word) : (raiseAt s n c a b).larder.secHolds = s.larder.secHolds := by simp [raiseAt]
@[simp] theorem raiseAt_larder_secSuperseded (n : Nat) (c a : Half) (b : Word) : (raiseAt s n c a b).larder.secSuperseded = s.larder.secSuperseded := by simp [raiseAt]
@[simp] theorem raiseAt_larder_secLate (n : Nat) (c a : Half) (b : Word) : (raiseAt s n c a b).larder.secLate = s.larder.secLate := by simp [raiseAt]
@[simp] theorem raiseAt_larder_delays (n : Nat) (c a : Half) (b : Word) : (raiseAt s n c a b).larder.delays = s.larder.delays := by simp [raiseAt]
@[simp] theorem raiseAt_larder_delayBase (n : Nat) (c a : Half) (b : Word) : (raiseAt s n c a b).larder.delayBase = s.larder.delayBase := by simp [raiseAt]
@[simp] theorem raiseAt_larder_lossSlateTold (n : Nat) (c a : Half) (b : Word) : (raiseAt s n c a b).larder.lossSlateTold = s.larder.lossSlateTold := by simp [raiseAt]
@[simp] theorem raiseAt_larder_dropped (n : Nat) (c a : Half) (b : Word) : (raiseAt s n c a b).larder.dropped = s.larder.dropped := by simp [raiseAt]
@[simp] theorem raiseAt_larder_badBankWords (n : Nat) (c a : Half) (b : Word) : (raiseAt s n c a b).larder.badBankWords = s.larder.badBankWords := by simp [raiseAt]

@[simp] theorem raise_larder_slots (c a : Half) (b : Word) : (raise s c a b).larder.slots = s.larder.slots := by simp [raise]
@[simp] theorem raise_larder_plates (c a : Half) (b : Word) : (raise s c a b).larder.plates = s.larder.plates := by simp [raise]
@[simp] theorem raise_larder_seamOnLight (c a : Half) (b : Word) : (raise s c a b).larder.seamOnLight = s.larder.seamOnLight := by simp [raise]
@[simp] theorem raise_larder_fstate (c a : Half) (b : Word) : (raise s c a b).larder.fstate = s.larder.fstate := by simp [raise]
@[simp] theorem raise_larder_feed (c a : Half) (b : Word) : (raise s c a b).larder.feed = s.larder.feed := by simp [raise]
@[simp] theorem raise_larder_feedSince (c a : Half) (b : Word) : (raise s c a b).larder.feedSince = s.larder.feedSince := by simp [raise]
@[simp] theorem raise_larder_feedStopped (c a : Half) (b : Word) : (raise s c a b).larder.feedStopped = s.larder.feedStopped := by simp [raise]
@[simp] theorem raise_larder_feedRestart (c a : Half) (b : Word) : (raise s c a b).larder.feedRestart = s.larder.feedRestart := by simp [raise]
@[simp] theorem raise_larder_lostAt (c a : Half) (b : Word) : (raise s c a b).larder.lostAt = s.larder.lostAt := by simp [raise]
@[simp] theorem raise_larder_holdEnded (c a : Half) (b : Word) : (raise s c a b).larder.holdEnded = s.larder.holdEnded := by simp [raise]
@[simp] theorem raise_larder_reports (c a : Half) (b : Word) : (raise s c a b).larder.reports = s.larder.reports := by simp [raise]
@[simp] theorem raise_larder_waiting (c a : Half) (b : Word) : (raise s c a b).larder.waiting = s.larder.waiting := by simp [raise]
@[simp] theorem raise_larder_secHolds (c a : Half) (b : Word) : (raise s c a b).larder.secHolds = s.larder.secHolds := by simp [raise]
@[simp] theorem raise_larder_secSuperseded (c a : Half) (b : Word) : (raise s c a b).larder.secSuperseded = s.larder.secSuperseded := by simp [raise]
@[simp] theorem raise_larder_secLate (c a : Half) (b : Word) : (raise s c a b).larder.secLate = s.larder.secLate := by simp [raise]
@[simp] theorem raise_larder_delays (c a : Half) (b : Word) : (raise s c a b).larder.delays = s.larder.delays := by simp [raise]
@[simp] theorem raise_larder_delayBase (c a : Half) (b : Word) : (raise s c a b).larder.delayBase = s.larder.delayBase := by simp [raise]
@[simp] theorem raise_larder_lossSlateTold (c a : Half) (b : Word) : (raise s c a b).larder.lossSlateTold = s.larder.lossSlateTold := by simp [raise]
@[simp] theorem raise_larder_dropped (c a : Half) (b : Word) : (raise s c a b).larder.dropped = s.larder.dropped := by simp [raise]
@[simp] theorem raise_larder_badBankWords (c a : Half) (b : Word) : (raise s c a b).larder.badBankWords = s.larder.badBankWords := by simp [raise]

@[simp] theorem logEvent_arch_calibration (e : EventRec) : (logEvent s e).arch.calibration = s.arch.calibration := by simp only [logEvent, refuseBurst]; (repeat' split) <;> rfl
@[simp] theorem logEvent_arch_factory (e : EventRec) : (logEvent s e).arch.factory = s.arch.factory := by simp only [logEvent, refuseBurst]; (repeat' split) <;> rfl
@[simp] theorem logEvent_arch_slates (e : EventRec) : (logEvent s e).arch.slates = s.arch.slates := by simp only [logEvent, refuseBurst]; (repeat' split) <;> rfl
@[simp] theorem logEvent_arch_curves (e : EventRec) : (logEvent s e).arch.curves = s.arch.curves := by simp only [logEvent, refuseBurst]; (repeat' split) <;> rfl
@[simp] theorem logEvent_arch_patch (e : EventRec) : (logEvent s e).arch.patch = s.arch.patch := by simp only [logEvent, refuseBurst]; (repeat' split) <;> rfl
@[simp] theorem logEvent_arch_patchLoaded (e : EventRec) : (logEvent s e).arch.patchLoaded = s.arch.patchLoaded := by simp only [logEvent, refuseBurst]; (repeat' split) <;> rfl
@[simp] theorem logEvent_arch_patchIn (e : EventRec) : (logEvent s e).arch.patchIn = s.arch.patchIn := by simp only [logEvent, refuseBurst]; (repeat' split) <;> rfl
@[simp] theorem logEvent_arch_colophon (e : EventRec) : (logEvent s e).arch.colophon = s.arch.colophon := by simp only [logEvent, refuseBurst]; (repeat' split) <;> rfl
@[simp] theorem logEvent_arch_keys (e : EventRec) : (logEvent s e).arch.keys = s.arch.keys := by simp only [logEvent, refuseBurst]; (repeat' split) <;> rfl
@[simp] theorem logEvent_arch_prints (e : EventRec) : (logEvent s e).arch.prints = s.arch.prints := by simp only [logEvent, refuseBurst]; (repeat' split) <;> rfl
@[simp] theorem logEvent_arch_keysLost (e : EventRec) : (logEvent s e).arch.keysLost = s.arch.keysLost := by simp only [logEvent, refuseBurst]; (repeat' split) <;> rfl
@[simp] theorem logEvent_arch_shadow (e : EventRec) : (logEvent s e).arch.shadow = s.arch.shadow := by simp only [logEvent, refuseBurst]; (repeat' split) <;> rfl
@[simp] theorem logEvent_arch_transfer (e : EventRec) : (logEvent s e).arch.transfer = s.arch.transfer := by simp only [logEvent, refuseBurst]; (repeat' split) <;> rfl
@[simp] theorem logEvent_arch_copying (e : EventRec) : (logEvent s e).arch.copying = s.arch.copying := by simp only [logEvent, refuseBurst]; (repeat' split) <;> rfl
@[simp] theorem logEvent_arch_copyBegun (e : EventRec) : (logEvent s e).arch.copyBegun = s.arch.copyBegun := by simp only [logEvent, refuseBurst]; (repeat' split) <;> rfl
@[simp] theorem logEvent_arch_closing (e : EventRec) : (logEvent s e).arch.closing = s.arch.closing := by simp only [logEvent, refuseBurst]; (repeat' split) <;> rfl
@[simp] theorem logEvent_arch_standing (e : EventRec) : (logEvent s e).arch.standing = s.arch.standing := by simp only [logEvent, refuseBurst]; (repeat' split) <;> rfl
@[simp] theorem logEvent_arch_pin (e : EventRec) : (logEvent s e).arch.pin = s.arch.pin := by simp only [logEvent, refuseBurst]; (repeat' split) <;> rfl
@[simp] theorem logEvent_arch_tolUs (e : EventRec) : (logEvent s e).arch.tolUs = s.arch.tolUs := by simp only [logEvent, refuseBurst]; (repeat' split) <;> rfl
@[simp] theorem logEvent_arch_delayUs (e : EventRec) : (logEvent s e).arch.delayUs = s.arch.delayUs := by simp only [logEvent, refuseBurst]; (repeat' split) <;> rfl
@[simp] theorem logEvent_arch_source (e : EventRec) : (logEvent s e).arch.source = s.arch.source := by simp only [logEvent, refuseBurst]; (repeat' split) <;> rfl
@[simp] theorem logEvent_arch_asymEast (e : EventRec) : (logEvent s e).arch.asymEast = s.arch.asymEast := by simp only [logEvent, refuseBurst]; (repeat' split) <;> rfl
@[simp] theorem logEvent_arch_asymWest (e : EventRec) : (logEvent s e).arch.asymWest = s.arch.asymWest := by simp only [logEvent, refuseBurst]; (repeat' split) <;> rfl
@[simp] theorem logEvent_arch_audit (e : EventRec) : (logEvent s e).arch.audit = s.arch.audit := by simp only [logEvent, refuseBurst]; (repeat' split) <;> rfl
@[simp] theorem logEvent_arch_auditNext (e : EventRec) : (logEvent s e).arch.auditNext = s.arch.auditNext := by simp only [logEvent, refuseBurst]; (repeat' split) <;> rfl
@[simp] theorem logEvent_arch_mapRecords (e : EventRec) : (logEvent s e).arch.mapRecords = s.arch.mapRecords := by simp only [logEvent, refuseBurst]; (repeat' split) <;> rfl
@[simp] theorem logEvent_arch_disabled (e : EventRec) : (logEvent s e).arch.disabled = s.arch.disabled := by simp only [logEvent, refuseBurst]; (repeat' split) <;> rfl
@[simp] theorem logEvent_arch_defectCounts (e : EventRec) : (logEvent s e).arch.defectCounts = s.arch.defectCounts := by simp only [logEvent, refuseBurst]; (repeat' split) <;> rfl
@[simp] theorem logEvent_arch_label (e : EventRec) : (logEvent s e).arch.label = s.arch.label := by simp only [logEvent, refuseBurst]; (repeat' split) <;> rfl
@[simp] theorem logEvent_arch_secondsPowered (e : EventRec) : (logEvent s e).arch.secondsPowered = s.arch.secondsPowered := by simp only [logEvent, refuseBurst]; (repeat' split) <;> rfl
@[simp] theorem logEvent_arch_secondsLit (e : EventRec) : (logEvent s e).arch.secondsLit = s.arch.secondsLit := by simp only [logEvent, refuseBurst]; (repeat' split) <;> rfl
@[simp] theorem logEvent_arch_poweredFrom (e : EventRec) : (logEvent s e).arch.poweredFrom = s.arch.poweredFrom := by simp only [logEvent, refuseBurst]; (repeat' split) <;> rfl
@[simp] theorem logEvent_arch_litFrom (e : EventRec) : (logEvent s e).arch.litFrom = s.arch.litFrom := by simp only [logEvent, refuseBurst]; (repeat' split) <;> rfl
@[simp] theorem logEvent_arch_litNs (e : EventRec) : (logEvent s e).arch.litNs = s.arch.litNs := by simp only [logEvent, refuseBurst]; (repeat' split) <;> rfl
@[simp] theorem logEvent_arch_powerCycles (e : EventRec) : (logEvent s e).arch.powerCycles = s.arch.powerCycles := by simp only [logEvent, refuseBurst]; (repeat' split) <;> rfl
@[simp] theorem logEvent_arch_rtcAtPersist (e : EventRec) : (logEvent s e).arch.rtcAtPersist = s.arch.rtcAtPersist := by simp only [logEvent, refuseBurst]; (repeat' split) <;> rfl
@[simp] theorem logEvent_arch_wear (e : EventRec) : (logEvent s e).arch.wear = s.arch.wear := by simp only [logEvent, refuseBurst]; (repeat' split) <;> rfl
@[simp] theorem logEvent_arch_wearRest (e : EventRec) : (logEvent s e).arch.wearRest = s.arch.wearRest := by simp only [logEvent, refuseBurst]; (repeat' split) <;> rfl
@[simp] theorem logEvent_arch_wearSaved (e : EventRec) : (logEvent s e).arch.wearSaved = s.arch.wearSaved := by simp only [logEvent, refuseBurst]; (repeat' split) <;> rfl
@[simp] theorem logEvent_arch_wearOld (e : EventRec) : (logEvent s e).arch.wearOld = s.arch.wearOld := by simp only [logEvent, refuseBurst]; (repeat' split) <;> rfl
@[simp] theorem logEvent_arch_persistEnd (e : EventRec) : (logEvent s e).arch.persistEnd = s.arch.persistEnd := by simp only [logEvent, refuseBurst]; (repeat' split) <;> rfl
@[simp] theorem logEvent_arch_hourDone (e : EventRec) : (logEvent s e).arch.hourDone = s.arch.hourDone := by simp only [logEvent, refuseBurst]; (repeat' split) <;> rfl
@[simp] theorem logEvent_arch_badWords (e : EventRec) : (logEvent s e).arch.badWords = s.arch.badWords := by simp only [logEvent, refuseBurst]; (repeat' split) <;> rfl
@[simp] theorem logEvent_arch_badAtStart (e : EventRec) : (logEvent s e).arch.badAtStart = s.arch.badAtStart := by simp only [logEvent, refuseBurst]; (repeat' split) <;> rfl
@[simp] theorem logEvent_arch_legacySaved (e : EventRec) : (logEvent s e).arch.legacySaved = s.arch.legacySaved := by simp only [logEvent, refuseBurst]; (repeat' split) <;> rfl

@[simp] theorem raiseAt_arch_calibration (n : Nat) (c a : Half) (b : Word) : (raiseAt s n c a b).arch.calibration = s.arch.calibration := by simp [raiseAt]
@[simp] theorem raiseAt_arch_factory (n : Nat) (c a : Half) (b : Word) : (raiseAt s n c a b).arch.factory = s.arch.factory := by simp [raiseAt]
@[simp] theorem raiseAt_arch_slates (n : Nat) (c a : Half) (b : Word) : (raiseAt s n c a b).arch.slates = s.arch.slates := by simp [raiseAt]
@[simp] theorem raiseAt_arch_curves (n : Nat) (c a : Half) (b : Word) : (raiseAt s n c a b).arch.curves = s.arch.curves := by simp [raiseAt]
@[simp] theorem raiseAt_arch_patch (n : Nat) (c a : Half) (b : Word) : (raiseAt s n c a b).arch.patch = s.arch.patch := by simp [raiseAt]
@[simp] theorem raiseAt_arch_patchLoaded (n : Nat) (c a : Half) (b : Word) : (raiseAt s n c a b).arch.patchLoaded = s.arch.patchLoaded := by simp [raiseAt]
@[simp] theorem raiseAt_arch_patchIn (n : Nat) (c a : Half) (b : Word) : (raiseAt s n c a b).arch.patchIn = s.arch.patchIn := by simp [raiseAt]
@[simp] theorem raiseAt_arch_colophon (n : Nat) (c a : Half) (b : Word) : (raiseAt s n c a b).arch.colophon = s.arch.colophon := by simp [raiseAt]
@[simp] theorem raiseAt_arch_keys (n : Nat) (c a : Half) (b : Word) : (raiseAt s n c a b).arch.keys = s.arch.keys := by simp [raiseAt]
@[simp] theorem raiseAt_arch_prints (n : Nat) (c a : Half) (b : Word) : (raiseAt s n c a b).arch.prints = s.arch.prints := by simp [raiseAt]
@[simp] theorem raiseAt_arch_keysLost (n : Nat) (c a : Half) (b : Word) : (raiseAt s n c a b).arch.keysLost = s.arch.keysLost := by simp [raiseAt]
@[simp] theorem raiseAt_arch_shadow (n : Nat) (c a : Half) (b : Word) : (raiseAt s n c a b).arch.shadow = s.arch.shadow := by simp [raiseAt]
@[simp] theorem raiseAt_arch_transfer (n : Nat) (c a : Half) (b : Word) : (raiseAt s n c a b).arch.transfer = s.arch.transfer := by simp [raiseAt]
@[simp] theorem raiseAt_arch_copying (n : Nat) (c a : Half) (b : Word) : (raiseAt s n c a b).arch.copying = s.arch.copying := by simp [raiseAt]
@[simp] theorem raiseAt_arch_copyBegun (n : Nat) (c a : Half) (b : Word) : (raiseAt s n c a b).arch.copyBegun = s.arch.copyBegun := by simp [raiseAt]
@[simp] theorem raiseAt_arch_closing (n : Nat) (c a : Half) (b : Word) : (raiseAt s n c a b).arch.closing = s.arch.closing := by simp [raiseAt]
@[simp] theorem raiseAt_arch_standing (n : Nat) (c a : Half) (b : Word) : (raiseAt s n c a b).arch.standing = s.arch.standing := by simp [raiseAt]
@[simp] theorem raiseAt_arch_pin (n : Nat) (c a : Half) (b : Word) : (raiseAt s n c a b).arch.pin = s.arch.pin := by simp [raiseAt]
@[simp] theorem raiseAt_arch_tolUs (n : Nat) (c a : Half) (b : Word) : (raiseAt s n c a b).arch.tolUs = s.arch.tolUs := by simp [raiseAt]
@[simp] theorem raiseAt_arch_delayUs (n : Nat) (c a : Half) (b : Word) : (raiseAt s n c a b).arch.delayUs = s.arch.delayUs := by simp [raiseAt]
@[simp] theorem raiseAt_arch_source (n : Nat) (c a : Half) (b : Word) : (raiseAt s n c a b).arch.source = s.arch.source := by simp [raiseAt]
@[simp] theorem raiseAt_arch_asymEast (n : Nat) (c a : Half) (b : Word) : (raiseAt s n c a b).arch.asymEast = s.arch.asymEast := by simp [raiseAt]
@[simp] theorem raiseAt_arch_asymWest (n : Nat) (c a : Half) (b : Word) : (raiseAt s n c a b).arch.asymWest = s.arch.asymWest := by simp [raiseAt]
@[simp] theorem raiseAt_arch_audit (n : Nat) (c a : Half) (b : Word) : (raiseAt s n c a b).arch.audit = s.arch.audit := by simp [raiseAt]
@[simp] theorem raiseAt_arch_auditNext (n : Nat) (c a : Half) (b : Word) : (raiseAt s n c a b).arch.auditNext = s.arch.auditNext := by simp [raiseAt]
@[simp] theorem raiseAt_arch_mapRecords (n : Nat) (c a : Half) (b : Word) : (raiseAt s n c a b).arch.mapRecords = s.arch.mapRecords := by simp [raiseAt]
@[simp] theorem raiseAt_arch_disabled (n : Nat) (c a : Half) (b : Word) : (raiseAt s n c a b).arch.disabled = s.arch.disabled := by simp [raiseAt]
@[simp] theorem raiseAt_arch_defectCounts (n : Nat) (c a : Half) (b : Word) : (raiseAt s n c a b).arch.defectCounts = s.arch.defectCounts := by simp [raiseAt]
@[simp] theorem raiseAt_arch_label (n : Nat) (c a : Half) (b : Word) : (raiseAt s n c a b).arch.label = s.arch.label := by simp [raiseAt]
@[simp] theorem raiseAt_arch_secondsPowered (n : Nat) (c a : Half) (b : Word) : (raiseAt s n c a b).arch.secondsPowered = s.arch.secondsPowered := by simp [raiseAt]
@[simp] theorem raiseAt_arch_secondsLit (n : Nat) (c a : Half) (b : Word) : (raiseAt s n c a b).arch.secondsLit = s.arch.secondsLit := by simp [raiseAt]
@[simp] theorem raiseAt_arch_poweredFrom (n : Nat) (c a : Half) (b : Word) : (raiseAt s n c a b).arch.poweredFrom = s.arch.poweredFrom := by simp [raiseAt]
@[simp] theorem raiseAt_arch_litFrom (n : Nat) (c a : Half) (b : Word) : (raiseAt s n c a b).arch.litFrom = s.arch.litFrom := by simp [raiseAt]
@[simp] theorem raiseAt_arch_litNs (n : Nat) (c a : Half) (b : Word) : (raiseAt s n c a b).arch.litNs = s.arch.litNs := by simp [raiseAt]
@[simp] theorem raiseAt_arch_powerCycles (n : Nat) (c a : Half) (b : Word) : (raiseAt s n c a b).arch.powerCycles = s.arch.powerCycles := by simp [raiseAt]
@[simp] theorem raiseAt_arch_rtcAtPersist (n : Nat) (c a : Half) (b : Word) : (raiseAt s n c a b).arch.rtcAtPersist = s.arch.rtcAtPersist := by simp [raiseAt]
@[simp] theorem raiseAt_arch_wear (n : Nat) (c a : Half) (b : Word) : (raiseAt s n c a b).arch.wear = s.arch.wear := by simp [raiseAt]
@[simp] theorem raiseAt_arch_wearRest (n : Nat) (c a : Half) (b : Word) : (raiseAt s n c a b).arch.wearRest = s.arch.wearRest := by simp [raiseAt]
@[simp] theorem raiseAt_arch_wearSaved (n : Nat) (c a : Half) (b : Word) : (raiseAt s n c a b).arch.wearSaved = s.arch.wearSaved := by simp [raiseAt]
@[simp] theorem raiseAt_arch_wearOld (n : Nat) (c a : Half) (b : Word) : (raiseAt s n c a b).arch.wearOld = s.arch.wearOld := by simp [raiseAt]
@[simp] theorem raiseAt_arch_persistEnd (n : Nat) (c a : Half) (b : Word) : (raiseAt s n c a b).arch.persistEnd = s.arch.persistEnd := by simp [raiseAt]
@[simp] theorem raiseAt_arch_hourDone (n : Nat) (c a : Half) (b : Word) : (raiseAt s n c a b).arch.hourDone = s.arch.hourDone := by simp [raiseAt]
@[simp] theorem raiseAt_arch_badWords (n : Nat) (c a : Half) (b : Word) : (raiseAt s n c a b).arch.badWords = s.arch.badWords := by simp [raiseAt]
@[simp] theorem raiseAt_arch_badAtStart (n : Nat) (c a : Half) (b : Word) : (raiseAt s n c a b).arch.badAtStart = s.arch.badAtStart := by simp [raiseAt]
@[simp] theorem raiseAt_arch_legacySaved (n : Nat) (c a : Half) (b : Word) : (raiseAt s n c a b).arch.legacySaved = s.arch.legacySaved := by simp [raiseAt]

@[simp] theorem raise_arch_calibration (c a : Half) (b : Word) : (raise s c a b).arch.calibration = s.arch.calibration := by simp [raise]
@[simp] theorem raise_arch_factory (c a : Half) (b : Word) : (raise s c a b).arch.factory = s.arch.factory := by simp [raise]
@[simp] theorem raise_arch_slates (c a : Half) (b : Word) : (raise s c a b).arch.slates = s.arch.slates := by simp [raise]
@[simp] theorem raise_arch_curves (c a : Half) (b : Word) : (raise s c a b).arch.curves = s.arch.curves := by simp [raise]
@[simp] theorem raise_arch_patch (c a : Half) (b : Word) : (raise s c a b).arch.patch = s.arch.patch := by simp [raise]
@[simp] theorem raise_arch_patchLoaded (c a : Half) (b : Word) : (raise s c a b).arch.patchLoaded = s.arch.patchLoaded := by simp [raise]
@[simp] theorem raise_arch_patchIn (c a : Half) (b : Word) : (raise s c a b).arch.patchIn = s.arch.patchIn := by simp [raise]
@[simp] theorem raise_arch_colophon (c a : Half) (b : Word) : (raise s c a b).arch.colophon = s.arch.colophon := by simp [raise]
@[simp] theorem raise_arch_keys (c a : Half) (b : Word) : (raise s c a b).arch.keys = s.arch.keys := by simp [raise]
@[simp] theorem raise_arch_prints (c a : Half) (b : Word) : (raise s c a b).arch.prints = s.arch.prints := by simp [raise]
@[simp] theorem raise_arch_keysLost (c a : Half) (b : Word) : (raise s c a b).arch.keysLost = s.arch.keysLost := by simp [raise]
@[simp] theorem raise_arch_shadow (c a : Half) (b : Word) : (raise s c a b).arch.shadow = s.arch.shadow := by simp [raise]
@[simp] theorem raise_arch_transfer (c a : Half) (b : Word) : (raise s c a b).arch.transfer = s.arch.transfer := by simp [raise]
@[simp] theorem raise_arch_copying (c a : Half) (b : Word) : (raise s c a b).arch.copying = s.arch.copying := by simp [raise]
@[simp] theorem raise_arch_copyBegun (c a : Half) (b : Word) : (raise s c a b).arch.copyBegun = s.arch.copyBegun := by simp [raise]
@[simp] theorem raise_arch_closing (c a : Half) (b : Word) : (raise s c a b).arch.closing = s.arch.closing := by simp [raise]
@[simp] theorem raise_arch_standing (c a : Half) (b : Word) : (raise s c a b).arch.standing = s.arch.standing := by simp [raise]
@[simp] theorem raise_arch_pin (c a : Half) (b : Word) : (raise s c a b).arch.pin = s.arch.pin := by simp [raise]
@[simp] theorem raise_arch_tolUs (c a : Half) (b : Word) : (raise s c a b).arch.tolUs = s.arch.tolUs := by simp [raise]
@[simp] theorem raise_arch_delayUs (c a : Half) (b : Word) : (raise s c a b).arch.delayUs = s.arch.delayUs := by simp [raise]
@[simp] theorem raise_arch_source (c a : Half) (b : Word) : (raise s c a b).arch.source = s.arch.source := by simp [raise]
@[simp] theorem raise_arch_asymEast (c a : Half) (b : Word) : (raise s c a b).arch.asymEast = s.arch.asymEast := by simp [raise]
@[simp] theorem raise_arch_asymWest (c a : Half) (b : Word) : (raise s c a b).arch.asymWest = s.arch.asymWest := by simp [raise]
@[simp] theorem raise_arch_audit (c a : Half) (b : Word) : (raise s c a b).arch.audit = s.arch.audit := by simp [raise]
@[simp] theorem raise_arch_auditNext (c a : Half) (b : Word) : (raise s c a b).arch.auditNext = s.arch.auditNext := by simp [raise]
@[simp] theorem raise_arch_mapRecords (c a : Half) (b : Word) : (raise s c a b).arch.mapRecords = s.arch.mapRecords := by simp [raise]
@[simp] theorem raise_arch_disabled (c a : Half) (b : Word) : (raise s c a b).arch.disabled = s.arch.disabled := by simp [raise]
@[simp] theorem raise_arch_defectCounts (c a : Half) (b : Word) : (raise s c a b).arch.defectCounts = s.arch.defectCounts := by simp [raise]
@[simp] theorem raise_arch_label (c a : Half) (b : Word) : (raise s c a b).arch.label = s.arch.label := by simp [raise]
@[simp] theorem raise_arch_secondsPowered (c a : Half) (b : Word) : (raise s c a b).arch.secondsPowered = s.arch.secondsPowered := by simp [raise]
@[simp] theorem raise_arch_secondsLit (c a : Half) (b : Word) : (raise s c a b).arch.secondsLit = s.arch.secondsLit := by simp [raise]
@[simp] theorem raise_arch_poweredFrom (c a : Half) (b : Word) : (raise s c a b).arch.poweredFrom = s.arch.poweredFrom := by simp [raise]
@[simp] theorem raise_arch_litFrom (c a : Half) (b : Word) : (raise s c a b).arch.litFrom = s.arch.litFrom := by simp [raise]
@[simp] theorem raise_arch_litNs (c a : Half) (b : Word) : (raise s c a b).arch.litNs = s.arch.litNs := by simp [raise]
@[simp] theorem raise_arch_powerCycles (c a : Half) (b : Word) : (raise s c a b).arch.powerCycles = s.arch.powerCycles := by simp [raise]
@[simp] theorem raise_arch_rtcAtPersist (c a : Half) (b : Word) : (raise s c a b).arch.rtcAtPersist = s.arch.rtcAtPersist := by simp [raise]
@[simp] theorem raise_arch_wear (c a : Half) (b : Word) : (raise s c a b).arch.wear = s.arch.wear := by simp [raise]
@[simp] theorem raise_arch_wearRest (c a : Half) (b : Word) : (raise s c a b).arch.wearRest = s.arch.wearRest := by simp [raise]
@[simp] theorem raise_arch_wearSaved (c a : Half) (b : Word) : (raise s c a b).arch.wearSaved = s.arch.wearSaved := by simp [raise]
@[simp] theorem raise_arch_wearOld (c a : Half) (b : Word) : (raise s c a b).arch.wearOld = s.arch.wearOld := by simp [raise]
@[simp] theorem raise_arch_persistEnd (c a : Half) (b : Word) : (raise s c a b).arch.persistEnd = s.arch.persistEnd := by simp [raise]
@[simp] theorem raise_arch_hourDone (c a : Half) (b : Word) : (raise s c a b).arch.hourDone = s.arch.hourDone := by simp [raise]
@[simp] theorem raise_arch_badWords (c a : Half) (b : Word) : (raise s c a b).arch.badWords = s.arch.badWords := by simp [raise]
@[simp] theorem raise_arch_badAtStart (c a : Half) (b : Word) : (raise s c a b).arch.badAtStart = s.arch.badAtStart := by simp [raise]
@[simp] theorem raise_arch_legacySaved (c a : Half) (b : Word) : (raise s c a b).arch.legacySaved = s.arch.legacySaved := by simp [raise]

@[simp] theorem settle_spine_mergeMem  : (settle s).spine.mergeMem = s.spine.mergeMem := by simp [settle]
@[simp] theorem settle_spine_bypHold  : (settle s).spine.bypHold = s.spine.bypHold := by simp [settle]
@[simp] theorem settle_spine_pllLocked  : (settle s).spine.pllLocked = s.spine.pllLocked := by simp [settle]
@[simp] theorem settle_spine_selfTestPassed  : (settle s).spine.selfTestPassed = s.spine.selfTestPassed := by simp [settle]
@[simp] theorem settle_spine_selfTestFailed  : (settle s).spine.selfTestFailed = s.spine.selfTestFailed := by simp [settle]
@[simp] theorem settle_spine_internalSelfTest  : (settle s).spine.internalSelfTest = s.spine.internalSelfTest := by simp [settle]
@[simp] theorem settle_spine_senseDue  : (settle s).spine.senseDue = s.spine.senseDue := by simp [settle]
@[simp] theorem settle_spine_switchRetries  : (settle s).spine.switchRetries = s.spine.switchRetries := by simp [settle]
@[simp] theorem settle_spine_retryDue  : (settle s).spine.retryDue = s.spine.retryDue := by simp [settle]
@[simp] theorem settle_spine_switchFailed  : (settle s).spine.switchFailed = s.spine.switchFailed := by simp [settle]
@[simp] theorem settle_spine_stuck  : (settle s).spine.stuck = s.spine.stuck := by simp [settle]
@[simp] theorem settle_spine_switchFaultSeen  : (settle s).spine.switchFaultSeen = s.spine.switchFaultSeen := by simp [settle]
@[simp] theorem settle_spine_switchFaultsLogged  : (settle s).spine.switchFaultsLogged = s.spine.switchFaultsLogged := by simp [settle]
@[simp] theorem settle_spine_ringMap  : (settle s).spine.ringMap = s.spine.ringMap := by simp [settle]
@[simp] theorem settle_spine_leaveWin  : (settle s).spine.leaveWin = s.spine.leaveWin := by simp [settle]
@[simp] theorem settle_spine_returnWin  : (settle s).spine.returnWin = s.spine.returnWin := by simp [settle]
@[simp] theorem settle_spine_watched  : (settle s).spine.watched = s.spine.watched := by simp [settle]
@[simp] theorem settle_spine_leftAt  : (settle s).spine.leftAt = s.spine.leftAt := by simp [settle]
@[simp] theorem settle_spine_selfTestDue  : (settle s).spine.selfTestDue = s.spine.selfTestDue := by simp [settle]
@[simp] theorem settle_spine_splSeen  : (settle s).spine.splSeen = s.spine.splSeen := by simp [settle]
@[simp] theorem settle_spine_malformed  : (settle s).spine.malformed = s.spine.malformed := by simp [settle]
@[simp] theorem settle_spine_collisionReported  : (settle s).spine.collisionReported = s.spine.collisionReported := by simp [settle]
@[simp] theorem settle_spine_earlyQuires  : (settle s).spine.earlyQuires = s.spine.earlyQuires := by simp [settle]
@[simp] theorem settle_spine_ctlQueue  : (settle s).spine.ctlQueue = s.spine.ctlQueue := by simp [settle]
@[simp] theorem settle_spine_sigCopied  : (settle s).spine.sigCopied = s.spine.sigCopied := by simp [settle]
@[simp] theorem settle_spine_lastQuire  : (settle s).spine.lastQuire = s.spine.lastQuire := by simp [settle]

@[simp] theorem settle_larder_slots  : (settle s).larder.slots = s.larder.slots := by simp [settle]
@[simp] theorem settle_larder_plates  : (settle s).larder.plates = s.larder.plates := by simp [settle]
@[simp] theorem settle_larder_seamOnLight  : (settle s).larder.seamOnLight = s.larder.seamOnLight := by simp [settle]
@[simp] theorem settle_larder_fstate  : (settle s).larder.fstate = s.larder.fstate := by simp [settle]
@[simp] theorem settle_larder_feed  : (settle s).larder.feed = s.larder.feed := by simp [settle]
@[simp] theorem settle_larder_feedSince  : (settle s).larder.feedSince = s.larder.feedSince := by simp [settle]
@[simp] theorem settle_larder_feedStopped  : (settle s).larder.feedStopped = s.larder.feedStopped := by simp [settle]
@[simp] theorem settle_larder_feedRestart  : (settle s).larder.feedRestart = s.larder.feedRestart := by simp [settle]
@[simp] theorem settle_larder_lostAt  : (settle s).larder.lostAt = s.larder.lostAt := by simp [settle]
@[simp] theorem settle_larder_holdEnded  : (settle s).larder.holdEnded = s.larder.holdEnded := by simp [settle]
@[simp] theorem settle_larder_waiting  : (settle s).larder.waiting = s.larder.waiting := by simp [settle]
@[simp] theorem settle_larder_events  : (settle s).larder.events = s.larder.events := by simp [settle]
@[simp] theorem settle_larder_waters  : (settle s).larder.waters = s.larder.waters := by simp [settle]
@[simp] theorem settle_larder_counts  : (settle s).larder.counts = s.larder.counts := by simp [settle]
@[simp] theorem settle_larder_secHolds  : (settle s).larder.secHolds = s.larder.secHolds := by simp [settle]
@[simp] theorem settle_larder_secSuperseded  : (settle s).larder.secSuperseded = s.larder.secSuperseded := by simp [settle]
@[simp] theorem settle_larder_secLate  : (settle s).larder.secLate = s.larder.secLate := by simp [settle]
@[simp] theorem settle_larder_delays  : (settle s).larder.delays = s.larder.delays := by simp [settle]
@[simp] theorem settle_larder_delayBase  : (settle s).larder.delayBase = s.larder.delayBase := by simp [settle]
@[simp] theorem settle_larder_lossSlateTold  : (settle s).larder.lossSlateTold = s.larder.lossSlateTold := by simp [settle]
@[simp] theorem settle_larder_dropped  : (settle s).larder.dropped = s.larder.dropped := by simp [settle]
@[simp] theorem settle_larder_badBankWords  : (settle s).larder.badBankWords = s.larder.badBankWords := by simp [settle]

@[simp] theorem settle_port_st  (x : Port) : (getPort (settle s) x).st = (getPort s x).st := by cases x <;> rfl
@[simp] theorem settle_port_since  (x : Port) : (getPort (settle s) x).since = (getPort s x).since := by cases x <;> rfl
@[simp] theorem settle_port_fastUntil  (x : Port) : (getPort (settle s) x).fastUntil = (getPort s x).fastUntil := by cases x <;> rfl
@[simp] theorem settle_port_fastNow  (x : Port) : (getPort (settle s) x).fastNow = (getPort s x).fastNow := by cases x <;> rfl
@[simp] theorem settle_port_twoLanes  (x : Port) : (getPort (settle s) x).twoLanes = (getPort s x).twoLanes := by cases x <;> rfl
@[simp] theorem settle_port_laneMismatch  (x : Port) : (getPort (settle s) x).laneMismatch = (getPort s x).laneMismatch := by cases x <;> rfl
@[simp] theorem settle_port_rateSuspected  (x : Port) : (getPort (settle s) x).rateSuspected = (getPort s x).rateSuspected := by cases x <;> rfl
@[simp] theorem settle_port_degraded  (x : Port) : (getPort (settle s) x).degraded = (getPort s x).degraded := by cases x <;> rfl
@[simp] theorem settle_port_nbrLow  (x : Port) : (getPort (settle s) x).nbrLow = (getPort s x).nbrLow := by cases x <;> rfl
@[simp] theorem settle_port_nbrSerial  (x : Port) : (getPort (settle s) x).nbrSerial = (getPort s x).nbrSerial := by cases x <;> rfl
@[simp] theorem settle_port_windowEnd  (x : Port) : (getPort (settle s) x).windowEnd = (getPort s x).windowEnd := by cases x <;> rfl
@[simp] theorem settle_port_inWindow  (x : Port) : (getPort (settle s) x).inWindow = (getPort s x).inWindow := by cases x <;> rfl
@[simp] theorem settle_port_outageUs  (x : Port) : (getPort (settle s) x).outageUs = (getPort s x).outageUs := by cases x <;> rfl
@[simp] theorem settle_port_downAt  (x : Port) : (getPort (settle s) x).downAt = (getPort s x).downAt := by cases x <;> rfl
@[simp] theorem settle_port_crcThisSecond  (x : Port) : (getPort (settle s) x).crcThisSecond = (getPort s x).crcThisSecond := by cases x <;> rfl
@[simp] theorem settle_port_crcLastSecond  (x : Port) : (getPort (settle s) x).crcLastSecond = (getPort s x).crcLastSecond := by cases x <;> rfl
@[simp] theorem settle_port_nextIdent  (x : Port) : (getPort (settle s) x).nextIdent = (getPort s x).nextIdent := by cases x <;> rfl
@[simp] theorem settle_port_skewPs  (x : Port) : (getPort (settle s) x).skewPs = (getPort s x).skewPs := by cases x <;> rfl
@[simp] theorem settle_port_eqLong  (x : Port) : (getPort (settle s) x).eqLong = (getPort s x).eqLong := by cases x <;> rfl

@[simp] theorem enterQueue_spine_mergeMem (f : OwnFolio) : (enterQueue s f).spine.mergeMem = s.spine.mergeMem := by simp [enterQueue]
@[simp] theorem enterQueue_spine_bypHold (f : OwnFolio) : (enterQueue s f).spine.bypHold = s.spine.bypHold := by simp [enterQueue]
@[simp] theorem enterQueue_spine_pllLocked (f : OwnFolio) : (enterQueue s f).spine.pllLocked = s.spine.pllLocked := by simp [enterQueue]
@[simp] theorem enterQueue_spine_selfTestPassed (f : OwnFolio) : (enterQueue s f).spine.selfTestPassed = s.spine.selfTestPassed := by simp [enterQueue]
@[simp] theorem enterQueue_spine_selfTestFailed (f : OwnFolio) : (enterQueue s f).spine.selfTestFailed = s.spine.selfTestFailed := by simp [enterQueue]
@[simp] theorem enterQueue_spine_internalSelfTest (f : OwnFolio) : (enterQueue s f).spine.internalSelfTest = s.spine.internalSelfTest := by simp [enterQueue]
@[simp] theorem enterQueue_spine_senseDue (f : OwnFolio) : (enterQueue s f).spine.senseDue = s.spine.senseDue := by simp [enterQueue]
@[simp] theorem enterQueue_spine_switchRetries (f : OwnFolio) : (enterQueue s f).spine.switchRetries = s.spine.switchRetries := by simp [enterQueue]
@[simp] theorem enterQueue_spine_retryDue (f : OwnFolio) : (enterQueue s f).spine.retryDue = s.spine.retryDue := by simp [enterQueue]
@[simp] theorem enterQueue_spine_switchFailed (f : OwnFolio) : (enterQueue s f).spine.switchFailed = s.spine.switchFailed := by simp [enterQueue]
@[simp] theorem enterQueue_spine_stuck (f : OwnFolio) : (enterQueue s f).spine.stuck = s.spine.stuck := by simp [enterQueue]
@[simp] theorem enterQueue_spine_switchFaultSeen (f : OwnFolio) : (enterQueue s f).spine.switchFaultSeen = s.spine.switchFaultSeen := by simp [enterQueue]
@[simp] theorem enterQueue_spine_switchFaultsLogged (f : OwnFolio) : (enterQueue s f).spine.switchFaultsLogged = s.spine.switchFaultsLogged := by simp [enterQueue]
@[simp] theorem enterQueue_spine_ringMap (f : OwnFolio) : (enterQueue s f).spine.ringMap = s.spine.ringMap := by simp [enterQueue]
@[simp] theorem enterQueue_spine_leaveWin (f : OwnFolio) : (enterQueue s f).spine.leaveWin = s.spine.leaveWin := by simp [enterQueue]
@[simp] theorem enterQueue_spine_returnWin (f : OwnFolio) : (enterQueue s f).spine.returnWin = s.spine.returnWin := by simp [enterQueue]
@[simp] theorem enterQueue_spine_watched (f : OwnFolio) : (enterQueue s f).spine.watched = s.spine.watched := by simp [enterQueue]
@[simp] theorem enterQueue_spine_leftAt (f : OwnFolio) : (enterQueue s f).spine.leftAt = s.spine.leftAt := by simp [enterQueue]
@[simp] theorem enterQueue_spine_selfTestDue (f : OwnFolio) : (enterQueue s f).spine.selfTestDue = s.spine.selfTestDue := by simp [enterQueue]
@[simp] theorem enterQueue_spine_splSeen (f : OwnFolio) : (enterQueue s f).spine.splSeen = s.spine.splSeen := by simp [enterQueue]
@[simp] theorem enterQueue_spine_malformed (f : OwnFolio) : (enterQueue s f).spine.malformed = s.spine.malformed := by simp [enterQueue]
@[simp] theorem enterQueue_spine_collisionReported (f : OwnFolio) : (enterQueue s f).spine.collisionReported = s.spine.collisionReported := by simp [enterQueue]
@[simp] theorem enterQueue_spine_earlyQuires (f : OwnFolio) : (enterQueue s f).spine.earlyQuires = s.spine.earlyQuires := by simp [enterQueue]
@[simp] theorem enterQueue_spine_ctlQueue (f : OwnFolio) : (enterQueue s f).spine.ctlQueue = s.spine.ctlQueue := by simp [enterQueue]
@[simp] theorem enterQueue_spine_sigCopied (f : OwnFolio) : (enterQueue s f).spine.sigCopied = s.spine.sigCopied := by simp [enterQueue]
@[simp] theorem enterQueue_spine_lastQuire (f : OwnFolio) : (enterQueue s f).spine.lastQuire = s.spine.lastQuire := by simp [enterQueue]

@[simp] theorem enterQueue_larder_slots (f : OwnFolio) : (enterQueue s f).larder.slots = s.larder.slots := by simp [enterQueue]
@[simp] theorem enterQueue_larder_plates (f : OwnFolio) : (enterQueue s f).larder.plates = s.larder.plates := by simp [enterQueue]
@[simp] theorem enterQueue_larder_seamOnLight (f : OwnFolio) : (enterQueue s f).larder.seamOnLight = s.larder.seamOnLight := by simp [enterQueue]
@[simp] theorem enterQueue_larder_fstate (f : OwnFolio) : (enterQueue s f).larder.fstate = s.larder.fstate := by simp [enterQueue]
@[simp] theorem enterQueue_larder_feed (f : OwnFolio) : (enterQueue s f).larder.feed = s.larder.feed := by simp [enterQueue]
@[simp] theorem enterQueue_larder_feedSince (f : OwnFolio) : (enterQueue s f).larder.feedSince = s.larder.feedSince := by simp [enterQueue]
@[simp] theorem enterQueue_larder_feedStopped (f : OwnFolio) : (enterQueue s f).larder.feedStopped = s.larder.feedStopped := by simp [enterQueue]
@[simp] theorem enterQueue_larder_feedRestart (f : OwnFolio) : (enterQueue s f).larder.feedRestart = s.larder.feedRestart := by simp [enterQueue]
@[simp] theorem enterQueue_larder_lostAt (f : OwnFolio) : (enterQueue s f).larder.lostAt = s.larder.lostAt := by simp [enterQueue]
@[simp] theorem enterQueue_larder_holdEnded (f : OwnFolio) : (enterQueue s f).larder.holdEnded = s.larder.holdEnded := by simp [enterQueue]
@[simp] theorem enterQueue_larder_events (f : OwnFolio) : (enterQueue s f).larder.events = s.larder.events := by simp [enterQueue]
@[simp] theorem enterQueue_larder_secHolds (f : OwnFolio) : (enterQueue s f).larder.secHolds = s.larder.secHolds := by simp [enterQueue]
@[simp] theorem enterQueue_larder_secSuperseded (f : OwnFolio) : (enterQueue s f).larder.secSuperseded = s.larder.secSuperseded := by simp [enterQueue]
@[simp] theorem enterQueue_larder_secLate (f : OwnFolio) : (enterQueue s f).larder.secLate = s.larder.secLate := by simp [enterQueue]
@[simp] theorem enterQueue_larder_delays (f : OwnFolio) : (enterQueue s f).larder.delays = s.larder.delays := by simp [enterQueue]
@[simp] theorem enterQueue_larder_delayBase (f : OwnFolio) : (enterQueue s f).larder.delayBase = s.larder.delayBase := by simp [enterQueue]
@[simp] theorem enterQueue_larder_lossSlateTold (f : OwnFolio) : (enterQueue s f).larder.lossSlateTold = s.larder.lossSlateTold := by simp [enterQueue]
@[simp] theorem enterQueue_larder_dropped (f : OwnFolio) : (enterQueue s f).larder.dropped = s.larder.dropped := by simp [enterQueue]
@[simp] theorem enterQueue_larder_badBankWords (f : OwnFolio) : (enterQueue s f).larder.badBankWords = s.larder.badBankWords := by simp [enterQueue]

@[simp] theorem enterQueue_hall_ready (f : OwnFolio) : (enterQueue s f).hall.ready = s.hall.ready := by simp [enterQueue]
@[simp] theorem enterQueue_hall_powerFail (f : OwnFolio) : (enterQueue s f).hall.powerFail = s.hall.powerFail := by simp [enterQueue]
@[simp] theorem enterQueue_hall_channels (f : OwnFolio) : (enterQueue s f).hall.channels = s.hall.channels := by simp [enterQueue]
@[simp] theorem enterQueue_hall_entries (f : OwnFolio) : (enterQueue s f).hall.entries = s.hall.entries := by simp [enterQueue]
@[simp] theorem enterQueue_hall_summaries (f : OwnFolio) : (enterQueue s f).hall.summaries = s.hall.summaries := by simp [enterQueue]
@[simp] theorem enterQueue_hall_nextNo (f : OwnFolio) : (enterQueue s f).hall.nextNo = s.hall.nextNo := by simp [enterQueue]
@[simp] theorem enterQueue_hall_overwritten (f : OwnFolio) : (enterQueue s f).hall.overwritten = s.hall.overwritten := by simp [enterQueue]
@[simp] theorem enterQueue_hall_auditedThrough (f : OwnFolio) : (enterQueue s f).hall.auditedThrough = s.hall.auditedThrough := by simp [enterQueue]
@[simp] theorem enterQueue_hall_writing (f : OwnFolio) : (enterQueue s f).hall.writing = s.hall.writing := by simp [enterQueue]
@[simp] theorem enterQueue_hall_done (f : OwnFolio) : (enterQueue s f).hall.done = s.hall.done := by simp [enterQueue]
@[simp] theorem enterQueue_hall_replayed (f : OwnFolio) : (enterQueue s f).hall.replayed = s.hall.replayed := by simp [enterQueue]
@[simp] theorem enterQueue_hall_archiveLost (f : OwnFolio) : (enterQueue s f).hall.archiveLost = s.hall.archiveLost := by simp [enterQueue]
@[simp] theorem enterQueue_hall_tagFails (f : OwnFolio) : (enterQueue s f).hall.tagFails = s.hall.tagFails := by simp [enterQueue]
@[simp] theorem enterQueue_hall_keyless (f : OwnFolio) : (enterQueue s f).hall.keyless = s.hall.keyless := by simp [enterQueue]

@[simp] theorem enterQueue_addr_addr (f : OwnFolio) : (enterQueue s f).addr.addr = s.addr.addr := by simp [enterQueue]
@[simp] theorem enterQueue_addr_pos (f : OwnFolio) : (enterQueue s f).addr.pos = s.addr.pos := by simp [enterQueue]
@[simp] theorem enterQueue_addr_pinConflict (f : OwnFolio) : (enterQueue s f).addr.pinConflict = s.addr.pinConflict := by simp [enterQueue]
@[simp] theorem enterQueue_addr_epoch (f : OwnFolio) : (enterQueue s f).addr.epoch = s.addr.epoch := by simp [enterQueue]
@[simp] theorem enterQueue_addr_lastAddr (f : OwnFolio) : (enterQueue s f).addr.lastAddr = s.addr.lastAddr := by simp [enterQueue]
@[simp] theorem enterQueue_addr_lastPos (f : OwnFolio) : (enterQueue s f).addr.lastPos = s.addr.lastPos := by simp [enterQueue]
@[simp] theorem enterQueue_addr_tamperSinceJoin (f : OwnFolio) : (enterQueue s f).addr.tamperSinceJoin = s.addr.tamperSinceJoin := by simp [enterQueue]

@[simp] theorem enterQueue_port_st (f : OwnFolio) (x : Port) : (getPort (enterQueue s f) x).st = (getPort s x).st := by unfold enterQueue; simp only [settle_port_st]; cases x <;> rfl
@[simp] theorem enterQueue_port_since (f : OwnFolio) (x : Port) : (getPort (enterQueue s f) x).since = (getPort s x).since := by unfold enterQueue; simp only [settle_port_since]; cases x <;> rfl
@[simp] theorem enterQueue_port_fastUntil (f : OwnFolio) (x : Port) : (getPort (enterQueue s f) x).fastUntil = (getPort s x).fastUntil := by unfold enterQueue; simp only [settle_port_fastUntil]; cases x <;> rfl
@[simp] theorem enterQueue_port_fastNow (f : OwnFolio) (x : Port) : (getPort (enterQueue s f) x).fastNow = (getPort s x).fastNow := by unfold enterQueue; simp only [settle_port_fastNow]; cases x <;> rfl
@[simp] theorem enterQueue_port_twoLanes (f : OwnFolio) (x : Port) : (getPort (enterQueue s f) x).twoLanes = (getPort s x).twoLanes := by unfold enterQueue; simp only [settle_port_twoLanes]; cases x <;> rfl
@[simp] theorem enterQueue_port_laneMismatch (f : OwnFolio) (x : Port) : (getPort (enterQueue s f) x).laneMismatch = (getPort s x).laneMismatch := by unfold enterQueue; simp only [settle_port_laneMismatch]; cases x <;> rfl
@[simp] theorem enterQueue_port_rateSuspected (f : OwnFolio) (x : Port) : (getPort (enterQueue s f) x).rateSuspected = (getPort s x).rateSuspected := by unfold enterQueue; simp only [settle_port_rateSuspected]; cases x <;> rfl
@[simp] theorem enterQueue_port_degraded (f : OwnFolio) (x : Port) : (getPort (enterQueue s f) x).degraded = (getPort s x).degraded := by unfold enterQueue; simp only [settle_port_degraded]; cases x <;> rfl
@[simp] theorem enterQueue_port_nbrLow (f : OwnFolio) (x : Port) : (getPort (enterQueue s f) x).nbrLow = (getPort s x).nbrLow := by unfold enterQueue; simp only [settle_port_nbrLow]; cases x <;> rfl
@[simp] theorem enterQueue_port_nbrSerial (f : OwnFolio) (x : Port) : (getPort (enterQueue s f) x).nbrSerial = (getPort s x).nbrSerial := by unfold enterQueue; simp only [settle_port_nbrSerial]; cases x <;> rfl
@[simp] theorem enterQueue_port_windowEnd (f : OwnFolio) (x : Port) : (getPort (enterQueue s f) x).windowEnd = (getPort s x).windowEnd := by unfold enterQueue; simp only [settle_port_windowEnd]; cases x <;> rfl
@[simp] theorem enterQueue_port_inWindow (f : OwnFolio) (x : Port) : (getPort (enterQueue s f) x).inWindow = (getPort s x).inWindow := by unfold enterQueue; simp only [settle_port_inWindow]; cases x <;> rfl
@[simp] theorem enterQueue_port_outageUs (f : OwnFolio) (x : Port) : (getPort (enterQueue s f) x).outageUs = (getPort s x).outageUs := by unfold enterQueue; simp only [settle_port_outageUs]; cases x <;> rfl
@[simp] theorem enterQueue_port_downAt (f : OwnFolio) (x : Port) : (getPort (enterQueue s f) x).downAt = (getPort s x).downAt := by unfold enterQueue; simp only [settle_port_downAt]; cases x <;> rfl
@[simp] theorem enterQueue_port_crcThisSecond (f : OwnFolio) (x : Port) : (getPort (enterQueue s f) x).crcThisSecond = (getPort s x).crcThisSecond := by unfold enterQueue; simp only [settle_port_crcThisSecond]; cases x <;> rfl
@[simp] theorem enterQueue_port_crcLastSecond (f : OwnFolio) (x : Port) : (getPort (enterQueue s f) x).crcLastSecond = (getPort s x).crcLastSecond := by unfold enterQueue; simp only [settle_port_crcLastSecond]; cases x <;> rfl
@[simp] theorem enterQueue_port_nextIdent (f : OwnFolio) (x : Port) : (getPort (enterQueue s f) x).nextIdent = (getPort s x).nextIdent := by unfold enterQueue; simp only [settle_port_nextIdent]; cases x <;> rfl
@[simp] theorem enterQueue_port_skewPs (f : OwnFolio) (x : Port) : (getPort (enterQueue s f) x).skewPs = (getPort s x).skewPs := by unfold enterQueue; simp only [settle_port_skewPs]; cases x <;> rfl
@[simp] theorem enterQueue_port_eqLong (f : OwnFolio) (x : Port) : (getPort (enterQueue s f) x).eqLong = (getPort s x).eqLong := by unfold enterQueue; simp only [settle_port_eqLong]; cases x <;> rfl

@[simp] theorem queueOwn_spine_mergeMem (f : OwnFolio) : (queueOwn s f).spine.mergeMem = s.spine.mergeMem := by unfold queueOwn; split <;> simp
@[simp] theorem queueOwn_spine_bypHold (f : OwnFolio) : (queueOwn s f).spine.bypHold = s.spine.bypHold := by unfold queueOwn; split <;> simp
@[simp] theorem queueOwn_spine_pllLocked (f : OwnFolio) : (queueOwn s f).spine.pllLocked = s.spine.pllLocked := by unfold queueOwn; split <;> simp
@[simp] theorem queueOwn_spine_selfTestPassed (f : OwnFolio) : (queueOwn s f).spine.selfTestPassed = s.spine.selfTestPassed := by unfold queueOwn; split <;> simp
@[simp] theorem queueOwn_spine_selfTestFailed (f : OwnFolio) : (queueOwn s f).spine.selfTestFailed = s.spine.selfTestFailed := by unfold queueOwn; split <;> simp
@[simp] theorem queueOwn_spine_internalSelfTest (f : OwnFolio) : (queueOwn s f).spine.internalSelfTest = s.spine.internalSelfTest := by unfold queueOwn; split <;> simp
@[simp] theorem queueOwn_spine_senseDue (f : OwnFolio) : (queueOwn s f).spine.senseDue = s.spine.senseDue := by unfold queueOwn; split <;> simp
@[simp] theorem queueOwn_spine_switchRetries (f : OwnFolio) : (queueOwn s f).spine.switchRetries = s.spine.switchRetries := by unfold queueOwn; split <;> simp
@[simp] theorem queueOwn_spine_retryDue (f : OwnFolio) : (queueOwn s f).spine.retryDue = s.spine.retryDue := by unfold queueOwn; split <;> simp
@[simp] theorem queueOwn_spine_switchFailed (f : OwnFolio) : (queueOwn s f).spine.switchFailed = s.spine.switchFailed := by unfold queueOwn; split <;> simp
@[simp] theorem queueOwn_spine_stuck (f : OwnFolio) : (queueOwn s f).spine.stuck = s.spine.stuck := by unfold queueOwn; split <;> simp
@[simp] theorem queueOwn_spine_switchFaultSeen (f : OwnFolio) : (queueOwn s f).spine.switchFaultSeen = s.spine.switchFaultSeen := by unfold queueOwn; split <;> simp
@[simp] theorem queueOwn_spine_switchFaultsLogged (f : OwnFolio) : (queueOwn s f).spine.switchFaultsLogged = s.spine.switchFaultsLogged := by unfold queueOwn; split <;> simp
@[simp] theorem queueOwn_spine_ringMap (f : OwnFolio) : (queueOwn s f).spine.ringMap = s.spine.ringMap := by unfold queueOwn; split <;> simp
@[simp] theorem queueOwn_spine_leaveWin (f : OwnFolio) : (queueOwn s f).spine.leaveWin = s.spine.leaveWin := by unfold queueOwn; split <;> simp
@[simp] theorem queueOwn_spine_returnWin (f : OwnFolio) : (queueOwn s f).spine.returnWin = s.spine.returnWin := by unfold queueOwn; split <;> simp
@[simp] theorem queueOwn_spine_watched (f : OwnFolio) : (queueOwn s f).spine.watched = s.spine.watched := by unfold queueOwn; split <;> simp
@[simp] theorem queueOwn_spine_leftAt (f : OwnFolio) : (queueOwn s f).spine.leftAt = s.spine.leftAt := by unfold queueOwn; split <;> simp
@[simp] theorem queueOwn_spine_selfTestDue (f : OwnFolio) : (queueOwn s f).spine.selfTestDue = s.spine.selfTestDue := by unfold queueOwn; split <;> simp
@[simp] theorem queueOwn_spine_splSeen (f : OwnFolio) : (queueOwn s f).spine.splSeen = s.spine.splSeen := by unfold queueOwn; split <;> simp
@[simp] theorem queueOwn_spine_malformed (f : OwnFolio) : (queueOwn s f).spine.malformed = s.spine.malformed := by unfold queueOwn; split <;> simp
@[simp] theorem queueOwn_spine_collisionReported (f : OwnFolio) : (queueOwn s f).spine.collisionReported = s.spine.collisionReported := by unfold queueOwn; split <;> simp
@[simp] theorem queueOwn_spine_earlyQuires (f : OwnFolio) : (queueOwn s f).spine.earlyQuires = s.spine.earlyQuires := by unfold queueOwn; split <;> simp
@[simp] theorem queueOwn_spine_ctlQueue (f : OwnFolio) : (queueOwn s f).spine.ctlQueue = s.spine.ctlQueue := by unfold queueOwn; split <;> simp
@[simp] theorem queueOwn_spine_sigCopied (f : OwnFolio) : (queueOwn s f).spine.sigCopied = s.spine.sigCopied := by unfold queueOwn; split <;> simp
@[simp] theorem queueOwn_spine_lastQuire (f : OwnFolio) : (queueOwn s f).spine.lastQuire = s.spine.lastQuire := by unfold queueOwn; split <;> simp

@[simp] theorem queueOwn_larder_slots (f : OwnFolio) : (queueOwn s f).larder.slots = s.larder.slots := by unfold queueOwn; split <;> simp
@[simp] theorem queueOwn_larder_plates (f : OwnFolio) : (queueOwn s f).larder.plates = s.larder.plates := by unfold queueOwn; split <;> simp
@[simp] theorem queueOwn_larder_seamOnLight (f : OwnFolio) : (queueOwn s f).larder.seamOnLight = s.larder.seamOnLight := by unfold queueOwn; split <;> simp
@[simp] theorem queueOwn_larder_fstate (f : OwnFolio) : (queueOwn s f).larder.fstate = s.larder.fstate := by unfold queueOwn; split <;> simp
@[simp] theorem queueOwn_larder_feed (f : OwnFolio) : (queueOwn s f).larder.feed = s.larder.feed := by unfold queueOwn; split <;> simp
@[simp] theorem queueOwn_larder_feedSince (f : OwnFolio) : (queueOwn s f).larder.feedSince = s.larder.feedSince := by unfold queueOwn; split <;> simp
@[simp] theorem queueOwn_larder_feedStopped (f : OwnFolio) : (queueOwn s f).larder.feedStopped = s.larder.feedStopped := by unfold queueOwn; split <;> simp
@[simp] theorem queueOwn_larder_feedRestart (f : OwnFolio) : (queueOwn s f).larder.feedRestart = s.larder.feedRestart := by unfold queueOwn; split <;> simp
@[simp] theorem queueOwn_larder_lostAt (f : OwnFolio) : (queueOwn s f).larder.lostAt = s.larder.lostAt := by unfold queueOwn; split <;> simp
@[simp] theorem queueOwn_larder_holdEnded (f : OwnFolio) : (queueOwn s f).larder.holdEnded = s.larder.holdEnded := by unfold queueOwn; split <;> simp
@[simp] theorem queueOwn_larder_events (f : OwnFolio) : (queueOwn s f).larder.events = s.larder.events := by unfold queueOwn; split <;> simp
@[simp] theorem queueOwn_larder_secHolds (f : OwnFolio) : (queueOwn s f).larder.secHolds = s.larder.secHolds := by unfold queueOwn; split <;> simp
@[simp] theorem queueOwn_larder_secSuperseded (f : OwnFolio) : (queueOwn s f).larder.secSuperseded = s.larder.secSuperseded := by unfold queueOwn; split <;> simp
@[simp] theorem queueOwn_larder_secLate (f : OwnFolio) : (queueOwn s f).larder.secLate = s.larder.secLate := by unfold queueOwn; split <;> simp
@[simp] theorem queueOwn_larder_delays (f : OwnFolio) : (queueOwn s f).larder.delays = s.larder.delays := by unfold queueOwn; split <;> simp
@[simp] theorem queueOwn_larder_delayBase (f : OwnFolio) : (queueOwn s f).larder.delayBase = s.larder.delayBase := by unfold queueOwn; split <;> simp
@[simp] theorem queueOwn_larder_lossSlateTold (f : OwnFolio) : (queueOwn s f).larder.lossSlateTold = s.larder.lossSlateTold := by unfold queueOwn; split <;> simp
@[simp] theorem queueOwn_larder_dropped (f : OwnFolio) : (queueOwn s f).larder.dropped = s.larder.dropped := by unfold queueOwn; split <;> simp
@[simp] theorem queueOwn_larder_badBankWords (f : OwnFolio) : (queueOwn s f).larder.badBankWords = s.larder.badBankWords := by unfold queueOwn; split <;> simp

@[simp] theorem queueOwn_hall_ready (f : OwnFolio) : (queueOwn s f).hall.ready = s.hall.ready := by unfold queueOwn; split <;> simp
@[simp] theorem queueOwn_hall_powerFail (f : OwnFolio) : (queueOwn s f).hall.powerFail = s.hall.powerFail := by unfold queueOwn; split <;> simp
@[simp] theorem queueOwn_hall_channels (f : OwnFolio) : (queueOwn s f).hall.channels = s.hall.channels := by unfold queueOwn; split <;> simp
@[simp] theorem queueOwn_hall_entries (f : OwnFolio) : (queueOwn s f).hall.entries = s.hall.entries := by unfold queueOwn; split <;> simp
@[simp] theorem queueOwn_hall_summaries (f : OwnFolio) : (queueOwn s f).hall.summaries = s.hall.summaries := by unfold queueOwn; split <;> simp
@[simp] theorem queueOwn_hall_nextNo (f : OwnFolio) : (queueOwn s f).hall.nextNo = s.hall.nextNo := by unfold queueOwn; split <;> simp
@[simp] theorem queueOwn_hall_overwritten (f : OwnFolio) : (queueOwn s f).hall.overwritten = s.hall.overwritten := by unfold queueOwn; split <;> simp
@[simp] theorem queueOwn_hall_auditedThrough (f : OwnFolio) : (queueOwn s f).hall.auditedThrough = s.hall.auditedThrough := by unfold queueOwn; split <;> simp
@[simp] theorem queueOwn_hall_writing (f : OwnFolio) : (queueOwn s f).hall.writing = s.hall.writing := by unfold queueOwn; split <;> simp
@[simp] theorem queueOwn_hall_done (f : OwnFolio) : (queueOwn s f).hall.done = s.hall.done := by unfold queueOwn; split <;> simp
@[simp] theorem queueOwn_hall_replayed (f : OwnFolio) : (queueOwn s f).hall.replayed = s.hall.replayed := by unfold queueOwn; split <;> simp
@[simp] theorem queueOwn_hall_archiveLost (f : OwnFolio) : (queueOwn s f).hall.archiveLost = s.hall.archiveLost := by unfold queueOwn; split <;> simp
@[simp] theorem queueOwn_hall_tagFails (f : OwnFolio) : (queueOwn s f).hall.tagFails = s.hall.tagFails := by unfold queueOwn; split <;> simp
@[simp] theorem queueOwn_hall_keyless (f : OwnFolio) : (queueOwn s f).hall.keyless = s.hall.keyless := by unfold queueOwn; split <;> simp

@[simp] theorem queueOwn_addr_addr (f : OwnFolio) : (queueOwn s f).addr.addr = s.addr.addr := by unfold queueOwn; split <;> simp
@[simp] theorem queueOwn_addr_pos (f : OwnFolio) : (queueOwn s f).addr.pos = s.addr.pos := by unfold queueOwn; split <;> simp
@[simp] theorem queueOwn_addr_pinConflict (f : OwnFolio) : (queueOwn s f).addr.pinConflict = s.addr.pinConflict := by unfold queueOwn; split <;> simp
@[simp] theorem queueOwn_addr_epoch (f : OwnFolio) : (queueOwn s f).addr.epoch = s.addr.epoch := by unfold queueOwn; split <;> simp
@[simp] theorem queueOwn_addr_lastAddr (f : OwnFolio) : (queueOwn s f).addr.lastAddr = s.addr.lastAddr := by unfold queueOwn; split <;> simp
@[simp] theorem queueOwn_addr_lastPos (f : OwnFolio) : (queueOwn s f).addr.lastPos = s.addr.lastPos := by unfold queueOwn; split <;> simp
@[simp] theorem queueOwn_addr_tamperSinceJoin (f : OwnFolio) : (queueOwn s f).addr.tamperSinceJoin = s.addr.tamperSinceJoin := by unfold queueOwn; split <;> simp

@[simp] theorem queueOwn_port_st (f : OwnFolio) (x : Port) : (getPort (queueOwn s f) x).st = (getPort s x).st := by unfold queueOwn; split <;> first | rfl | simp
@[simp] theorem queueOwn_port_since (f : OwnFolio) (x : Port) : (getPort (queueOwn s f) x).since = (getPort s x).since := by unfold queueOwn; split <;> first | rfl | simp
@[simp] theorem queueOwn_port_fastUntil (f : OwnFolio) (x : Port) : (getPort (queueOwn s f) x).fastUntil = (getPort s x).fastUntil := by unfold queueOwn; split <;> first | rfl | simp
@[simp] theorem queueOwn_port_fastNow (f : OwnFolio) (x : Port) : (getPort (queueOwn s f) x).fastNow = (getPort s x).fastNow := by unfold queueOwn; split <;> first | rfl | simp
@[simp] theorem queueOwn_port_twoLanes (f : OwnFolio) (x : Port) : (getPort (queueOwn s f) x).twoLanes = (getPort s x).twoLanes := by unfold queueOwn; split <;> first | rfl | simp
@[simp] theorem queueOwn_port_laneMismatch (f : OwnFolio) (x : Port) : (getPort (queueOwn s f) x).laneMismatch = (getPort s x).laneMismatch := by unfold queueOwn; split <;> first | rfl | simp
@[simp] theorem queueOwn_port_rateSuspected (f : OwnFolio) (x : Port) : (getPort (queueOwn s f) x).rateSuspected = (getPort s x).rateSuspected := by unfold queueOwn; split <;> first | rfl | simp
@[simp] theorem queueOwn_port_degraded (f : OwnFolio) (x : Port) : (getPort (queueOwn s f) x).degraded = (getPort s x).degraded := by unfold queueOwn; split <;> first | rfl | simp
@[simp] theorem queueOwn_port_nbrLow (f : OwnFolio) (x : Port) : (getPort (queueOwn s f) x).nbrLow = (getPort s x).nbrLow := by unfold queueOwn; split <;> first | rfl | simp
@[simp] theorem queueOwn_port_nbrSerial (f : OwnFolio) (x : Port) : (getPort (queueOwn s f) x).nbrSerial = (getPort s x).nbrSerial := by unfold queueOwn; split <;> first | rfl | simp
@[simp] theorem queueOwn_port_windowEnd (f : OwnFolio) (x : Port) : (getPort (queueOwn s f) x).windowEnd = (getPort s x).windowEnd := by unfold queueOwn; split <;> first | rfl | simp
@[simp] theorem queueOwn_port_inWindow (f : OwnFolio) (x : Port) : (getPort (queueOwn s f) x).inWindow = (getPort s x).inWindow := by unfold queueOwn; split <;> first | rfl | simp
@[simp] theorem queueOwn_port_outageUs (f : OwnFolio) (x : Port) : (getPort (queueOwn s f) x).outageUs = (getPort s x).outageUs := by unfold queueOwn; split <;> first | rfl | simp
@[simp] theorem queueOwn_port_downAt (f : OwnFolio) (x : Port) : (getPort (queueOwn s f) x).downAt = (getPort s x).downAt := by unfold queueOwn; split <;> first | rfl | simp
@[simp] theorem queueOwn_port_crcThisSecond (f : OwnFolio) (x : Port) : (getPort (queueOwn s f) x).crcThisSecond = (getPort s x).crcThisSecond := by unfold queueOwn; split <;> first | rfl | simp
@[simp] theorem queueOwn_port_crcLastSecond (f : OwnFolio) (x : Port) : (getPort (queueOwn s f) x).crcLastSecond = (getPort s x).crcLastSecond := by unfold queueOwn; split <;> first | rfl | simp
@[simp] theorem queueOwn_port_nextIdent (f : OwnFolio) (x : Port) : (getPort (queueOwn s f) x).nextIdent = (getPort s x).nextIdent := by unfold queueOwn; split <;> first | rfl | simp
@[simp] theorem queueOwn_port_skewPs (f : OwnFolio) (x : Port) : (getPort (queueOwn s f) x).skewPs = (getPort s x).skewPs := by unfold queueOwn; split <;> first | rfl | simp
@[simp] theorem queueOwn_port_eqLong (f : OwnFolio) (x : Port) : (getPort (queueOwn s f) x).eqLong = (getPort s x).eqLong := by unfold queueOwn; split <;> first | rfl | simp

@[simp] theorem queueReport_spine_mergeMem (t : Half) (p : List Byte) : (queueReport s t p).spine.mergeMem = s.spine.mergeMem := by simp [queueReport]
@[simp] theorem queueReport_spine_bypHold (t : Half) (p : List Byte) : (queueReport s t p).spine.bypHold = s.spine.bypHold := by simp [queueReport]
@[simp] theorem queueReport_spine_pllLocked (t : Half) (p : List Byte) : (queueReport s t p).spine.pllLocked = s.spine.pllLocked := by simp [queueReport]
@[simp] theorem queueReport_spine_selfTestPassed (t : Half) (p : List Byte) : (queueReport s t p).spine.selfTestPassed = s.spine.selfTestPassed := by simp [queueReport]
@[simp] theorem queueReport_spine_selfTestFailed (t : Half) (p : List Byte) : (queueReport s t p).spine.selfTestFailed = s.spine.selfTestFailed := by simp [queueReport]
@[simp] theorem queueReport_spine_internalSelfTest (t : Half) (p : List Byte) : (queueReport s t p).spine.internalSelfTest = s.spine.internalSelfTest := by simp [queueReport]
@[simp] theorem queueReport_spine_senseDue (t : Half) (p : List Byte) : (queueReport s t p).spine.senseDue = s.spine.senseDue := by simp [queueReport]
@[simp] theorem queueReport_spine_switchRetries (t : Half) (p : List Byte) : (queueReport s t p).spine.switchRetries = s.spine.switchRetries := by simp [queueReport]
@[simp] theorem queueReport_spine_retryDue (t : Half) (p : List Byte) : (queueReport s t p).spine.retryDue = s.spine.retryDue := by simp [queueReport]
@[simp] theorem queueReport_spine_switchFailed (t : Half) (p : List Byte) : (queueReport s t p).spine.switchFailed = s.spine.switchFailed := by simp [queueReport]
@[simp] theorem queueReport_spine_stuck (t : Half) (p : List Byte) : (queueReport s t p).spine.stuck = s.spine.stuck := by simp [queueReport]
@[simp] theorem queueReport_spine_switchFaultSeen (t : Half) (p : List Byte) : (queueReport s t p).spine.switchFaultSeen = s.spine.switchFaultSeen := by simp [queueReport]
@[simp] theorem queueReport_spine_switchFaultsLogged (t : Half) (p : List Byte) : (queueReport s t p).spine.switchFaultsLogged = s.spine.switchFaultsLogged := by simp [queueReport]
@[simp] theorem queueReport_spine_ringMap (t : Half) (p : List Byte) : (queueReport s t p).spine.ringMap = s.spine.ringMap := by simp [queueReport]
@[simp] theorem queueReport_spine_leaveWin (t : Half) (p : List Byte) : (queueReport s t p).spine.leaveWin = s.spine.leaveWin := by simp [queueReport]
@[simp] theorem queueReport_spine_returnWin (t : Half) (p : List Byte) : (queueReport s t p).spine.returnWin = s.spine.returnWin := by simp [queueReport]
@[simp] theorem queueReport_spine_watched (t : Half) (p : List Byte) : (queueReport s t p).spine.watched = s.spine.watched := by simp [queueReport]
@[simp] theorem queueReport_spine_leftAt (t : Half) (p : List Byte) : (queueReport s t p).spine.leftAt = s.spine.leftAt := by simp [queueReport]
@[simp] theorem queueReport_spine_selfTestDue (t : Half) (p : List Byte) : (queueReport s t p).spine.selfTestDue = s.spine.selfTestDue := by simp [queueReport]
@[simp] theorem queueReport_spine_splSeen (t : Half) (p : List Byte) : (queueReport s t p).spine.splSeen = s.spine.splSeen := by simp [queueReport]
@[simp] theorem queueReport_spine_malformed (t : Half) (p : List Byte) : (queueReport s t p).spine.malformed = s.spine.malformed := by simp [queueReport]
@[simp] theorem queueReport_spine_collisionReported (t : Half) (p : List Byte) : (queueReport s t p).spine.collisionReported = s.spine.collisionReported := by simp [queueReport]
@[simp] theorem queueReport_spine_earlyQuires (t : Half) (p : List Byte) : (queueReport s t p).spine.earlyQuires = s.spine.earlyQuires := by simp [queueReport]
@[simp] theorem queueReport_spine_ctlQueue (t : Half) (p : List Byte) : (queueReport s t p).spine.ctlQueue = s.spine.ctlQueue := by simp [queueReport]
@[simp] theorem queueReport_spine_sigCopied (t : Half) (p : List Byte) : (queueReport s t p).spine.sigCopied = s.spine.sigCopied := by simp [queueReport]
@[simp] theorem queueReport_spine_lastQuire (t : Half) (p : List Byte) : (queueReport s t p).spine.lastQuire = s.spine.lastQuire := by simp [queueReport]

@[simp] theorem queueReport_larder_slots (t : Half) (p : List Byte) : (queueReport s t p).larder.slots = s.larder.slots := by simp [queueReport]
@[simp] theorem queueReport_larder_plates (t : Half) (p : List Byte) : (queueReport s t p).larder.plates = s.larder.plates := by simp [queueReport]
@[simp] theorem queueReport_larder_seamOnLight (t : Half) (p : List Byte) : (queueReport s t p).larder.seamOnLight = s.larder.seamOnLight := by simp [queueReport]
@[simp] theorem queueReport_larder_fstate (t : Half) (p : List Byte) : (queueReport s t p).larder.fstate = s.larder.fstate := by simp [queueReport]
@[simp] theorem queueReport_larder_feed (t : Half) (p : List Byte) : (queueReport s t p).larder.feed = s.larder.feed := by simp [queueReport]
@[simp] theorem queueReport_larder_feedSince (t : Half) (p : List Byte) : (queueReport s t p).larder.feedSince = s.larder.feedSince := by simp [queueReport]
@[simp] theorem queueReport_larder_feedStopped (t : Half) (p : List Byte) : (queueReport s t p).larder.feedStopped = s.larder.feedStopped := by simp [queueReport]
@[simp] theorem queueReport_larder_feedRestart (t : Half) (p : List Byte) : (queueReport s t p).larder.feedRestart = s.larder.feedRestart := by simp [queueReport]
@[simp] theorem queueReport_larder_lostAt (t : Half) (p : List Byte) : (queueReport s t p).larder.lostAt = s.larder.lostAt := by simp [queueReport]
@[simp] theorem queueReport_larder_holdEnded (t : Half) (p : List Byte) : (queueReport s t p).larder.holdEnded = s.larder.holdEnded := by simp [queueReport]
@[simp] theorem queueReport_larder_events (t : Half) (p : List Byte) : (queueReport s t p).larder.events = s.larder.events := by simp [queueReport]
@[simp] theorem queueReport_larder_secHolds (t : Half) (p : List Byte) : (queueReport s t p).larder.secHolds = s.larder.secHolds := by simp [queueReport]
@[simp] theorem queueReport_larder_secSuperseded (t : Half) (p : List Byte) : (queueReport s t p).larder.secSuperseded = s.larder.secSuperseded := by simp [queueReport]
@[simp] theorem queueReport_larder_secLate (t : Half) (p : List Byte) : (queueReport s t p).larder.secLate = s.larder.secLate := by simp [queueReport]
@[simp] theorem queueReport_larder_delays (t : Half) (p : List Byte) : (queueReport s t p).larder.delays = s.larder.delays := by simp [queueReport]
@[simp] theorem queueReport_larder_delayBase (t : Half) (p : List Byte) : (queueReport s t p).larder.delayBase = s.larder.delayBase := by simp [queueReport]
@[simp] theorem queueReport_larder_lossSlateTold (t : Half) (p : List Byte) : (queueReport s t p).larder.lossSlateTold = s.larder.lossSlateTold := by simp [queueReport]
@[simp] theorem queueReport_larder_dropped (t : Half) (p : List Byte) : (queueReport s t p).larder.dropped = s.larder.dropped := by simp [queueReport]
@[simp] theorem queueReport_larder_badBankWords (t : Half) (p : List Byte) : (queueReport s t p).larder.badBankWords = s.larder.badBankWords := by simp [queueReport]

@[simp] theorem queueReport_hall_ready (t : Half) (p : List Byte) : (queueReport s t p).hall.ready = s.hall.ready := by simp [queueReport]
@[simp] theorem queueReport_hall_powerFail (t : Half) (p : List Byte) : (queueReport s t p).hall.powerFail = s.hall.powerFail := by simp [queueReport]
@[simp] theorem queueReport_hall_channels (t : Half) (p : List Byte) : (queueReport s t p).hall.channels = s.hall.channels := by simp [queueReport]
@[simp] theorem queueReport_hall_entries (t : Half) (p : List Byte) : (queueReport s t p).hall.entries = s.hall.entries := by simp [queueReport]
@[simp] theorem queueReport_hall_summaries (t : Half) (p : List Byte) : (queueReport s t p).hall.summaries = s.hall.summaries := by simp [queueReport]
@[simp] theorem queueReport_hall_nextNo (t : Half) (p : List Byte) : (queueReport s t p).hall.nextNo = s.hall.nextNo := by simp [queueReport]
@[simp] theorem queueReport_hall_overwritten (t : Half) (p : List Byte) : (queueReport s t p).hall.overwritten = s.hall.overwritten := by simp [queueReport]
@[simp] theorem queueReport_hall_auditedThrough (t : Half) (p : List Byte) : (queueReport s t p).hall.auditedThrough = s.hall.auditedThrough := by simp [queueReport]
@[simp] theorem queueReport_hall_writing (t : Half) (p : List Byte) : (queueReport s t p).hall.writing = s.hall.writing := by simp [queueReport]
@[simp] theorem queueReport_hall_done (t : Half) (p : List Byte) : (queueReport s t p).hall.done = s.hall.done := by simp [queueReport]
@[simp] theorem queueReport_hall_replayed (t : Half) (p : List Byte) : (queueReport s t p).hall.replayed = s.hall.replayed := by simp [queueReport]
@[simp] theorem queueReport_hall_archiveLost (t : Half) (p : List Byte) : (queueReport s t p).hall.archiveLost = s.hall.archiveLost := by simp [queueReport]
@[simp] theorem queueReport_hall_tagFails (t : Half) (p : List Byte) : (queueReport s t p).hall.tagFails = s.hall.tagFails := by simp [queueReport]
@[simp] theorem queueReport_hall_keyless (t : Half) (p : List Byte) : (queueReport s t p).hall.keyless = s.hall.keyless := by simp [queueReport]

@[simp] theorem queueReport_addr_addr (t : Half) (p : List Byte) : (queueReport s t p).addr.addr = s.addr.addr := by simp [queueReport]
@[simp] theorem queueReport_addr_pos (t : Half) (p : List Byte) : (queueReport s t p).addr.pos = s.addr.pos := by simp [queueReport]
@[simp] theorem queueReport_addr_pinConflict (t : Half) (p : List Byte) : (queueReport s t p).addr.pinConflict = s.addr.pinConflict := by simp [queueReport]
@[simp] theorem queueReport_addr_epoch (t : Half) (p : List Byte) : (queueReport s t p).addr.epoch = s.addr.epoch := by simp [queueReport]
@[simp] theorem queueReport_addr_lastAddr (t : Half) (p : List Byte) : (queueReport s t p).addr.lastAddr = s.addr.lastAddr := by simp [queueReport]
@[simp] theorem queueReport_addr_lastPos (t : Half) (p : List Byte) : (queueReport s t p).addr.lastPos = s.addr.lastPos := by simp [queueReport]
@[simp] theorem queueReport_addr_tamperSinceJoin (t : Half) (p : List Byte) : (queueReport s t p).addr.tamperSinceJoin = s.addr.tamperSinceJoin := by simp [queueReport]

@[simp] theorem queueReport_port_st (t : Half) (p : List Byte) (x : Port) : (getPort (queueReport s t p) x).st = (getPort s x).st := by simp [queueReport]
@[simp] theorem queueReport_port_since (t : Half) (p : List Byte) (x : Port) : (getPort (queueReport s t p) x).since = (getPort s x).since := by simp [queueReport]
@[simp] theorem queueReport_port_fastUntil (t : Half) (p : List Byte) (x : Port) : (getPort (queueReport s t p) x).fastUntil = (getPort s x).fastUntil := by simp [queueReport]
@[simp] theorem queueReport_port_fastNow (t : Half) (p : List Byte) (x : Port) : (getPort (queueReport s t p) x).fastNow = (getPort s x).fastNow := by simp [queueReport]
@[simp] theorem queueReport_port_twoLanes (t : Half) (p : List Byte) (x : Port) : (getPort (queueReport s t p) x).twoLanes = (getPort s x).twoLanes := by simp [queueReport]
@[simp] theorem queueReport_port_laneMismatch (t : Half) (p : List Byte) (x : Port) : (getPort (queueReport s t p) x).laneMismatch = (getPort s x).laneMismatch := by simp [queueReport]
@[simp] theorem queueReport_port_rateSuspected (t : Half) (p : List Byte) (x : Port) : (getPort (queueReport s t p) x).rateSuspected = (getPort s x).rateSuspected := by simp [queueReport]
@[simp] theorem queueReport_port_degraded (t : Half) (p : List Byte) (x : Port) : (getPort (queueReport s t p) x).degraded = (getPort s x).degraded := by simp [queueReport]
@[simp] theorem queueReport_port_nbrLow (t : Half) (p : List Byte) (x : Port) : (getPort (queueReport s t p) x).nbrLow = (getPort s x).nbrLow := by simp [queueReport]
@[simp] theorem queueReport_port_nbrSerial (t : Half) (p : List Byte) (x : Port) : (getPort (queueReport s t p) x).nbrSerial = (getPort s x).nbrSerial := by simp [queueReport]
@[simp] theorem queueReport_port_windowEnd (t : Half) (p : List Byte) (x : Port) : (getPort (queueReport s t p) x).windowEnd = (getPort s x).windowEnd := by simp [queueReport]
@[simp] theorem queueReport_port_inWindow (t : Half) (p : List Byte) (x : Port) : (getPort (queueReport s t p) x).inWindow = (getPort s x).inWindow := by simp [queueReport]
@[simp] theorem queueReport_port_outageUs (t : Half) (p : List Byte) (x : Port) : (getPort (queueReport s t p) x).outageUs = (getPort s x).outageUs := by simp [queueReport]
@[simp] theorem queueReport_port_downAt (t : Half) (p : List Byte) (x : Port) : (getPort (queueReport s t p) x).downAt = (getPort s x).downAt := by simp [queueReport]
@[simp] theorem queueReport_port_crcThisSecond (t : Half) (p : List Byte) (x : Port) : (getPort (queueReport s t p) x).crcThisSecond = (getPort s x).crcThisSecond := by simp [queueReport]
@[simp] theorem queueReport_port_crcLastSecond (t : Half) (p : List Byte) (x : Port) : (getPort (queueReport s t p) x).crcLastSecond = (getPort s x).crcLastSecond := by simp [queueReport]
@[simp] theorem queueReport_port_nextIdent (t : Half) (p : List Byte) (x : Port) : (getPort (queueReport s t p) x).nextIdent = (getPort s x).nextIdent := by simp [queueReport]
@[simp] theorem queueReport_port_skewPs (t : Half) (p : List Byte) (x : Port) : (getPort (queueReport s t p) x).skewPs = (getPort s x).skewPs := by simp [queueReport]
@[simp] theorem queueReport_port_eqLong (t : Half) (p : List Byte) (x : Port) : (getPort (queueReport s t p) x).eqLong = (getPort s x).eqLong := by simp [queueReport]

@[simp] theorem queueSpl_spine_mergeMem (t : Half) (p : List Byte) : (queueSpl s t p).spine.mergeMem = s.spine.mergeMem := by simp [queueSpl]
@[simp] theorem queueSpl_spine_bypHold (t : Half) (p : List Byte) : (queueSpl s t p).spine.bypHold = s.spine.bypHold := by simp [queueSpl]
@[simp] theorem queueSpl_spine_pllLocked (t : Half) (p : List Byte) : (queueSpl s t p).spine.pllLocked = s.spine.pllLocked := by simp [queueSpl]
@[simp] theorem queueSpl_spine_selfTestPassed (t : Half) (p : List Byte) : (queueSpl s t p).spine.selfTestPassed = s.spine.selfTestPassed := by simp [queueSpl]
@[simp] theorem queueSpl_spine_selfTestFailed (t : Half) (p : List Byte) : (queueSpl s t p).spine.selfTestFailed = s.spine.selfTestFailed := by simp [queueSpl]
@[simp] theorem queueSpl_spine_internalSelfTest (t : Half) (p : List Byte) : (queueSpl s t p).spine.internalSelfTest = s.spine.internalSelfTest := by simp [queueSpl]
@[simp] theorem queueSpl_spine_senseDue (t : Half) (p : List Byte) : (queueSpl s t p).spine.senseDue = s.spine.senseDue := by simp [queueSpl]
@[simp] theorem queueSpl_spine_switchRetries (t : Half) (p : List Byte) : (queueSpl s t p).spine.switchRetries = s.spine.switchRetries := by simp [queueSpl]
@[simp] theorem queueSpl_spine_retryDue (t : Half) (p : List Byte) : (queueSpl s t p).spine.retryDue = s.spine.retryDue := by simp [queueSpl]
@[simp] theorem queueSpl_spine_switchFailed (t : Half) (p : List Byte) : (queueSpl s t p).spine.switchFailed = s.spine.switchFailed := by simp [queueSpl]
@[simp] theorem queueSpl_spine_stuck (t : Half) (p : List Byte) : (queueSpl s t p).spine.stuck = s.spine.stuck := by simp [queueSpl]
@[simp] theorem queueSpl_spine_switchFaultSeen (t : Half) (p : List Byte) : (queueSpl s t p).spine.switchFaultSeen = s.spine.switchFaultSeen := by simp [queueSpl]
@[simp] theorem queueSpl_spine_switchFaultsLogged (t : Half) (p : List Byte) : (queueSpl s t p).spine.switchFaultsLogged = s.spine.switchFaultsLogged := by simp [queueSpl]
@[simp] theorem queueSpl_spine_ringMap (t : Half) (p : List Byte) : (queueSpl s t p).spine.ringMap = s.spine.ringMap := by simp [queueSpl]
@[simp] theorem queueSpl_spine_leaveWin (t : Half) (p : List Byte) : (queueSpl s t p).spine.leaveWin = s.spine.leaveWin := by simp [queueSpl]
@[simp] theorem queueSpl_spine_returnWin (t : Half) (p : List Byte) : (queueSpl s t p).spine.returnWin = s.spine.returnWin := by simp [queueSpl]
@[simp] theorem queueSpl_spine_watched (t : Half) (p : List Byte) : (queueSpl s t p).spine.watched = s.spine.watched := by simp [queueSpl]
@[simp] theorem queueSpl_spine_leftAt (t : Half) (p : List Byte) : (queueSpl s t p).spine.leftAt = s.spine.leftAt := by simp [queueSpl]
@[simp] theorem queueSpl_spine_selfTestDue (t : Half) (p : List Byte) : (queueSpl s t p).spine.selfTestDue = s.spine.selfTestDue := by simp [queueSpl]
@[simp] theorem queueSpl_spine_splSeen (t : Half) (p : List Byte) : (queueSpl s t p).spine.splSeen = s.spine.splSeen := by simp [queueSpl]
@[simp] theorem queueSpl_spine_malformed (t : Half) (p : List Byte) : (queueSpl s t p).spine.malformed = s.spine.malformed := by simp [queueSpl]
@[simp] theorem queueSpl_spine_collisionReported (t : Half) (p : List Byte) : (queueSpl s t p).spine.collisionReported = s.spine.collisionReported := by simp [queueSpl]
@[simp] theorem queueSpl_spine_earlyQuires (t : Half) (p : List Byte) : (queueSpl s t p).spine.earlyQuires = s.spine.earlyQuires := by simp [queueSpl]
@[simp] theorem queueSpl_spine_ctlQueue (t : Half) (p : List Byte) : (queueSpl s t p).spine.ctlQueue = s.spine.ctlQueue := by simp [queueSpl]
@[simp] theorem queueSpl_spine_sigCopied (t : Half) (p : List Byte) : (queueSpl s t p).spine.sigCopied = s.spine.sigCopied := by simp [queueSpl]
@[simp] theorem queueSpl_spine_lastQuire (t : Half) (p : List Byte) : (queueSpl s t p).spine.lastQuire = s.spine.lastQuire := by simp [queueSpl]

@[simp] theorem queueSpl_larder_slots (t : Half) (p : List Byte) : (queueSpl s t p).larder.slots = s.larder.slots := by simp [queueSpl]
@[simp] theorem queueSpl_larder_plates (t : Half) (p : List Byte) : (queueSpl s t p).larder.plates = s.larder.plates := by simp [queueSpl]
@[simp] theorem queueSpl_larder_seamOnLight (t : Half) (p : List Byte) : (queueSpl s t p).larder.seamOnLight = s.larder.seamOnLight := by simp [queueSpl]
@[simp] theorem queueSpl_larder_fstate (t : Half) (p : List Byte) : (queueSpl s t p).larder.fstate = s.larder.fstate := by simp [queueSpl]
@[simp] theorem queueSpl_larder_feed (t : Half) (p : List Byte) : (queueSpl s t p).larder.feed = s.larder.feed := by simp [queueSpl]
@[simp] theorem queueSpl_larder_feedSince (t : Half) (p : List Byte) : (queueSpl s t p).larder.feedSince = s.larder.feedSince := by simp [queueSpl]
@[simp] theorem queueSpl_larder_feedStopped (t : Half) (p : List Byte) : (queueSpl s t p).larder.feedStopped = s.larder.feedStopped := by simp [queueSpl]
@[simp] theorem queueSpl_larder_feedRestart (t : Half) (p : List Byte) : (queueSpl s t p).larder.feedRestart = s.larder.feedRestart := by simp [queueSpl]
@[simp] theorem queueSpl_larder_lostAt (t : Half) (p : List Byte) : (queueSpl s t p).larder.lostAt = s.larder.lostAt := by simp [queueSpl]
@[simp] theorem queueSpl_larder_holdEnded (t : Half) (p : List Byte) : (queueSpl s t p).larder.holdEnded = s.larder.holdEnded := by simp [queueSpl]
@[simp] theorem queueSpl_larder_events (t : Half) (p : List Byte) : (queueSpl s t p).larder.events = s.larder.events := by simp [queueSpl]
@[simp] theorem queueSpl_larder_secHolds (t : Half) (p : List Byte) : (queueSpl s t p).larder.secHolds = s.larder.secHolds := by simp [queueSpl]
@[simp] theorem queueSpl_larder_secSuperseded (t : Half) (p : List Byte) : (queueSpl s t p).larder.secSuperseded = s.larder.secSuperseded := by simp [queueSpl]
@[simp] theorem queueSpl_larder_secLate (t : Half) (p : List Byte) : (queueSpl s t p).larder.secLate = s.larder.secLate := by simp [queueSpl]
@[simp] theorem queueSpl_larder_delays (t : Half) (p : List Byte) : (queueSpl s t p).larder.delays = s.larder.delays := by simp [queueSpl]
@[simp] theorem queueSpl_larder_delayBase (t : Half) (p : List Byte) : (queueSpl s t p).larder.delayBase = s.larder.delayBase := by simp [queueSpl]
@[simp] theorem queueSpl_larder_lossSlateTold (t : Half) (p : List Byte) : (queueSpl s t p).larder.lossSlateTold = s.larder.lossSlateTold := by simp [queueSpl]
@[simp] theorem queueSpl_larder_dropped (t : Half) (p : List Byte) : (queueSpl s t p).larder.dropped = s.larder.dropped := by simp [queueSpl]
@[simp] theorem queueSpl_larder_badBankWords (t : Half) (p : List Byte) : (queueSpl s t p).larder.badBankWords = s.larder.badBankWords := by simp [queueSpl]

@[simp] theorem queueSpl_hall_ready (t : Half) (p : List Byte) : (queueSpl s t p).hall.ready = s.hall.ready := by simp [queueSpl]
@[simp] theorem queueSpl_hall_powerFail (t : Half) (p : List Byte) : (queueSpl s t p).hall.powerFail = s.hall.powerFail := by simp [queueSpl]
@[simp] theorem queueSpl_hall_channels (t : Half) (p : List Byte) : (queueSpl s t p).hall.channels = s.hall.channels := by simp [queueSpl]
@[simp] theorem queueSpl_hall_entries (t : Half) (p : List Byte) : (queueSpl s t p).hall.entries = s.hall.entries := by simp [queueSpl]
@[simp] theorem queueSpl_hall_summaries (t : Half) (p : List Byte) : (queueSpl s t p).hall.summaries = s.hall.summaries := by simp [queueSpl]
@[simp] theorem queueSpl_hall_nextNo (t : Half) (p : List Byte) : (queueSpl s t p).hall.nextNo = s.hall.nextNo := by simp [queueSpl]
@[simp] theorem queueSpl_hall_overwritten (t : Half) (p : List Byte) : (queueSpl s t p).hall.overwritten = s.hall.overwritten := by simp [queueSpl]
@[simp] theorem queueSpl_hall_auditedThrough (t : Half) (p : List Byte) : (queueSpl s t p).hall.auditedThrough = s.hall.auditedThrough := by simp [queueSpl]
@[simp] theorem queueSpl_hall_writing (t : Half) (p : List Byte) : (queueSpl s t p).hall.writing = s.hall.writing := by simp [queueSpl]
@[simp] theorem queueSpl_hall_done (t : Half) (p : List Byte) : (queueSpl s t p).hall.done = s.hall.done := by simp [queueSpl]
@[simp] theorem queueSpl_hall_replayed (t : Half) (p : List Byte) : (queueSpl s t p).hall.replayed = s.hall.replayed := by simp [queueSpl]
@[simp] theorem queueSpl_hall_archiveLost (t : Half) (p : List Byte) : (queueSpl s t p).hall.archiveLost = s.hall.archiveLost := by simp [queueSpl]
@[simp] theorem queueSpl_hall_tagFails (t : Half) (p : List Byte) : (queueSpl s t p).hall.tagFails = s.hall.tagFails := by simp [queueSpl]
@[simp] theorem queueSpl_hall_keyless (t : Half) (p : List Byte) : (queueSpl s t p).hall.keyless = s.hall.keyless := by simp [queueSpl]

@[simp] theorem queueSpl_addr_addr (t : Half) (p : List Byte) : (queueSpl s t p).addr.addr = s.addr.addr := by simp [queueSpl]
@[simp] theorem queueSpl_addr_pos (t : Half) (p : List Byte) : (queueSpl s t p).addr.pos = s.addr.pos := by simp [queueSpl]
@[simp] theorem queueSpl_addr_pinConflict (t : Half) (p : List Byte) : (queueSpl s t p).addr.pinConflict = s.addr.pinConflict := by simp [queueSpl]
@[simp] theorem queueSpl_addr_epoch (t : Half) (p : List Byte) : (queueSpl s t p).addr.epoch = s.addr.epoch := by simp [queueSpl]
@[simp] theorem queueSpl_addr_lastAddr (t : Half) (p : List Byte) : (queueSpl s t p).addr.lastAddr = s.addr.lastAddr := by simp [queueSpl]
@[simp] theorem queueSpl_addr_lastPos (t : Half) (p : List Byte) : (queueSpl s t p).addr.lastPos = s.addr.lastPos := by simp [queueSpl]
@[simp] theorem queueSpl_addr_tamperSinceJoin (t : Half) (p : List Byte) : (queueSpl s t p).addr.tamperSinceJoin = s.addr.tamperSinceJoin := by simp [queueSpl]

@[simp] theorem queueSpl_port_st (t : Half) (p : List Byte) (x : Port) : (getPort (queueSpl s t p) x).st = (getPort s x).st := by simp [queueSpl]
@[simp] theorem queueSpl_port_since (t : Half) (p : List Byte) (x : Port) : (getPort (queueSpl s t p) x).since = (getPort s x).since := by simp [queueSpl]
@[simp] theorem queueSpl_port_fastUntil (t : Half) (p : List Byte) (x : Port) : (getPort (queueSpl s t p) x).fastUntil = (getPort s x).fastUntil := by simp [queueSpl]
@[simp] theorem queueSpl_port_fastNow (t : Half) (p : List Byte) (x : Port) : (getPort (queueSpl s t p) x).fastNow = (getPort s x).fastNow := by simp [queueSpl]
@[simp] theorem queueSpl_port_twoLanes (t : Half) (p : List Byte) (x : Port) : (getPort (queueSpl s t p) x).twoLanes = (getPort s x).twoLanes := by simp [queueSpl]
@[simp] theorem queueSpl_port_laneMismatch (t : Half) (p : List Byte) (x : Port) : (getPort (queueSpl s t p) x).laneMismatch = (getPort s x).laneMismatch := by simp [queueSpl]
@[simp] theorem queueSpl_port_rateSuspected (t : Half) (p : List Byte) (x : Port) : (getPort (queueSpl s t p) x).rateSuspected = (getPort s x).rateSuspected := by simp [queueSpl]
@[simp] theorem queueSpl_port_degraded (t : Half) (p : List Byte) (x : Port) : (getPort (queueSpl s t p) x).degraded = (getPort s x).degraded := by simp [queueSpl]
@[simp] theorem queueSpl_port_nbrLow (t : Half) (p : List Byte) (x : Port) : (getPort (queueSpl s t p) x).nbrLow = (getPort s x).nbrLow := by simp [queueSpl]
@[simp] theorem queueSpl_port_nbrSerial (t : Half) (p : List Byte) (x : Port) : (getPort (queueSpl s t p) x).nbrSerial = (getPort s x).nbrSerial := by simp [queueSpl]
@[simp] theorem queueSpl_port_windowEnd (t : Half) (p : List Byte) (x : Port) : (getPort (queueSpl s t p) x).windowEnd = (getPort s x).windowEnd := by simp [queueSpl]
@[simp] theorem queueSpl_port_inWindow (t : Half) (p : List Byte) (x : Port) : (getPort (queueSpl s t p) x).inWindow = (getPort s x).inWindow := by simp [queueSpl]
@[simp] theorem queueSpl_port_outageUs (t : Half) (p : List Byte) (x : Port) : (getPort (queueSpl s t p) x).outageUs = (getPort s x).outageUs := by simp [queueSpl]
@[simp] theorem queueSpl_port_downAt (t : Half) (p : List Byte) (x : Port) : (getPort (queueSpl s t p) x).downAt = (getPort s x).downAt := by simp [queueSpl]
@[simp] theorem queueSpl_port_crcThisSecond (t : Half) (p : List Byte) (x : Port) : (getPort (queueSpl s t p) x).crcThisSecond = (getPort s x).crcThisSecond := by simp [queueSpl]
@[simp] theorem queueSpl_port_crcLastSecond (t : Half) (p : List Byte) (x : Port) : (getPort (queueSpl s t p) x).crcLastSecond = (getPort s x).crcLastSecond := by simp [queueSpl]
@[simp] theorem queueSpl_port_nextIdent (t : Half) (p : List Byte) (x : Port) : (getPort (queueSpl s t p) x).nextIdent = (getPort s x).nextIdent := by simp [queueSpl]
@[simp] theorem queueSpl_port_skewPs (t : Half) (p : List Byte) (x : Port) : (getPort (queueSpl s t p) x).skewPs = (getPort s x).skewPs := by simp [queueSpl]
@[simp] theorem queueSpl_port_eqLong (t : Half) (p : List Byte) (x : Port) : (getPort (queueSpl s t p) x).eqLong = (getPort s x).eqLong := by simp [queueSpl]

@[simp] theorem queueLink_spine_mergeMem (w : Nat) : (queueLink s w).spine.mergeMem = s.spine.mergeMem := by simp [queueLink]
@[simp] theorem queueLink_spine_bypHold (w : Nat) : (queueLink s w).spine.bypHold = s.spine.bypHold := by simp [queueLink]
@[simp] theorem queueLink_spine_pllLocked (w : Nat) : (queueLink s w).spine.pllLocked = s.spine.pllLocked := by simp [queueLink]
@[simp] theorem queueLink_spine_selfTestPassed (w : Nat) : (queueLink s w).spine.selfTestPassed = s.spine.selfTestPassed := by simp [queueLink]
@[simp] theorem queueLink_spine_selfTestFailed (w : Nat) : (queueLink s w).spine.selfTestFailed = s.spine.selfTestFailed := by simp [queueLink]
@[simp] theorem queueLink_spine_internalSelfTest (w : Nat) : (queueLink s w).spine.internalSelfTest = s.spine.internalSelfTest := by simp [queueLink]
@[simp] theorem queueLink_spine_senseDue (w : Nat) : (queueLink s w).spine.senseDue = s.spine.senseDue := by simp [queueLink]
@[simp] theorem queueLink_spine_switchRetries (w : Nat) : (queueLink s w).spine.switchRetries = s.spine.switchRetries := by simp [queueLink]
@[simp] theorem queueLink_spine_retryDue (w : Nat) : (queueLink s w).spine.retryDue = s.spine.retryDue := by simp [queueLink]
@[simp] theorem queueLink_spine_switchFailed (w : Nat) : (queueLink s w).spine.switchFailed = s.spine.switchFailed := by simp [queueLink]
@[simp] theorem queueLink_spine_stuck (w : Nat) : (queueLink s w).spine.stuck = s.spine.stuck := by simp [queueLink]
@[simp] theorem queueLink_spine_switchFaultSeen (w : Nat) : (queueLink s w).spine.switchFaultSeen = s.spine.switchFaultSeen := by simp [queueLink]
@[simp] theorem queueLink_spine_switchFaultsLogged (w : Nat) : (queueLink s w).spine.switchFaultsLogged = s.spine.switchFaultsLogged := by simp [queueLink]
@[simp] theorem queueLink_spine_ringMap (w : Nat) : (queueLink s w).spine.ringMap = s.spine.ringMap := by simp [queueLink]
@[simp] theorem queueLink_spine_leaveWin (w : Nat) : (queueLink s w).spine.leaveWin = s.spine.leaveWin := by simp [queueLink]
@[simp] theorem queueLink_spine_returnWin (w : Nat) : (queueLink s w).spine.returnWin = s.spine.returnWin := by simp [queueLink]
@[simp] theorem queueLink_spine_watched (w : Nat) : (queueLink s w).spine.watched = s.spine.watched := by simp [queueLink]
@[simp] theorem queueLink_spine_leftAt (w : Nat) : (queueLink s w).spine.leftAt = s.spine.leftAt := by simp [queueLink]
@[simp] theorem queueLink_spine_selfTestDue (w : Nat) : (queueLink s w).spine.selfTestDue = s.spine.selfTestDue := by simp [queueLink]
@[simp] theorem queueLink_spine_splSeen (w : Nat) : (queueLink s w).spine.splSeen = s.spine.splSeen := by simp [queueLink]
@[simp] theorem queueLink_spine_malformed (w : Nat) : (queueLink s w).spine.malformed = s.spine.malformed := by simp [queueLink]
@[simp] theorem queueLink_spine_collisionReported (w : Nat) : (queueLink s w).spine.collisionReported = s.spine.collisionReported := by simp [queueLink]
@[simp] theorem queueLink_spine_earlyQuires (w : Nat) : (queueLink s w).spine.earlyQuires = s.spine.earlyQuires := by simp [queueLink]
@[simp] theorem queueLink_spine_ctlQueue (w : Nat) : (queueLink s w).spine.ctlQueue = s.spine.ctlQueue := by simp [queueLink]
@[simp] theorem queueLink_spine_sigCopied (w : Nat) : (queueLink s w).spine.sigCopied = s.spine.sigCopied := by simp [queueLink]
@[simp] theorem queueLink_spine_lastQuire (w : Nat) : (queueLink s w).spine.lastQuire = s.spine.lastQuire := by simp [queueLink]

@[simp] theorem queueLink_larder_slots (w : Nat) : (queueLink s w).larder.slots = s.larder.slots := by simp [queueLink]
@[simp] theorem queueLink_larder_plates (w : Nat) : (queueLink s w).larder.plates = s.larder.plates := by simp [queueLink]
@[simp] theorem queueLink_larder_seamOnLight (w : Nat) : (queueLink s w).larder.seamOnLight = s.larder.seamOnLight := by simp [queueLink]
@[simp] theorem queueLink_larder_fstate (w : Nat) : (queueLink s w).larder.fstate = s.larder.fstate := by simp [queueLink]
@[simp] theorem queueLink_larder_feed (w : Nat) : (queueLink s w).larder.feed = s.larder.feed := by simp [queueLink]
@[simp] theorem queueLink_larder_feedSince (w : Nat) : (queueLink s w).larder.feedSince = s.larder.feedSince := by simp [queueLink]
@[simp] theorem queueLink_larder_feedStopped (w : Nat) : (queueLink s w).larder.feedStopped = s.larder.feedStopped := by simp [queueLink]
@[simp] theorem queueLink_larder_feedRestart (w : Nat) : (queueLink s w).larder.feedRestart = s.larder.feedRestart := by simp [queueLink]
@[simp] theorem queueLink_larder_lostAt (w : Nat) : (queueLink s w).larder.lostAt = s.larder.lostAt := by simp [queueLink]
@[simp] theorem queueLink_larder_holdEnded (w : Nat) : (queueLink s w).larder.holdEnded = s.larder.holdEnded := by simp [queueLink]
@[simp] theorem queueLink_larder_events (w : Nat) : (queueLink s w).larder.events = s.larder.events := by simp [queueLink]
@[simp] theorem queueLink_larder_secHolds (w : Nat) : (queueLink s w).larder.secHolds = s.larder.secHolds := by simp [queueLink]
@[simp] theorem queueLink_larder_secSuperseded (w : Nat) : (queueLink s w).larder.secSuperseded = s.larder.secSuperseded := by simp [queueLink]
@[simp] theorem queueLink_larder_secLate (w : Nat) : (queueLink s w).larder.secLate = s.larder.secLate := by simp [queueLink]
@[simp] theorem queueLink_larder_delays (w : Nat) : (queueLink s w).larder.delays = s.larder.delays := by simp [queueLink]
@[simp] theorem queueLink_larder_delayBase (w : Nat) : (queueLink s w).larder.delayBase = s.larder.delayBase := by simp [queueLink]
@[simp] theorem queueLink_larder_lossSlateTold (w : Nat) : (queueLink s w).larder.lossSlateTold = s.larder.lossSlateTold := by simp [queueLink]
@[simp] theorem queueLink_larder_dropped (w : Nat) : (queueLink s w).larder.dropped = s.larder.dropped := by simp [queueLink]
@[simp] theorem queueLink_larder_badBankWords (w : Nat) : (queueLink s w).larder.badBankWords = s.larder.badBankWords := by simp [queueLink]

@[simp] theorem queueLink_hall_ready (w : Nat) : (queueLink s w).hall.ready = s.hall.ready := by simp [queueLink]
@[simp] theorem queueLink_hall_powerFail (w : Nat) : (queueLink s w).hall.powerFail = s.hall.powerFail := by simp [queueLink]
@[simp] theorem queueLink_hall_channels (w : Nat) : (queueLink s w).hall.channels = s.hall.channels := by simp [queueLink]
@[simp] theorem queueLink_hall_entries (w : Nat) : (queueLink s w).hall.entries = s.hall.entries := by simp [queueLink]
@[simp] theorem queueLink_hall_summaries (w : Nat) : (queueLink s w).hall.summaries = s.hall.summaries := by simp [queueLink]
@[simp] theorem queueLink_hall_nextNo (w : Nat) : (queueLink s w).hall.nextNo = s.hall.nextNo := by simp [queueLink]
@[simp] theorem queueLink_hall_overwritten (w : Nat) : (queueLink s w).hall.overwritten = s.hall.overwritten := by simp [queueLink]
@[simp] theorem queueLink_hall_auditedThrough (w : Nat) : (queueLink s w).hall.auditedThrough = s.hall.auditedThrough := by simp [queueLink]
@[simp] theorem queueLink_hall_writing (w : Nat) : (queueLink s w).hall.writing = s.hall.writing := by simp [queueLink]
@[simp] theorem queueLink_hall_done (w : Nat) : (queueLink s w).hall.done = s.hall.done := by simp [queueLink]
@[simp] theorem queueLink_hall_replayed (w : Nat) : (queueLink s w).hall.replayed = s.hall.replayed := by simp [queueLink]
@[simp] theorem queueLink_hall_archiveLost (w : Nat) : (queueLink s w).hall.archiveLost = s.hall.archiveLost := by simp [queueLink]
@[simp] theorem queueLink_hall_tagFails (w : Nat) : (queueLink s w).hall.tagFails = s.hall.tagFails := by simp [queueLink]
@[simp] theorem queueLink_hall_keyless (w : Nat) : (queueLink s w).hall.keyless = s.hall.keyless := by simp [queueLink]

@[simp] theorem queueLink_addr_addr (w : Nat) : (queueLink s w).addr.addr = s.addr.addr := by simp [queueLink]
@[simp] theorem queueLink_addr_pos (w : Nat) : (queueLink s w).addr.pos = s.addr.pos := by simp [queueLink]
@[simp] theorem queueLink_addr_pinConflict (w : Nat) : (queueLink s w).addr.pinConflict = s.addr.pinConflict := by simp [queueLink]
@[simp] theorem queueLink_addr_epoch (w : Nat) : (queueLink s w).addr.epoch = s.addr.epoch := by simp [queueLink]
@[simp] theorem queueLink_addr_lastAddr (w : Nat) : (queueLink s w).addr.lastAddr = s.addr.lastAddr := by simp [queueLink]
@[simp] theorem queueLink_addr_lastPos (w : Nat) : (queueLink s w).addr.lastPos = s.addr.lastPos := by simp [queueLink]
@[simp] theorem queueLink_addr_tamperSinceJoin (w : Nat) : (queueLink s w).addr.tamperSinceJoin = s.addr.tamperSinceJoin := by simp [queueLink]

@[simp] theorem queueLink_port_st (w : Nat) (x : Port) : (getPort (queueLink s w) x).st = (getPort s x).st := by simp [queueLink]
@[simp] theorem queueLink_port_since (w : Nat) (x : Port) : (getPort (queueLink s w) x).since = (getPort s x).since := by simp [queueLink]
@[simp] theorem queueLink_port_fastUntil (w : Nat) (x : Port) : (getPort (queueLink s w) x).fastUntil = (getPort s x).fastUntil := by simp [queueLink]
@[simp] theorem queueLink_port_fastNow (w : Nat) (x : Port) : (getPort (queueLink s w) x).fastNow = (getPort s x).fastNow := by simp [queueLink]
@[simp] theorem queueLink_port_twoLanes (w : Nat) (x : Port) : (getPort (queueLink s w) x).twoLanes = (getPort s x).twoLanes := by simp [queueLink]
@[simp] theorem queueLink_port_laneMismatch (w : Nat) (x : Port) : (getPort (queueLink s w) x).laneMismatch = (getPort s x).laneMismatch := by simp [queueLink]
@[simp] theorem queueLink_port_rateSuspected (w : Nat) (x : Port) : (getPort (queueLink s w) x).rateSuspected = (getPort s x).rateSuspected := by simp [queueLink]
@[simp] theorem queueLink_port_degraded (w : Nat) (x : Port) : (getPort (queueLink s w) x).degraded = (getPort s x).degraded := by simp [queueLink]
@[simp] theorem queueLink_port_nbrLow (w : Nat) (x : Port) : (getPort (queueLink s w) x).nbrLow = (getPort s x).nbrLow := by simp [queueLink]
@[simp] theorem queueLink_port_nbrSerial (w : Nat) (x : Port) : (getPort (queueLink s w) x).nbrSerial = (getPort s x).nbrSerial := by simp [queueLink]
@[simp] theorem queueLink_port_windowEnd (w : Nat) (x : Port) : (getPort (queueLink s w) x).windowEnd = (getPort s x).windowEnd := by simp [queueLink]
@[simp] theorem queueLink_port_inWindow (w : Nat) (x : Port) : (getPort (queueLink s w) x).inWindow = (getPort s x).inWindow := by simp [queueLink]
@[simp] theorem queueLink_port_outageUs (w : Nat) (x : Port) : (getPort (queueLink s w) x).outageUs = (getPort s x).outageUs := by simp [queueLink]
@[simp] theorem queueLink_port_downAt (w : Nat) (x : Port) : (getPort (queueLink s w) x).downAt = (getPort s x).downAt := by simp [queueLink]
@[simp] theorem queueLink_port_crcThisSecond (w : Nat) (x : Port) : (getPort (queueLink s w) x).crcThisSecond = (getPort s x).crcThisSecond := by simp [queueLink]
@[simp] theorem queueLink_port_crcLastSecond (w : Nat) (x : Port) : (getPort (queueLink s w) x).crcLastSecond = (getPort s x).crcLastSecond := by simp [queueLink]
@[simp] theorem queueLink_port_nextIdent (w : Nat) (x : Port) : (getPort (queueLink s w) x).nextIdent = (getPort s x).nextIdent := by simp [queueLink]
@[simp] theorem queueLink_port_skewPs (w : Nat) (x : Port) : (getPort (queueLink s w) x).skewPs = (getPort s x).skewPs := by simp [queueLink]
@[simp] theorem queueLink_port_eqLong (w : Nat) (x : Port) : (getPort (queueLink s w) x).eqLong = (getPort s x).eqLong := by simp [queueLink]

@[simp] theorem queueAck_spine_mergeMem (c : Half) (q : Word) (d : Bool) : (queueAck s c q d).spine.mergeMem = s.spine.mergeMem := by simp [queueAck]
@[simp] theorem queueAck_spine_bypHold (c : Half) (q : Word) (d : Bool) : (queueAck s c q d).spine.bypHold = s.spine.bypHold := by simp [queueAck]
@[simp] theorem queueAck_spine_pllLocked (c : Half) (q : Word) (d : Bool) : (queueAck s c q d).spine.pllLocked = s.spine.pllLocked := by simp [queueAck]
@[simp] theorem queueAck_spine_selfTestPassed (c : Half) (q : Word) (d : Bool) : (queueAck s c q d).spine.selfTestPassed = s.spine.selfTestPassed := by simp [queueAck]
@[simp] theorem queueAck_spine_selfTestFailed (c : Half) (q : Word) (d : Bool) : (queueAck s c q d).spine.selfTestFailed = s.spine.selfTestFailed := by simp [queueAck]
@[simp] theorem queueAck_spine_internalSelfTest (c : Half) (q : Word) (d : Bool) : (queueAck s c q d).spine.internalSelfTest = s.spine.internalSelfTest := by simp [queueAck]
@[simp] theorem queueAck_spine_senseDue (c : Half) (q : Word) (d : Bool) : (queueAck s c q d).spine.senseDue = s.spine.senseDue := by simp [queueAck]
@[simp] theorem queueAck_spine_switchRetries (c : Half) (q : Word) (d : Bool) : (queueAck s c q d).spine.switchRetries = s.spine.switchRetries := by simp [queueAck]
@[simp] theorem queueAck_spine_retryDue (c : Half) (q : Word) (d : Bool) : (queueAck s c q d).spine.retryDue = s.spine.retryDue := by simp [queueAck]
@[simp] theorem queueAck_spine_switchFailed (c : Half) (q : Word) (d : Bool) : (queueAck s c q d).spine.switchFailed = s.spine.switchFailed := by simp [queueAck]
@[simp] theorem queueAck_spine_stuck (c : Half) (q : Word) (d : Bool) : (queueAck s c q d).spine.stuck = s.spine.stuck := by simp [queueAck]
@[simp] theorem queueAck_spine_switchFaultSeen (c : Half) (q : Word) (d : Bool) : (queueAck s c q d).spine.switchFaultSeen = s.spine.switchFaultSeen := by simp [queueAck]
@[simp] theorem queueAck_spine_switchFaultsLogged (c : Half) (q : Word) (d : Bool) : (queueAck s c q d).spine.switchFaultsLogged = s.spine.switchFaultsLogged := by simp [queueAck]
@[simp] theorem queueAck_spine_ringMap (c : Half) (q : Word) (d : Bool) : (queueAck s c q d).spine.ringMap = s.spine.ringMap := by simp [queueAck]
@[simp] theorem queueAck_spine_leaveWin (c : Half) (q : Word) (d : Bool) : (queueAck s c q d).spine.leaveWin = s.spine.leaveWin := by simp [queueAck]
@[simp] theorem queueAck_spine_returnWin (c : Half) (q : Word) (d : Bool) : (queueAck s c q d).spine.returnWin = s.spine.returnWin := by simp [queueAck]
@[simp] theorem queueAck_spine_watched (c : Half) (q : Word) (d : Bool) : (queueAck s c q d).spine.watched = s.spine.watched := by simp [queueAck]
@[simp] theorem queueAck_spine_leftAt (c : Half) (q : Word) (d : Bool) : (queueAck s c q d).spine.leftAt = s.spine.leftAt := by simp [queueAck]
@[simp] theorem queueAck_spine_selfTestDue (c : Half) (q : Word) (d : Bool) : (queueAck s c q d).spine.selfTestDue = s.spine.selfTestDue := by simp [queueAck]
@[simp] theorem queueAck_spine_splSeen (c : Half) (q : Word) (d : Bool) : (queueAck s c q d).spine.splSeen = s.spine.splSeen := by simp [queueAck]
@[simp] theorem queueAck_spine_malformed (c : Half) (q : Word) (d : Bool) : (queueAck s c q d).spine.malformed = s.spine.malformed := by simp [queueAck]
@[simp] theorem queueAck_spine_collisionReported (c : Half) (q : Word) (d : Bool) : (queueAck s c q d).spine.collisionReported = s.spine.collisionReported := by simp [queueAck]
@[simp] theorem queueAck_spine_earlyQuires (c : Half) (q : Word) (d : Bool) : (queueAck s c q d).spine.earlyQuires = s.spine.earlyQuires := by simp [queueAck]
@[simp] theorem queueAck_spine_ctlQueue (c : Half) (q : Word) (d : Bool) : (queueAck s c q d).spine.ctlQueue = s.spine.ctlQueue := by simp [queueAck]
@[simp] theorem queueAck_spine_sigCopied (c : Half) (q : Word) (d : Bool) : (queueAck s c q d).spine.sigCopied = s.spine.sigCopied := by simp [queueAck]
@[simp] theorem queueAck_spine_lastQuire (c : Half) (q : Word) (d : Bool) : (queueAck s c q d).spine.lastQuire = s.spine.lastQuire := by simp [queueAck]

@[simp] theorem queueAck_larder_slots (c : Half) (q : Word) (d : Bool) : (queueAck s c q d).larder.slots = s.larder.slots := by simp [queueAck]
@[simp] theorem queueAck_larder_plates (c : Half) (q : Word) (d : Bool) : (queueAck s c q d).larder.plates = s.larder.plates := by simp [queueAck]
@[simp] theorem queueAck_larder_seamOnLight (c : Half) (q : Word) (d : Bool) : (queueAck s c q d).larder.seamOnLight = s.larder.seamOnLight := by simp [queueAck]
@[simp] theorem queueAck_larder_fstate (c : Half) (q : Word) (d : Bool) : (queueAck s c q d).larder.fstate = s.larder.fstate := by simp [queueAck]
@[simp] theorem queueAck_larder_feed (c : Half) (q : Word) (d : Bool) : (queueAck s c q d).larder.feed = s.larder.feed := by simp [queueAck]
@[simp] theorem queueAck_larder_feedSince (c : Half) (q : Word) (d : Bool) : (queueAck s c q d).larder.feedSince = s.larder.feedSince := by simp [queueAck]
@[simp] theorem queueAck_larder_feedStopped (c : Half) (q : Word) (d : Bool) : (queueAck s c q d).larder.feedStopped = s.larder.feedStopped := by simp [queueAck]
@[simp] theorem queueAck_larder_feedRestart (c : Half) (q : Word) (d : Bool) : (queueAck s c q d).larder.feedRestart = s.larder.feedRestart := by simp [queueAck]
@[simp] theorem queueAck_larder_lostAt (c : Half) (q : Word) (d : Bool) : (queueAck s c q d).larder.lostAt = s.larder.lostAt := by simp [queueAck]
@[simp] theorem queueAck_larder_holdEnded (c : Half) (q : Word) (d : Bool) : (queueAck s c q d).larder.holdEnded = s.larder.holdEnded := by simp [queueAck]
@[simp] theorem queueAck_larder_events (c : Half) (q : Word) (d : Bool) : (queueAck s c q d).larder.events = s.larder.events := by simp [queueAck]
@[simp] theorem queueAck_larder_secHolds (c : Half) (q : Word) (d : Bool) : (queueAck s c q d).larder.secHolds = s.larder.secHolds := by simp [queueAck]
@[simp] theorem queueAck_larder_secSuperseded (c : Half) (q : Word) (d : Bool) : (queueAck s c q d).larder.secSuperseded = s.larder.secSuperseded := by simp [queueAck]
@[simp] theorem queueAck_larder_secLate (c : Half) (q : Word) (d : Bool) : (queueAck s c q d).larder.secLate = s.larder.secLate := by simp [queueAck]
@[simp] theorem queueAck_larder_delays (c : Half) (q : Word) (d : Bool) : (queueAck s c q d).larder.delays = s.larder.delays := by simp [queueAck]
@[simp] theorem queueAck_larder_delayBase (c : Half) (q : Word) (d : Bool) : (queueAck s c q d).larder.delayBase = s.larder.delayBase := by simp [queueAck]
@[simp] theorem queueAck_larder_lossSlateTold (c : Half) (q : Word) (d : Bool) : (queueAck s c q d).larder.lossSlateTold = s.larder.lossSlateTold := by simp [queueAck]
@[simp] theorem queueAck_larder_dropped (c : Half) (q : Word) (d : Bool) : (queueAck s c q d).larder.dropped = s.larder.dropped := by simp [queueAck]
@[simp] theorem queueAck_larder_badBankWords (c : Half) (q : Word) (d : Bool) : (queueAck s c q d).larder.badBankWords = s.larder.badBankWords := by simp [queueAck]

@[simp] theorem queueAck_hall_ready (c : Half) (q : Word) (d : Bool) : (queueAck s c q d).hall.ready = s.hall.ready := by simp [queueAck]
@[simp] theorem queueAck_hall_powerFail (c : Half) (q : Word) (d : Bool) : (queueAck s c q d).hall.powerFail = s.hall.powerFail := by simp [queueAck]
@[simp] theorem queueAck_hall_channels (c : Half) (q : Word) (d : Bool) : (queueAck s c q d).hall.channels = s.hall.channels := by simp [queueAck]
@[simp] theorem queueAck_hall_entries (c : Half) (q : Word) (d : Bool) : (queueAck s c q d).hall.entries = s.hall.entries := by simp [queueAck]
@[simp] theorem queueAck_hall_summaries (c : Half) (q : Word) (d : Bool) : (queueAck s c q d).hall.summaries = s.hall.summaries := by simp [queueAck]
@[simp] theorem queueAck_hall_nextNo (c : Half) (q : Word) (d : Bool) : (queueAck s c q d).hall.nextNo = s.hall.nextNo := by simp [queueAck]
@[simp] theorem queueAck_hall_overwritten (c : Half) (q : Word) (d : Bool) : (queueAck s c q d).hall.overwritten = s.hall.overwritten := by simp [queueAck]
@[simp] theorem queueAck_hall_auditedThrough (c : Half) (q : Word) (d : Bool) : (queueAck s c q d).hall.auditedThrough = s.hall.auditedThrough := by simp [queueAck]
@[simp] theorem queueAck_hall_writing (c : Half) (q : Word) (d : Bool) : (queueAck s c q d).hall.writing = s.hall.writing := by simp [queueAck]
@[simp] theorem queueAck_hall_done (c : Half) (q : Word) (d : Bool) : (queueAck s c q d).hall.done = s.hall.done := by simp [queueAck]
@[simp] theorem queueAck_hall_replayed (c : Half) (q : Word) (d : Bool) : (queueAck s c q d).hall.replayed = s.hall.replayed := by simp [queueAck]
@[simp] theorem queueAck_hall_archiveLost (c : Half) (q : Word) (d : Bool) : (queueAck s c q d).hall.archiveLost = s.hall.archiveLost := by simp [queueAck]
@[simp] theorem queueAck_hall_tagFails (c : Half) (q : Word) (d : Bool) : (queueAck s c q d).hall.tagFails = s.hall.tagFails := by simp [queueAck]
@[simp] theorem queueAck_hall_keyless (c : Half) (q : Word) (d : Bool) : (queueAck s c q d).hall.keyless = s.hall.keyless := by simp [queueAck]

@[simp] theorem queueAck_addr_addr (c : Half) (q : Word) (d : Bool) : (queueAck s c q d).addr.addr = s.addr.addr := by simp [queueAck]
@[simp] theorem queueAck_addr_pos (c : Half) (q : Word) (d : Bool) : (queueAck s c q d).addr.pos = s.addr.pos := by simp [queueAck]
@[simp] theorem queueAck_addr_pinConflict (c : Half) (q : Word) (d : Bool) : (queueAck s c q d).addr.pinConflict = s.addr.pinConflict := by simp [queueAck]
@[simp] theorem queueAck_addr_epoch (c : Half) (q : Word) (d : Bool) : (queueAck s c q d).addr.epoch = s.addr.epoch := by simp [queueAck]
@[simp] theorem queueAck_addr_lastAddr (c : Half) (q : Word) (d : Bool) : (queueAck s c q d).addr.lastAddr = s.addr.lastAddr := by simp [queueAck]
@[simp] theorem queueAck_addr_lastPos (c : Half) (q : Word) (d : Bool) : (queueAck s c q d).addr.lastPos = s.addr.lastPos := by simp [queueAck]
@[simp] theorem queueAck_addr_tamperSinceJoin (c : Half) (q : Word) (d : Bool) : (queueAck s c q d).addr.tamperSinceJoin = s.addr.tamperSinceJoin := by simp [queueAck]

@[simp] theorem queueAck_port_st (c : Half) (q : Word) (d : Bool) (x : Port) : (getPort (queueAck s c q d) x).st = (getPort s x).st := by simp [queueAck]
@[simp] theorem queueAck_port_since (c : Half) (q : Word) (d : Bool) (x : Port) : (getPort (queueAck s c q d) x).since = (getPort s x).since := by simp [queueAck]
@[simp] theorem queueAck_port_fastUntil (c : Half) (q : Word) (d : Bool) (x : Port) : (getPort (queueAck s c q d) x).fastUntil = (getPort s x).fastUntil := by simp [queueAck]
@[simp] theorem queueAck_port_fastNow (c : Half) (q : Word) (d : Bool) (x : Port) : (getPort (queueAck s c q d) x).fastNow = (getPort s x).fastNow := by simp [queueAck]
@[simp] theorem queueAck_port_twoLanes (c : Half) (q : Word) (d : Bool) (x : Port) : (getPort (queueAck s c q d) x).twoLanes = (getPort s x).twoLanes := by simp [queueAck]
@[simp] theorem queueAck_port_laneMismatch (c : Half) (q : Word) (d : Bool) (x : Port) : (getPort (queueAck s c q d) x).laneMismatch = (getPort s x).laneMismatch := by simp [queueAck]
@[simp] theorem queueAck_port_rateSuspected (c : Half) (q : Word) (d : Bool) (x : Port) : (getPort (queueAck s c q d) x).rateSuspected = (getPort s x).rateSuspected := by simp [queueAck]
@[simp] theorem queueAck_port_degraded (c : Half) (q : Word) (d : Bool) (x : Port) : (getPort (queueAck s c q d) x).degraded = (getPort s x).degraded := by simp [queueAck]
@[simp] theorem queueAck_port_nbrLow (c : Half) (q : Word) (d : Bool) (x : Port) : (getPort (queueAck s c q d) x).nbrLow = (getPort s x).nbrLow := by simp [queueAck]
@[simp] theorem queueAck_port_nbrSerial (c : Half) (q : Word) (d : Bool) (x : Port) : (getPort (queueAck s c q d) x).nbrSerial = (getPort s x).nbrSerial := by simp [queueAck]
@[simp] theorem queueAck_port_windowEnd (c : Half) (q : Word) (d : Bool) (x : Port) : (getPort (queueAck s c q d) x).windowEnd = (getPort s x).windowEnd := by simp [queueAck]
@[simp] theorem queueAck_port_inWindow (c : Half) (q : Word) (d : Bool) (x : Port) : (getPort (queueAck s c q d) x).inWindow = (getPort s x).inWindow := by simp [queueAck]
@[simp] theorem queueAck_port_outageUs (c : Half) (q : Word) (d : Bool) (x : Port) : (getPort (queueAck s c q d) x).outageUs = (getPort s x).outageUs := by simp [queueAck]
@[simp] theorem queueAck_port_downAt (c : Half) (q : Word) (d : Bool) (x : Port) : (getPort (queueAck s c q d) x).downAt = (getPort s x).downAt := by simp [queueAck]
@[simp] theorem queueAck_port_crcThisSecond (c : Half) (q : Word) (d : Bool) (x : Port) : (getPort (queueAck s c q d) x).crcThisSecond = (getPort s x).crcThisSecond := by simp [queueAck]
@[simp] theorem queueAck_port_crcLastSecond (c : Half) (q : Word) (d : Bool) (x : Port) : (getPort (queueAck s c q d) x).crcLastSecond = (getPort s x).crcLastSecond := by simp [queueAck]
@[simp] theorem queueAck_port_nextIdent (c : Half) (q : Word) (d : Bool) (x : Port) : (getPort (queueAck s c q d) x).nextIdent = (getPort s x).nextIdent := by simp [queueAck]
@[simp] theorem queueAck_port_skewPs (c : Half) (q : Word) (d : Bool) (x : Port) : (getPort (queueAck s c q d) x).skewPs = (getPort s x).skewPs := by simp [queueAck]
@[simp] theorem queueAck_port_eqLong (c : Half) (q : Word) (d : Bool) (x : Port) : (getPort (queueAck s c q d) x).eqLong = (getPort s x).eqLong := by simp [queueAck]

@[simp] theorem queueNack_spine_mergeMem (c : Half) (q : Word) (r : Nat) : (queueNack s c q r).spine.mergeMem = s.spine.mergeMem := by simp [queueNack]
@[simp] theorem queueNack_spine_bypHold (c : Half) (q : Word) (r : Nat) : (queueNack s c q r).spine.bypHold = s.spine.bypHold := by simp [queueNack]
@[simp] theorem queueNack_spine_pllLocked (c : Half) (q : Word) (r : Nat) : (queueNack s c q r).spine.pllLocked = s.spine.pllLocked := by simp [queueNack]
@[simp] theorem queueNack_spine_selfTestPassed (c : Half) (q : Word) (r : Nat) : (queueNack s c q r).spine.selfTestPassed = s.spine.selfTestPassed := by simp [queueNack]
@[simp] theorem queueNack_spine_selfTestFailed (c : Half) (q : Word) (r : Nat) : (queueNack s c q r).spine.selfTestFailed = s.spine.selfTestFailed := by simp [queueNack]
@[simp] theorem queueNack_spine_internalSelfTest (c : Half) (q : Word) (r : Nat) : (queueNack s c q r).spine.internalSelfTest = s.spine.internalSelfTest := by simp [queueNack]
@[simp] theorem queueNack_spine_senseDue (c : Half) (q : Word) (r : Nat) : (queueNack s c q r).spine.senseDue = s.spine.senseDue := by simp [queueNack]
@[simp] theorem queueNack_spine_switchRetries (c : Half) (q : Word) (r : Nat) : (queueNack s c q r).spine.switchRetries = s.spine.switchRetries := by simp [queueNack]
@[simp] theorem queueNack_spine_retryDue (c : Half) (q : Word) (r : Nat) : (queueNack s c q r).spine.retryDue = s.spine.retryDue := by simp [queueNack]
@[simp] theorem queueNack_spine_switchFailed (c : Half) (q : Word) (r : Nat) : (queueNack s c q r).spine.switchFailed = s.spine.switchFailed := by simp [queueNack]
@[simp] theorem queueNack_spine_stuck (c : Half) (q : Word) (r : Nat) : (queueNack s c q r).spine.stuck = s.spine.stuck := by simp [queueNack]
@[simp] theorem queueNack_spine_switchFaultSeen (c : Half) (q : Word) (r : Nat) : (queueNack s c q r).spine.switchFaultSeen = s.spine.switchFaultSeen := by simp [queueNack]
@[simp] theorem queueNack_spine_switchFaultsLogged (c : Half) (q : Word) (r : Nat) : (queueNack s c q r).spine.switchFaultsLogged = s.spine.switchFaultsLogged := by simp [queueNack]
@[simp] theorem queueNack_spine_ringMap (c : Half) (q : Word) (r : Nat) : (queueNack s c q r).spine.ringMap = s.spine.ringMap := by simp [queueNack]
@[simp] theorem queueNack_spine_leaveWin (c : Half) (q : Word) (r : Nat) : (queueNack s c q r).spine.leaveWin = s.spine.leaveWin := by simp [queueNack]
@[simp] theorem queueNack_spine_returnWin (c : Half) (q : Word) (r : Nat) : (queueNack s c q r).spine.returnWin = s.spine.returnWin := by simp [queueNack]
@[simp] theorem queueNack_spine_watched (c : Half) (q : Word) (r : Nat) : (queueNack s c q r).spine.watched = s.spine.watched := by simp [queueNack]
@[simp] theorem queueNack_spine_leftAt (c : Half) (q : Word) (r : Nat) : (queueNack s c q r).spine.leftAt = s.spine.leftAt := by simp [queueNack]
@[simp] theorem queueNack_spine_selfTestDue (c : Half) (q : Word) (r : Nat) : (queueNack s c q r).spine.selfTestDue = s.spine.selfTestDue := by simp [queueNack]
@[simp] theorem queueNack_spine_splSeen (c : Half) (q : Word) (r : Nat) : (queueNack s c q r).spine.splSeen = s.spine.splSeen := by simp [queueNack]
@[simp] theorem queueNack_spine_malformed (c : Half) (q : Word) (r : Nat) : (queueNack s c q r).spine.malformed = s.spine.malformed := by simp [queueNack]
@[simp] theorem queueNack_spine_collisionReported (c : Half) (q : Word) (r : Nat) : (queueNack s c q r).spine.collisionReported = s.spine.collisionReported := by simp [queueNack]
@[simp] theorem queueNack_spine_earlyQuires (c : Half) (q : Word) (r : Nat) : (queueNack s c q r).spine.earlyQuires = s.spine.earlyQuires := by simp [queueNack]
@[simp] theorem queueNack_spine_ctlQueue (c : Half) (q : Word) (r : Nat) : (queueNack s c q r).spine.ctlQueue = s.spine.ctlQueue := by simp [queueNack]
@[simp] theorem queueNack_spine_sigCopied (c : Half) (q : Word) (r : Nat) : (queueNack s c q r).spine.sigCopied = s.spine.sigCopied := by simp [queueNack]
@[simp] theorem queueNack_spine_lastQuire (c : Half) (q : Word) (r : Nat) : (queueNack s c q r).spine.lastQuire = s.spine.lastQuire := by simp [queueNack]

@[simp] theorem queueNack_larder_slots (c : Half) (q : Word) (r : Nat) : (queueNack s c q r).larder.slots = s.larder.slots := by simp [queueNack]
@[simp] theorem queueNack_larder_plates (c : Half) (q : Word) (r : Nat) : (queueNack s c q r).larder.plates = s.larder.plates := by simp [queueNack]
@[simp] theorem queueNack_larder_seamOnLight (c : Half) (q : Word) (r : Nat) : (queueNack s c q r).larder.seamOnLight = s.larder.seamOnLight := by simp [queueNack]
@[simp] theorem queueNack_larder_fstate (c : Half) (q : Word) (r : Nat) : (queueNack s c q r).larder.fstate = s.larder.fstate := by simp [queueNack]
@[simp] theorem queueNack_larder_feed (c : Half) (q : Word) (r : Nat) : (queueNack s c q r).larder.feed = s.larder.feed := by simp [queueNack]
@[simp] theorem queueNack_larder_feedSince (c : Half) (q : Word) (r : Nat) : (queueNack s c q r).larder.feedSince = s.larder.feedSince := by simp [queueNack]
@[simp] theorem queueNack_larder_feedStopped (c : Half) (q : Word) (r : Nat) : (queueNack s c q r).larder.feedStopped = s.larder.feedStopped := by simp [queueNack]
@[simp] theorem queueNack_larder_feedRestart (c : Half) (q : Word) (r : Nat) : (queueNack s c q r).larder.feedRestart = s.larder.feedRestart := by simp [queueNack]
@[simp] theorem queueNack_larder_lostAt (c : Half) (q : Word) (r : Nat) : (queueNack s c q r).larder.lostAt = s.larder.lostAt := by simp [queueNack]
@[simp] theorem queueNack_larder_holdEnded (c : Half) (q : Word) (r : Nat) : (queueNack s c q r).larder.holdEnded = s.larder.holdEnded := by simp [queueNack]
@[simp] theorem queueNack_larder_events (c : Half) (q : Word) (r : Nat) : (queueNack s c q r).larder.events = s.larder.events := by simp [queueNack]
@[simp] theorem queueNack_larder_secHolds (c : Half) (q : Word) (r : Nat) : (queueNack s c q r).larder.secHolds = s.larder.secHolds := by simp [queueNack]
@[simp] theorem queueNack_larder_secSuperseded (c : Half) (q : Word) (r : Nat) : (queueNack s c q r).larder.secSuperseded = s.larder.secSuperseded := by simp [queueNack]
@[simp] theorem queueNack_larder_secLate (c : Half) (q : Word) (r : Nat) : (queueNack s c q r).larder.secLate = s.larder.secLate := by simp [queueNack]
@[simp] theorem queueNack_larder_delays (c : Half) (q : Word) (r : Nat) : (queueNack s c q r).larder.delays = s.larder.delays := by simp [queueNack]
@[simp] theorem queueNack_larder_delayBase (c : Half) (q : Word) (r : Nat) : (queueNack s c q r).larder.delayBase = s.larder.delayBase := by simp [queueNack]
@[simp] theorem queueNack_larder_lossSlateTold (c : Half) (q : Word) (r : Nat) : (queueNack s c q r).larder.lossSlateTold = s.larder.lossSlateTold := by simp [queueNack]
@[simp] theorem queueNack_larder_dropped (c : Half) (q : Word) (r : Nat) : (queueNack s c q r).larder.dropped = s.larder.dropped := by simp [queueNack]
@[simp] theorem queueNack_larder_badBankWords (c : Half) (q : Word) (r : Nat) : (queueNack s c q r).larder.badBankWords = s.larder.badBankWords := by simp [queueNack]

@[simp] theorem queueNack_hall_ready (c : Half) (q : Word) (r : Nat) : (queueNack s c q r).hall.ready = s.hall.ready := by simp [queueNack]
@[simp] theorem queueNack_hall_powerFail (c : Half) (q : Word) (r : Nat) : (queueNack s c q r).hall.powerFail = s.hall.powerFail := by simp [queueNack]
@[simp] theorem queueNack_hall_channels (c : Half) (q : Word) (r : Nat) : (queueNack s c q r).hall.channels = s.hall.channels := by simp [queueNack]
@[simp] theorem queueNack_hall_entries (c : Half) (q : Word) (r : Nat) : (queueNack s c q r).hall.entries = s.hall.entries := by simp [queueNack]
@[simp] theorem queueNack_hall_summaries (c : Half) (q : Word) (r : Nat) : (queueNack s c q r).hall.summaries = s.hall.summaries := by simp [queueNack]
@[simp] theorem queueNack_hall_nextNo (c : Half) (q : Word) (r : Nat) : (queueNack s c q r).hall.nextNo = s.hall.nextNo := by simp [queueNack]
@[simp] theorem queueNack_hall_overwritten (c : Half) (q : Word) (r : Nat) : (queueNack s c q r).hall.overwritten = s.hall.overwritten := by simp [queueNack]
@[simp] theorem queueNack_hall_auditedThrough (c : Half) (q : Word) (r : Nat) : (queueNack s c q r).hall.auditedThrough = s.hall.auditedThrough := by simp [queueNack]
@[simp] theorem queueNack_hall_writing (c : Half) (q : Word) (r : Nat) : (queueNack s c q r).hall.writing = s.hall.writing := by simp [queueNack]
@[simp] theorem queueNack_hall_done (c : Half) (q : Word) (r : Nat) : (queueNack s c q r).hall.done = s.hall.done := by simp [queueNack]
@[simp] theorem queueNack_hall_replayed (c : Half) (q : Word) (r : Nat) : (queueNack s c q r).hall.replayed = s.hall.replayed := by simp [queueNack]
@[simp] theorem queueNack_hall_archiveLost (c : Half) (q : Word) (r : Nat) : (queueNack s c q r).hall.archiveLost = s.hall.archiveLost := by simp [queueNack]
@[simp] theorem queueNack_hall_tagFails (c : Half) (q : Word) (r : Nat) : (queueNack s c q r).hall.tagFails = s.hall.tagFails := by simp [queueNack]
@[simp] theorem queueNack_hall_keyless (c : Half) (q : Word) (r : Nat) : (queueNack s c q r).hall.keyless = s.hall.keyless := by simp [queueNack]

@[simp] theorem queueNack_addr_addr (c : Half) (q : Word) (r : Nat) : (queueNack s c q r).addr.addr = s.addr.addr := by simp [queueNack]
@[simp] theorem queueNack_addr_pos (c : Half) (q : Word) (r : Nat) : (queueNack s c q r).addr.pos = s.addr.pos := by simp [queueNack]
@[simp] theorem queueNack_addr_pinConflict (c : Half) (q : Word) (r : Nat) : (queueNack s c q r).addr.pinConflict = s.addr.pinConflict := by simp [queueNack]
@[simp] theorem queueNack_addr_epoch (c : Half) (q : Word) (r : Nat) : (queueNack s c q r).addr.epoch = s.addr.epoch := by simp [queueNack]
@[simp] theorem queueNack_addr_lastAddr (c : Half) (q : Word) (r : Nat) : (queueNack s c q r).addr.lastAddr = s.addr.lastAddr := by simp [queueNack]
@[simp] theorem queueNack_addr_lastPos (c : Half) (q : Word) (r : Nat) : (queueNack s c q r).addr.lastPos = s.addr.lastPos := by simp [queueNack]
@[simp] theorem queueNack_addr_tamperSinceJoin (c : Half) (q : Word) (r : Nat) : (queueNack s c q r).addr.tamperSinceJoin = s.addr.tamperSinceJoin := by simp [queueNack]

@[simp] theorem queueNack_port_st (c : Half) (q : Word) (r : Nat) (x : Port) : (getPort (queueNack s c q r) x).st = (getPort s x).st := by simp [queueNack]
@[simp] theorem queueNack_port_since (c : Half) (q : Word) (r : Nat) (x : Port) : (getPort (queueNack s c q r) x).since = (getPort s x).since := by simp [queueNack]
@[simp] theorem queueNack_port_fastUntil (c : Half) (q : Word) (r : Nat) (x : Port) : (getPort (queueNack s c q r) x).fastUntil = (getPort s x).fastUntil := by simp [queueNack]
@[simp] theorem queueNack_port_fastNow (c : Half) (q : Word) (r : Nat) (x : Port) : (getPort (queueNack s c q r) x).fastNow = (getPort s x).fastNow := by simp [queueNack]
@[simp] theorem queueNack_port_twoLanes (c : Half) (q : Word) (r : Nat) (x : Port) : (getPort (queueNack s c q r) x).twoLanes = (getPort s x).twoLanes := by simp [queueNack]
@[simp] theorem queueNack_port_laneMismatch (c : Half) (q : Word) (r : Nat) (x : Port) : (getPort (queueNack s c q r) x).laneMismatch = (getPort s x).laneMismatch := by simp [queueNack]
@[simp] theorem queueNack_port_rateSuspected (c : Half) (q : Word) (r : Nat) (x : Port) : (getPort (queueNack s c q r) x).rateSuspected = (getPort s x).rateSuspected := by simp [queueNack]
@[simp] theorem queueNack_port_degraded (c : Half) (q : Word) (r : Nat) (x : Port) : (getPort (queueNack s c q r) x).degraded = (getPort s x).degraded := by simp [queueNack]
@[simp] theorem queueNack_port_nbrLow (c : Half) (q : Word) (r : Nat) (x : Port) : (getPort (queueNack s c q r) x).nbrLow = (getPort s x).nbrLow := by simp [queueNack]
@[simp] theorem queueNack_port_nbrSerial (c : Half) (q : Word) (r : Nat) (x : Port) : (getPort (queueNack s c q r) x).nbrSerial = (getPort s x).nbrSerial := by simp [queueNack]
@[simp] theorem queueNack_port_windowEnd (c : Half) (q : Word) (r : Nat) (x : Port) : (getPort (queueNack s c q r) x).windowEnd = (getPort s x).windowEnd := by simp [queueNack]
@[simp] theorem queueNack_port_inWindow (c : Half) (q : Word) (r : Nat) (x : Port) : (getPort (queueNack s c q r) x).inWindow = (getPort s x).inWindow := by simp [queueNack]
@[simp] theorem queueNack_port_outageUs (c : Half) (q : Word) (r : Nat) (x : Port) : (getPort (queueNack s c q r) x).outageUs = (getPort s x).outageUs := by simp [queueNack]
@[simp] theorem queueNack_port_downAt (c : Half) (q : Word) (r : Nat) (x : Port) : (getPort (queueNack s c q r) x).downAt = (getPort s x).downAt := by simp [queueNack]
@[simp] theorem queueNack_port_crcThisSecond (c : Half) (q : Word) (r : Nat) (x : Port) : (getPort (queueNack s c q r) x).crcThisSecond = (getPort s x).crcThisSecond := by simp [queueNack]
@[simp] theorem queueNack_port_crcLastSecond (c : Half) (q : Word) (r : Nat) (x : Port) : (getPort (queueNack s c q r) x).crcLastSecond = (getPort s x).crcLastSecond := by simp [queueNack]
@[simp] theorem queueNack_port_nextIdent (c : Half) (q : Word) (r : Nat) (x : Port) : (getPort (queueNack s c q r) x).nextIdent = (getPort s x).nextIdent := by simp [queueNack]
@[simp] theorem queueNack_port_skewPs (c : Half) (q : Word) (r : Nat) (x : Port) : (getPort (queueNack s c q r) x).skewPs = (getPort s x).skewPs := by simp [queueNack]
@[simp] theorem queueNack_port_eqLong (c : Half) (q : Word) (r : Nat) (x : Port) : (getPort (queueNack s c q r) x).eqLong = (getPort s x).eqLong := by simp [queueNack]

@[simp] theorem getPort_logEvent (s : State) (e : EventRec) (x : Port) : getPort (logEvent s e) x = getPort s x := by cases x <;> simp only [getPort, logEvent_spine]
@[simp] theorem getPort_raiseAt (s : State) (n : Nat) (c a : Half) (b : Word) (x : Port) : getPort (raiseAt s n c a b) x = getPort s x := by cases x <;> simp only [getPort, raiseAt_spine]
@[simp] theorem getPort_raise (s : State) (c a : Half) (b : Word) (x : Port) : getPort (raise s c a b) x = getPort s x := by cases x <;> simp only [getPort, raise_spine]
@[simp] theorem getPort_send (s : State) (y : Sent) (x : Port) : getPort (send s y) x = getPort s x := by cases x <;> rfl
@[simp] theorem getPort_advanceTo (s : State) (t : Nat) (x : Port) : getPort (advanceTo s t) x = getPort s x := by cases x <;> rfl

end Sys2Proof.Machine
end

