-- ==== Sys2Proof/Laws/Shared.lean ====
section
/-! SUPPORT. What the operations that several commands share leave unchanged: a port's change of state, the bypass, the ordered
stop, dark forcing, the hours and the alarms; and what a dispatch does. -/

namespace Sys2Proof.Machine

open Sys2Proof

variable (s : State)

@[simp] theorem enterPort_now (p : Port) (x : PortS) (st : PortState) : (enterPort s p x st).now = s.now := by simp [enterPort]
@[simp] theorem enterPort_start (p : Port) (x : PortS) (st : PortState) : (enterPort s p x st).start = s.start := by simp [enterPort]
@[simp] theorem enterPort_straps (p : Port) (x : PortS) (st : PortState) : (enterPort s p x st).straps = s.straps := by simp [enterPort]
@[simp] theorem enterPort_mantel (p : Port) (x : PortS) (st : PortState) : (enterPort s p x st).mantel = s.mantel := by simp [enterPort]
@[simp] theorem enterPort_screen (p : Port) (x : PortS) (st : PortState) : (enterPort s p x st).screen = s.screen := by simp [enterPort]
@[simp] theorem enterPort_bindery (p : Port) (x : PortS) (st : PortState) : (enterPort s p x st).bindery = s.bindery := by simp [enterPort]
@[simp] theorem enterPort_press (p : Port) (x : PortS) (st : PortState) : (enterPort s p x st).press = s.press := by simp [enterPort]
@[simp] theorem enterPort_prot (p : Port) (x : PortS) (st : PortState) : (enterPort s p x st).prot = s.prot := by simp [enterPort]
@[simp] theorem enterPort_coll (p : Port) (x : PortS) (st : PortState) : (enterPort s p x st).coll = s.coll := by simp [enterPort]
@[simp] theorem enterPort_back (p : Port) (x : PortS) (st : PortState) : (enterPort s p x st).back = s.back := by simp [enterPort]
@[simp] theorem enterPort_legacy (p : Port) (x : PortS) (st : PortState) : (enterPort s p x st).legacy = s.legacy := by simp [enterPort]
@[simp] theorem enterPort_cellar (p : Port) (x : PortS) (st : PortState) : (enterPort s p x st).cellar = s.cellar := by simp [enterPort]
@[simp] theorem enterPort_arch (p : Port) (x : PortS) (st : PortState) : (enterPort s p x st).arch = s.arch := by simp [enterPort]
@[simp] theorem enterPort_power (p : Port) (x : PortS) (st : PortState) : (enterPort s p x st).power = s.power := by simp [enterPort]
@[simp] theorem enterPort_leaf (p : Port) (x : PortS) (st : PortState) : (enterPort s p x st).leaf = s.leaf := by simp [enterPort]
@[simp] theorem enterPort_wire (p : Port) (x : PortS) (st : PortState) : (enterPort s p x st).wire = s.wire := by simp [enterPort]
@[simp] theorem enterPort_fresh (p : Port) (x : PortS) (st : PortState) : (enterPort s p x st).fresh = s.fresh := by simp [enterPort]
@[simp] theorem enterPort_pending (p : Port) (x : PortS) (st : PortState) : (enterPort s p x st).pending = s.pending := by simp [enterPort]

@[simp] theorem admitWaiting_now (n : Nat) : (admitWaiting n s).now = s.now := by
  induction n generalizing s with
  | zero => rfl
  | succ n ih =>
    unfold admitWaiting
    split
    · rfl
    · split <;> simp [ih]
@[simp] theorem admitWaiting_start (n : Nat) : (admitWaiting n s).start = s.start := by
  induction n generalizing s with
  | zero => rfl
  | succ n ih =>
    unfold admitWaiting
    split
    · rfl
    · split <;> simp [ih]
@[simp] theorem admitWaiting_straps (n : Nat) : (admitWaiting n s).straps = s.straps := by
  induction n generalizing s with
  | zero => rfl
  | succ n ih =>
    unfold admitWaiting
    split
    · rfl
    · split <;> simp [ih]
@[simp] theorem admitWaiting_mantel (n : Nat) : (admitWaiting n s).mantel = s.mantel := by
  induction n generalizing s with
  | zero => rfl
  | succ n ih =>
    unfold admitWaiting
    split
    · rfl
    · split <;> simp [ih]
@[simp] theorem admitWaiting_screen (n : Nat) : (admitWaiting n s).screen = s.screen := by
  induction n generalizing s with
  | zero => rfl
  | succ n ih =>
    unfold admitWaiting
    split
    · rfl
    · split <;> simp [ih]
@[simp] theorem admitWaiting_bindery (n : Nat) : (admitWaiting n s).bindery = s.bindery := by
  induction n generalizing s with
  | zero => rfl
  | succ n ih =>
    unfold admitWaiting
    split
    · rfl
    · split <;> simp [ih]
@[simp] theorem admitWaiting_press (n : Nat) : (admitWaiting n s).press = s.press := by
  induction n generalizing s with
  | zero => rfl
  | succ n ih =>
    unfold admitWaiting
    split
    · rfl
    · split <;> simp [ih]
@[simp] theorem admitWaiting_prot (n : Nat) : (admitWaiting n s).prot = s.prot := by
  induction n generalizing s with
  | zero => rfl
  | succ n ih =>
    unfold admitWaiting
    split
    · rfl
    · split <;> simp [ih]
@[simp] theorem admitWaiting_coll (n : Nat) : (admitWaiting n s).coll = s.coll := by
  induction n generalizing s with
  | zero => rfl
  | succ n ih =>
    unfold admitWaiting
    split
    · rfl
    · split <;> simp [ih]
@[simp] theorem admitWaiting_back (n : Nat) : (admitWaiting n s).back = s.back := by
  induction n generalizing s with
  | zero => rfl
  | succ n ih =>
    unfold admitWaiting
    split
    · rfl
    · split <;> simp [ih]
@[simp] theorem admitWaiting_legacy (n : Nat) : (admitWaiting n s).legacy = s.legacy := by
  induction n generalizing s with
  | zero => rfl
  | succ n ih =>
    unfold admitWaiting
    split
    · rfl
    · split <;> simp [ih]
@[simp] theorem admitWaiting_cellar (n : Nat) : (admitWaiting n s).cellar = s.cellar := by
  induction n generalizing s with
  | zero => rfl
  | succ n ih =>
    unfold admitWaiting
    split
    · rfl
    · split <;> simp [ih]
@[simp] theorem admitWaiting_arch (n : Nat) : (admitWaiting n s).arch = s.arch := by
  induction n generalizing s with
  | zero => rfl
  | succ n ih =>
    unfold admitWaiting
    split
    · rfl
    · split <;> simp [ih]
@[simp] theorem admitWaiting_power (n : Nat) : (admitWaiting n s).power = s.power := by
  induction n generalizing s with
  | zero => rfl
  | succ n ih =>
    unfold admitWaiting
    split
    · rfl
    · split <;> simp [ih]
@[simp] theorem admitWaiting_leaf (n : Nat) : (admitWaiting n s).leaf = s.leaf := by
  induction n generalizing s with
  | zero => rfl
  | succ n ih =>
    unfold admitWaiting
    split
    · rfl
    · split <;> simp [ih]
@[simp] theorem admitWaiting_wire (n : Nat) : (admitWaiting n s).wire = s.wire := by
  induction n generalizing s with
  | zero => rfl
  | succ n ih =>
    unfold admitWaiting
    split
    · rfl
    · split <;> simp [ih]
@[simp] theorem admitWaiting_fresh (n : Nat) : (admitWaiting n s).fresh = s.fresh := by
  induction n generalizing s with
  | zero => rfl
  | succ n ih =>
    unfold admitWaiting
    split
    · rfl
    · split <;> simp [ih]
@[simp] theorem admitWaiting_pending (n : Nat) : (admitWaiting n s).pending = s.pending := by
  induction n generalizing s with
  | zero => rfl
  | succ n ih =>
    unfold admitWaiting
    split
    · rfl
    · split <;> simp [ih]

@[simp] theorem settleAdmit_now  : (settleAdmit s).now = s.now := by simp [settleAdmit]
@[simp] theorem settleAdmit_start  : (settleAdmit s).start = s.start := by simp [settleAdmit]
@[simp] theorem settleAdmit_straps  : (settleAdmit s).straps = s.straps := by simp [settleAdmit]
@[simp] theorem settleAdmit_mantel  : (settleAdmit s).mantel = s.mantel := by simp [settleAdmit]
@[simp] theorem settleAdmit_screen  : (settleAdmit s).screen = s.screen := by simp [settleAdmit]
@[simp] theorem settleAdmit_bindery  : (settleAdmit s).bindery = s.bindery := by simp [settleAdmit]
@[simp] theorem settleAdmit_press  : (settleAdmit s).press = s.press := by simp [settleAdmit]
@[simp] theorem settleAdmit_prot  : (settleAdmit s).prot = s.prot := by simp [settleAdmit]
@[simp] theorem settleAdmit_coll  : (settleAdmit s).coll = s.coll := by simp [settleAdmit]
@[simp] theorem settleAdmit_back  : (settleAdmit s).back = s.back := by simp [settleAdmit]
@[simp] theorem settleAdmit_legacy  : (settleAdmit s).legacy = s.legacy := by simp [settleAdmit]
@[simp] theorem settleAdmit_cellar  : (settleAdmit s).cellar = s.cellar := by simp [settleAdmit]
@[simp] theorem settleAdmit_arch  : (settleAdmit s).arch = s.arch := by simp [settleAdmit]
@[simp] theorem settleAdmit_power  : (settleAdmit s).power = s.power := by simp [settleAdmit]
@[simp] theorem settleAdmit_leaf  : (settleAdmit s).leaf = s.leaf := by simp [settleAdmit]
@[simp] theorem settleAdmit_wire  : (settleAdmit s).wire = s.wire := by simp [settleAdmit]
@[simp] theorem settleAdmit_fresh  : (settleAdmit s).fresh = s.fresh := by simp [settleAdmit]
@[simp] theorem settleAdmit_pending  : (settleAdmit s).pending = s.pending := by simp [settleAdmit]

@[simp] theorem portDown_now (p : Port) : (portDown s p).now = s.now := by unfold portDown; dsimp only; split <;> simp
@[simp] theorem portDown_start (p : Port) : (portDown s p).start = s.start := by unfold portDown; dsimp only; split <;> simp
@[simp] theorem portDown_straps (p : Port) : (portDown s p).straps = s.straps := by unfold portDown; dsimp only; split <;> simp
@[simp] theorem portDown_mantel (p : Port) : (portDown s p).mantel = s.mantel := by unfold portDown; dsimp only; split <;> simp
@[simp] theorem portDown_screen (p : Port) : (portDown s p).screen = s.screen := by unfold portDown; dsimp only; split <;> simp
@[simp] theorem portDown_bindery (p : Port) : (portDown s p).bindery = s.bindery := by unfold portDown; dsimp only; split <;> simp
@[simp] theorem portDown_press (p : Port) : (portDown s p).press = s.press := by unfold portDown; dsimp only; split <;> simp
@[simp] theorem portDown_prot (p : Port) : (portDown s p).prot = s.prot := by unfold portDown; dsimp only; split <;> simp
@[simp] theorem portDown_coll (p : Port) : (portDown s p).coll = s.coll := by unfold portDown; dsimp only; split <;> simp
@[simp] theorem portDown_back (p : Port) : (portDown s p).back = s.back := by unfold portDown; dsimp only; split <;> simp
@[simp] theorem portDown_legacy (p : Port) : (portDown s p).legacy = s.legacy := by unfold portDown; dsimp only; split <;> simp
@[simp] theorem portDown_cellar (p : Port) : (portDown s p).cellar = s.cellar := by unfold portDown; dsimp only; split <;> simp
@[simp] theorem portDown_arch (p : Port) : (portDown s p).arch = s.arch := by unfold portDown; dsimp only; split <;> simp
@[simp] theorem portDown_power (p : Port) : (portDown s p).power = s.power := by unfold portDown; dsimp only; split <;> simp
@[simp] theorem portDown_leaf (p : Port) : (portDown s p).leaf = s.leaf := by unfold portDown; dsimp only; split <;> simp
@[simp] theorem portDown_wire (p : Port) : (portDown s p).wire = s.wire := by unfold portDown; dsimp only; split <;> simp
@[simp] theorem portDown_fresh (p : Port) : (portDown s p).fresh = s.fresh := by unfold portDown; dsimp only; split <;> simp
@[simp] theorem portDown_pending (p : Port) : (portDown s p).pending = s.pending := by unfold portDown; dsimp only; split <;> simp

@[simp] theorem setByp_now (b : Bool) : (setByp s b).now = s.now := by unfold setByp; split <;> simp
@[simp] theorem setByp_start (b : Bool) : (setByp s b).start = s.start := by unfold setByp; split <;> simp
@[simp] theorem setByp_straps (b : Bool) : (setByp s b).straps = s.straps := by unfold setByp; split <;> simp
@[simp] theorem setByp_mantel (b : Bool) : (setByp s b).mantel = s.mantel := by unfold setByp; split <;> simp
@[simp] theorem setByp_screen (b : Bool) : (setByp s b).screen = s.screen := by unfold setByp; split <;> simp
@[simp] theorem setByp_bindery (b : Bool) : (setByp s b).bindery = s.bindery := by unfold setByp; split <;> simp
@[simp] theorem setByp_press (b : Bool) : (setByp s b).press = s.press := by unfold setByp; split <;> simp
@[simp] theorem setByp_prot (b : Bool) : (setByp s b).prot = s.prot := by unfold setByp; split <;> simp
@[simp] theorem setByp_coll (b : Bool) : (setByp s b).coll = s.coll := by unfold setByp; split <;> simp
@[simp] theorem setByp_back (b : Bool) : (setByp s b).back = s.back := by unfold setByp; split <;> simp
@[simp] theorem setByp_legacy (b : Bool) : (setByp s b).legacy = s.legacy := by unfold setByp; split <;> simp
@[simp] theorem setByp_cellar (b : Bool) : (setByp s b).cellar = s.cellar := by unfold setByp; split <;> simp
@[simp] theorem setByp_arch (b : Bool) : (setByp s b).arch = s.arch := by unfold setByp; split <;> simp
@[simp] theorem setByp_power (b : Bool) : (setByp s b).power = s.power := by unfold setByp; split <;> simp
@[simp] theorem setByp_leaf (b : Bool) : (setByp s b).leaf = s.leaf := by unfold setByp; split <;> simp
@[simp] theorem setByp_wire (b : Bool) : (setByp s b).wire = s.wire := by unfold setByp; split <;> simp
@[simp] theorem setByp_fresh (b : Bool) : (setByp s b).fresh = s.fresh := by unfold setByp; split <;> simp
@[simp] theorem setByp_pending (b : Bool) : (setByp s b).pending = s.pending := by unfold setByp; split <;> simp

@[simp] theorem sendLeave_now  : (sendLeave s).now = s.now := by simp [sendLeave]
@[simp] theorem sendLeave_start  : (sendLeave s).start = s.start := by simp [sendLeave]
@[simp] theorem sendLeave_straps  : (sendLeave s).straps = s.straps := by simp [sendLeave]
@[simp] theorem sendLeave_spine  : (sendLeave s).spine = s.spine := by simp [sendLeave]
@[simp] theorem sendLeave_addr  : (sendLeave s).addr = s.addr := by simp [sendLeave]
@[simp] theorem sendLeave_hall  : (sendLeave s).hall = s.hall := by simp [sendLeave]
@[simp] theorem sendLeave_mantel  : (sendLeave s).mantel = s.mantel := by simp [sendLeave]
@[simp] theorem sendLeave_larder  : (sendLeave s).larder = s.larder := by simp [sendLeave]
@[simp] theorem sendLeave_screen  : (sendLeave s).screen = s.screen := by simp [sendLeave]
@[simp] theorem sendLeave_bindery  : (sendLeave s).bindery = s.bindery := by simp [sendLeave]
@[simp] theorem sendLeave_press  : (sendLeave s).press = s.press := by simp [sendLeave]
@[simp] theorem sendLeave_prot  : (sendLeave s).prot = s.prot := by simp [sendLeave]
@[simp] theorem sendLeave_coll  : (sendLeave s).coll = s.coll := by simp [sendLeave]
@[simp] theorem sendLeave_back  : (sendLeave s).back = s.back := by simp [sendLeave]
@[simp] theorem sendLeave_legacy  : (sendLeave s).legacy = s.legacy := by simp [sendLeave]
@[simp] theorem sendLeave_cellar  : (sendLeave s).cellar = s.cellar := by simp [sendLeave]
@[simp] theorem sendLeave_arch  : (sendLeave s).arch = s.arch := by simp [sendLeave]
@[simp] theorem sendLeave_power  : (sendLeave s).power = s.power := by simp [sendLeave]
@[simp] theorem sendLeave_leaf  : (sendLeave s).leaf = s.leaf := by simp [sendLeave]
@[simp] theorem sendLeave_fresh  : (sendLeave s).fresh = s.fresh := by simp [sendLeave]
@[simp] theorem sendLeave_pending  : (sendLeave s).pending = s.pending := by simp [sendLeave]

@[simp] theorem sendUp_now (f : Folio) : (sendUp s f).now = s.now := by
  unfold sendUp
  split
  · split <;> rfl
  · rfl
@[simp] theorem sendUp_start (f : Folio) : (sendUp s f).start = s.start := by
  unfold sendUp
  split
  · split <;> rfl
  · rfl
@[simp] theorem sendUp_straps (f : Folio) : (sendUp s f).straps = s.straps := by
  unfold sendUp
  split
  · split <;> rfl
  · rfl
@[simp] theorem sendUp_spine (f : Folio) : (sendUp s f).spine = s.spine := by
  unfold sendUp
  split
  · split <;> rfl
  · rfl
@[simp] theorem sendUp_addr (f : Folio) : (sendUp s f).addr = s.addr := by
  unfold sendUp
  split
  · split <;> rfl
  · rfl
@[simp] theorem sendUp_hall (f : Folio) : (sendUp s f).hall = s.hall := by
  unfold sendUp
  split
  · split <;> rfl
  · rfl
@[simp] theorem sendUp_mantel (f : Folio) : (sendUp s f).mantel = s.mantel := by
  unfold sendUp
  split
  · split <;> rfl
  · rfl
@[simp] theorem sendUp_larder (f : Folio) : (sendUp s f).larder = s.larder := by
  unfold sendUp
  split
  · split <;> rfl
  · rfl
@[simp] theorem sendUp_screen (f : Folio) : (sendUp s f).screen = s.screen := by
  unfold sendUp
  split
  · split <;> rfl
  · rfl
@[simp] theorem sendUp_bindery (f : Folio) : (sendUp s f).bindery = s.bindery := by
  unfold sendUp
  split
  · split <;> rfl
  · rfl
@[simp] theorem sendUp_press (f : Folio) : (sendUp s f).press = s.press := by
  unfold sendUp
  split
  · split <;> rfl
  · rfl
@[simp] theorem sendUp_prot (f : Folio) : (sendUp s f).prot = s.prot := by
  unfold sendUp
  split
  · split <;> rfl
  · rfl
@[simp] theorem sendUp_coll (f : Folio) : (sendUp s f).coll = s.coll := by
  unfold sendUp
  split
  · split <;> rfl
  · rfl
@[simp] theorem sendUp_back (f : Folio) : (sendUp s f).back = s.back := by
  unfold sendUp
  split
  · split <;> rfl
  · rfl
@[simp] theorem sendUp_legacy (f : Folio) : (sendUp s f).legacy = s.legacy := by
  unfold sendUp
  split
  · split <;> rfl
  · rfl
@[simp] theorem sendUp_cellar (f : Folio) : (sendUp s f).cellar = s.cellar := by
  unfold sendUp
  split
  · split <;> rfl
  · rfl
@[simp] theorem sendUp_arch (f : Folio) : (sendUp s f).arch = s.arch := by
  unfold sendUp
  split
  · split <;> rfl
  · rfl
@[simp] theorem sendUp_power (f : Folio) : (sendUp s f).power = s.power := by
  unfold sendUp
  split
  · split <;> rfl
  · rfl
@[simp] theorem sendUp_leaf (f : Folio) : (sendUp s f).leaf = s.leaf := by
  unfold sendUp
  split
  · split <;> rfl
  · rfl
@[simp] theorem sendUp_fresh (f : Folio) : (sendUp s f).fresh = s.fresh := by
  unfold sendUp
  split
  · split <;> rfl
  · rfl
@[simp] theorem sendUp_pending (f : Folio) : (sendUp s f).pending = s.pending := by
  unfold sendUp
  split
  · split <;> rfl
  · rfl

@[simp] theorem sendGsp_now (c : Nat) : (sendGsp s c).now = s.now := by unfold sendGsp; dsimp only; split <;> simp
@[simp] theorem sendGsp_start (c : Nat) : (sendGsp s c).start = s.start := by unfold sendGsp; dsimp only; split <;> simp
@[simp] theorem sendGsp_straps (c : Nat) : (sendGsp s c).straps = s.straps := by unfold sendGsp; dsimp only; split <;> simp
@[simp] theorem sendGsp_spine (c : Nat) : (sendGsp s c).spine = s.spine := by unfold sendGsp; dsimp only; split <;> simp
@[simp] theorem sendGsp_hall (c : Nat) : (sendGsp s c).hall = s.hall := by unfold sendGsp; dsimp only; split <;> simp
@[simp] theorem sendGsp_mantel (c : Nat) : (sendGsp s c).mantel = s.mantel := by unfold sendGsp; dsimp only; split <;> simp
@[simp] theorem sendGsp_larder (c : Nat) : (sendGsp s c).larder = s.larder := by unfold sendGsp; dsimp only; split <;> simp
@[simp] theorem sendGsp_screen (c : Nat) : (sendGsp s c).screen = s.screen := by unfold sendGsp; dsimp only; split <;> simp
@[simp] theorem sendGsp_bindery (c : Nat) : (sendGsp s c).bindery = s.bindery := by unfold sendGsp; dsimp only; split <;> simp
@[simp] theorem sendGsp_press (c : Nat) : (sendGsp s c).press = s.press := by unfold sendGsp; dsimp only; split <;> simp
@[simp] theorem sendGsp_prot (c : Nat) : (sendGsp s c).prot = s.prot := by unfold sendGsp; dsimp only; split <;> simp
@[simp] theorem sendGsp_coll (c : Nat) : (sendGsp s c).coll = s.coll := by unfold sendGsp; dsimp only; split <;> simp
@[simp] theorem sendGsp_back (c : Nat) : (sendGsp s c).back = s.back := by unfold sendGsp; dsimp only; split <;> simp
@[simp] theorem sendGsp_legacy (c : Nat) : (sendGsp s c).legacy = s.legacy := by unfold sendGsp; dsimp only; split <;> simp
@[simp] theorem sendGsp_arch (c : Nat) : (sendGsp s c).arch = s.arch := by unfold sendGsp; dsimp only; split <;> simp
@[simp] theorem sendGsp_power (c : Nat) : (sendGsp s c).power = s.power := by unfold sendGsp; dsimp only; split <;> simp
@[simp] theorem sendGsp_leaf (c : Nat) : (sendGsp s c).leaf = s.leaf := by unfold sendGsp; dsimp only; split <;> simp
@[simp] theorem sendGsp_fresh (c : Nat) : (sendGsp s c).fresh = s.fresh := by unfold sendGsp; dsimp only; split <;> simp
@[simp] theorem sendGsp_pending (c : Nat) : (sendGsp s c).pending = s.pending := by unfold sendGsp; dsimp only; split <;> simp

@[simp] theorem finishWrite_now  : (finishWrite s).now = s.now := by unfold finishWrite; split <;> simp
@[simp] theorem finishWrite_start  : (finishWrite s).start = s.start := by unfold finishWrite; split <;> simp
@[simp] theorem finishWrite_straps  : (finishWrite s).straps = s.straps := by unfold finishWrite; split <;> simp
@[simp] theorem finishWrite_spine  : (finishWrite s).spine = s.spine := by unfold finishWrite; split <;> simp
@[simp] theorem finishWrite_addr  : (finishWrite s).addr = s.addr := by unfold finishWrite; split <;> simp
@[simp] theorem finishWrite_mantel  : (finishWrite s).mantel = s.mantel := by unfold finishWrite; split <;> simp
@[simp] theorem finishWrite_larder  : (finishWrite s).larder = s.larder := by unfold finishWrite; split <;> simp
@[simp] theorem finishWrite_screen  : (finishWrite s).screen = s.screen := by unfold finishWrite; split <;> simp
@[simp] theorem finishWrite_bindery  : (finishWrite s).bindery = s.bindery := by unfold finishWrite; split <;> simp
@[simp] theorem finishWrite_press  : (finishWrite s).press = s.press := by unfold finishWrite; split <;> simp
@[simp] theorem finishWrite_prot  : (finishWrite s).prot = s.prot := by unfold finishWrite; split <;> simp
@[simp] theorem finishWrite_coll  : (finishWrite s).coll = s.coll := by unfold finishWrite; split <;> simp
@[simp] theorem finishWrite_back  : (finishWrite s).back = s.back := by unfold finishWrite; split <;> simp
@[simp] theorem finishWrite_legacy  : (finishWrite s).legacy = s.legacy := by unfold finishWrite; split <;> simp
@[simp] theorem finishWrite_cellar  : (finishWrite s).cellar = s.cellar := by unfold finishWrite; split <;> simp
@[simp] theorem finishWrite_arch  : (finishWrite s).arch = s.arch := by unfold finishWrite; split <;> simp
@[simp] theorem finishWrite_power  : (finishWrite s).power = s.power := by unfold finishWrite; split <;> simp
@[simp] theorem finishWrite_leaf  : (finishWrite s).leaf = s.leaf := by unfold finishWrite; split <;> simp
@[simp] theorem finishWrite_wire  : (finishWrite s).wire = s.wire := by unfold finishWrite; split <;> simp
@[simp] theorem finishWrite_fresh  : (finishWrite s).fresh = s.fresh := by unfold finishWrite; split <;> simp
@[simp] theorem finishWrite_pending  : (finishWrite s).pending = s.pending := by unfold finishWrite; split <;> simp

@[simp] theorem stopHall_now  : (stopHall s).now = s.now := rfl
@[simp] theorem stopHall_start  : (stopHall s).start = s.start := rfl
@[simp] theorem stopHall_straps  : (stopHall s).straps = s.straps := rfl
@[simp] theorem stopHall_spine  : (stopHall s).spine = s.spine := rfl
@[simp] theorem stopHall_addr  : (stopHall s).addr = s.addr := rfl
@[simp] theorem stopHall_mantel  : (stopHall s).mantel = s.mantel := rfl
@[simp] theorem stopHall_larder  : (stopHall s).larder = s.larder := rfl
@[simp] theorem stopHall_screen  : (stopHall s).screen = s.screen := rfl
@[simp] theorem stopHall_bindery  : (stopHall s).bindery = s.bindery := rfl
@[simp] theorem stopHall_press  : (stopHall s).press = s.press := rfl
@[simp] theorem stopHall_prot  : (stopHall s).prot = s.prot := rfl
@[simp] theorem stopHall_coll  : (stopHall s).coll = s.coll := rfl
@[simp] theorem stopHall_back  : (stopHall s).back = s.back := rfl
@[simp] theorem stopHall_legacy  : (stopHall s).legacy = s.legacy := rfl
@[simp] theorem stopHall_cellar  : (stopHall s).cellar = s.cellar := rfl
@[simp] theorem stopHall_arch  : (stopHall s).arch = s.arch := rfl
@[simp] theorem stopHall_power  : (stopHall s).power = s.power := rfl
@[simp] theorem stopHall_leaf  : (stopHall s).leaf = s.leaf := rfl
@[simp] theorem stopHall_wire  : (stopHall s).wire = s.wire := rfl
@[simp] theorem stopHall_fresh  : (stopHall s).fresh = s.fresh := rfl
@[simp] theorem stopHall_pending  : (stopHall s).pending = s.pending := rfl

@[simp] theorem orderedStop_now  : (orderedStop s).now = s.now := by unfold orderedStop; dsimp only; split <;> simp
@[simp] theorem orderedStop_start  : (orderedStop s).start = s.start := by unfold orderedStop; dsimp only; split <;> simp
@[simp] theorem orderedStop_straps  : (orderedStop s).straps = s.straps := by unfold orderedStop; dsimp only; split <;> simp
@[simp] theorem orderedStop_mantel  : (orderedStop s).mantel = s.mantel := by unfold orderedStop; dsimp only; split <;> simp
@[simp] theorem orderedStop_screen  : (orderedStop s).screen = s.screen := by unfold orderedStop; dsimp only; split <;> simp
@[simp] theorem orderedStop_bindery  : (orderedStop s).bindery = s.bindery := by unfold orderedStop; dsimp only; split <;> simp
@[simp] theorem orderedStop_press  : (orderedStop s).press = s.press := by unfold orderedStop; dsimp only; split <;> simp
@[simp] theorem orderedStop_prot  : (orderedStop s).prot = s.prot := by unfold orderedStop; dsimp only; split <;> simp
@[simp] theorem orderedStop_coll  : (orderedStop s).coll = s.coll := by unfold orderedStop; dsimp only; split <;> simp
@[simp] theorem orderedStop_back  : (orderedStop s).back = s.back := by unfold orderedStop; dsimp only; split <;> simp
@[simp] theorem orderedStop_legacy  : (orderedStop s).legacy = s.legacy := by unfold orderedStop; dsimp only; split <;> simp
@[simp] theorem orderedStop_cellar  : (orderedStop s).cellar = s.cellar := by unfold orderedStop; dsimp only; split <;> simp
@[simp] theorem orderedStop_arch  : (orderedStop s).arch = s.arch := by unfold orderedStop; dsimp only; split <;> simp
@[simp] theorem orderedStop_power  : (orderedStop s).power = s.power := by unfold orderedStop; dsimp only; split <;> simp
@[simp] theorem orderedStop_leaf  : (orderedStop s).leaf = s.leaf := by unfold orderedStop; dsimp only; split <;> simp
@[simp] theorem orderedStop_fresh  : (orderedStop s).fresh = s.fresh := by unfold orderedStop; dsimp only; split <;> simp
@[simp] theorem orderedStop_pending  : (orderedStop s).pending = s.pending := by unfold orderedStop; dsimp only; split <;> simp

@[simp] theorem queueAlarm_now (c i : Nat) : (queueAlarm s c i).now = s.now := by
  unfold queueAlarm
  split
  · rfl
  · split
    · simp
    · dsimp only
      unfold loadAlarm
      split <;> rfl
@[simp] theorem queueAlarm_start (c i : Nat) : (queueAlarm s c i).start = s.start := by
  unfold queueAlarm
  split
  · rfl
  · split
    · simp
    · dsimp only
      unfold loadAlarm
      split <;> rfl
@[simp] theorem queueAlarm_straps (c i : Nat) : (queueAlarm s c i).straps = s.straps := by
  unfold queueAlarm
  split
  · rfl
  · split
    · simp
    · dsimp only
      unfold loadAlarm
      split <;> rfl
@[simp] theorem queueAlarm_spine (c i : Nat) : (queueAlarm s c i).spine = s.spine := by
  unfold queueAlarm
  split
  · rfl
  · split
    · simp
    · dsimp only
      unfold loadAlarm
      split <;> rfl
@[simp] theorem queueAlarm_addr (c i : Nat) : (queueAlarm s c i).addr = s.addr := by
  unfold queueAlarm
  split
  · rfl
  · split
    · simp
    · dsimp only
      unfold loadAlarm
      split <;> rfl
@[simp] theorem queueAlarm_hall (c i : Nat) : (queueAlarm s c i).hall = s.hall := by
  unfold queueAlarm
  split
  · rfl
  · split
    · simp
    · dsimp only
      unfold loadAlarm
      split <;> rfl
@[simp] theorem queueAlarm_mantel (c i : Nat) : (queueAlarm s c i).mantel = s.mantel := by
  unfold queueAlarm
  split
  · rfl
  · split
    · simp
    · dsimp only
      unfold loadAlarm
      split <;> rfl
@[simp] theorem queueAlarm_screen (c i : Nat) : (queueAlarm s c i).screen = s.screen := by
  unfold queueAlarm
  split
  · rfl
  · split
    · simp
    · dsimp only
      unfold loadAlarm
      split <;> rfl
@[simp] theorem queueAlarm_bindery (c i : Nat) : (queueAlarm s c i).bindery = s.bindery := by
  unfold queueAlarm
  split
  · rfl
  · split
    · simp
    · dsimp only
      unfold loadAlarm
      split <;> rfl
@[simp] theorem queueAlarm_press (c i : Nat) : (queueAlarm s c i).press = s.press := by
  unfold queueAlarm
  split
  · rfl
  · split
    · simp
    · dsimp only
      unfold loadAlarm
      split <;> rfl
@[simp] theorem queueAlarm_prot (c i : Nat) : (queueAlarm s c i).prot = s.prot := by
  unfold queueAlarm
  split
  · rfl
  · split
    · simp
    · dsimp only
      unfold loadAlarm
      split <;> rfl
@[simp] theorem queueAlarm_coll (c i : Nat) : (queueAlarm s c i).coll = s.coll := by
  unfold queueAlarm
  split
  · rfl
  · split
    · simp
    · dsimp only
      unfold loadAlarm
      split <;> rfl
@[simp] theorem queueAlarm_legacy (c i : Nat) : (queueAlarm s c i).legacy = s.legacy := by
  unfold queueAlarm
  split
  · rfl
  · split
    · simp
    · dsimp only
      unfold loadAlarm
      split <;> rfl
theorem queueAlarm_cellar (c i : Nat) :
    (queueAlarm s c i).cellar = { s.cellar with counts := (queueAlarm s c i).cellar.counts } := by
  unfold queueAlarm
  split
  · rfl
  · split
    · rw [raise_cellar_eq]; rfl
    · dsimp only
      unfold loadAlarm
      split <;> rfl
@[simp] theorem queueAlarm_power (c i : Nat) : (queueAlarm s c i).power = s.power := by
  unfold queueAlarm
  split
  · rfl
  · split
    · simp
    · dsimp only
      unfold loadAlarm
      split <;> rfl
@[simp] theorem queueAlarm_leaf (c i : Nat) : (queueAlarm s c i).leaf = s.leaf := by
  unfold queueAlarm
  split
  · rfl
  · split
    · simp
    · dsimp only
      unfold loadAlarm
      split <;> rfl
@[simp] theorem queueAlarm_wire (c i : Nat) : (queueAlarm s c i).wire = s.wire := by
  unfold queueAlarm
  split
  · rfl
  · split
    · simp
    · dsimp only
      unfold loadAlarm
      split <;> rfl
@[simp] theorem queueAlarm_fresh (c i : Nat) : (queueAlarm s c i).fresh = s.fresh := by
  unfold queueAlarm
  split
  · rfl
  · split
    · simp
    · dsimp only
      unfold loadAlarm
      split <;> rfl
@[simp] theorem queueAlarm_pending (c i : Nat) : (queueAlarm s c i).pending = s.pending := by
  unfold queueAlarm
  split
  · rfl
  · split
    · simp
    · dsimp only
      unfold loadAlarm
      split <;> rfl

@[simp] theorem cutWear_now (cut : Nat → Bool) : (cutWear s cut).now = s.now := by unfold cutWear; split <;> rfl
@[simp] theorem cutWear_start (cut : Nat → Bool) : (cutWear s cut).start = s.start := by unfold cutWear; split <;> rfl
@[simp] theorem cutWear_straps (cut : Nat → Bool) : (cutWear s cut).straps = s.straps := by unfold cutWear; split <;> rfl
@[simp] theorem cutWear_spine (cut : Nat → Bool) : (cutWear s cut).spine = s.spine := by unfold cutWear; split <;> rfl
@[simp] theorem cutWear_addr (cut : Nat → Bool) : (cutWear s cut).addr = s.addr := by unfold cutWear; split <;> rfl
@[simp] theorem cutWear_hall (cut : Nat → Bool) : (cutWear s cut).hall = s.hall := by unfold cutWear; split <;> rfl
@[simp] theorem cutWear_mantel (cut : Nat → Bool) : (cutWear s cut).mantel = s.mantel := by unfold cutWear; split <;> rfl
@[simp] theorem cutWear_larder (cut : Nat → Bool) : (cutWear s cut).larder = s.larder := by unfold cutWear; split <;> rfl
@[simp] theorem cutWear_screen (cut : Nat → Bool) : (cutWear s cut).screen = s.screen := by unfold cutWear; split <;> rfl
@[simp] theorem cutWear_bindery (cut : Nat → Bool) : (cutWear s cut).bindery = s.bindery := by unfold cutWear; split <;> rfl
@[simp] theorem cutWear_press (cut : Nat → Bool) : (cutWear s cut).press = s.press := by unfold cutWear; split <;> rfl
@[simp] theorem cutWear_prot (cut : Nat → Bool) : (cutWear s cut).prot = s.prot := by unfold cutWear; split <;> rfl
@[simp] theorem cutWear_coll (cut : Nat → Bool) : (cutWear s cut).coll = s.coll := by unfold cutWear; split <;> rfl
@[simp] theorem cutWear_back (cut : Nat → Bool) : (cutWear s cut).back = s.back := by unfold cutWear; split <;> rfl
@[simp] theorem cutWear_legacy (cut : Nat → Bool) : (cutWear s cut).legacy = s.legacy := by unfold cutWear; split <;> rfl
@[simp] theorem cutWear_cellar (cut : Nat → Bool) : (cutWear s cut).cellar = s.cellar := by unfold cutWear; split <;> rfl
@[simp] theorem cutWear_power (cut : Nat → Bool) : (cutWear s cut).power = s.power := by unfold cutWear; split <;> rfl
@[simp] theorem cutWear_leaf (cut : Nat → Bool) : (cutWear s cut).leaf = s.leaf := by unfold cutWear; split <;> rfl
@[simp] theorem cutWear_wire (cut : Nat → Bool) : (cutWear s cut).wire = s.wire := by unfold cutWear; split <;> rfl
@[simp] theorem cutWear_fresh (cut : Nat → Bool) : (cutWear s cut).fresh = s.fresh := by unfold cutWear; split <;> rfl
@[simp] theorem cutWear_pending (cut : Nat → Bool) : (cutWear s cut).pending = s.pending := by unfold cutWear; split <;> rfl

@[simp] theorem rowCutOff_now  : (rowCutOff s).now = s.now := by simp [rowCutOff]
@[simp] theorem rowCutOff_start  : (rowCutOff s).start = s.start := by simp [rowCutOff]
@[simp] theorem rowCutOff_straps  : (rowCutOff s).straps = s.straps := by simp [rowCutOff]
@[simp] theorem rowCutOff_spine  : (rowCutOff s).spine = s.spine := by simp [rowCutOff]
@[simp] theorem rowCutOff_addr  : (rowCutOff s).addr = s.addr := by simp [rowCutOff]
@[simp] theorem rowCutOff_hall  : (rowCutOff s).hall = s.hall := by simp [rowCutOff]
@[simp] theorem rowCutOff_mantel  : (rowCutOff s).mantel = s.mantel := by simp [rowCutOff]
@[simp] theorem rowCutOff_larder  : (rowCutOff s).larder = s.larder := by simp [rowCutOff]
@[simp] theorem rowCutOff_screen  : (rowCutOff s).screen = s.screen := by simp [rowCutOff]
@[simp] theorem rowCutOff_bindery  : (rowCutOff s).bindery = s.bindery := by simp [rowCutOff]
@[simp] theorem rowCutOff_prot  : (rowCutOff s).prot = s.prot := by simp [rowCutOff]
@[simp] theorem rowCutOff_coll  : (rowCutOff s).coll = s.coll := by simp [rowCutOff]
@[simp] theorem rowCutOff_back  : (rowCutOff s).back = s.back := by simp [rowCutOff]
@[simp] theorem rowCutOff_legacy  : (rowCutOff s).legacy = s.legacy := by simp [rowCutOff]
@[simp] theorem rowCutOff_cellar  : (rowCutOff s).cellar = s.cellar := by simp [rowCutOff]
@[simp] theorem rowCutOff_power  : (rowCutOff s).power = s.power := by simp [rowCutOff]
@[simp] theorem rowCutOff_leaf  : (rowCutOff s).leaf = s.leaf := by simp [rowCutOff]
@[simp] theorem rowCutOff_wire  : (rowCutOff s).wire = s.wire := by simp [rowCutOff]
@[simp] theorem rowCutOff_fresh  : (rowCutOff s).fresh = s.fresh := by simp [rowCutOff]
@[simp] theorem rowCutOff_pending  : (rowCutOff s).pending = s.pending := by simp [rowCutOff]

@[simp] theorem forceDark_now (c : Nat) : (forceDark s c).now = s.now := by unfold forceDark; dsimp only; split <;> simp
@[simp] theorem forceDark_start (c : Nat) : (forceDark s c).start = s.start := by unfold forceDark; dsimp only; split <;> simp
@[simp] theorem forceDark_straps (c : Nat) : (forceDark s c).straps = s.straps := by unfold forceDark; dsimp only; split <;> simp
@[simp] theorem forceDark_spine (c : Nat) : (forceDark s c).spine = s.spine := by unfold forceDark; dsimp only; split <;> simp
@[simp] theorem forceDark_addr (c : Nat) : (forceDark s c).addr = s.addr := by unfold forceDark; dsimp only; split <;> simp
@[simp] theorem forceDark_hall (c : Nat) : (forceDark s c).hall = s.hall := by unfold forceDark; dsimp only; split <;> simp
@[simp] theorem forceDark_mantel (c : Nat) : (forceDark s c).mantel = s.mantel := by unfold forceDark; dsimp only; split <;> simp
@[simp] theorem forceDark_screen (c : Nat) : (forceDark s c).screen = s.screen := by unfold forceDark; dsimp only; split <;> simp
@[simp] theorem forceDark_bindery (c : Nat) : (forceDark s c).bindery = s.bindery := by unfold forceDark; dsimp only; split <;> simp
@[simp] theorem forceDark_prot (c : Nat) : (forceDark s c).prot = s.prot := by unfold forceDark; dsimp only; split <;> simp
@[simp] theorem forceDark_coll (c : Nat) : (forceDark s c).coll = s.coll := by unfold forceDark; dsimp only; split <;> simp
@[simp] theorem forceDark_legacy (c : Nat) : (forceDark s c).legacy = s.legacy := by unfold forceDark; dsimp only; split <;> simp
@[simp] theorem forceDark_power (c : Nat) : (forceDark s c).power = s.power := by unfold forceDark; dsimp only; split <;> simp
@[simp] theorem forceDark_leaf (c : Nat) : (forceDark s c).leaf = s.leaf := by unfold forceDark; dsimp only; split <;> simp
@[simp] theorem forceDark_wire (c : Nat) : (forceDark s c).wire = s.wire := by unfold forceDark; dsimp only; split <;> simp
@[simp] theorem forceDark_fresh (c : Nat) : (forceDark s c).fresh = s.fresh := by unfold forceDark; dsimp only; split <;> simp
@[simp] theorem forceDark_pending (c : Nat) : (forceDark s c).pending = s.pending := by unfold forceDark; dsimp only; split <;> simp

@[simp] theorem releaseDark_now (c : Nat) : (releaseDark s c).now = s.now := by unfold releaseDark; dsimp only; split <;> simp
@[simp] theorem releaseDark_start (c : Nat) : (releaseDark s c).start = s.start := by unfold releaseDark; dsimp only; split <;> simp
@[simp] theorem releaseDark_straps (c : Nat) : (releaseDark s c).straps = s.straps := by unfold releaseDark; dsimp only; split <;> simp
@[simp] theorem releaseDark_spine (c : Nat) : (releaseDark s c).spine = s.spine := by unfold releaseDark; dsimp only; split <;> simp
@[simp] theorem releaseDark_addr (c : Nat) : (releaseDark s c).addr = s.addr := by unfold releaseDark; dsimp only; split <;> simp
@[simp] theorem releaseDark_hall (c : Nat) : (releaseDark s c).hall = s.hall := by unfold releaseDark; dsimp only; split <;> simp
@[simp] theorem releaseDark_mantel (c : Nat) : (releaseDark s c).mantel = s.mantel := by unfold releaseDark; dsimp only; split <;> simp
@[simp] theorem releaseDark_screen (c : Nat) : (releaseDark s c).screen = s.screen := by unfold releaseDark; dsimp only; split <;> simp
@[simp] theorem releaseDark_bindery (c : Nat) : (releaseDark s c).bindery = s.bindery := by unfold releaseDark; dsimp only; split <;> simp
@[simp] theorem releaseDark_coll (c : Nat) : (releaseDark s c).coll = s.coll := by unfold releaseDark; dsimp only; split <;> simp
@[simp] theorem releaseDark_back (c : Nat) : (releaseDark s c).back = s.back := by unfold releaseDark; dsimp only; split <;> simp
@[simp] theorem releaseDark_legacy (c : Nat) : (releaseDark s c).legacy = s.legacy := by unfold releaseDark; dsimp only; split <;> simp
@[simp] theorem releaseDark_power (c : Nat) : (releaseDark s c).power = s.power := by unfold releaseDark; dsimp only; split <;> simp
@[simp] theorem releaseDark_leaf (c : Nat) : (releaseDark s c).leaf = s.leaf := by unfold releaseDark; dsimp only; split <;> simp
@[simp] theorem releaseDark_wire (c : Nat) : (releaseDark s c).wire = s.wire := by unfold releaseDark; dsimp only; split <;> simp
@[simp] theorem releaseDark_fresh (c : Nat) : (releaseDark s c).fresh = s.fresh := by unfold releaseDark; dsimp only; split <;> simp
@[simp] theorem releaseDark_pending (c : Nat) : (releaseDark s c).pending = s.pending := by unfold releaseDark; dsimp only; split <;> simp

@[simp] theorem noteLit_now (b : Bool) : (noteLit s b).now = s.now := by unfold noteLit; dsimp only; split <;> rfl
@[simp] theorem noteLit_start (b : Bool) : (noteLit s b).start = s.start := by unfold noteLit; dsimp only; split <;> rfl
@[simp] theorem noteLit_straps (b : Bool) : (noteLit s b).straps = s.straps := by unfold noteLit; dsimp only; split <;> rfl
@[simp] theorem noteLit_spine (b : Bool) : (noteLit s b).spine = s.spine := by unfold noteLit; dsimp only; split <;> rfl
@[simp] theorem noteLit_addr (b : Bool) : (noteLit s b).addr = s.addr := by unfold noteLit; dsimp only; split <;> rfl
@[simp] theorem noteLit_hall (b : Bool) : (noteLit s b).hall = s.hall := by unfold noteLit; dsimp only; split <;> rfl
@[simp] theorem noteLit_mantel (b : Bool) : (noteLit s b).mantel = s.mantel := by unfold noteLit; dsimp only; split <;> rfl
@[simp] theorem noteLit_larder (b : Bool) : (noteLit s b).larder = s.larder := by unfold noteLit; dsimp only; split <;> rfl
@[simp] theorem noteLit_screen (b : Bool) : (noteLit s b).screen = s.screen := by unfold noteLit; dsimp only; split <;> rfl
@[simp] theorem noteLit_bindery (b : Bool) : (noteLit s b).bindery = s.bindery := by unfold noteLit; dsimp only; split <;> rfl
@[simp] theorem noteLit_press (b : Bool) : (noteLit s b).press = s.press := by unfold noteLit; dsimp only; split <;> rfl
@[simp] theorem noteLit_prot (b : Bool) : (noteLit s b).prot = s.prot := by unfold noteLit; dsimp only; split <;> rfl
@[simp] theorem noteLit_coll (b : Bool) : (noteLit s b).coll = s.coll := by unfold noteLit; dsimp only; split <;> rfl
@[simp] theorem noteLit_back (b : Bool) : (noteLit s b).back = s.back := by unfold noteLit; dsimp only; split <;> rfl
@[simp] theorem noteLit_legacy (b : Bool) : (noteLit s b).legacy = s.legacy := by unfold noteLit; dsimp only; split <;> rfl
@[simp] theorem noteLit_cellar (b : Bool) : (noteLit s b).cellar = s.cellar := by unfold noteLit; dsimp only; split <;> rfl
@[simp] theorem noteLit_power (b : Bool) : (noteLit s b).power = s.power := by unfold noteLit; dsimp only; split <;> rfl
@[simp] theorem noteLit_leaf (b : Bool) : (noteLit s b).leaf = s.leaf := by unfold noteLit; dsimp only; split <;> rfl
@[simp] theorem noteLit_wire (b : Bool) : (noteLit s b).wire = s.wire := by unfold noteLit; dsimp only; split <;> rfl
@[simp] theorem noteLit_fresh (b : Bool) : (noteLit s b).fresh = s.fresh := by unfold noteLit; dsimp only; split <;> rfl
@[simp] theorem noteLit_pending (b : Bool) : (noteLit s b).pending = s.pending := by unfold noteLit; dsimp only; split <;> rfl

@[simp] theorem updateHours_now  : (updateHours s).now = s.now := rfl
@[simp] theorem updateHours_start  : (updateHours s).start = s.start := rfl
@[simp] theorem updateHours_straps  : (updateHours s).straps = s.straps := rfl
@[simp] theorem updateHours_spine  : (updateHours s).spine = s.spine := rfl
@[simp] theorem updateHours_addr  : (updateHours s).addr = s.addr := rfl
@[simp] theorem updateHours_hall  : (updateHours s).hall = s.hall := rfl
@[simp] theorem updateHours_mantel  : (updateHours s).mantel = s.mantel := rfl
@[simp] theorem updateHours_larder  : (updateHours s).larder = s.larder := rfl
@[simp] theorem updateHours_screen  : (updateHours s).screen = s.screen := rfl
@[simp] theorem updateHours_bindery  : (updateHours s).bindery = s.bindery := rfl
@[simp] theorem updateHours_press  : (updateHours s).press = s.press := rfl
@[simp] theorem updateHours_prot  : (updateHours s).prot = s.prot := rfl
@[simp] theorem updateHours_coll  : (updateHours s).coll = s.coll := rfl
@[simp] theorem updateHours_back  : (updateHours s).back = s.back := rfl
@[simp] theorem updateHours_legacy  : (updateHours s).legacy = s.legacy := rfl
@[simp] theorem updateHours_cellar  : (updateHours s).cellar = s.cellar := rfl
@[simp] theorem updateHours_power  : (updateHours s).power = s.power := rfl
@[simp] theorem updateHours_leaf  : (updateHours s).leaf = s.leaf := rfl
@[simp] theorem updateHours_wire  : (updateHours s).wire = s.wire := rfl
@[simp] theorem updateHours_fresh  : (updateHours s).fresh = s.fresh := rfl
@[simp] theorem updateHours_pending  : (updateHours s).pending = s.pending := rfl

@[simp] theorem beginPersist_now  : (beginPersist s).now = s.now := rfl
@[simp] theorem beginPersist_start  : (beginPersist s).start = s.start := rfl
@[simp] theorem beginPersist_straps  : (beginPersist s).straps = s.straps := rfl
@[simp] theorem beginPersist_spine  : (beginPersist s).spine = s.spine := rfl
@[simp] theorem beginPersist_addr  : (beginPersist s).addr = s.addr := rfl
@[simp] theorem beginPersist_hall  : (beginPersist s).hall = s.hall := rfl
@[simp] theorem beginPersist_mantel  : (beginPersist s).mantel = s.mantel := rfl
@[simp] theorem beginPersist_larder  : (beginPersist s).larder = s.larder := rfl
@[simp] theorem beginPersist_screen  : (beginPersist s).screen = s.screen := rfl
@[simp] theorem beginPersist_press  : (beginPersist s).press = s.press := rfl
@[simp] theorem beginPersist_prot  : (beginPersist s).prot = s.prot := rfl
@[simp] theorem beginPersist_coll  : (beginPersist s).coll = s.coll := rfl
@[simp] theorem beginPersist_back  : (beginPersist s).back = s.back := rfl
@[simp] theorem beginPersist_legacy  : (beginPersist s).legacy = s.legacy := rfl
@[simp] theorem beginPersist_cellar  : (beginPersist s).cellar = s.cellar := rfl
@[simp] theorem beginPersist_power  : (beginPersist s).power = s.power := rfl
@[simp] theorem beginPersist_leaf  : (beginPersist s).leaf = s.leaf := rfl
@[simp] theorem beginPersist_wire  : (beginPersist s).wire = s.wire := rfl
@[simp] theorem beginPersist_pending  : (beginPersist s).pending = s.pending := rfl

@[simp] theorem cutPersist_now  : (cutPersist s).now = s.now := by unfold cutPersist; split <;> rfl
@[simp] theorem cutPersist_start  : (cutPersist s).start = s.start := by unfold cutPersist; split <;> rfl
@[simp] theorem cutPersist_straps  : (cutPersist s).straps = s.straps := by unfold cutPersist; split <;> rfl
@[simp] theorem cutPersist_spine  : (cutPersist s).spine = s.spine := by unfold cutPersist; split <;> rfl
@[simp] theorem cutPersist_addr  : (cutPersist s).addr = s.addr := by unfold cutPersist; split <;> rfl
@[simp] theorem cutPersist_hall  : (cutPersist s).hall = s.hall := by unfold cutPersist; split <;> rfl
@[simp] theorem cutPersist_mantel  : (cutPersist s).mantel = s.mantel := by unfold cutPersist; split <;> rfl
@[simp] theorem cutPersist_larder  : (cutPersist s).larder = s.larder := by unfold cutPersist; split <;> rfl
@[simp] theorem cutPersist_screen  : (cutPersist s).screen = s.screen := by unfold cutPersist; split <;> rfl
@[simp] theorem cutPersist_bindery  : (cutPersist s).bindery = s.bindery := by unfold cutPersist; split <;> rfl
@[simp] theorem cutPersist_press  : (cutPersist s).press = s.press := by unfold cutPersist; split <;> rfl
@[simp] theorem cutPersist_prot  : (cutPersist s).prot = s.prot := by unfold cutPersist; split <;> rfl
@[simp] theorem cutPersist_coll  : (cutPersist s).coll = s.coll := by unfold cutPersist; split <;> rfl
@[simp] theorem cutPersist_back  : (cutPersist s).back = s.back := by unfold cutPersist; split <;> rfl
@[simp] theorem cutPersist_legacy  : (cutPersist s).legacy = s.legacy := by unfold cutPersist; split <;> rfl
@[simp] theorem cutPersist_cellar  : (cutPersist s).cellar = s.cellar := by unfold cutPersist; split <;> rfl
@[simp] theorem cutPersist_power  : (cutPersist s).power = s.power := by unfold cutPersist; split <;> rfl
@[simp] theorem cutPersist_leaf  : (cutPersist s).leaf = s.leaf := by unfold cutPersist; split <;> rfl
@[simp] theorem cutPersist_wire  : (cutPersist s).wire = s.wire := by unfold cutPersist; split <;> rfl
@[simp] theorem cutPersist_pending  : (cutPersist s).pending = s.pending := by unfold cutPersist; split <;> rfl

@[simp] theorem persistWear_now (c : Nat) : (persistWear s c).now = s.now := by unfold persistWear; split <;> simp
@[simp] theorem persistWear_start (c : Nat) : (persistWear s c).start = s.start := by unfold persistWear; split <;> simp
@[simp] theorem persistWear_straps (c : Nat) : (persistWear s c).straps = s.straps := by unfold persistWear; split <;> simp
@[simp] theorem persistWear_spine (c : Nat) : (persistWear s c).spine = s.spine := by unfold persistWear; split <;> simp
@[simp] theorem persistWear_addr (c : Nat) : (persistWear s c).addr = s.addr := by unfold persistWear; split <;> simp
@[simp] theorem persistWear_hall (c : Nat) : (persistWear s c).hall = s.hall := by unfold persistWear; split <;> simp
@[simp] theorem persistWear_mantel (c : Nat) : (persistWear s c).mantel = s.mantel := by unfold persistWear; split <;> simp
@[simp] theorem persistWear_screen (c : Nat) : (persistWear s c).screen = s.screen := by unfold persistWear; split <;> simp
@[simp] theorem persistWear_press (c : Nat) : (persistWear s c).press = s.press := by unfold persistWear; split <;> simp
@[simp] theorem persistWear_prot (c : Nat) : (persistWear s c).prot = s.prot := by unfold persistWear; split <;> simp
@[simp] theorem persistWear_coll (c : Nat) : (persistWear s c).coll = s.coll := by unfold persistWear; split <;> simp
@[simp] theorem persistWear_back (c : Nat) : (persistWear s c).back = s.back := by unfold persistWear; split <;> simp
@[simp] theorem persistWear_legacy (c : Nat) : (persistWear s c).legacy = s.legacy := by unfold persistWear; split <;> simp
@[simp] theorem persistWear_cellar (c : Nat) : (persistWear s c).cellar = s.cellar := by
  unfold persistWear
  split
  · rfl
  · rename_i h
    simp only [Bool.or_eq_true, not_or, Option.isSome_iff_ne_none, not_not] at h
    rw [raise_cellar _ _ _ _ (by simpa using h.2)]
    simp
@[simp] theorem persistWear_power (c : Nat) : (persistWear s c).power = s.power := by unfold persistWear; split <;> simp
@[simp] theorem persistWear_leaf (c : Nat) : (persistWear s c).leaf = s.leaf := by unfold persistWear; split <;> simp
@[simp] theorem persistWear_wire (c : Nat) : (persistWear s c).wire = s.wire := by unfold persistWear; split <;> simp
@[simp] theorem persistWear_pending (c : Nat) : (persistWear s c).pending = s.pending := by unfold persistWear; split <;> simp

@[simp] theorem driveOff_now  : (driveOff s).now = s.now := by simp [driveOff]
@[simp] theorem driveOff_start  : (driveOff s).start = s.start := by simp [driveOff]
@[simp] theorem driveOff_straps  : (driveOff s).straps = s.straps := by simp [driveOff]
@[simp] theorem driveOff_spine  : (driveOff s).spine = s.spine := by simp [driveOff]
@[simp] theorem driveOff_addr  : (driveOff s).addr = s.addr := by simp [driveOff]
@[simp] theorem driveOff_hall  : (driveOff s).hall = s.hall := by simp [driveOff]
@[simp] theorem driveOff_mantel  : (driveOff s).mantel = s.mantel := by simp [driveOff]
@[simp] theorem driveOff_larder  : (driveOff s).larder = s.larder := by simp [driveOff]
@[simp] theorem driveOff_screen  : (driveOff s).screen = s.screen := by simp [driveOff]
@[simp] theorem driveOff_bindery  : (driveOff s).bindery = s.bindery := by simp [driveOff]
@[simp] theorem driveOff_prot  : (driveOff s).prot = s.prot := by simp [driveOff]
@[simp] theorem driveOff_back  : (driveOff s).back = s.back := by simp [driveOff]
@[simp] theorem driveOff_legacy  : (driveOff s).legacy = s.legacy := by simp [driveOff]
@[simp] theorem driveOff_cellar  : (driveOff s).cellar = s.cellar := by simp [driveOff]
@[simp] theorem driveOff_leaf  : (driveOff s).leaf = s.leaf := by simp [driveOff]
@[simp] theorem driveOff_wire  : (driveOff s).wire = s.wire := by simp [driveOff]
@[simp] theorem driveOff_fresh  : (driveOff s).fresh = s.fresh := by simp [driveOff]
@[simp] theorem driveOff_pending  : (driveOff s).pending = s.pending := by simp [driveOff]

@[simp] theorem driveOn_now  : (driveOn s).now = s.now := rfl
@[simp] theorem driveOn_start  : (driveOn s).start = s.start := rfl
@[simp] theorem driveOn_straps  : (driveOn s).straps = s.straps := rfl
@[simp] theorem driveOn_spine  : (driveOn s).spine = s.spine := rfl
@[simp] theorem driveOn_addr  : (driveOn s).addr = s.addr := rfl
@[simp] theorem driveOn_hall  : (driveOn s).hall = s.hall := rfl
@[simp] theorem driveOn_mantel  : (driveOn s).mantel = s.mantel := rfl
@[simp] theorem driveOn_larder  : (driveOn s).larder = s.larder := rfl
@[simp] theorem driveOn_screen  : (driveOn s).screen = s.screen := rfl
@[simp] theorem driveOn_bindery  : (driveOn s).bindery = s.bindery := rfl
@[simp] theorem driveOn_press  : (driveOn s).press = s.press := rfl
@[simp] theorem driveOn_back  : (driveOn s).back = s.back := rfl
@[simp] theorem driveOn_legacy  : (driveOn s).legacy = s.legacy := rfl
@[simp] theorem driveOn_cellar  : (driveOn s).cellar = s.cellar := rfl
@[simp] theorem driveOn_arch  : (driveOn s).arch = s.arch := rfl
@[simp] theorem driveOn_leaf  : (driveOn s).leaf = s.leaf := rfl
@[simp] theorem driveOn_wire  : (driveOn s).wire = s.wire := rfl
@[simp] theorem driveOn_fresh  : (driveOn s).fresh = s.fresh := rfl
@[simp] theorem driveOn_pending  : (driveOn s).pending = s.pending := rfl

@[simp] theorem rowCutOff_rowOn : (rowCutOff s).press.rowOn = none := rfl
@[simp] theorem rowCutOff_widths : (rowCutOff s).press.widths = [] := rfl

@[simp] theorem setByp_bypHold (b : Bool) : (setByp s b).spine.bypHold = b := by
  unfold setByp; split <;> simp_all

theorem dispatch_of_take (cmd : Half) (f : Msg → State → State) (m : Msg) (h : takeDispatch s cmd = some m) :
    dispatch s cmd f = .next (f m (markDispatched s m.no false)) := by simp [dispatch, dispatchIf, h]

theorem dispatch_of_none (cmd : Half) (f : Msg → State → State) (h : takeDispatch s cmd = none) :
    dispatch s cmd f = .next s := by simp [dispatch, dispatchIf, h]

theorem dispatchIf_of_take (cmd : Half) (form : Msg → Bool) (f : Msg → State → State) (m : Msg)
    (h : takeDispatch s cmd = some m) (hf : form m = true) :
    dispatchIf s cmd form f = .next (f m (markDispatched s m.no false)) := by simp [dispatchIf, h, hf]

theorem dispatchIf_of_none (cmd : Half) (form : Msg → Bool) (f : Msg → State → State) (h : takeDispatch s cmd = none) :
    dispatchIf s cmd form f = .next s := by simp [dispatchIf, h]

/-- A dispatch command acts only on a message of its own command code, the earliest its channels allow (R123). -/
theorem takeDispatch_cmd (cmd : Half) (m : Msg) (h : takeDispatch s cmd = some m) :
    hallDispatches s = true ∧ m.cmd = cmd ∧ ∃ e, nextDispatch s = some e ∧ e.msg = m := by
  unfold takeDispatch at h
  split at h
  · split at h
    · split at h
      · rename_i e he hc
        cases h
        exact ⟨‹_›, by simpa using hc, e, he, rfl⟩
      · cases h
    · cases h
  · cases h


end Sys2Proof.Machine
end

