-- ==== Sys2Proof/Machine/Coding.lean ====
section
/-! DEFINITION. What stands on the lanes: the 64b/66b blocks of a folio, their scrambling and striping (R12, R52, R53), and the packets and 8b/10b symbols of the leaf link (R12, R422, R423, R433). -/

namespace Sys2Proof.Machine

open Sys2Proof

/-! ### 64b/66b blocks (R52; clause 49 of IEEE 802.3, log 90) -/

/-- A block: its sync header, control or data, its 64 bits, first bit lowest, and whether it is an alignment marker, which
passes the scrambler by. -/
structure Block66 where
  control : Bool
  payload : BitVec 64
  marker : Bool := false
  deriving DecidableEq, Repr

/-- Eight bytes of a block, the first byte lowest. -/
def blockOf (bs : List Byte) : BitVec 64 := BitVec.ofNat 64 (beNat (bs.take 8).reverse)

/-- The block that starts a folio: type 0x78. R52 does not say what its other seven octets hold: they are 0, and the folio's
bytes begin in the next block (log 90, PRESUMED). -/
def startBlock : Block66 := { control := true, payload := 0x78 }

/-- The type of the block that ends a folio with n bytes left over in it. -/
def terminateType (n : Nat) : Byte := [0x87, 0x99, 0xAA, 0xB4, 0xCC, 0xD2, 0xE1, 0xFF].getD n 0x87

def terminateBlock (rest : List Byte) : Block66 :=
  { control := true, payload := blockOf (terminateType rest.length :: rest) }

/-- The block that ends a unit in error: eight error codes 0x1E under type 0x1E (R62). -/
def errorBlock : Block66 := { control := true, payload := 0x3C78F1E3C78F1E1E }

/-- An idle block: type 0x1E and eight idle codes. -/
def idleBlock : Block66 := { control := true, payload := 0x1E }

/-- The 8-byte words of a byte string, on fuel, and what is left over. -/
def octetsOf : Nat → List Byte → List (List Byte) × List Byte
  | 0, bs => ([], bs)
  | n + 1, bs =>
    if bs.length < 8 then ([], bs)
    else
      let r := octetsOf n (bs.drop 8)
      (bs.take 8 :: r.1, r.2)

/-- The bytes of a folio as a lane frames it: start, whole words as data, terminate with what is left (R52). -/
def framed (words : List (List Byte)) (rest : List Byte) : List Block66 :=
  startBlock :: (words.map fun w => { control := false, payload := blockOf w }) ++ [terminateBlock rest]

/-- Every other word, from the first or the second: what one of two lanes carries (R53). -/
def stripe {α : Type} : Bool → List α → List α
  | _, [] => []
  | true, _ :: r => stripe false r
  | false, w :: r => w :: stripe true r

/-- The blocks of a folio on lane 0 or 1, on two lanes or lane 0 only (R52, R53). -/
def laneBlocks (twoLanes lane1 : Bool) (f : Folio) : List Block66 :=
  let bs := Folio.covered f ++ wordBytes f.crc
  let (ws, rest) := octetsOf bs.length bs
  if twoLanes then framed (stripe lane1 ws) (if (ws.length % 2 == 1) == lane1 then rest else [])
  else if lane1 then []
  else framed ws rest

/-- Blocks between two alignment markers of a lane (R53). -/
def markerSpacing : Nat := 16384

/-- A marker block stands at this place of a lane's block stream (R53). -/
def markerAt (n : Nat) : Bool := n % markerSpacing == 0

/-- The alignment marker of lane 0 or 1 with its parity byte: M0 to M2, the parity, and the four inverted (log 90, PRESUMED:
clause 82 of IEEE 802.3). -/
def markerBlock (lane1 : Bool) (bip : Byte) : Block66 :=
  let ms : List Byte := (if lane1 then [0xF0, 0xC4, 0xE6] else [0x90, 0x76, 0x47]) ++ [bip]
  { control := true, payload := blockOf (ms ++ ms.map (~~~ ·)), marker := true }

/-- A lane's blocks from place n of its stream on, with a marker inserted at each place that has one; bips are the markers' parity
bytes by place (R53). -/
def withMarkers (lane1 : Bool) (bips : Nat → Byte) : Nat → List Block66 → List Block66
  | _, [] => []
  | n, b :: r =>
    if markerAt n then markerBlock lane1 (bips n) :: b :: withMarkers lane1 bips (n + 2) r
    else b :: withMarkers lane1 bips (n + 1) r

/-- A lane's stream after deskew: the markers taken out (R53). -/
def withoutMarkers (bs : List Block66) : List Block66 := bs.filter fun b => !b.marker

/-! ### The self-synchronising scrambler: 1 + x^39 + x^58 (R52) -/

/-- One payload bit through the scrambler, whose state is the last 58 bits sent, the newest lowest. -/
def scrambleBit (st : BitVec 58) (d : Bool) : Bool × BitVec 58 :=
  let o := d ^^ st.getLsbD 38 ^^ st.getLsbD 57
  (o, st.shiftConcat o)

/-- One received bit through the descrambler, whose state is the last 58 bits received. -/
def descrambleBit (st : BitVec 58) (r : Bool) : Bool × BitVec 58 :=
  (r ^^ st.getLsbD 38 ^^ st.getLsbD 57, st.shiftConcat r)

def scramble : BitVec 58 → List Bool → List Bool
  | _, [] => []
  | st, d :: ds => (scrambleBit st d).1 :: scramble (scrambleBit st d).2 ds

def descramble : BitVec 58 → List Bool → List Bool
  | _, [] => []
  | st, r :: rs => (descrambleBit st r).1 :: descramble (descrambleBit st r).2 rs

/-- The 64 payload bits of a block in the order they are sent. -/
def blockBits (b : Block66) : List Bool := (List.range 64).map b.payload.getLsbD

/-- The scrambler's state after some payload bits. -/
def scrambledTo (st : BitVec 58) (ds : List Bool) : BitVec 58 := ds.foldl (fun st d => (scrambleBit st d).2) st

/-- The bits of a lane's blocks as they are sent, sync headers apart: scrambled, markers excepted (R52, R53). -/
def laneBits : BitVec 58 → List Block66 → List Bool
  | _, [] => []
  | st, b :: r =>
    if b.marker then blockBits b ++ laneBits st r
    else scramble st (blockBits b) ++ laneBits (scrambledTo st (blockBits b)) r

/-! ### Packets of the leaf link (R423, R433) -/

/-- A packet from its header words and payload, with its CRC-32C (R85, R423). -/
def packetBytes (w0 w1 : Word) (payload : List Byte) : List Byte :=
  let bs := wordsBytes [w0, w1] ++ payload
  bs ++ wordBytes (crc32c bs)

/-- A native leaf-link packet (R423). -/
def leafPacket (type : BitVec 4) (leaf : BitVec 6) (w1 : Word) (payload : List Byte) : List Byte :=
  packetBytes (pack [(type.toNat, 28), (leaf.toNat, 20), (payload.length, 9)]) w1 payload

/-- A tile-bus packet of the FZ5140 format (R433). -/
def fzPacket (type : BitVec 4) (chip : BitVec 7) (w1 : Word) (payload : List Byte) : List Byte :=
  packetBytes (pack [(type.toNat, 28), (chip.toNat, 21), (payload.length, 9)]) w1 payload

/-- The bytes of a packet that leaves on the leaf link. -/
def packetOf : Sent → Option (List Byte)
  | .leaf _ t l w p => some (leafPacket t l w p)
  | .fz _ t c w p => some (fzPacket t c w p)
  | _ => none

/-! ### 8b/10b (R12, R422; the code's own table, log 90) -/

/-- The six-bit halves of the data symbols at negative running disparity, a first. -/
def sixTable : List (BitVec 6) :=
  [0b100111, 0b011101, 0b101101, 0b110001, 0b110101, 0b101001, 0b011001, 0b111000,
   0b111001, 0b100101, 0b010101, 0b110100, 0b001101, 0b101100, 0b011100, 0b010111] ++
  [0b011011, 0b100011, 0b010011, 0b110010, 0b001011, 0b101010, 0b011010, 0b111010,
   0b110011, 0b100110, 0b010110, 0b110110, 0b001110, 0b101110, 0b011110, 0b101011]

/-- The four-bit halves of data symbols at negative running disparity, f first. -/
def fourTable : List (BitVec 4) := [0b1011, 0b1001, 0b0101, 0b1100, 0b1101, 0b1010, 0b0110, 0b1110]

/-- The four-bit halves of control symbols at negative running disparity. -/
def fourControl : List (BitVec 4) := [0b1011, 0b0110, 0b1010, 0b1100, 0b1101, 0b0101, 0b1001, 0b0111]

def ones {n : Nat} (b : BitVec n) : Nat := ((List.range n).filter b.getLsbD).length

/-- The six-bit half of a symbol. -/
def sixOf (control plus : Bool) (x : Nat) : BitVec 6 :=
  let b := if control && x == 28 then 0b001111 else sixTable.getD x 0
  if plus && (ones b != 3 || x == 7) then ~~~b else b

/-- D.x.7 takes its alternate half where five like bits would follow one another. -/
def alternate (plus : Bool) (x : Nat) : Bool :=
  if plus then x == 11 || x == 13 || x == 14 else x == 17 || x == 18 || x == 20

/-- The four-bit half of a symbol. -/
def fourOf (control plus : Bool) (x y : Nat) : BitVec 4 :=
  if control then (if plus then ~~~(fourControl.getD y 0) else fourControl.getD y 0)
  else
    let b : BitVec 4 := if y == 7 && alternate plus x then 0b0111 else fourTable.getD y 0
    if plus && (ones b != 2 || y == 3) then ~~~b else b

/-- A symbol, its first bit highest, and the running disparity after it; plus says the disparity is positive. -/
def symbol (control plus : Bool) (b : Byte) : BitVec 10 × Bool :=
  let x := b.toNat % 32
  let y := b.toNat / 32
  let six := sixOf control plus x
  let mid := plus ^^ ones six != 3
  let four := fourOf control mid x y
  (six ++ four, mid ^^ ones four != 2)

/-- The symbols of bytes one after another. -/
def symbols : Bool → List (Bool × Byte) → List (BitVec 10)
  | _, [] => []
  | plus, (k, b) :: r => (symbol k plus b).1 :: symbols (symbol k plus b).2 r

/-- K28.5 idles a leaf link, K27.7 starts a packet and K29.7 ends it (R422, R423). -/
def k28_5 : Byte := 0xBC

def k27_7 : Byte := 0xFB

def k29_7 : Byte := 0xFD

/-- A packet's symbols between its framing symbols. -/
def packetSymbols (plus : Bool) (bs : List Byte) : List (BitVec 10) :=
  symbols plus ((true, k27_7) :: bs.map (fun b => (false, b)) ++ [(true, k29_7)])

end Sys2Proof.Machine
end

