-- ==== Sys2Proof/Machine/Pins.lean ====
section
/-! DEFINITION. What the output pins show in a state, read off State: FAULT_N, BYP_HOLD, SB_STB, the ROW pins and the COL sinks (R10, R41, R302, R330, R397, R416, R440). -/

namespace Sys2Proof.Machine

open Sys2Proof

/-- The level of a pin; highZ where the node leaves it to the board. -/
inductive PinLevel where
  | low
  | high
  | highZ
  deriving DecidableEq, Repr, Inhabited

def levelOf (b : Bool) : PinLevel := if b then .high else .low

/-- What EXTEST or HIGHZ puts on the logic output of this boundary cell; none when its own function drives it (R301,
R302). -/
def testedPin (s : State) (cell : Nat) : Option PinLevel :=
  match s.prot.tap with
  | .highz => some .highZ
  | .extest => some (levelOf (s.prot.driven.getLsbD cell))
  | _ => none

/-- FAULT_N is open-drain: low, or released (R302, R416, R449). -/
def faultPin (s : State) : PinLevel :=
  if !s.start.ioGood then .highZ
  else
    match testedPin s 293 with
    | some l => if l = .low then .low else .highZ
    | none => if faultLow s then .low else .highZ

/-- BYP_HOLD, driven from VDD_IO; without that supply it is low through its pull-down (R71, R301, R440, R449). -/
def bypHoldPin (s : State) : PinLevel := levelOf (s.spine.bypHold && s.start.ioGood)

/-- SB_STB: low only while the Backstair takes part in the bus (R330, R331, R440). -/
def standbyPin (s : State) : PinLevel :=
  if !s.start.ioGood then .highZ
  else
    match testedPin s 288 with
    | some l => l
    | none => levelOf (!(s.back.pstate == .integrating || s.back.pstate == .active))

/-- No reset holds the pins of R10, and S lies 1 ms back: step 1 of start-up holds them for 1 ms from S, and so does the Cellar's hold
(R411, R414). -/
def pinHoldEnded (s : State) : Bool :=
  !(s.start.phase == .off || s.start.phase == .inReset || s.start.phase == .cellarHold) && decide (s.start.s + msNs ≤ s.now)

/-- The four supplies that R397 and R440 name are good, and have been for 1 ms. -/
def pinsFreed (s : State) : Bool :=
  s.start.coreGood && s.start.sdGood && s.start.ioGood && auxIn s && pinHoldEnded s

/-- What the lanes of a port do. -/
inductive LaneLevel where
  | highZ
  | off
  | transmits
  deriving DecidableEq, Repr

/-- The port's lanes have a link in the node's mode: both ports in the ring modes, WEST alone, the leaf link's, in the leaf modes, and
neither in a standalone one (R57, R422). -/
def laneUsed (s : State) (p : Port) : Bool :=
  ringMode s || (p == .west && (mode s == .leaf || mode s == .leafFz))

/-- The lanes of a port: high impedance without a supply, transmitters off until the pins are freed and the straps read, and without
VDD_CORE, VDD_SD or VDD_IO; then blocks in every port state, idle blocks in DOWN. A loss of VDD_AUX in operation changes nothing
here (R57, R406, R422, R440). -/
def lanes (s : State) (p : Port) : LaneLevel :=
  if !s.start.coreGood && !s.start.sdGood && !s.start.ioGood && !s.start.auxGood then .highZ
  else if s.start.coreGood && s.start.sdGood && s.start.ioGood && pinHoldEnded s && s.straps.read && ringOn s && laneUsed s p then
    .transmits
  else .off

/-- CFG_ROW level[3]: the rows are active high (R40). -/
def rowActiveHigh (s : State) : Bool := strapField s 4 3 3 == 1

/-- A ROW pin on or off at the strapped polarity (R40, R41). -/
def rowLevel (s : State) (on : Bool) : PinLevel := levelOf (on == rowActiveHigh s)

/-- A row that the Cellar, a trip or PGOOD holds dark stays off whatever a boundary cell asks for (R27, R284, R301, R302). -/
def rowHeldOff (s : State) (r : Nat) : Bool := cellarDark s || rowTripped s r

/-- ROW pin r (R41, R301, R302, R440). In S1 to S4 DRIVE is off and its pins are as R10 has them: high impedance (R30, R398;
log 82). -/
def rowPin (s : State) (r : Nat) : PinLevel :=
  if !pinsFreed s || !vrowIn s || !s.straps.read || s.power.st != .s0 then .highZ
  else
    match s.prot.tap with
    | .highz => .highZ
    | .extest =>
      if s.prot.driven.getLsbD 192 then rowLevel s (!s.prot.driven.getLsbD (193 + r) && !rowHeldOff s r) else .highZ
    | _ => rowLevel s (s.press.rowOn == some r)

/-- The strength in mA with which the ROW pins are driven (R40). -/
def rowDrive (s : State) : Nat := rowDriveMa s

/-- A logic output with this boundary cell, low-level idle or not, while VDD_IO is in: its own level, or what EXTEST or HIGHZ puts
there (R301, R302). -/
def logicPin (s : State) (cell : Nat) (own : PinLevel) : PinLevel :=
  if !s.start.ioGood then .highZ else (testedPin s cell).getD own

/-- SB_TX outside a frame: recessive, high (R301, R302, R331). -/
def sbTxPin (s : State) : PinLevel := logicPin s 286 .high

/-- LX_TX outside a reply: high impedance with the port off or the straps unread, else the idle level (R37, R301, R302, R351). -/
def lxTxPin (s : State) : PinLevel :=
  logicPin s 289 (if !s.straps.read || legacyUse s == .off then .highZ else .high)

/-- An RDM response is being sent (R351, R357). -/
def rdmSending (s : State) : Bool := decide (s.legacy.replyFrom ≤ s.now) && decide (s.now < s.legacy.replyUntil)

/-- LX_DE: high only while an RDM response is sent; low, or high impedance as LX_TX (R37, R301, R302, R351). -/
def lxDePin (s : State) : PinLevel :=
  logicPin s 291 (if !s.straps.read || legacyUse s == .off then .highZ else levelOf (legacyUse s == .dmxRdm && rdmSending s))

/-- What LX_RX does. -/
inductive RxUse where
  | highZ
  | input
  deriving DecidableEq, Repr

/-- LX_RX: an input while the port has a protocol, else high impedance (R351). -/
def lxRxPin (s : State) : RxUse :=
  if !s.start.ioGood || !s.straps.read || legacyUse s == .off then .highZ else .input

/-- ROW pin r at a cycle of the slot in progress: its row is on from its edge to the slot's end (R266). -/
def rowPinAt (s : State) (r cycle : Nat) : PinLevel :=
  if s.press.rowOn == some r && !(decide (rowOnCycle s.press.timing.deadNs ≤ cycle) && decide (cycle < slotLength s r)) then
    rowPin { s with press := { s.press with rowOn := none } } r
  else rowPin s r

/-- The sink or channel at logical position k draws current in the row slot; otherwise its COL pins are high impedance
(R10, R270, R301, R398). -/
def colConducts (s : State) (k : Nat) : Bool :=
  pinsFreed s && s.power.driveGood && s.press.rowOn.isSome && decide (0 < s.press.widths.getD k 0)

/-- What a COL pin does. -/
inductive ColLevel where
  | off
  | sinks
  | pulledUp
  deriving DecidableEq, Repr

/-- The COL pins at logical position k at a tap of a cycle of the slot: sinking their pulse, pulled up by ghost discharge, or off
(R265 to R267, R297). -/
def colPinAt (s : State) (k cycle tap : Nat) : ColLevel :=
  if colConducts s k && pulseOn s (sinkGroup ((sinksOf s k).headD 0)) (s.press.widths.getD k 0) cycle tap then .sinks
  else if pinsFreed s && ghostPulls s k cycle then .pulledUp
  else .off

end Sys2Proof.Machine
end

