-- ==== Sys2Proof/Tests/Slice0.lean ====
section
/-! SUPPORT. The writer's own tests: numbers that the manual or a standard writes out, well-formedness with a refused term for each check, and for every statement with hypotheses the states and operands that meet them. -/

open Sys2Proof Sys2Proof.Machine

namespace Sys2Proof.Tests

set_option Elab.async false

/-- A running node of a CFG_MODE level, locked, its Hall ready and its Press running. -/
def node (l : BitVec 4) : State :=
  { State.reset with
    now := 5000000000
    start := { StartUp.reset with
      phase := .running, s := 1000, coreGood := true, sdGood := true, ioGood := true, auxGood := true, vrowGood := true }
    straps := { Straps.reset with svcOn := true, read := true, levels := l :: List.replicate 11 0 }
    hall := { Hall.reset with ready := true }
    mantel := { Mantel.reset with time := 5000000000 * 2 ^ 32, p := 5000000000 * 2 ^ 32, lock := .locked }
    press := { Press.reset with running := true }
    power := { Power.reset with driveGood := true } }

/-- Both ring ports of a node in one state. -/
def ports (s : State) (st : PortState) : State :=
  { s with spine := { s.spine with east := { s.spine.east with st := st }, west := { s.spine.west with st := st } } }

/-- A node with one accepted message that waits for dispatch. -/
def asked (s : State) (cmd : Half) (body : List Byte) : State :=
  { s with
    hall := { s.hall with
      entries := [{ msg := { chan := 0, seq := 1, cmd := cmd, role := 2, body := body, no := 1 }, no := 1, dispatched := false
                    finished := false }] } }

def msg (cmd : Half) (body : List Byte) : Msg := { chan := 0, seq := 1, cmd := cmd, role := 2, body := body, no := 1 }

def run0 : State := node 0

/-- The state that an answer goes on in. -/
def after (r : Result) : State :=
  match r with
  | .next t => t
  | _ => State.reset

theorem sealed_crcOk (kind dest src spec : Nat) (w2 w3 : Word) (payload : List Byte) :
    Folio.crcOk (mkFolio kind dest src spec w2 w3 payload) = true := by
  simp only [Folio.crcOk, beq_iff_eq]
  simp only [mkFolio, Folio.goodCrc, Folio.covered]

theorem not_stamped_of_crcOk {f : Folio} (h : Folio.crcOk f = true) : Folio.stamped f = false := by
  simp only [Folio.crcOk, beq_iff_eq] at h
  simp only [Folio.stamped, h, beq_eq_false_iff_ne]
  intro e
  have := congrArg (·.getLsbD 0) e
  simp at this

/-! ### Checks against numbers the manual or a standard writes out -/

/-- The CMAC example of RFC 4493 with one block, truncated as R148 truncates it. -/
theorem test_tag :
    tagOf 0x2B7E151628AED2A6ABF7158809CF4F3C (beBytes 16 0x6BC1BEE22E409F96E93D7E117393172A)
      = beBytes 8 0x070A16B46B4D4144 := by decide +kernel

/-- The standard check value of CRC-32C, of the digits 1 to 9. -/
theorem test_crc32c : crc32c [0x31, 0x32, 0x33, 0x34, 0x35, 0x36, 0x37, 0x38, 0x39] = 0xE3069283 := by decide +kernel

/-- Stage 1 and the table reads of the worked example of file 09: entries 2,049 and 2,050 and the value between them. -/
theorem test_worked_pixel_source :
    widen 10 512 = 32800 ∧ (curveValue (romBt1886 2049) = 3184128 ∧ curveValue (romBt1886 2050) = 3188224)
      ∧ transfer [] 1 0 32800 = 3186176 := by decide +kernel

/-- At full code every built-in transfer of R221 is full scale, and at code 0 it is 0. -/
theorem test_transfer_ends :
    romBt1886 4095 = 0xD000 ∧ romPq 4095 = 0xD000 ∧ romHlg 4095 = 0xD000 ∧ romBt1886 0 = 0 ∧ romPq 0 = 0 ∧ romHlg 0 = 0 := by
  decide +kernel

/-- Stages 5 to 7 and 9 of the same example. -/
theorem test_worked_pixel_stages :
    (levelStages 24576 32768 33161 35717 3122585).1 = 2583321 ∧ driveUnit 2583321 = 161457 := by decide +kernel

/-- The arc levels that the worked fade of file 10 uses. -/
theorem test_arc_levels :
    arcLevel 253 = 31885 ∧ arcLevel 222 = 13677 ∧ arcLevel 223 = 14056 ∧ arcLevel 190 = 5709 ∧ arcLevel 191 = 5867
      ∧ arcLevel 127 = 1022 := by decide +kernel

/-- The levels between arc levels at the seams F0 + 1 and F0 + 60 of that fade. -/
theorem test_arc_fractions : arcFraction 64889 = 32302 ∧ arcFraction 56896 = 13772 := by decide +kernel

/-- A strap code is its ratio times 4,096: around the code 2,731 of R34's table the flag starts 62 codes off, not 61. -/
theorem test_strap_codes :
    betweenBands (16 * 2669) = true ∧ betweenBands (16 * 2792) = false ∧ betweenBands (16 * 2793) = true := by decide +kernel

/-- The symbols K28.5, K27.7 and D21.5 of the 8b/10b code at negative disparity. -/
theorem test_8b10b :
    symbol true false k28_5 = (0b0011111010, true) ∧ symbol true false k27_7 = (0b1101101000, false) ∧
      symbol false false 0xB5 = (0b1010101010, false) := by decide +kernel

/-- What the scrambler sends, the descrambler gives back from the same 58 bits. -/
theorem test_scrambler :
    descramble 0x155 (scramble 0x155 [true, false, false, true, true, true]) = [true, false, false, true, true, true] := by
  decide +kernel

/-! ### Well-formedness: a term that each check takes and one that it refuses -/

def longFolio : Folio := mkFolio 0 0 0 0 0 0 (List.replicate 2048 0)
def longFrame : ServiceFrame :=
  { chatter := false, src := 0, dest := 0, item := 0, data := List.replicate 9 0, stamp := 0, fd := false }
def okFrame : ServiceFrame := { longFrame with data := [] }

theorem test_wf_folios :
    (Instr.folioForward .east (.whole (mkFolio 0 0 0 0 0 0 [])) 0).wf = true ∧
    (Instr.folioForward .east (.whole longFolio) 0).wf = false ∧ (Instr.merge .west ⟨.whole longFolio, none⟩).wf = false ∧
    (Instr.merge .west ⟨.short, some (.whole longFolio)⟩).wf = false ∧
    (Instr.vacancyFill .east longFolio).wf = false ∧ (Instr.carryDown 1 (.whole longFolio) true).wf = false ∧
    (Instr.carryUp 1 longFolio true).wf = false ∧ (Instr.carryDown 1 .short true).wf = true := by decide +kernel

theorem test_wf_straps_and_ring :
    (Instr.strapSample (List.replicate 12 (List.replicate 16 0)) [0, 0, 0, 0]).wf = true ∧
    (Instr.strapSample (List.replicate 11 (List.replicate 16 0)) [0, 0, 0, 0]).wf = false ∧
    (Instr.strapSample (List.replicate 12 [0]) [0, 0, 0, 0]).wf = false ∧
    (Instr.strapSample (List.replicate 12 (List.replicate 16 0)) []).wf = false ∧
    (Instr.deskew .east ⟨40000, 0⟩).wf = true ∧ (Instr.deskew .east ⟨40001, 0⟩).wf = false ∧
    (Instr.addressAssign 0 0 []).wf = false ∧
    (Instr.addressAssign 0 0 (List.replicate 64 { serial := 0, pos := 0, addr := 1, pinconflict := false })).wf = false ∧
    (Instr.ringMap 0 0 1024 []).wf = true ∧ (Instr.ringMap 0 0 0 []).wf = false ∧
    (Instr.ringMap 0 0 1025 []).wf = false ∧ (Instr.ringMap 0 0 4 (List.replicate 1025 true)).wf = false := by decide +kernel

theorem test_wf_core :
    (Instr.rowSlot ⟨[{ sink := 191, mv := 0 }], []⟩ 0).wf = true ∧ (Instr.rowSlot ⟨[{ sink := 192, mv := 0 }], []⟩ 0).wf = false ∧
    (Instr.rowSlot ⟨[], [{ sink := 192, mv := 0 }]⟩ 0).wf = false ∧ (Instr.larderEccError ⟨1, 0⟩ true).wf = true ∧
    (Instr.larderEccError ⟨0, 0⟩ true).wf = false ∧ (Instr.larderEccError ⟨13, 0⟩ true).wf = false ∧
    (Instr.watermarkReport 1).wf = true ∧ (Instr.watermarkReport 0).wf = false ∧
    (Instr.tripInputAssert 9 false false).wf = true ∧ (Instr.tripInputAssert 10 false false).wf = false ∧
    (Instr.tripInputDeassert 10).wf = false ∧ (Instr.tripEpisodeEnd 10).wf = false ∧
    (Instr.delayLineUnlock 191 true).wf = true ∧ (Instr.delayLineUnlock 192 true).wf = false ∧
    (Instr.delayLineRelock 192).wf = false ∧ (Instr.archiveEccError ⟨9, 0xFFFFF⟩ false).wf = true ∧
    (Instr.archiveEccError ⟨0, 0⟩ false).wf = false ∧ (Instr.archiveEccError ⟨10, 0⟩ false).wf = false ∧
    (Instr.archiveEccError ⟨1, 0x100000⟩ false).wf = false := by decide +kernel

theorem test_wf_reader :
    (Instr.readerFieldPresent 4320).wf = true ∧ (Instr.readerFieldPresent 4321).wf = false ∧
    (Instr.inventory false none 64 0).wf = true ∧ (Instr.inventory false none 65 0).wf = false ∧
    (Instr.readMultipleBlocks .any 0 256).wf = true ∧ (Instr.readMultipleBlocks .any 0 0).wf = false ∧
    (Instr.readMultipleBlocks .any 0 257).wf = false ∧
    (Instr.writeSingleBlock .any 9 true (List.replicate 32 0)).wf = true ∧
    (Instr.writeSingleBlock .any 9 true []).wf = false := by decide +kernel

theorem test_wf_buses :
    (Instr.psuFault okFrame).wf = true ∧ (Instr.psuFault { longFrame with fd := true }).wf = true ∧
    (Instr.psuFault { longFrame with fd := true, data := List.replicate 65 0 }).wf = false ∧
    (Instr.reservedKindFrame ⟨false, false, 5, okFrame⟩).wf = true ∧ (Instr.reservedKindFrame ⟨false, false, 1, okFrame⟩).wf = false ∧
    [Instr.psuFault longFrame, .overtemp longFrame, .fanFault longFrame, .peerFault longFrame, .announce 0 longFrame,
      .temp longFrame, .psuStatus longFrame, .fanStatus longFrame, .peerStatus longFrame].all (fun i => !i.wf) = true ∧
    (Instr.dmxPacket 100 12 0 (List.replicate 512 0) none).wf = true ∧
    (Instr.dmxPacket 100 12 0 (List.replicate 513 0) none).wf = false ∧
    (Instr.daliForwardFrame 24 0).wf = true ∧ (Instr.daliForwardFrame 20 0).wf = false ∧
    (Instr.pixels 0 0 (List.replicate 2048 0)).wf = true ∧ (Instr.pixels 0 0 (List.replicate 2049 0)).wf = false := by
  decide +kernel

theorem test_wf_rdm :
    let bad : RdmRequest := { dest := 0, data := List.replicate 232 0 }
    (Instr.deviceInfo { dest := 0, data := List.replicate 231 0 }).wf = true ∧
    [Instr.discMute bad, .discUnMute bad, .supportedParameters bad, .deviceInfo bad, .deviceModelDescription bad,
      .manufacturerLabel bad, .deviceLabelGet bad, .deviceLabelSet bad, .softwareVersionLabel bad,
      .dmxPersonalityGet bad, .dmxPersonalitySet bad, .dmxPersonalityDescription bad, .dmxStartAddressGet bad,
      .dmxStartAddressSet bad, .deviceHours bad, .identifyDeviceGet bad, .identifyDeviceSet bad,
      .unknownPid bad 0].all (fun i => !i.wf) = true := by decide +kernel

/-! ### Witnesses: for each statement with hypotheses, states and operands that meet them, clause by clause -/

/-- The canonical buffers of the invariant, and a step from them. -/
theorem witness_EveryStepKeepsBuffersCanonical : BuffersCanonical run0 ∧ step run0 = .next (advance run0 1) :=
  ⟨⟨by decide, by decide, by simp [run0, node, State.reset, Archive.reset],
    by simp [run0, node, State.reset, Archive.reset], by simp [run0, node, State.reset, Archive.reset],
    by simp [run0, node, State.reset, Archive.reset], by simp [run0, node, State.reset, Archive.reset]⟩, rfl⟩

/-- A step, and states within the stated sizes about it. -/
theorem witness_TrueTimeNeverRunsBack : step run0 = .next (advance run0 1) := rfl

theorem witness_EveryStepKeepsTheStatedSizes : WithinStatedSizes run0 ∧ step run0 = .next (advance run0 1) :=
  ⟨by unfold WithinStatedSizes; decide +kernel, rfl⟩

/-! ### Pins (R397, R416, R440; worked start-up of spec/18_reset_and_startup.md: CFG_ROW L3, rows driven high, which is off) -/

theorem test_pins_unpowered :
    faultPin State.reset = .highZ ∧ standbyPin State.reset = .highZ ∧ rowPin State.reset 0 = .highZ ∧
      bypHoldPin State.reset = .low ∧ colConducts State.reset 0 = false := by decide

/-- The worked chip with its straps read. -/
def strapped (p : Phase) (ioGood : Bool) : State :=
  { run0 with
    start := { run0.start with phase := p, ioGood := ioGood }
    straps := { run0.straps with levels := [0, 0, 0, 0, 3, 0, 0, 0, 0, 0, 0, 0] }
    back := { run0.back with pstate := .integrating } }

theorem test_pins_straps_read :
    faultPin (strapped .cellarHold true) = .low ∧ standbyPin (strapped .cellarHold true) = .low ∧
      rowPin (strapped .running true) 7 = .high ∧ rowPin (strapped .cellarHold true) 7 = .highZ ∧
      rowPin (strapped .running false) 7 = .highZ := by decide

def stStep : State := { run0 with pending := [Instr.porterStop] }

theorem witness_StepRunsTheFrontCommand :
    stStep.pending = [Instr.porterStop] :=
  by decide +kernel

theorem witness_IdleStepIsOneMantelTick :
    run0.pending = [] ∧ run0.start.stage = 0 ∧ 0 ≤ ↑run0.mantel.time + (4 * 2 ^ 32 + run0.mantel.addend) :=
  by decide +kernel

theorem witness_ExecLeavesTheQueue :
    exec Instr.watchdogKick run0 = Host.Outcome.next run0 :=
  rfl

def inReset : State := { run0 with start := { run0.start with phase := .inReset, cause := .resetN } }

def awaiting : State :=
  { State.reset with
    start := { StartUp.reset with phase := .awaitStraps }
    straps := { Straps.reset with svcOn := true } }

def awaitingReset : State := { awaiting with start := { awaiting.start with phase := .inReset } }

def staged (k : Nat) : State := { run0 with start := { run0.start with stage := k } }

def stage4 : State :=
  { staged 4 with start := { (staged 4).start with phase := .awaitStraps }, hall := { run0.hall with ready := false } }

def stage2 : State := { stage4 with start := { stage4.start with stage := 2, s := 4999500000 } }

theorem witness_StartUpRunsFromPowerAndStraps :
    ((State.reset.start.phase = Phase.off ∨ State.reset.start.phase = Phase.inReset) ∧ State.reset.cellar.failAt = none)
      ∧
    ((inReset.start.phase = Phase.off ∨ inReset.start.phase = Phase.inReset) ∧ inReset.cellar.failAt = none) ∧
    (awaiting.straps.svcOn = true ∧ awaiting.straps.read = false ∧ awaiting.start.phase = Phase.awaitStraps) ∧
    (awaitingReset.straps.svcOn = true ∧ awaitingReset.straps.read = false ∧ awaitingReset.start.phase = Phase.inReset)
      ∧
    (stage4.pending = [] ∧ stage4.cellar.failAt = none ∧ stage4.start.stage = 4) ∧
    ((staged 5).pending = [] ∧ (staged 5).cellar.failAt = none ∧ (staged 5).start.stage = 5) ∧
    ((staged 6).pending = [] ∧ (staged 6).cellar.failAt = none ∧ (staged 6).start.stage = 6 ∧ (staged 6).arch.badWords =
      []) ∧
    ((staged 9).pending = [] ∧ (staged 9).cellar.failAt = none ∧ (staged 9).start.stage = 9) ∧
    ((staged 10).pending = [] ∧ (staged 10).cellar.failAt = none ∧ (staged 10).start.stage = 10) ∧
    (stage2.pending = [] ∧ stage2.cellar.failAt = none ∧ stage2.start.stage = 2) :=
  by and_intros <;> decide +kernel

def failingToo : State := { run0 with pending := [Instr.powerFailDetect true false] }

def asleep4 : State := { run0 with power := { run0.power with st := .s4 } }

def writing : State := { run0 with hall := { run0.hall with writing := some (msg 2 (List.replicate 8 0)) } }

theorem witness_ResetsHoldTheNodeAndKeepTheJournal :
    (running run0 = true ∧ run0.cellar.failAt = none ∧ failFollows run0 = false) ∧
    (running failingToo = true ∧ failingToo.cellar.failAt = none ∧ failFollows failingToo = true) ∧
    (running asleep4 = true ∧ asleep4.cellar.failAt = none ∧ failFollows asleep4 = false) ∧
    (running run0 = true ∧ run0.cellar.failAt = none) ∧
    (State.reset.start.phase = Phase.off ∨ State.reset.cellar.failAt.isSome = true) ∧
    (running run0 = true ∧ run0.power.st ≠ Rest.s4 ∧ run0.cellar.failAt = none ∧ failFollows run0 = false ∧ ringMode
      run0 = true) ∧
    (running writing = true ∧ writing.power.st ≠ Rest.s4 ∧ writing.cellar.failAt = none ∧ failFollows writing = false ∧
      writing.hall.writing = some (msg 2 (List.replicate 8 0))) :=
  by and_intros <;> decide +kernel

def failed : State := { run0 with cellar := { Cellar.reset with failAt := some 4999000000 } }

theorem witness_PowerFailStopsAndIsolates :
    (running run0 = true ∧ run0.cellar.failAt = none ∧ (true || false) = true) ∧
    (running asleep4 = true ∧ asleep4.cellar.failAt = none ∧ (true || true) = true) ∧
    (failed.cellar.failAt = some 4999000000) :=
  ⟨by decide +kernel, by decide +kernel, by decide +kernel⟩

def brown : State := { run0 with power := { run0.power with auxBrownAt := some 4000000000, vrowBrownAt := some 4000000000 } }

theorem witness_BrownOutsChangeNoPowerState :
    (running run0 = true ∧ run0.start.auxGood = true ∧ 900 < 3000) ∧
    (running run0 = true ∧ run0.start.vrowGood = true ∧ 900 < 3000) ∧
    (brown.power.auxBrownAt = some 4000000000) ∧
    (brown.power.vrowBrownAt = some 4000000000) :=
  by and_intros <;> decide +kernel

def guarded : State := { run0 with cellar := { Cellar.reset with watchdogArmed := true, lastKick := 4999000000 } }

def heldInReset : State :=
  { guarded with
    start := { run0.start with phase := .cellarHold }
    cellar := { guarded.cellar with cause := some .watchdog } }

def asleep : State := { asleep4 with cellar := { Cellar.reset with rtcAlarm := some 6000000000, rtcValid := true } }

theorem witness_WatchdogAndTheReturnAlarm :
    (guarded.cellar.watchdogArmed = true ∧ coreOn guarded = true) ∧
    (guarded.cellar.watchdogArmed = true ∧ coreOn guarded = true ∧ guarded.cellar.warned = false) ∧
    (guarded.cellar.watchdogArmed = true ∧ coreOn guarded = true ∧ guarded.cellar.failAt = none) ∧
    (heldInReset.start.phase = Phase.cellarHold ∧ heldInReset.straps.read = true) ∧
    (running asleep = true ∧ asleep.power.st = Rest.s4 ∧ asleep.cellar.failAt = none ∧ asleep.cellar.rtcAlarm = some
      6000000000) :=
  by and_intros <;> decide +kernel

def stRenderStep : State := { run0 with mantel := { run0.mantel with stepPending := some 4294967296000 } }

def cueB (a sl m fade : Nat) : List Byte :=
  wordBytes (pack [(a, 28), (sl, 20), (m, 18), (fade, 0)]) ++ beBytes 8 5 ++ wordBytes 0 ++ wordBytes 0x40000000 ++ wordBytes 70000

def cued : ArmedCue := { chan := 0, seq := 1, no := 1, t := 5000000000, late := false }

def fired (b : List Byte) : Entry := { msg := msg 0x10 b, no := 1, dispatched := false, finished := false }

def lit0 : State :=
  { run0 with
    screen := { Show.reset with firstSeam := some 4000000000 }
    start := { run0.start with firstLight := true } }

def cueS (b : List Byte) : State := { asked lit0 0x10 b with mantel := { lit0.mantel with cues := [cued] } }

def stCueNoSlate : State := cueS (cueB 0 3 0 0)

def slate3 : Obj := { size := sigSize run0 0 0, identity := 1, valid := true, data := [] }

def stored3 (s : State) : State :=
  { s with arch := { s.arch with slates := [none, none, none, some slate3] ++ List.replicate 8 none } }

def stCueCut : State := stored3 (cueS (cueB 0 3 0 0))

def stCueFade : State := stored3 (cueS (cueB 1 3 0 500))

def stCueLevel : State := cueS (cueB 2 0 0 0)

def stCueLevelFade : State := cueS (cueB 2 0 0 500)

def stCueStream : State := cueS (cueB 3 0 0 0)

def stCueTol : State := cueS (cueB 4 0 0 0)

def dueAt (q : Word) (st : SlotState) : Slot := { Slot.empty with st := st, quire := q, pres := 5000000000 }

def stBinds : State :=
  { lit0 with larder := { lit0.larder with slots := [dueAt 4 .ready, dueAt 5 .ready, dueAt 6 .receiving] } }

def stHolds : State := { lit0 with larder := { lit0.larder with slots := [dueAt 4 .receiving, Slot.empty, Slot.empty] } }

def stChooses : State := { lit0 with arch := { lit0.arch with tolUs := 70000 } }

def seamed : State := { run0 with screen := { Show.reset with firstSeam := some 5001000000 } }

theorem witness_RenderPointAndFirstLight :
    (coreOn run0 = true ∧ timeValid run0.mantel = true ∧ run0.mantel.hold = false ∧ run0.hall.ready = true ∧ ∀ (j : ℤ),
      run0.mantel.stepPending = some j → j = 0 ∨ nextFrameSeam run0 - 250000 < nextSeam run0) ∧
    (coreOn stRenderStep = true ∧ timeValid stRenderStep.mantel = true ∧ stRenderStep.mantel.hold = false ∧
      stRenderStep.hall.ready = true ∧ stRenderStep.mantel.stepPending = some 4294967296000 ∧ 4294967296000 ≠ 0 ∧
      nextSeam stRenderStep ≤ nextFrameSeam stRenderStep - 250000) ∧
    (coreOn stCueNoSlate = true ∧ timeValid stCueNoSlate.mantel = true ∧ stCueNoSlate.mantel.hold = false ∧
      stCueNoSlate.hall.ready = true ∧ stCueNoSlate.mantel.stepPending = none ∧ stCueNoSlate.screen.firstSeam.isSome =
      true ∧ stCueNoSlate.start.restoreDue = false ∧ stCueNoSlate.bindery.loading = none ∧
      stCueNoSlate.bindery.reloadUntil ≤ stCueNoSlate.now ∧ (mode stCueNoSlate = Mode.native ∨ mode stCueNoSlate =
      Mode.head) ∧ stCueNoSlate.leaf.fzLevel = none ∧ nextFrameSeam stCueNoSlate = nextFrameSeam stCueNoSlate ∧
      hallDispatches stCueNoSlate = true ∧ stCueNoSlate.mantel.cues = [cued] ∧ cued.late = false ∧ cued.t ≤
      nextFrameSeam stCueNoSlate ∧ List.find? (fun x => x.no == cued.no) stCueNoSlate.hall.entries = some (fired (cueB 0
      3 0 0)) ∧ cueB 0 3 0 0 = (fired (cueB 0 3 0 0)).msg.body) ∧
    (coreOn stCueCut = true ∧ timeValid stCueCut.mantel = true ∧ stCueCut.mantel.hold = false ∧ stCueCut.hall.ready =
      true ∧ stCueCut.mantel.stepPending = none ∧ stCueCut.screen.firstSeam.isSome = true ∧ stCueCut.start.restoreDue =
      false ∧ stCueCut.bindery.loading = none ∧ stCueCut.bindery.reloadUntil ≤ stCueCut.now ∧ (mode stCueCut =
      Mode.native ∨ mode stCueCut = Mode.head) ∧ stCueCut.leaf.fzLevel = none ∧ nextFrameSeam stCueCut = nextFrameSeam
      stCueCut ∧ hallDispatches stCueCut = true ∧ stCueCut.mantel.cues = [cued] ∧ cued.late = false ∧ cued.t ≤
      nextFrameSeam stCueCut ∧ List.find? (fun x => x.no == cued.no) stCueCut.hall.entries = some (fired (cueB 0 3 0 0))
      ∧ cueB 0 3 0 0 = (fired (cueB 0 3 0 0)).msg.body) ∧
    (coreOn stCueFade = true ∧ timeValid stCueFade.mantel = true ∧ stCueFade.mantel.hold = false ∧ stCueFade.hall.ready
      = true ∧ stCueFade.mantel.stepPending = none ∧ stCueFade.screen.firstSeam.isSome = true ∧
      stCueFade.start.restoreDue = false ∧ stCueFade.bindery.loading = none ∧ stCueFade.bindery.reloadUntil ≤
      stCueFade.now ∧ (mode stCueFade = Mode.native ∨ mode stCueFade = Mode.head) ∧ stCueFade.leaf.fzLevel = none ∧
      nextFrameSeam stCueFade = nextFrameSeam stCueFade ∧ hallDispatches stCueFade = true ∧ stCueFade.mantel.cues =
      [cued] ∧ cued.late = false ∧ cued.t ≤ nextFrameSeam stCueFade ∧ List.find? (fun x => x.no == cued.no)
      stCueFade.hall.entries = some (fired (cueB 1 3 0 500)) ∧ cueB 1 3 0 500 = (fired (cueB 1 3 0 500)).msg.body) ∧
    (coreOn stCueLevel = true ∧ timeValid stCueLevel.mantel = true ∧ stCueLevel.mantel.hold = false ∧
      stCueLevel.hall.ready = true ∧ stCueLevel.mantel.stepPending = none ∧ stCueLevel.screen.firstSeam.isSome = true ∧
      stCueLevel.start.restoreDue = false ∧ stCueLevel.bindery.loading = none ∧ stCueLevel.bindery.reloadUntil ≤
      stCueLevel.now ∧ (mode stCueLevel = Mode.native ∨ mode stCueLevel = Mode.head) ∧ stCueLevel.leaf.fzLevel = none ∧
      nextFrameSeam stCueLevel = nextFrameSeam stCueLevel ∧ hallDispatches stCueLevel = true ∧ stCueLevel.mantel.cues =
      [cued] ∧ cued.late = false ∧ cued.t ≤ nextFrameSeam stCueLevel ∧ List.find? (fun x => x.no == cued.no)
      stCueLevel.hall.entries = some (fired (cueB 2 0 0 0)) ∧ cueB 2 0 0 0 = (fired (cueB 2 0 0 0)).msg.body) ∧
    (coreOn stCueLevelFade = true ∧ timeValid stCueLevelFade.mantel = true ∧ stCueLevelFade.mantel.hold = false ∧
      stCueLevelFade.hall.ready = true ∧ stCueLevelFade.mantel.stepPending = none ∧
      stCueLevelFade.screen.firstSeam.isSome = true ∧ stCueLevelFade.start.restoreDue = false ∧
      stCueLevelFade.bindery.loading = none ∧ stCueLevelFade.bindery.reloadUntil ≤ stCueLevelFade.now ∧ (mode
      stCueLevelFade = Mode.native ∨ mode stCueLevelFade = Mode.head) ∧ stCueLevelFade.leaf.fzLevel = none ∧
      nextFrameSeam stCueLevelFade = nextFrameSeam stCueLevelFade ∧ hallDispatches stCueLevelFade = true ∧
      stCueLevelFade.mantel.cues = [cued] ∧ cued.late = false ∧ cued.t ≤ nextFrameSeam stCueLevelFade ∧ List.find? (fun
      x => x.no == cued.no) stCueLevelFade.hall.entries = some (fired (cueB 2 0 0 500)) ∧ cueB 2 0 0 500 = (fired (cueB
      2 0 0 500)).msg.body) ∧
    (coreOn stCueStream = true ∧ timeValid stCueStream.mantel = true ∧ stCueStream.mantel.hold = false ∧
      stCueStream.hall.ready = true ∧ stCueStream.mantel.stepPending = none ∧ stCueStream.screen.firstSeam.isSome = true
      ∧ stCueStream.start.restoreDue = false ∧ stCueStream.bindery.loading = none ∧ stCueStream.bindery.reloadUntil ≤
      stCueStream.now ∧ (mode stCueStream = Mode.native ∨ mode stCueStream = Mode.head) ∧ stCueStream.leaf.fzLevel =
      none ∧ nextFrameSeam stCueStream = nextFrameSeam stCueStream ∧ hallDispatches stCueStream = true ∧
      stCueStream.mantel.cues = [cued] ∧ cued.late = false ∧ cued.t ≤ nextFrameSeam stCueStream ∧ List.find? (fun x =>
      x.no == cued.no) stCueStream.hall.entries = some (fired (cueB 3 0 0 0)) ∧ cueB 3 0 0 0 = (fired (cueB 3 0 0
      0)).msg.body) ∧
    (coreOn stCueTol = true ∧ timeValid stCueTol.mantel = true ∧ stCueTol.mantel.hold = false ∧ stCueTol.hall.ready =
      true ∧ stCueTol.mantel.stepPending = none ∧ stCueTol.screen.firstSeam.isSome = true ∧ stCueTol.start.restoreDue =
      false ∧ stCueTol.bindery.loading = none ∧ stCueTol.bindery.reloadUntil ≤ stCueTol.now ∧ (mode stCueTol =
      Mode.native ∨ mode stCueTol = Mode.head) ∧ stCueTol.leaf.fzLevel = none ∧ nextFrameSeam stCueTol = nextFrameSeam
      stCueTol ∧ hallDispatches stCueTol = true ∧ stCueTol.mantel.cues = [cued] ∧ cued.late = false ∧ cued.t ≤
      nextFrameSeam stCueTol ∧ List.find? (fun x => x.no == cued.no) stCueTol.hall.entries = some (fired (cueB 4 0 0 0))
      ∧ cueB 4 0 0 0 = (fired (cueB 4 0 0 0)).msg.body) ∧
    (coreOn stBinds = true ∧ timeValid stBinds.mantel = true ∧ stBinds.mantel.hold = false ∧ stBinds.hall.ready = true ∧
      stBinds.mantel.stepPending = none ∧ stBinds.screen.firstSeam.isSome = true ∧ stBinds.start.restoreDue = false ∧
      stBinds.bindery.loading = none ∧ stBinds.bindery.reloadUntil ≤ stBinds.now ∧ (mode stBinds = Mode.native ∨ mode
      stBinds = Mode.head) ∧ stBinds.leaf.fzLevel = none ∧ nextFrameSeam stBinds = nextFrameSeam stBinds ∧
      stBinds.bindery.pass = none ∧ stBinds.bindery.waiting = none ∧ stBinds.larder.slots.length = 3 ∧
      stBinds.larder.dropped = []) ∧
    (coreOn stHolds = true ∧ timeValid stHolds.mantel = true ∧ stHolds.mantel.hold = false ∧ stHolds.hall.ready = true ∧
      stHolds.mantel.stepPending = none ∧ stHolds.screen.firstSeam.isSome = true ∧ stHolds.start.restoreDue = false ∧
      stHolds.bindery.loading = none ∧ stHolds.bindery.reloadUntil ≤ stHolds.now ∧ (mode stHolds = Mode.native ∨ mode
      stHolds = Mode.head) ∧ stHolds.leaf.fzLevel = none ∧ nextFrameSeam stHolds = nextFrameSeam stHolds ∧
      stHolds.bindery.pass = none ∧ stHolds.bindery.waiting = none ∧ stHolds.larder.slots.length = 3 ∧
      stHolds.larder.dropped = []) ∧
    (coreOn lit0 = true ∧ timeValid lit0.mantel = true ∧ lit0.mantel.hold = false ∧ lit0.hall.ready = true ∧
      lit0.mantel.stepPending = none ∧ lit0.screen.firstSeam.isSome = true ∧ lit0.start.restoreDue = false ∧
      lit0.bindery.loading = none ∧ lit0.bindery.reloadUntil ≤ lit0.now ∧ (mode lit0 = Mode.native ∨ mode lit0 =
      Mode.head) ∧ lit0.leaf.fzLevel = none ∧ nextFrameSeam lit0 = nextFrameSeam lit0 ∧ lit0.bindery.pass = none ∧
      lit0.bindery.waiting = none ∧ lit0.larder.slots.length = 3 ∧ lit0.larder.dropped = []) ∧
    (coreOn stChooses = true ∧ timeValid stChooses.mantel = true ∧ stChooses.mantel.hold = false ∧ stChooses.hall.ready
      = true ∧ stChooses.mantel.stepPending = none ∧ stChooses.screen.firstSeam.isSome = true ∧
      stChooses.start.restoreDue = false ∧ stChooses.bindery.loading = none ∧ stChooses.bindery.reloadUntil ≤
      stChooses.now ∧ (mode stChooses = Mode.native ∨ mode stChooses = Mode.head) ∧ stChooses.leaf.fzLevel = none ∧
      nextFrameSeam stChooses = nextFrameSeam stChooses ∧ stChooses.power.st = Rest.s0 ∧ stChooses.power.waking = none ∧
      stChooses.power.entryBegun = false ∧ stChooses.power.entering = none) ∧
    (coreOn lit0 = true ∧ timeValid lit0.mantel = true ∧ lit0.mantel.hold = false ∧ lit0.hall.ready = true ∧
      lit0.mantel.stepPending = none ∧ lit0.screen.firstSeam.isSome = true ∧ lit0.start.restoreDue = false ∧
      lit0.bindery.loading = none ∧ lit0.bindery.reloadUntil ≤ lit0.now ∧ (mode lit0 = Mode.native ∨ mode lit0 =
      Mode.head) ∧ lit0.leaf.fzLevel = none ∧ nextFrameSeam lit0 = nextFrameSeam lit0 ∧ lit0.power.st = Rest.s0 ∧
      lit0.power.waking = none ∧ lit0.power.entryBegun = false ∧ lit0.power.entering = none) ∧
    (coreOn seamed = true ∧ seamed.start.firstLight = false ∧ seamed.screen.firstSeam = some 5001000000) :=
  by and_intros <;> decide +kernel

def stLarderSlot : State :=
  { run0 with
    larder :=
      { run0.larder with
        slots := [Slot.empty, { Slot.empty with st := .ready, quire := 4, pres := 5006000000 }, Slot.empty] } }

def pass1 : Pass :=
  { plate := 1
    epoch := 0
    isFrame := true
    seam := 5001000000
    start := 5000000000
    laneA := .dark
    laneB := .dark
    alpha := 0
    lambda := 0
    gains := List.replicate 4 32768
    slot := none
    quire := none }

def stLarderMatPass : State := { run0 with bindery := { run0.bindery with pass := some pass1 } }

def emptyBank : Bank :=
  { id := 0
    t := 0
    latch := 0
    latchedAt := 0
    epoch := 0
    lock := 0
    released := false
    aged := false
    sections := []
    copying := none }

def stLarderBank : State :=
  { run0 with mantel := { run0.mantel with bank := some { emptyBank with sections := [(1, [5, 6, 7])] } } }

def stLarderBank1 : Bank := { emptyBank with sections := [(1, [5, 6, 7])] }

def stLarderCache : State :=
  { run0 with screen := { run0.screen with cache := [{ slate := 3, st := 2 }, { slate := 15, st := 0 }] } }

def stLarderHeld : State :=
  { run0 with hall := { run0.hall with channels := [{ Channel.fresh 0 with held := [{ msg 2 [] with seq := 5 }] }] } }

def ackFolio : OwnFolio :=
  { kind := 3
    spec := 1
    seq := 4
    payload := List.replicate 8 0
    dueEast := true
    dueWest := false
    leafSrc := none
    unassignedOk := false }

def stLarderRep : State := { run0 with larder := { run0.larder with reports := [ackFolio, { ackFolio with seq := 5 }] } }

def stLarderEv : State :=
  { run0 with larder := { run0.larder with events := [default, { (default : EventRec) with arg1 := 7 }] } }

theorem witness_LarderErrorsRestartOrDarken :
    (coreOn run0 = true ∧ 1 ≤ 3 ∧ 3 ≤ 12) ∧
    (coreOn run0 = true ∧ run0.straps.read = true) ∧
    (coreOn run0 = true) ∧
    (coreOn stLarderSlot = true) ∧
    (coreOn run0 = true ∧ 3 ≤ 4 ∧ 4 ≤ 5) ∧
    (coreOn stLarderMatPass = true ∧ 3 ≤ 3 ∧ 3 ≤ 5) ∧
    (coreOn stLarderBank = true ∧ stLarderBank.mantel.bank = some stLarderBank1) ∧
    (coreOn stLarderCache = true ∧ mode stLarderCache ≠ Mode.head) ∧
    (coreOn stLarderHeld = true) ∧
    (coreOn stLarderRep = true ∧ stLarderRep.larder.waiting = []) ∧
    (coreOn stLarderEv = true ∧ stLarderEv.larder.events.length ≤ 248) :=
  by and_intros <;> decide +kernel

def s4Up : State :=
  { ports run0 .confirm with
    start := { run0.start with cause := .s4Wake }
    spine :=
      { (ports run0 .confirm).spine with bypHold := true, east := { (ports run0 .confirm).spine.east with st := .up } } }

theorem witness_PortTraining :
    (portsTrain (ports run0 PortState.down) = true ∧ getPort (ports run0 PortState.down) Port.east = getPort (ports run0
      PortState.down) Port.east ∧ (getPort (ports run0 PortState.down) Port.east).st = PortState.down) ∧
    (portsTrain (ports run0 PortState.acquire) = true ∧ getPort (ports run0 PortState.acquire) Port.east = getPort
      (ports run0 PortState.acquire) Port.east ∧ (getPort (ports run0 PortState.acquire) Port.east).st =
      PortState.acquire) ∧
    (portsTrain (ports run0 PortState.blockLock) = true ∧ getPort (ports run0 PortState.blockLock) Port.east = getPort
      (ports run0 PortState.blockLock) Port.east ∧ (getPort (ports run0 PortState.blockLock) Port.east).st =
      PortState.blockLock) ∧
    (portsTrain (ports run0 PortState.deskew) = true ∧ getPort (ports run0 PortState.deskew) Port.west = getPort (ports
      run0 PortState.deskew) Port.west ∧ (getPort (ports run0 PortState.deskew) Port.west).st = PortState.deskew ∧
      ((getPort (ports run0 PortState.deskew) Port.west).twoLanes = true → 40000 ≤ 40000)) ∧
    (portsTrain (ports run0 PortState.confirm) = true ∧ getPort (ports run0 PortState.confirm) Port.west = getPort
      (ports run0 PortState.confirm) Port.west ∧ (getPort (ports run0 PortState.confirm) Port.west).st =
      PortState.confirm) ∧
    (portsTrain s4Up = true ∧ getPort s4Up Port.west = getPort s4Up Port.west ∧ (getPort s4Up Port.west).st =
      PortState.confirm) ∧
    ((getPort (ports run0 PortState.up) Port.east).st ≠ PortState.down) ∧
    ((getPort (ports run0 PortState.up) Port.east).st ≠ PortState.acquire) ∧
    ((getPort (ports run0 PortState.up) Port.east).st ≠ PortState.blockLock) ∧
    ((getPort (ports run0 PortState.up) Port.east).st ≠ PortState.deskew ∨ (getPort (ports run0 PortState.up)
      Port.east).twoLanes = true ∧ 40000 < 5) ∧
    ((getPort (ports run0 PortState.up) Port.east).st ≠ PortState.confirm) :=
  by and_intros <;> decide +kernel

def fasting : State :=
  { ports run0 .acquire with
    spine :=
      { (ports run0 .acquire).spine with
        east := { PortS.reset with st := .acquire, fastNow := true, fastUntil := 5001000000, since := 4999900000 } } }

theorem witness_PortLossTimersAndIdent :
    (portsTrain (ports run0 PortState.up) = true ∧ getPort (ports run0 PortState.up) Port.east = getPort (ports run0
      PortState.up) Port.east ∧ (getPort (ports run0 PortState.up) Port.east).st ≠ PortState.down) ∧
    (portsTrain (ports run0 PortState.confirm) = true ∧ getPort (ports run0 PortState.confirm) Port.east = getPort
      (ports run0 PortState.confirm) Port.east ∧ (getPort (ports run0 PortState.confirm) Port.east).st ≠ PortState.down)
      ∧
    (portsTrain fasting = true ∧ fasting.spine.east = getPort fasting Port.east ∧ fasting.spine.east.st =
      PortState.acquire ∧ fasting.spine.east.fastNow = true) ∧
    (portsTrain fasting = true ∧ fasting.spine.east = getPort fasting Port.east ∧ fasting.spine.east.st =
      PortState.acquire ∧ fasting.spine.east.rateSuspected = false) ∧
    (portsTrain fasting = true ∧ fasting.spine.east = getPort fasting Port.east ∧ fasting.spine.east.fastUntil ≠ 0) ∧
    (portsTrain fasting = true ∧ fasting.spine.east = getPort fasting Port.east) ∧
    (portsTrain (ports run0 PortState.up) = true ∧ (getPort (ports run0 PortState.up) Port.east).st = PortState.up) :=
  by and_intros <;> decide +kernel

def up1 : State := ports run0 .up

def fReport : Folio := mkFolio 3 0 9 0x0010 1 0 [1, 2, 3, 4]

def stFwdBad : Folio := { fReport with crc := 1 }

def oneUp : State := { run0 with spine := { run0.spine with west := { run0.spine.west with st := .up } } }

def fSync : Folio := mkFolio 4 0xFFF 0 0 0 0 ([0, 0x12] ++ List.replicate 42 0)

theorem witness_ForwardingAndResidence :
    (portsTrain up1 = true ∧ (getPort up1 Port.west).st = PortState.up ∧ (getPort up1 (otherPort Port.west)).st =
      PortState.up ∧ Folio.crcOk fReport = true ∧ corrected fReport = false) ∧
    (portsTrain up1 = true ∧ (getPort up1 Port.west).st = PortState.up ∧ (getPort up1 (otherPort Port.west)).st =
      PortState.up ∧ Folio.crcOk stFwdBad = false ∧ corrected stFwdBad = false) ∧
    (portsTrain up1 = true ∧ (getPort up1 Port.west).st = PortState.up ∧ (getPort up1 (otherPort Port.west)).st =
      PortState.up ∧ (RxUnit.short = RxUnit.short ∨ RxUnit.short = RxUnit.cut ∨ RxUnit.short = RxUnit.errorEnded)) ∧
    (portsTrain oneUp = true ∧ (getPort oneUp Port.west).st = PortState.up ∧ (getPort oneUp (otherPort Port.west)).st ≠
      PortState.up) ∧
    (portsTrain up1 = true ∧ (getPort up1 Port.east).st = PortState.up ∧ (getPort up1 (otherPort Port.east)).st =
      PortState.up ∧ Folio.crcOk fSync = true ∧ corrected fSync = true ∧ malformed up1 fSync = none) :=
  by and_intros <;> decide +kernel

def joined : State := { ports run0 .up with addr := { Addressing.reset with addr := 5, pos := 1 } }

def ctl (seq : Word) : Folio := mkFolio 2 5 0 0x0002 seq 0x80000000 (List.replicate 16 0)

def twinned : State :=
  { joined with spine := { joined.spine with mergeMem := [{ chan := 0, seq := 1, dest := 0, time := joined.now }] } }

def stMergeExpire : MergeEntry := { chan := 0, seq := 1, dest := 0, time := joined.now }

def withAck : State := { joined with larder := { Larder.reset with reports := [ackFolio] } }

def vacancy : Folio := mkFolio 0 0xFFF 0 0 0 0 (List.replicate 64 0)

def stVacNoCore : State :=
  { joined with
    cellar := { joined.cellar with failAt := some 4999999000 }
    start := { joined.start with auxGood := false } }

theorem witness_MergeDropsTwinsAndVacanciesTakeAcks :
    ((getPort joined Port.east).st = PortState.up ∧ (getPort joined Port.west).st = PortState.up ∧ exec (Instr.merge
      Port.east { unit := RxUnit.whole (ctl 1), other := none }) joined = Host.Outcome.next (after (exec (Instr.merge
      Port.east { unit := RxUnit.whole (ctl 1), other := none }) joined)) ∧ (getPort (after (exec (Instr.merge Port.east
      { unit := RxUnit.whole (ctl 1), other := none }) joined)) Port.west).st = PortState.up) ∧
    (portsTrain joined = true ∧ (getPort joined Port.west).st = PortState.up ∧ Folio.stamped (ctl 1) = false ∧
      Folio.crcOk (ctl 1) = true ∧ malformed joined (ctl 1) = none ∧ wouldUse joined (ctl 1) = true ∧ Folio.kind (ctl 1)
      = 2 ∧ mode joined = Mode.native ∧ (joined.power.st = Rest.s0 ∨ joined.power.st = Rest.s1) ∧ mergeHolds joined
      (Folio.channel (ctl 1)) (ctl 1).w2 0 = false ∧ joined.spine.ctlQueue.length < 4) ∧
    (portsTrain twinned = true ∧ (getPort twinned Port.east).st = PortState.up ∧ Folio.stamped (ctl 1) = false ∧
      Folio.crcOk (ctl 1) = true ∧ malformed twinned (ctl 1) = none ∧ wouldUse twinned (ctl 1) = true ∧ Folio.kind (ctl
      1) = 2 ∧ mode twinned = Mode.native ∧ (twinned.power.st = Rest.s0 ∨ twinned.power.st = Rest.s1) ∧ mergeHolds
      twinned (Folio.channel (ctl 1)) (ctl 1).w2 0 = true) ∧
    ((getPort joined Port.east).st = PortState.up ∧ (getPort joined Port.west).st = PortState.up) ∧
    (twinned.spine.mergeMem = [] ++ [stMergeExpire]) ∧
    (portsTrain withAck = true ∧ (getPort withAck Port.east).st = PortState.up ∧ fillable withAck vacancy = true ∧
      withAck.larder.reports = [ackFolio] ∧ isAck ackFolio = true ∧ dueOn ackFolio Port.east = true ∧ dueOn ackFolio
      (otherPort Port.east) = false ∧ mayLeave withAck ackFolio = true ∧ ackFolio.payload.length ≤
      vacancy.payload.length ∧ (∀ g ∈ ([] : List OwnFolio), g.kind ≠ 6) ∧ (∀ g ∈ ([] : List OwnFolio), (g.dueEast ||
      g.dueWest) = true) ∧ withAck.larder.waiting = [] ∧ (withAck.cellar.failAt = none ∨ coreWorks withAck = true)) ∧
    (portsTrain joined = true ∧ (getPort joined Port.east).st = PortState.up ∧ fillable joined vacancy = true ∧ (∀ g ∈
      joined.larder.reports, fitsVacancy joined Port.east vacancy.payload.length g = false) ∧ ∀ g ∈
      joined.larder.waiting, g.kind = 6 → fitsVacancy joined Port.east vacancy.payload.length g = false) ∧
    (portsTrain stVacNoCore = true ∧ (getPort stVacNoCore Port.east).st = PortState.up ∧ fillable stVacNoCore vacancy =
      true ∧ stVacNoCore.cellar.failAt ≠ none ∧ coreWorks stVacNoCore = false) :=
  ⟨⟨by decide, by decide, rfl, by decide +kernel⟩, by and_intros <;> decide +kernel⟩

def acted : State := { joined with spine := { joined.spine with splSeen := [7] } }

def claiming : State := { joined with spine := { joined.spine with selfTestPassed := true } }

def claiming6 : State := { claiming with start := { claiming.start with stage := 6 } }

def entry5 (serial : Long) : AssignEntry := { serial := serial, pos := 2, addr := 6, pinconflict := false }

theorem witness_RingMapEnumerationAndAssignment :
    (splHeard joined = true ∧ 7 ∉ joined.spine.splSeen ∧ 1 ≤ [entry5 Config.serialFuses].length ∧ [entry5
      Config.serialFuses].length ≤ 63 ∧ List.find? (fun e => e.serial == Config.serialFuses) [entry5 Config.serialFuses]
      = some (entry5 Config.serialFuses) ∧ (entry5 Config.serialFuses).addr ≠ 0 ∧ (entry5 Config.serialFuses).addr ≠
      4095 ∧ joined.start.stage = 0) ∧
    (splHeard joined = true ∧ 7 ∉ joined.spine.splSeen ∧ 1 ≤ [entry5 (Config.serialFuses + 1)].length ∧ [entry5
      (Config.serialFuses + 1)].length ≤ 63 ∧ ∀ e ∈ [entry5 (Config.serialFuses + 1)], e.serial ≠ Config.serialFuses) ∧
    (splHeard joined = true ∧ 1 ≤ 4 ∧ 4 ≤ 1024 ∧ 7 ∉ joined.spine.splSeen) ∧
    (splHeard acted = true ∧ 1 ≤ 4 ∧ 4 ≤ 1024 ∧ 7 ∈ acted.spine.splSeen) ∧
    (splHeard claiming = true ∧ 7 ∉ claiming.spine.splSeen ∧ mode claiming = Mode.native) ∧
    (splHeard claiming6 = true ∧ 7 ∉ claiming6.spine.splSeen ∧ mode claiming6 = Mode.native) :=
  ⟨⟨by decide, by decide, by decide, by decide, by simp [entry5], by decide, by decide, by decide⟩, ⟨by decide,
    by decide, by decide, by decide, by simp [entry5]⟩, by and_intros <;> decide +kernel⟩

def tested : State := { run0 with spine := { Spine.reset with selfTestPassed := true, pllLocked := true } }

def inserted : State := { tested with spine := { tested.spine with bypHold := true } }

def mapped : State :=
  { joined with
    spine := { joined.spine with ringMap := some { epoch := 3, size := 4, inserted := [true, true, true, true] } } }

def win : Window := { tw := 6000000000, len := 500000, seq := 8 }

def leaving : State := { mapped with spine := { mapped.spine with bypHold := true, leaveWin := some win } }

def away : State :=
  { mapped with
    spine :=
      { mapped.spine with leftAt := some 4000000000, returnWin := some win, selfTestPassed := true, pllLocked := true } }

def leaving10 : State :=
  { leaving with
    straps := { run0.straps with levels := List.replicate 7 0 ++ [2, 0, 0, 0, 0] }
    spine := { leaving.spine with ringMap := some { epoch := 3, size := 4, inserted := [true, true, false, true] } } }

def faced : State :=
  { joined with
    spine := { joined.spine with east := { joined.spine.east with windowEnd := some 6000000000, fastNow := true } } }

def s4Back : State :=
  { joined with
    cellar := { Cellar.reset with rtcAlarm := some 5000000000, rtcValid := true }
    start := { run0.start with cause := .s4Wake } }

theorem witness_SpliceWindowsLeavesAndReturns :
    (splHeard mapped = true ∧ 8 ∉ mapped.spine.splSeen ∧ Config.serialFuses + 1 ≠ Config.serialFuses ∧ ringMode mapped =
      true) ∧
    (splHeard mapped = true ∧ 8 ∉ mapped.spine.splSeen ∧ bypassRefusal mapped (decide (6000000000 < mNs mapped)) = none)
      ∧
    (splHeard mapped = true ∧ 8 ∉ mapped.spine.splSeen ∧ bypassRefusal mapped (decide (4000000000 < mNs mapped)) = some
      4) ∧
    (splHeard mapped = true ∧ 8 ∉ mapped.spine.splSeen ∧ mNs mapped ≤ 6000000000) ∧
    (splHeard mapped = true ∧ 8 ∉ mapped.spine.splSeen ∧ 4000000000 < mNs mapped) ∧
    (splHeard leaving = true ∧ leaving.spine.leaveWin = some win ∧ ∀ x ∈ leaving.spine.watched, win.tw < x.2.tw) ∧
    (splHeard away = true ∧ away.spine.leftAt = some 4000000000 ∧ away.spine.returnWin = some win) ∧
    (splHeard leaving10 = true ∧ leaving10.spine.leaveWin = some win ∧ ∀ x ∈ leaving10.spine.watched, win.tw < x.2.tw) ∧
    (splHeard faced = true ∧ faced.spine.east.windowEnd = some 6000000000 ∧ faced.spine.west.windowEnd = none ∧ 0 < 4 *
      2 ^ 32 + faced.mantel.addend) ∧
    (splHeard s4Back = true ∧ s4Back.spine.leftAt = none ∧ s4Back.cellar.rtcAlarm = some 5000000000 ∧ awaitsReturn
      s4Back = true) :=
  ⟨⟨by decide, by decide, by simp, by decide⟩, by and_intros <;> decide +kernel⟩

def insertedUp : State := { ports run0 .up with spine := { (ports run0 .up).spine with bypHold := true } }

def stReleaseCells : State := { insertedUp with prot := { insertedUp.prot with tap := .extest } }

def stPllLoss : State := { run0 with spine := { Spine.reset with bypHold := true, pllLocked := true } }

def stSenseFail : State := { inserted with spine := { inserted.spine with switchRetries := 3 } }

def stSenseClear : State := { tested with spine := { tested.spine with stuck := true } }

def stRetry : State := { tested with spine := { tested.spine with retryDue := some 6000000000 } }

def stSelfRetry : State := { run0 with spine := { Spine.reset with selfTestDue := some 6000000000 } }

theorem witness_BypassSensesAndSelfTest :
    (insertAllowed tested = true ∧ awaitsReturn tested = false) ∧
    (insertedUp.spine.bypHold = true ∧ insertAllowed insertedUp = false ∧ cellDrives insertedUp = false) ∧
    (cellDrives stReleaseCells = true) ∧
    (ringOn stPllLoss = true) ∧
    (portsTrain inserted = true ∧ switchFitted inserted = true ∧ inserted.spine.bypHold = true) ∧
    (portsTrain inserted = true ∧ switchFitted inserted = true ∧ inserted.spine.bypHold = true ∧ (true && false) =
      false) ∧
    (portsTrain stSenseFail = true ∧ switchFitted stSenseFail = true ∧ stSenseFail.spine.bypHold = true ∧ (true &&
      false) = false) ∧
    (portsTrain tested = true ∧ switchFitted tested = true ∧ tested.spine.bypHold = false ∧ (true || false) = true) ∧
    (portsTrain stSenseClear = true ∧ switchFitted stSenseClear = true ∧ stSenseClear.spine.bypHold = false) ∧
    (stRetry.spine.retryDue = some 6000000000) ∧
    (portsTrain run0 = true ∧ run0.spine.bypHold = false ∧ 0 = 0 ∧ 3000 ≤ 4000 + 2000 ∧ 4000 ≤ 3000 + 2000) ∧
    (portsTrain run0 = true ∧ run0.spine.bypHold = false ∧ (0 ≠ 0 ∨ 6000 + 2000 < 3000 ∨ 3000 + 2000 < 6000)) ∧
    (stSelfRetry.spine.selfTestDue = some 6000000000) :=
  by and_intros <;> decide +kernel

def keylessF : Folio := mkFolio 2 5 0 0x0002 1 0 (List.replicate 16 0)

def node0 : Channel := Channel.fresh 0x0000

def kek : Block := 0x000102030405060708090A0B0C0D0E0F

def keyed : State :=
  { joined with arch := { Archive.reset with keys := [none, none, some kek], prints := [0, 0, 0xc6a13b37878f5b82] } }

def queued (f : Folio) : State := { keyed with spine := { keyed.spine with ctlQueue := [(.east, f)] } }

def signedBody : List Byte := List.replicate 8 0

def signed : Folio :=
  mkFolio 2 5 0 0x0002 1 0x80000000 (signedBody ++ tagOf kek (wordsBytes [0x12005000, 0x02000002, 1, 0x80000000] ++ signedBody))

def judgedAt (e : Word) (f : Folio) (es : List Entry) : State :=
  { queued f with hall := { run0.hall with channels := [{ node0 with expected := e }], entries := es } }

def chanAt (e : Word) : Channel := { node0 with expected := e }

def cueBody24 : List Byte := wordBytes 0x01000000 ++ beBytes 8 6 ++ List.replicate 12 0

def signedCue : Folio :=
  mkFolio 2 5 0 0x0010 1 0x80000000 (cueBody24 ++ tagOf kek (wordsBytes [0x12005000, 0x04000010, 1, 0x80000000] ++ cueBody24))

def cueEntries : List Entry :=
  List.replicate 64 { msg := { chan := 0, seq := 0, cmd := 0x10, role := 2, body := [], no := 0 }, no := 0, dispatched := true, finished := true }

def sealedF (w0 w1 : Word) (b : List Byte) (spec : Nat) : Folio :=
  mkFolio 2 5 0 spec 1 0x80000000 (b ++ tagOf kek (wordsBytes [w0, w1, 1, 0x80000000] ++ b))

def strangeF : Folio := sealedF 0x12005000 0x02000999 signedBody 0x0999

def keyInst : State := { keyed with arch := { keyed.arch with keys := [some kek, none, none] } }

def lowBody : List Byte := wordBytes 0x50000000 ++ List.replicate 32 0

def lowF : Folio := mkFolio 2 5 0 0x0050 1 0 (lowBody ++ tagOf kek (wordsBytes [0x12005000, 0x05800050, 1, 0] ++ lowBody))

def queuedIn (s : State) (f : Folio) : State := { s with spine := { s.spine with ctlQueue := [(.east, f)] } }

def badLenF : Folio := sealedF 0x12005000 0x01000060 [] 0x0060

def crowdedC : Channel := { node0 with expected := 1, held := List.replicate 64 { msg 2 [] with seq := 9 } }

def crowded : State := { queued signed with hall := { run0.hall with channels := [crowdedC] } }

theorem witness_MessagesAreJudgedByTagAndSequence :
    (hallJudges (queued signed) = true ∧ (queued signed).spine.ctlQueue = [(Port.east, signed)] ∧ channel (queued
      signed) (Folio.channel signed) = some node0 ∧ (∀ x ∈ (queued signed).hall.channels, ∀ h ∈ x.held, h.seq ≠
      x.expected) ∧ roleKey (queued signed) (messageOf signed).role.toNat = some kek ∧ tagOk kek signed = true ∧
      commandKnown (messageOf signed).cmd = true ∧ leastRole (messageOf signed).cmd (messageOf signed).body ≤ (messageOf
      signed).role.toNat ∧ signed.w2 = node0.expected ∧ bodyOk (queued signed) (messageOf signed).chan (messageOf
      signed).cmd (messageOf signed).body = true ∧ node0.held.length + undispatched (queued signed) (messageOf
      signed).chan < 64 ∧ entrySize (messageOf signed).body ≤ journalFree (queued signed) ∧ ((messageOf signed).cmd = 16
      → pendingCues (queued signed) < 64)) ∧
    (reachesSequence (judgedAt 2 signed []) Port.east signed [] (chanAt 2) kek ∧ 2147483648 ≤ BitVec.toNat (signed.w2 -
      (chanAt 2).expected)) ∧
    (reachesSequence (judgedAt 4294967233 signed []) Port.east signed [] (chanAt 4294967233) kek ∧ 64 ≤ BitVec.toNat
      (signed.w2 - (chanAt 4294967233).expected) ∧ BitVec.toNat (signed.w2 - (chanAt 4294967233).expected) < 2147483648)
      ∧
    (reachesSequence (judgedAt 0 signed []) Port.east signed [] (chanAt 0) kek ∧ bodyOk (judgedAt 0 signed [])
      (messageOf signed).chan (messageOf signed).cmd (messageOf signed).body = true ∧ entrySize (messageOf signed).body
      ≤ journalFree (judgedAt 0 signed []) ∧ (List.filter (fun x => x.seq != signed.w2) (chanAt 0).held).length +
      undispatched (judgedAt 0 signed []) (messageOf signed).chan < 64 ∧ 0 < BitVec.toNat (signed.w2 - (chanAt
      0).expected) ∧ BitVec.toNat (signed.w2 - (chanAt 0).expected) < 64 ∧ heldLevel (judgedAt 0 signed []) < 64) ∧
    (reachesSequence (judgedAt 1 signedCue cueEntries) Port.east signedCue [] (chanAt 1) kek ∧ bodyOk (judgedAt 1
      signedCue cueEntries) (messageOf signedCue).chan (messageOf signedCue).cmd (messageOf signedCue).body = true ∧
      entrySize (messageOf signedCue).body ≤ journalFree (judgedAt 1 signedCue cueEntries) ∧ (List.filter (fun x =>
      x.seq != signedCue.w2) (chanAt 1).held).length + undispatched (judgedAt 1 signedCue cueEntries) (messageOf
      signedCue).chan < 64 ∧ signedCue.w2 = (chanAt 1).expected ∧ (messageOf signedCue).cmd = 16 ∧ 64 ≤ pendingCues
      (judgedAt 1 signedCue cueEntries)) ∧
    (hallJudges (queued keylessF) = true ∧ (queued keylessF).spine.ctlQueue = [(Port.east, keylessF)] ∧ channel (queued
      keylessF) (Folio.channel keylessF) = some node0 ∧ (∀ x ∈ (queued keylessF).hall.channels, ∀ h ∈ x.held, h.seq ≠
      x.expected) ∧ roleKey (queued keylessF) (messageOf keylessF).role.toNat = none) ∧
    (hallJudges (queued (ctl 1)) = true ∧ (queued (ctl 1)).spine.ctlQueue = [(Port.east, ctl 1)] ∧ channel (queued (ctl
      1)) (Folio.channel (ctl 1)) = some node0 ∧ (∀ x ∈ (queued (ctl 1)).hall.channels, ∀ h ∈ x.held, h.seq ≠
      x.expected) ∧ roleKey (queued (ctl 1)) (messageOf (ctl 1)).role.toNat = some kek ∧ tagOk kek (ctl 1) = false) ∧
    (hallJudges (queued strangeF) = true ∧ (queued strangeF).spine.ctlQueue = [(Port.east, strangeF)] ∧ channel (queued
      strangeF) (Folio.channel strangeF) = some node0 ∧ (∀ x ∈ (queued strangeF).hall.channels, ∀ h ∈ x.held, h.seq ≠
      x.expected) ∧ roleKey (queued strangeF) (messageOf strangeF).role.toNat = some kek ∧ tagOk kek strangeF = true ∧
      commandKnown (messageOf strangeF).cmd = false) ∧
    (hallJudges (queuedIn keyInst lowF) = true ∧ (queuedIn keyInst lowF).spine.ctlQueue = [(Port.east, lowF)] ∧ channel
      (queuedIn keyInst lowF) (Folio.channel lowF) = some node0 ∧ (∀ x ∈ (queuedIn keyInst lowF).hall.channels, ∀ h ∈
      x.held, h.seq ≠ x.expected) ∧ roleKey (queuedIn keyInst lowF) (messageOf lowF).role.toNat = some kek ∧ tagOk kek
      lowF = true ∧ commandKnown (messageOf lowF).cmd = true ∧ (messageOf lowF).role.toNat < leastRole (messageOf
      lowF).cmd (messageOf lowF).body) ∧
    (hallJudges (queued badLenF) = true ∧ (queued badLenF).spine.ctlQueue = [(Port.east, badLenF)] ∧ channel (queued
      badLenF) (Folio.channel badLenF) = some node0 ∧ (∀ x ∈ (queued badLenF).hall.channels, ∀ h ∈ x.held, h.seq ≠
      x.expected) ∧ roleKey (queued badLenF) (messageOf badLenF).role.toNat = some kek ∧ tagOk kek badLenF = true ∧
      commandKnown (messageOf badLenF).cmd = true ∧ leastRole (messageOf badLenF).cmd (messageOf badLenF).body ≤
      (messageOf badLenF).role.toNat ∧ BitVec.toNat (badLenF.w2 - node0.expected) < 64 ∧ bodyOk (queued badLenF)
      (messageOf badLenF).chan (messageOf badLenF).cmd (messageOf badLenF).body = false) ∧
    (hallJudges crowded = true ∧ crowded.spine.ctlQueue = [(Port.east, signed)] ∧ channel crowded (Folio.channel signed)
      = some crowdedC ∧ (∀ x ∈ crowded.hall.channels, ∀ h ∈ x.held, h.seq ≠ x.expected) ∧ roleKey crowded (messageOf
      signed).role.toNat = some kek ∧ tagOk kek signed = true ∧ commandKnown (messageOf signed).cmd = true ∧ leastRole
      (messageOf signed).cmd (messageOf signed).body ≤ (messageOf signed).role.toNat ∧ BitVec.toNat (signed.w2 -
      crowdedC.expected) < 64 ∧ bodyOk crowded (messageOf signed).chan (messageOf signed).cmd (messageOf signed).body =
      true ∧ (64 < (List.filter (fun x => x.seq != signed.w2) crowdedC.held).length + undispatched crowded (messageOf
      signed).chan + 1 ∨ journalFree crowded < entrySize (messageOf signed).body ∨ signed.w2 ≠ crowdedC.expected ∧ (∀ x
      ∈ crowdedC.held, x.seq ≠ signed.w2) ∧ 64 ≤ heldLevel crowded)) :=
  ⟨⟨by decide, rfl, rfl, by decide +kernel, rfl, (by simp [tagOk, signed, mkFolio]; rfl), by decide +kernel,
    by decide +kernel, by decide, by decide +kernel, by decide, by decide, by decide⟩,
    by unfold reachesSequence; decide +kernel, by unfold reachesSequence; decide +kernel,
    by unfold reachesSequence; decide +kernel, by unfold reachesSequence; decide +kernel, by decide +kernel,
    by decide +kernel, by decide +kernel, by decide +kernel, by decide +kernel, by decide +kernel⟩

def judgedS : State := after (exec .ctlJudge (queued keylessF))

def pinBody : List Byte := wordBytes 0x10000123

def pinHead : List Byte := wordsBytes [0x12FFF000, 0x01800004, 1, 0x80000000]

def pinF : Folio := mkFolio 2 0xFFF 0 0x0004 1 0x80000000 (pinBody ++ tagOf kek (pinHead ++ pinBody))

theorem witness_TheSignersKeyAndTheChannelOfAPin :
    ((queued keylessF).spine.ctlQueue = [(Port.east, keylessF)] ∧ [none, some kek, some kek].getD (field keylessF.w3 31
      30) none = (queued keylessF).arch.keys.getD (field keylessF.w3 31 30) none ∧ exec Instr.ctlJudge (queued keylessF)
      = Host.Outcome.next judgedS) ∧
    (hallJudges (queued pinF) = true ∧ (queued pinF).spine.ctlQueue = [(Port.east, pinF)] ∧ channel (queued pinF)
      (Folio.channel pinF) = some (Channel.fresh 512) ∧ (∀ x ∈ (queued pinF).hall.channels, ∀ h ∈ x.held, h.seq ≠
      x.expected) ∧ roleKey (queued pinF) (messageOf pinF).role.toNat = some kek ∧ tagOk kek pinF = true ∧ (messageOf
      pinF).cmd = 4 ∧ leastRole (messageOf pinF).cmd (messageOf pinF).body ≤ (messageOf pinF).role.toNat ∧ BitVec.toNat
      (pinF.w2 - (Channel.fresh 512).expected) < 64 ∧ (messageOf pinF).chan ≠ 0) :=
  ⟨⟨rfl, by decide +kernel, rfl⟩, ⟨by decide, rfl, by decide +kernel, by decide +kernel, rfl, by decide +kernel,
    by decide +kernel, by decide +kernel, by decide +kernel, by decide +kernel⟩⟩

def committing : State := { joined with hall := { joined.hall with writing := some (msg 2 signedBody) } }

theorem witness_JournalCommitAccepts :
    (committing.hall.writing = some (msg 2 signedBody) ∧ coreWorks committing = true ∧ committing.cellar.isolated =
      false ∧ (∀ c ∈ committing.hall.channels, c.held = []) ∧ committing.arch.audit.length < 1024) ∧
    (committing.hall.writing = some (msg 2 signedBody) ∧ coreWorks committing = true ∧ committing.cellar.isolated =
      false) :=
  ⟨by decide +kernel, by decide +kernel⟩

def doneRec : Done := { chan := 0, seq := 1, no := 1, result := 0, answers := [], key := none }

def entry1 : Entry := { msg := msg 2 signedBody, no := 1, dispatched := false, finished := false }

def reported : State :=
  { asked joined 2 signedBody with hall := { (asked joined 2 signedBody).hall with done := [doneRec] } }

def newKey : Block := 0x00112233445566778899AABBCCDDEEFF

def doneKey : Done := { doneRec with key := some (1, some newKey) }

def stCompletionKey : State := { reported with hall := { reported.hall with done := [doneKey] } }

def doneRevoke : Done := { doneRec with key := some (2, none) }

def stCompletionRevoke : State :=
  { reported with
    arch := keyed.arch
    hall := { reported.hall with done := [doneRevoke] }
    cellar := { reported.cellar with challenge := some { counter := 1, nonce := 2, issued := 3 } } }

def itemBody : List Byte := wordBytes 0x0A010000 ++ [0,0,0,0]

def queryBody : List Byte := wordBytes 0x02010000 ++ [0,0,0,0]

theorem witness_CompletionsAndQueries :
    (reported.hall.done = [doneRec] ∧ hallDispatches reported = true ∧ entry1 ∈ reported.hall.entries ∧ entry1.no =
      doneRec.no) ∧
    (stCompletionKey.hall.done = [doneKey] ∧ hallDispatches stCompletionKey = true ∧ entry1 ∈
      stCompletionKey.hall.entries ∧ entry1.no = doneKey.no) ∧
    (stCompletionRevoke.hall.done = [doneRevoke] ∧ hallDispatches stCompletionRevoke = true ∧ entry1 ∈
      stCompletionRevoke.hall.entries ∧ entry1.no = doneRevoke.no) ∧
    (takeDispatch (asked joined 2 itemBody) 2 = some (msg 2 itemBody)) ∧
    (takeDispatch (asked joined 2 signedBody) 2 = some (msg 2 signedBody)) ∧
    (takeDispatch (asked joined 1 signedBody) 1 = some (msg 1 signedBody)) ∧
    (takeDispatch (asked joined 1 (wordBytes 17104896 ++ [0, 0, 0, 0])) 1 = some (msg 1 (wordBytes 17104896 ++ [0, 0, 0,
      0]))) ∧
    (takeDispatch (asked joined 2 queryBody) 2 = some (msg 2 queryBody)) ∧
    (takeDispatch (asked joined 81 signedBody) 81 = some (msg 81 signedBody)) :=
  by and_intros <;> decide +kernel

def joinBody : List Byte := [0, 0, 0, 1, 1, 7, 1, 0, 0, 0, 0, 9]

def leaveBody : List Byte := [0, 0, 0, 1, 1, 7, 0, 0, 0, 0, 0, 9]

def grouped : State :=
  { joined with hall := { joined.hall with channels := joined.hall.channels ++ [Channel.fresh 0x0107] } }

def rebaseBody : List Byte := [0, 0, 0, 1, 1, 7, 2, 0, 0, 0, 0, 9]

def wrapped : List Byte := beBytes 24 0x1FA68B0A8112B447AEF34BD8FB5A7B829D3E862371D2CFE5

def newPrint : Long := 0xfde4fbae4a09e020

def enrolBody : List Byte := wordBytes 0x50000000 ++ wrapped ++ longBytes newPrint

def keyedTwice : State :=
  { keyed with
    arch := { keyed.arch with keys := [some newKey, none, some kek], prints := [newPrint, 0, 0xc6a13b37878f5b82] } }

def misBody : List Byte := wordBytes 0x50000000 ++ wrapped ++ List.replicate 8 0

def badBody : List Byte := wordBytes 0x50000000 ++ List.replicate 24 0 ++ List.replicate 8 0

def revokeBody : List Byte := wordBytes 0x40000000

/-- The wrapped key of the enrolments opens under kek, and no other. -/
theorem unwraps {x : List Byte} (h : x = wrapped) : keyUnwrap kek x = some newKey := by
  rw [h]; decide +kernel

theorem unwraps_none {x : List Byte} (h : x = List.replicate 24 0) : keyUnwrap kek x = none := by
  rw [h]; decide +kernel

theorem prints {x : Long} (h : newPrint = x) : fingerprint newKey = x := by
  rw [← h]; decide +kernel


theorem witness_PinsGroupsAndKeys :
    (takeDispatch (asked keyed 80 enrolBody) 80 = some (msg 80 enrolBody) ∧ (∀ d ∈ (asked keyed 80 enrolBody).hall.done,
      d.no ≠ (msg 80 enrolBody).no) ∧ keyOp (msg 80 enrolBody) = 1 ∧ roleKey (asked keyed 80 enrolBody) (msg 80
      enrolBody).role.toNat = some kek ∧ keyUnwrap kek (List.take 24 (List.drop 4 (msg 80 enrolBody).body)) = some
      newKey ∧ fingerprint newKey = longAt (msg 80 enrolBody).body 28 ∧ fingerprintTaken (asked keyed 80 enrolBody)
      (keyTarget (msg 80 enrolBody)) (longAt (msg 80 enrolBody).body 28) = false) ∧
    (takeDispatch (asked keyedTwice 80 enrolBody) 80 = some (msg 80 enrolBody) ∧ (∀ d ∈ (asked keyedTwice 80
      enrolBody).hall.done, d.no ≠ (msg 80 enrolBody).no) ∧ keyOp (msg 80 enrolBody) = 1 ∧ roleKey (asked keyedTwice 80
      enrolBody) (msg 80 enrolBody).role.toNat = some kek ∧ keyUnwrap kek (List.take 24 (List.drop 4 (msg 80
      enrolBody).body)) = some newKey ∧ fingerprint newKey = longAt (msg 80 enrolBody).body 28 ∧ fingerprintTaken (asked
      keyedTwice 80 enrolBody) (keyTarget (msg 80 enrolBody)) (longAt (msg 80 enrolBody).body 28) = true) ∧
    (takeDispatch (asked keyed 80 misBody) 80 = some (msg 80 misBody) ∧ (∀ d ∈ (asked keyed 80 misBody).hall.done, d.no
      ≠ (msg 80 misBody).no) ∧ keyOp (msg 80 misBody) = 1 ∧ roleKey (asked keyed 80 misBody) (msg 80 misBody).role.toNat
      = some kek ∧ keyUnwrap kek (List.take 24 (List.drop 4 (msg 80 misBody).body)) = some newKey ∧ fingerprint newKey ≠
      longAt (msg 80 misBody).body 28) ∧
    (takeDispatch (asked keyed 80 badBody) 80 = some (msg 80 badBody) ∧ (∀ d ∈ (asked keyed 80 badBody).hall.done, d.no
      ≠ (msg 80 badBody).no) ∧ keyOp (msg 80 badBody) = 1 ∧ roleKey (asked keyed 80 badBody) (msg 80 badBody).role.toNat
      = some kek ∧ keyUnwrap kek (List.take 24 (List.drop 4 (msg 80 badBody).body)) = none) ∧
    (takeDispatch (asked joined 4 (wordBytes 268435747)) 4 = some (msg 4 (wordBytes 268435747)) ∧ field (wordAt (msg 4
      (wordBytes 268435747)).body 0) 31 28 = 1) ∧
    (takeDispatch (asked joined 4 (wordBytes 0)) 4 = some (msg 4 (wordBytes 0)) ∧ field (wordAt (msg 4 (wordBytes
      0)).body 0) 31 28 = 0) ∧
    (takeDispatch (asked joined 3 joinBody) 3 = some (msg 3 joinBody) ∧ groupEntries (BitVec.toNat (wordAt (msg 3
      joinBody).body 0) % 256) (List.drop 4 (msg 3 joinBody).body) = [(263, 1, 9)] ∧ 1 = 1 ∧ channel (asked joined 3
      joinBody) 263 = none) ∧
    (takeDispatch (asked grouped 3 leaveBody) 3 = some (msg 3 leaveBody) ∧ groupEntries (BitVec.toNat (wordAt (msg 3
      leaveBody).body 0) % 256) (List.drop 4 (msg 3 leaveBody).body) = [(263, 0, 9)] ∧ 0 = 0 ∧ channel (asked grouped 3
      leaveBody) 263 = some (Channel.fresh 263) ∧ (Channel.fresh 263).held = []) ∧
    (takeDispatch (asked joined 3 rebaseBody) 3 = some (msg 3 rebaseBody) ∧ groupEntries (BitVec.toNat (wordAt (msg 3
      rebaseBody).body 0) % 256) (List.drop 4 (msg 3 rebaseBody).body) = [(263, 2, 9)] ∧ 2 = 2 ∧ channel (asked joined 3
      rebaseBody) 263 = none) ∧
    (takeDispatch (asked keyed 80 revokeBody) 80 = some (msg 80 revokeBody) ∧ (∀ d ∈ (asked keyed 80
      revokeBody).hall.done, d.no ≠ (msg 80 revokeBody).no) ∧ keyOp (msg 80 revokeBody) = 0) :=
  ⟨⟨by decide +kernel, by decide +kernel, by decide +kernel, by decide +kernel, unwraps (by decide +kernel), prints
    (by decide +kernel), by decide +kernel⟩, ⟨by decide +kernel, by decide +kernel, by decide +kernel,
    by decide +kernel, unwraps (by decide +kernel), prints (by decide +kernel), by decide +kernel⟩, ⟨by decide +kernel,
    by decide +kernel, by decide +kernel, by decide +kernel, unwraps (by decide +kernel), (prints rfl).trans_ne
    (by decide +kernel)⟩, ⟨by decide +kernel, by decide +kernel, by decide +kernel, by decide +kernel, unwraps_none
    (by decide +kernel)⟩, by and_intros <;> decide +kernel⟩

def beginBody : List Byte := [2, 3, 0, 0] ++ wordBytes 8192 ++ wordBytes 77 ++ wordBytes 9

def curve (check : Word) : Transfer :=
  { cls := 2
    index := 3
    size := 8192
    check := check
    identity := 9
    chan := 0
    seq := 0
    no := 0
    covered := []
    received := 0 }

def sending (r : Transfer) : State := { joined with arch := { joined.arch with transfer := some r } }

def dataBody : List Byte := [2, 3, 0, 0] ++ wordBytes 9 ++ wordBytes 64 ++ [1, 2, 3, 4]

def otherBody : List Byte := [2, 4, 0, 0] ++ wordBytes 9 ++ wordBytes 64 ++ [1, 2, 3, 4]

def beyondBody : List Byte := [2, 3, 0, 0] ++ wordBytes 9 ++ wordBytes 8190 ++ [1, 2, 3, 4]

def commitBody : List Byte := [2, 3, 0, 0] ++ wordBytes 9

def goodCurve : Transfer := curve (crc32c (Memory.bytes [] 8192))

def badContent : Transfer := { curve (crc32c (Memory.bytes [] 8)) with size := 8 }

def badCurve : Transfer := { curve 0 with size := 4 }

def copyOf (cls : Byte) : Transfer := { curve 0 with cls := cls, size := 6272 }

def copyState (cls : Byte) : State :=
  { joined with arch := { joined.arch with copying := some (copyOf cls, 0, 1, 1), copyBegun := true } }

def copyingState : State :=
  { joined with arch := { joined.arch with copying := some (curve 0, 0, 1, 1), copyBegun := true } }

theorem witness_ObjectsAreTransferredAndCopied :
    (takeDispatch (asked (sending goodCurve) 34 commitBody) 34 = some (msg 34 commitBody) ∧ (asked (sending goodCurve)
      34 commitBody).arch.transfer = some goodCurve ∧ namesTransfer goodCurve (msg 34 commitBody).body = true ∧ crc32c
      ((asked (sending goodCurve) 34 commitBody).arch.shadow.bytes goodCurve.size) = goodCurve.check ∧ contentHolds
      (asked (sending goodCurve) 34 commitBody) goodCurve) ∧
    (takeDispatch (asked (sending badContent) 34 commitBody) 34 = some (msg 34 commitBody) ∧ (asked (sending badContent)
      34 commitBody).arch.transfer = some badContent ∧ namesTransfer badContent (msg 34 commitBody).body = true ∧ crc32c
      ((asked (sending badContent) 34 commitBody).arch.shadow.bytes badContent.size) = badContent.check ∧ 1 ≤
      BitVec.toNat badContent.cls ∧ BitVec.toNat badContent.cls ≤ 6 ∧ ¬contentHolds (asked (sending badContent) 34
      commitBody) badContent) ∧
    ((copyState 1).arch.copying = some (copyOf 1, 0, 1, 1) ∧ hallDispatches (copyState 1) = true ∧ ((copyState
      1).arch.copyBegun = true ∨ (copyState 1).bindery.pass = none) ∧ (copyOf 1).cls = 1) ∧
    ((copyState 3).arch.copying = some (copyOf 3, 0, 1, 1) ∧ hallDispatches (copyState 3) = true ∧ ((copyState
      3).arch.copyBegun = true ∨ (copyState 3).bindery.pass = none) ∧ (copyOf 3).cls = 3) ∧
    ((copyState 4).arch.copying = some (copyOf 4, 0, 1, 1) ∧ hallDispatches (copyState 4) = true ∧ ((copyState
      4).arch.copyBegun = true ∨ (copyState 4).bindery.pass = none) ∧ (copyOf 4).cls = 4) ∧
    ((copyState 5).arch.copying = some (copyOf 5, 0, 1, 1) ∧ hallDispatches (copyState 5) = true ∧ ((copyState
      5).arch.copyBegun = true ∨ (copyState 5).bindery.pass = none) ∧ (copyOf 5).cls = 5) ∧
    ((copyState 6).arch.copying = some (copyOf 6, 0, 1, 1) ∧ hallDispatches (copyState 6) = true ∧ ((copyState
      6).arch.copyBegun = true ∨ (copyState 6).bindery.pass = none) ∧ (copyOf 6).cls = 6) ∧
    (takeDispatch (asked joined 32 beginBody) 32 = some (msg 32 beginBody) ∧ (asked joined 32 beginBody).arch.transfer =
      none) ∧
    (takeDispatch (asked (sending (curve 0)) 33 dataBody) 33 = some (msg 33 dataBody) ∧ (asked (sending (curve 0)) 33
      dataBody).arch.transfer = some (curve 0) ∧ namesTransfer (curve 0) (msg 33 dataBody).body = true ∧ BitVec.toNat
      (wordAt (msg 33 dataBody).body 8) + (List.drop 12 (msg 33 dataBody).body).length ≤ (curve 0).size ∧ (asked
      (sending (curve 0)) 33 dataBody).arch.shadow.wf = true) ∧
    (takeDispatch (asked (sending (curve 0)) 33 otherBody) 33 = some (msg 33 otherBody) ∧ (asked (sending (curve 0)) 33
      otherBody).arch.transfer = some (curve 0) ∧ namesTransfer (curve 0) (msg 33 otherBody).body = false) ∧
    (takeDispatch (asked (sending (curve 0)) 33 beyondBody) 33 = some (msg 33 beyondBody) ∧ (asked (sending (curve 0))
      33 beyondBody).arch.transfer = some (curve 0) ∧ namesTransfer (curve 0) (msg 33 beyondBody).body = true ∧ (curve
      0).size < BitVec.toNat (wordAt (msg 33 beyondBody).body 8) + (List.drop 12 (msg 33 beyondBody).body).length) ∧
    (takeDispatch (asked (sending badCurve) 34 commitBody) 34 = some (msg 34 commitBody) ∧ (asked (sending badCurve) 34
      commitBody).arch.transfer = some badCurve ∧ namesTransfer badCurve (msg 34 commitBody).body = true ∧ crc32c
      ((asked (sending badCurve) 34 commitBody).arch.shadow.bytes badCurve.size) ≠ badCurve.check) ∧
    (copyingState.arch.copying = some (curve 0, 0, 1, 1) ∧ hallDispatches copyingState = true ∧
      copyingState.arch.copyBegun = true ∧ (curve 0).cls = 2 ∧ BitVec.toNat (curve 0).index <
      copyingState.arch.curves.length) :=
  ⟨⟨by decide +kernel, rfl, by decide +kernel, (congrArg (fun m : Memory => crc32c (m.bytes 8192)) (show (asked (sending
    goodCurve) 34 commitBody).arch.shadow = [] from rfl)).trans (by simp only [goodCurve, curve]), Or.inr (Or.inl ⟨rfl,
    rfl⟩)⟩, by unfold contentHolds; decide +kernel, ⟨rfl, by decide, Or.inl rfl, rfl⟩, ⟨rfl, by decide, Or.inl rfl,
    rfl⟩, ⟨rfl, by decide, Or.inl rfl, rfl⟩, ⟨rfl, by decide, Or.inl rfl, rfl⟩, ⟨rfl, by decide, Or.inl rfl, rfl⟩,
    by and_intros <;> decide +kernel⟩

def censusBody : List Byte := wordBytes 11 ++ beBytes 8 6 ++ wordBytes 0

def armedC : ArmedCensus := { chan := 0, seq := 1, no := 1, id := 11, t := 6000000000 }

def armedOne : State := { joined with mantel := { joined.mantel with censuses := [armedC] } }

def stCensusBusy : State :=
  { asked joined 0x12 censusBody with mantel := { joined.mantel with censuses := List.replicate 8 armedC } }

def pastBody : List Byte := wordBytes 11 ++ beBytes 8 4 ++ wordBytes 0

def stCensusUnset : State := { armedOne with mantel := { armedOne.mantel with lock := .unset } }

def stCensusTaken : State :=
  { armedOne with mantel := { armedOne.mantel with bank := some { emptyBank with latchedAt := 4000000000 } } }

def bank1 : Bank := { emptyBank with id := 11, lock := 2, copying := some (0, 1, 1) }

def banked : State := { joined with mantel := { joined.mantel with bank := some bank1 } }

def readBody : List Byte := wordBytes 11 ++ wordBytes 1 ++ wordBytes 0

def keepBody : List Byte := wordBytes 11 ++ wordBytes 0x03000000 ++ wordBytes 1 ++ wordBytes 5

def bankWords : Bank := { bank1 with sections := [(3, [5, 6, 7])] }

def bankedWords : State := { joined with mantel := { joined.mantel with bank := some bankWords } }

def noneBody : List Byte := wordBytes 11 ++ wordBytes 0x0F000000 ++ wordBytes 1 ++ wordBytes 5

theorem witness_CensusIsLatchedAndRead :
    (takeDispatch (asked joined 18 censusBody) 18 = some (msg 18 censusBody) ∧ (asked joined 18
      censusBody).mantel.censuses.length < 8 ∧ (asked joined 18 censusBody).mantel.time ≤ timeAt (msg 18
      censusBody).body 4 * 2 ^ 32) ∧
    (armedOne.mantel.censuses = [armedC] ∧ coreOn armedOne = true ∧ timeValid armedOne.mantel = true ∧
      armedOne.mantel.bank = none ∧ 0 < 4 * 2 ^ 32 + armedOne.mantel.addend) ∧
    (takeDispatch stCensusBusy 18 = some (msg 18 censusBody) ∧ 8 ≤ stCensusBusy.mantel.censuses.length) ∧
    (takeDispatch (asked joined 18 pastBody) 18 = some (msg 18 pastBody) ∧ (asked joined 18
      pastBody).mantel.censuses.length < 8 ∧ timeAt (msg 18 pastBody).body 4 * 2 ^ 32 < (asked joined 18
      pastBody).mantel.time) ∧
    (stCensusUnset.mantel.censuses = [armedC] ∧ coreOn stCensusUnset = true) ∧
    (stCensusTaken.mantel.censuses = [armedC] ∧ coreOn stCensusTaken = true) ∧
    (banked.mantel.bank = some bank1 ∧ bank1.copying = some (0, 1, 1) ∧ coreOn banked = true) ∧
    (banked.mantel.bank = some bank1 ∧ bank1.aged = false ∧ coreOn banked = true) ∧
    (takeDispatch (asked joined 19 readBody) 19 = some (msg 19 readBody) ∧ ∀ (b : Bank), (asked joined 19
      readBody).mantel.bank = some b → b.id ≠ wordAt (msg 19 readBody).body 0) ∧
    (takeDispatch (asked bankedWords 19 keepBody) 19 = some (msg 19 keepBody) ∧ (asked bankedWords 19
      keepBody).mantel.bank = some bankWords ∧ bankWords.id = wordAt (msg 19 keepBody).body 0) ∧
    (takeDispatch (asked bankedWords 19 noneBody) 19 = some (msg 19 noneBody) ∧ (asked bankedWords 19
      noneBody).mantel.bank = some bankWords ∧ bankWords.id = wordAt (msg 19 noneBody).body 0) ∧
    (takeDispatch (asked banked 19 readBody) 19 = some (msg 19 readBody) ∧ (asked banked 19 readBody).mantel.bank = some
      bank1 ∧ bank1.id = wordAt (msg 19 readBody).body 0 ∧ BitVec.getLsbD (wordAt (msg 19 readBody).body 4) 0 = true) :=
  by and_intros <;> decide +kernel

def sig0 : Folio := mkFolio 1 5 0 0xC000 9 5006000000 (List.replicate 64 7)

def opened : Slot := { Slot.empty with st := .receiving, quire := 9, qtime := 5006000000, depth := 3, pres := 5006000000 }

def framed : State := { joined with larder := { joined.larder with slots := [opened, Slot.empty, Slot.empty] } }

def sigWake : State :=
  { framed with
    power := { framed.power with entryBegun := true }
    screen := { framed.screen with programme := .stream }
    larder := { framed.larder with fstate := .lost } }

def sigFar : Folio := mkFolio 1 5 0 0xC000 10 7006000000 (List.replicate 64 7)

def stSigEarlyAgain : State := { joined with spine := { joined.spine with earlyQuires := [10] } }

def sigPast : Folio := mkFolio 1 5 0 0xC000 10 4006000000 (List.replicate 64 7)

def sigNew : Folio := mkFolio 1 5 0 0xC000 10 5006000000 (List.replicate 64 7)

def slotsFull : State :=
  { joined with
    larder :=
      { joined.larder with
        slots := [opened, { opened with quire := 8, st := .ready }, { opened with quire := 7, st := .presenting }] } }

def stSigOlder : State :=
  { slotsFull with larder := { slotsFull.larder with slots := [Slot.empty, { opened with quire := 12 }, Slot.empty] } }

theorem witness_MergeStoresTheSignatureInItsSlot :
    (portsTrain sigWake = true ∧ (getPort sigWake Port.west).st = PortState.up ∧ mode sigWake = Mode.native ∧
      Folio.stamped sig0 = false ∧ Folio.crcOk sig0 = true ∧ malformed sigWake sig0 = none ∧ wouldUse sigWake sig0 =
      true ∧ Folio.kind sig0 = 1 ∧ sigWake.power.entryBegun = true ∧ sigWake.power.waking = none ∧
      sigWake.screen.programme = Source.stream ∧ sigWake.larder.fstate = FeedState.lost ∧ (Folio.dgrp sig0 = true ∨
      Folio.dest sig0 ≠ 4095)) ∧
    (portsTrain framed = true ∧ (getPort framed Port.west).st = PortState.up ∧ mode framed = Mode.native ∧ Folio.stamped
      sig0 = false ∧ Folio.crcOk sig0 = true ∧ malformed framed sig0 = none ∧ wouldUse framed sig0 = true ∧ Folio.kind
      sig0 = 1 ∧ (framed.power.st = Rest.s0 ∨ framed.power.st = Rest.s1) ∧ framed.power.entryBegun = false ∧ slotOf
      framed sig0.w2 = some 0 ∧ framed.larder.slots[0]? = some opened ∧ opened.st = SlotState.receiving ∧ opened.pres ≤
      mNs framed + 1000000000 ∧ opened.data.wf = true ∧ ∃ g ∈ sigGranules sig0, g ∉ opened.covered) ∧
    (portsTrain joined = true ∧ (getPort joined Port.west).st = PortState.up ∧ mode joined = Mode.native ∧ Folio.stamped
      sigFar = false ∧ Folio.crcOk sigFar = true ∧ malformed joined sigFar = none ∧ wouldUse joined sigFar = true ∧
      Folio.kind sigFar = 1 ∧ (joined.power.st = Rest.s0 ∨ joined.power.st = Rest.s1) ∧ joined.power.entryBegun = false
      ∧ slotOf joined sigFar.w2 = none ∧ mNs joined + 1000000000 < newPresentation joined sigFar ∧ sigFar.w2 ∉
      joined.spine.earlyQuires) ∧
    (portsTrain stSigEarlyAgain = true ∧ (getPort stSigEarlyAgain Port.west).st = PortState.up ∧ mode stSigEarlyAgain =
      Mode.native ∧ Folio.stamped sigFar = false ∧ Folio.crcOk sigFar = true ∧ malformed stSigEarlyAgain sigFar = none ∧
      wouldUse stSigEarlyAgain sigFar = true ∧ Folio.kind sigFar = 1 ∧ (stSigEarlyAgain.power.st = Rest.s0 ∨
      stSigEarlyAgain.power.st = Rest.s1) ∧ stSigEarlyAgain.power.entryBegun = false ∧ slotOf stSigEarlyAgain sigFar.w2
      = none ∧ mNs stSigEarlyAgain + 1000000000 < newPresentation stSigEarlyAgain sigFar ∧ sigFar.w2 ∈
      stSigEarlyAgain.spine.earlyQuires) ∧
    (portsTrain joined = true ∧ (getPort joined Port.west).st = PortState.up ∧ mode joined = Mode.native ∧ Folio.stamped
      sigPast = false ∧ Folio.crcOk sigPast = true ∧ malformed joined sigPast = none ∧ wouldUse joined sigPast = true ∧
      Folio.kind sigPast = 1 ∧ (joined.power.st = Rest.s0 ∨ joined.power.st = Rest.s1) ∧ joined.power.entryBegun = false
      ∧ slotOf joined sigPast.w2 = none ∧ newPresentation joined sigPast ≤ mNs joined + 1000000000 ∧ (newPresentation
      joined sigPast * 2 ^ 32 ≤ joined.mantel.p ∨ (∃ x, joined.larder.seamOnLight = some x ∧ frameSeam joined
      (newPresentation joined sigPast) ≤ x) ∨ (∃ x ∈ joined.larder.slots, x.st ≠ SlotState.free ∧ seqBelow x.quire
      sigPast.w2 = false) ∨ ∀ (i n : ℕ), ¬opensSlot joined i n)) ∧
    (portsTrain stSigOlder = true ∧ (getPort stSigOlder Port.west).st = PortState.up ∧ mode stSigOlder = Mode.native ∧
      Folio.stamped sigNew = false ∧ Folio.crcOk sigNew = true ∧ malformed stSigOlder sigNew = none ∧ wouldUse
      stSigOlder sigNew = true ∧ Folio.kind sigNew = 1 ∧ (stSigOlder.power.st = Rest.s0 ∨ stSigOlder.power.st = Rest.s1)
      ∧ stSigOlder.power.entryBegun = false ∧ slotOf stSigOlder sigNew.w2 = none ∧ newPresentation stSigOlder sigNew ≤
      mNs stSigOlder + 1000000000 ∧ (newPresentation stSigOlder sigNew * 2 ^ 32 ≤ stSigOlder.mantel.p ∨ (∃ x,
      stSigOlder.larder.seamOnLight = some x ∧ frameSeam stSigOlder (newPresentation stSigOlder sigNew) ≤ x) ∨ (∃ x ∈
      stSigOlder.larder.slots, x.st ≠ SlotState.free ∧ seqBelow x.quire sigNew.w2 = false) ∨ ∀ (i n : ℕ), ¬opensSlot
      stSigOlder i n)) ∧
    (portsTrain joined = true ∧ (getPort joined Port.west).st = PortState.up ∧ mode joined = Mode.native ∧ Folio.stamped
      sigNew = false ∧ Folio.crcOk sigNew = true ∧ malformed joined sigNew = none ∧ wouldUse joined sigNew = true ∧
      Folio.kind sigNew = 1 ∧ (joined.power.st = Rest.s0 ∨ joined.power.st = Rest.s1) ∧ joined.power.entryBegun = false
      ∧ slotOf joined sigNew.w2 = none ∧ newPresentation joined sigNew ≤ mNs joined + 1000000000 ∧ joined.mantel.p <
      newPresentation joined sigNew * 2 ^ 32 ∧ (∀ (x : ℕ), joined.larder.seamOnLight = some x → x < frameSeam joined
      (newPresentation joined sigNew)) ∧ (∀ x ∈ joined.larder.slots, x.st ≠ SlotState.free → seqBelow x.quire sigNew.w2
      = true) ∧ opensSlot joined 0 0 ∧ sigGranules sigNew ≠ []) ∧
    (portsTrain slotsFull = true ∧ (getPort slotsFull Port.west).st = PortState.up ∧ mode slotsFull = Mode.native ∧
      Folio.stamped sigNew = false ∧ Folio.crcOk sigNew = true ∧ malformed slotsFull sigNew = none ∧ wouldUse slotsFull
      sigNew = true ∧ Folio.kind sigNew = 1 ∧ (slotsFull.power.st = Rest.s0 ∨ slotsFull.power.st = Rest.s1) ∧
      slotsFull.power.entryBegun = false ∧ slotOf slotsFull sigNew.w2 = none ∧ newPresentation slotsFull sigNew ≤ mNs
      slotsFull + 1000000000 ∧ slotsFull.mantel.p < newPresentation slotsFull sigNew * 2 ^ 32 ∧ (∀ (x : ℕ),
      slotsFull.larder.seamOnLight = some x → x < frameSeam slotsFull (newPresentation slotsFull sigNew)) ∧ (∀ x ∈
      slotsFull.larder.slots, x.st ≠ SlotState.free → seqBelow x.quire sigNew.w2 = true) ∧ opensSlot slotsFull 0 1 ∧
      sigGranules sigNew ≠ []) :=
  ⟨⟨by decide +kernel, rfl, by decide +kernel, not_stamped_of_crcOk (sealed_crcOk ..), sealed_crcOk ..,
    by decide +kernel, by decide +kernel, rfl, rfl, rfl, by decide +kernel, rfl, by decide +kernel⟩, ⟨by decide +kernel,
    rfl, by decide +kernel, not_stamped_of_crcOk (sealed_crcOk ..), sealed_crcOk .., by decide +kernel,
    by decide +kernel, by decide +kernel, by decide +kernel, by decide +kernel, rfl, rfl, by decide +kernel,
    by decide +kernel, by decide +kernel⟩, ⟨by decide +kernel, rfl, by decide +kernel, not_stamped_of_crcOk
    (sealed_crcOk ..), sealed_crcOk .., by decide +kernel, by decide +kernel, by decide +kernel, Or.inl rfl, rfl,
    by decide +kernel, by decide +kernel, by decide +kernel⟩, ⟨by decide +kernel, rfl, by decide +kernel,
    not_stamped_of_crcOk (sealed_crcOk ..), sealed_crcOk .., by decide +kernel, by decide +kernel, by decide +kernel,
    Or.inl rfl, rfl, by decide +kernel, by decide +kernel, by decide +kernel⟩, ⟨by decide +kernel, rfl,
    by decide +kernel, not_stamped_of_crcOk (sealed_crcOk ..), sealed_crcOk .., by decide +kernel, by decide +kernel,
    by decide +kernel, Or.inl rfl, rfl, by decide +kernel, by decide +kernel, Or.inl (by decide +kernel)⟩,
    ⟨by decide +kernel, rfl, by decide +kernel, not_stamped_of_crcOk (sealed_crcOk ..), sealed_crcOk ..,
    by decide +kernel, by decide +kernel, by decide +kernel, Or.inl rfl, rfl, by decide +kernel, by decide +kernel,
    Or.inr (Or.inr (Or.inl (by decide +kernel)))⟩, ⟨by decide +kernel, rfl, by decide +kernel, not_stamped_of_crcOk
    (sealed_crcOk ..), sealed_crcOk .., by decide +kernel, by decide +kernel, by decide +kernel, Or.inl rfl, rfl,
    by decide +kernel, by decide +kernel, by decide +kernel, fun _ h => (nomatch h), by decide +kernel,
    by unfold opensSlot; decide +kernel, by decide +kernel⟩, ⟨by decide +kernel, rfl, by decide +kernel,
    not_stamped_of_crcOk (sealed_crcOk ..), sealed_crcOk .., by decide +kernel, by decide +kernel, by decide +kernel,
    Or.inl rfl, rfl, by decide +kernel, by decide +kernel, by decide +kernel, fun _ h => (nomatch h), by decide +kernel,
    by unfold opensSlot; decide +kernel, by decide +kernel⟩⟩

def policyBodyB : List Byte := wordBytes 0x31001388 ++ wordBytes 0x03E8000A ++ wordBytes 0

def policyBody : List Byte := wordBytes 0x00000000 ++ wordBytes 0 ++ wordBytes 0

def live : State :=
  { joined with larder := { joined.larder with fstate := .live, feedStopped := false, feedRestart := 4900000000 } }

def lost3 : State :=
  { joined with
    larder :=
      { joined.larder with
        fstate := .lost
        lostAt := 4900000000
        feed := { FeedPolicy.reset with policy := 3, holdS := 10 } } }

theorem witness_FeedPolicyLossAndDelay :
    (takeDispatch (asked joined 20 policyBodyB) 20 = some (msg 20 policyBodyB)) ∧
    (takeDispatch (asked joined 21 policyBody) 21 = some (msg 21 policyBody)) ∧
    (coreOn live = true ∧ live.larder.fstate = FeedState.live ∧ live.larder.feedStopped = false ∧ live.press.chosen =
      none) ∧
    (coreOn lost3 = true ∧ lost3.larder.feed.policy = 3 ∧ lost3.larder.fstate = FeedState.lost ∧ legacyLoss lost3 =
      false) :=
  by and_intros <;> decide +kernel

def heavy : State :=
  { joined with
    larder := { joined.larder with secHolds := 2 }
    press := { joined.press with secDropped := 1 }
    coll := { joined.coll with secOpens := 1 }
    spine := { joined.spine with east := { joined.spine.east with crcThisSecond := 17 } } }

def stRepSecondWest : State :=
  { heavy with
    spine := { joined.spine with west := { joined.spine.west with crcThisSecond := 17 } }
    hall := { heavy.hall with tagFails := [0, 3, 0], keyless := [2, 0, 0] } }

def evented : State := { joined with larder := { joined.larder with events := [default] } }

def noticedW : Watermark := { Watermark.clear with noticed := true, crossings := 2, peak := 200 }

def noticedS : State :=
  { joined with larder := { joined.larder with waters := [noticedW, Watermark.clear, Watermark.clear] } }

def noticedAgain : Watermark := { noticedW with lastInterval := some 60 }

def noticedS2 : State :=
  { joined with larder := { joined.larder with waters := [Watermark.clear, Watermark.clear, noticedAgain] } }

theorem witness_ReportSecondEventsAndWatermarks :
    (running run0 = true) ∧
    (running heavy = true) ∧
    (running stRepSecondWest = true) ∧
    (coreOn evented = true ∧ evented.larder.events ≠ [] ∧ evented.larder.waiting = [] ∧ reportLevel evented + 17 ≤ 248)
      ∧
    (1 ≠ 0 ∧ noticedS.larder.waters[1 - 1]? = some noticedW ∧ noticedW.noticed = true ∧ coreOn noticedS = true) ∧
    (3 ≠ 0 ∧ noticedS2.larder.waters[3 - 1]? = some noticedAgain ∧ noticedAgain.noticed = true ∧ coreOn noticedS2 =
      true) :=
  by and_intros <;> decide +kernel

def cueBody : List Byte := wordBytes 0x01000000 ++ beBytes 8 6 ++ wordBytes 0 ++ wordBytes 0 ++ wordBytes 0

theorem witness_CueIsArmedAndToleranceKept :
    (takeDispatch (asked joined 16 cueBody) 16 = some (msg 16 cueBody)) ∧
    (takeDispatch (asked joined 17 (wordBytes 100000)) 17 = some (msg 17 (wordBytes 100000))) :=
  ⟨by decide +kernel, by decide +kernel⟩

def passing : State := { joined with bindery := { joined.bindery with pass := some pass1 } }

def litPass : Pass := { pass1 with laneA := .slot 0, lambda := 40000, isFrame := false }

def litSlot : Slot :=
  { Slot.empty with st := .bound, quire := 4, depth := 3, cfmt := 0, data := [(0, 200), (3, 90), (100, 255)] }

def stLitPass : State :=
  { joined with
    bindery := { joined.bindery with pass := some litPass }
    larder := { joined.larder with slots := [litSlot, Slot.empty, Slot.empty] } }

def litData : LaneData :=
  (laneData stLitPass (.slot 0)).getD { bytes := #[], depth := 8, comps := 3, extract := false, tf := 0 }

def oneData : LaneData := { bytes := #[10, 200, 90], depth := 8, comps := 3, extract := false, tf := 0 }

def stPixelMat : State := { stLitPass with bindery := { stLitPass.bindery with fallback := false } }

def stLoadStart : State := { joined with bindery := { joined.bindery with loadDue := some 4900000000 } }

def stLoadEnd : State :=
  { joined with bindery := { joined.bindery with loading := some 4999000000, loadForced := true, loadHolds := 2 } }

def stLoadEndCal : State := { joined with bindery := { joined.bindery with loading := some 4999000000, loadCal := true } }

def stWearGain : State := { joined with bindery := { joined.bindery with recomputeDue := true } }

def filling : State :=
  { joined with screen := { joined.screen with cache := [{ slate := 3, st := 1 }, { slate := 15, st := 0 }] } }

def stCacheFill : CacheEntry := { slate := 3, st := 1 }

theorem witness_PassesAndWorkingCopies :
    (laneData stLitPass (LaneSrc.slot 0) = some litData) ∧
    (passing.bindery.pass = some pass1 ∧ coreOn passing = true ∧ passing.bindery.reRenderDue = false ∧
      passing.arch.copying = none ∧ (pass1.isFrame = true → 0 ≤ 4 * 2 ^ 32 + passing.mantel.addend ∧ mNs (advanceTo
      passing (pass1.start + 26400 + 10 * emitterCount passing)) + 20000 ≤ pass1.seam)) ∧
    (passing.bindery.pass = some pass1 ∧ coreOn passing = true ∧ pass1.isFrame = true ∧ passing.bindery.reRenderDue =
      false ∧ passing.arch.copying = none) ∧
    (stLitPass.bindery.pass = some litPass ∧ coreOn stLitPass = true ∧ stLitPass.bindery.reRenderDue = false ∧
      stLitPass.arch.copying = none ∧ (litPass.isFrame = true → 0 ≤ 4 * 2 ^ 32 + stLitPass.mantel.addend ∧ mNs
      (advanceTo stLitPass (litPass.start + 26400 + 10 * emitterCount stLitPass)) + 20000 ≤ litPass.seam)) ∧
    (oneData.tf = 0 ∧ oneData.extract = false) ∧
    (stLoadStart.bindery.loadDue = some 4900000000 ∧ coreOn stLoadStart = true ∧ stLoadStart.bindery.pass = none ∧
      stLoadStart.bindery.waiting = none ∧ stLoadStart.bindery.loading = none) ∧
    (stLoadEnd.bindery.loading = some 4999000000 ∧ coreOn stLoadEnd = true ∧ stLoadEnd.bindery.reRenderDue = false) ∧
    (stLoadEndCal.bindery.loading = some 4999000000 ∧ coreOn stLoadEndCal = true ∧ stLoadEndCal.bindery.reRenderDue =
      false) ∧
    (coreOn stWearGain = true ∧ stWearGain.bindery.recomputeDue = true ∧ stWearGain.bindery.pass = none) ∧
    (coreOn filling = true ∧ filling.screen.cache[bit false]? = some stCacheFill ∧ stCacheFill.st = 1) :=
  ⟨rfl, by and_intros <;> decide +kernel⟩

def timingBody : List Byte := wordBytes 0 ++ wordBytes 0x00780080 ++ wordBytes 0xFFFFFFFF

def pending1 : PendingSet :=
  { set := { Timing.reset with epoch := 1 }
    apply := 0
    due := 5000010000
    chan := 0
    seq := 1
    no := 1
    silent := false }

def handle0 : Handle := { plate := 0, epoch := 0, isFrame := true, seam := 5000000000, slot := none, quire := none }

def waitingSet (p : PendingSet) : State :=
  { joined with
    press := { joined.press with pendingSet := some p, handles := [handle0, { handle0 with plate := 1, epoch := 1 }] } }

def pending2 : PendingSet := { pending1 with silent := true }

theorem witness_TimingSetWaitsAndApplies :
    (takeDispatch (asked joined 48 timingBody) 48 = some (msg 48 timingBody)) ∧
    ((waitingSet pending1).press.pendingSet = some pending1 ∧ coreOn (waitingSet pending1) = true ∧ (waitingSet
      pending1).press.running = true ∧ (waitingSet pending1).cellar.failAt = none) ∧
    ((waitingSet pending2).press.pendingSet = some pending2 ∧ coreOn (waitingSet pending2) = true ∧ (waitingSet
      pending2).press.running = true ∧ (waitingSet pending2).cellar.failAt = none) :=
  ⟨by decide +kernel, by decide +kernel, by decide +kernel⟩

def stWithdraw : State := { joined with press := { joined.press with crossing := [.withdraw 1] } }

def stHandle : State :=
  { joined with
    press := { joined.press with crossing := [.handle handle0], handles := [handle0, { handle0 with plate := 1 }] } }

def stHandleOld : State := { joined with press := { joined.press with crossing := [.handle handle0], epochE := 1 } }

def stCutoff : State := { joined with press := { joined.press with handles := [handle0] } }

def stCutoffNone : State := { joined with press := { joined.press with handles := [{ handle0 with seam := 9000000000 }] } }

def stSeam : State :=
  { joined with press := { joined.press with cutoffDone := true, chosen := some { handle0 with plate := 1 } } }

def stSeamNone : State :=
  { joined with press := { joined.press with cutoffDone := true, lastSeam := 4999000000, seamSeen := true } }

def slotRow : State := { joined with press := { joined.press with seamSeen := true, slotsDone := false } }

def slotPlate : State :=
  { slotRow with
    larder := { slotRow.larder with plates := [List.replicate 5000 400000, [], []] }
    press := { slotRow.press with plateOn := 0 } }

def stSlotWidthForced : State :=
  { slotPlate with
    prot := { slotPlate.prot with force := some { limitS := 0, width := 1, codes := List.replicate 192 2, rows := [] } } }

def stSlotTripped : State :=
  { slotPlate with
    prot :=
      { slotPlate.prot with inputs := { TripInput.clear with inForce := true } :: List.replicate 9 TripInput.clear } }

def unlockedPlate : State := { slotPlate with press := { slotPlate.press with unlocked := [5] } }

def inp (x : TripInput) : State :=
  { joined with prot := { joined.prot with inputs := x :: List.replicate 9 TripInput.clear } }

def heldInput : TripInput := { TripInput.clear with inForce := true, quietSince := 4000000000 }

def assertedInput : TripInput := { heldInput with asserted := true }

def stRowSlotDark : State :=
  { joined with
    press := { joined.press with seamSeen := true, slotsDone := false }
    cellar := { joined.cellar with darkWatchdog := true } }

theorem witness_RefreshesHandlesAndCutoffs :
    (stWithdraw.press.crossing = [Crossing.withdraw 1] ∧ pressRuns stWithdraw = true) ∧
    (stHandle.press.crossing = [Crossing.handle handle0] ∧ pressRuns stHandle = true) ∧
    (stHandleOld.press.crossing = [Crossing.handle handle0] ∧ pressRuns stHandleOld = true) ∧
    (pressRuns stCutoff = true ∧ stCutoff.press.cutoffDone = false) ∧
    (pressRuns stCutoffNone = true ∧ stCutoffNone.press.cutoffDone = false) ∧
    (pressRuns stSeam = true) ∧
    (pressRuns stSeamNone = true) ∧
    (pressRuns slotRow = true ∧ slotRow.press.seamSeen = true ∧ slotRow.press.slotsDone = false ∧ slotRow.prot.frozen =
      false ∧ slotRow.press.darkGap = false) ∧
    (pressRuns slotPlate = true ∧ slotPlate.press.seamSeen = true ∧ slotPlate.press.slotsDone = false ∧
      slotPlate.prot.frozen = false ∧ slotPlate.press.darkGap = false ∧ slotPlate.press.slot < scanRows slotPlate ∧ 5 <
      rowWidth slotPlate ∧ (residuesOf slotPlate).length = emitterCount slotPlate ∧ pulseWidth slotPlate 5 = pulseWidth
      slotPlate 5) ∧
    (pressRuns slotRow = true ∧ slotRow.press.seamSeen = true ∧ slotRow.press.slotsDone = false ∧ slotRow.prot.frozen =
      false ∧ slotRow.press.darkGap = false ∧ slotRow.press.slot < scanRows slotRow ∧ 5 < rowWidth slotRow ∧ (residuesOf
      slotRow).length = emitterCount slotRow ∧ pulseWidth slotRow 5 = pulseWidth slotRow 5) ∧
    (pressRuns stSlotWidthForced = true ∧ stSlotWidthForced.press.seamSeen = true ∧ stSlotWidthForced.press.slotsDone =
      false ∧ stSlotWidthForced.prot.frozen = false ∧ stSlotWidthForced.press.darkGap = false ∧
      stSlotWidthForced.press.slot < scanRows stSlotWidthForced ∧ 5 < rowWidth stSlotWidthForced ∧ (residuesOf
      stSlotWidthForced).length = emitterCount stSlotWidthForced ∧ pulseWidth slotPlate 5 = pulseWidth stSlotWidthForced
      5) ∧
    (pressRuns stSlotTripped = true ∧ stSlotTripped.press.seamSeen = true ∧ stSlotTripped.press.slotsDone = false ∧
      stSlotTripped.prot.frozen = false ∧ stSlotTripped.press.darkGap = false ∧ stSlotTripped.press.slot < scanRows
      stSlotTripped ∧ 5 < rowWidth stSlotTripped ∧ (residuesOf stSlotTripped).length = emitterCount stSlotTripped ∧
      pulseWidth slotPlate 5 = pulseWidth stSlotTripped 5) ∧
    (pressRuns unlockedPlate = true ∧ unlockedPlate.press.seamSeen = true ∧ unlockedPlate.press.slotsDone = false ∧
      unlockedPlate.prot.frozen = false ∧ unlockedPlate.press.darkGap = false ∧ unlockedPlate.press.slot < scanRows
      unlockedPlate ∧ 5 < rowWidth unlockedPlate ∧ (residuesOf unlockedPlate).length = emitterCount unlockedPlate ∧
      pulseWidth unlockedPlate 5 = pulseWidth unlockedPlate 5) ∧
    (pressRuns (inp heldInput) = true ∧ (inp heldInput).prot.inputs[0]? = some heldInput ∧ heldInput.inForce = true) ∧
    (pressRuns (inp assertedInput) = true ∧ (inp assertedInput).prot.inputs[0]? = some assertedInput ∧
      assertedInput.inForce = true) ∧
    (pressRuns stRowSlotDark = true ∧ stRowSlotDark.press.seamSeen = true ∧ stRowSlotDark.press.slotsDone = false ∧
      stRowSlotDark.prot.frozen = false ∧ stRowSlotDark.press.darkGap = false) :=
  by and_intros <;> decide +kernel

def stRelock : State := { joined with press := { joined.press with unlocked := [3] } }

def stPclkBack : State :=
  { joined with prot := { joined.prot with pclkLost := true }, cellar := { joined.cellar with darkPclk := true } }

def stPclkBackDark : State :=
  { joined with
    prot := { joined.prot with pclkLost := true }
    cellar := { joined.cellar with darkPclk := true, darkWatchdog := true } }

theorem witness_DelayLinesAndPclk :
    (pressRuns joined = true ∧ 3 < 192 ∧ 3 ∉ joined.press.unlocked) ∧
    (pressRuns stRelock = true ∧ 3 ∈ stRelock.press.unlocked) ∧
    (coreOn joined = true ∧ joined.prot.pclkLost = false) ∧
    (coreOn stPclkBack = true ∧ stPclkBack.prot.pclkLost = true) ∧
    (coreOn stPclkBackDark = true ∧ stPclkBackDark.prot.pclkLost = true) :=
  by and_intros <;> decide +kernel

def litRow : State :=
  { joined with
    press := { joined.press with rowOn := some 3, widths := List.replicate 192 100, slot := 4, seamSeen := true } }

def dmxNode : State := node 1

def seen : State := { dmxNode with legacy := { Legacy.reset with dmxSeen := true, lastValid := 4900000000 } }

def soon : TripInput := { TripInput.clear with seen := true, quietSince := 4500000000 }

def stopped : State := { joined with press := { joined.press with running := false } }

def onInput : TripInput := { TripInput.clear with asserted := true }

def quietInput : TripInput := { TripInput.clear with episode := true, assertions := 3 }

theorem witness_TripInputsAssertQuietAndEnd :
    (joined.prot.inputs[0]? = some TripInput.clear ∧ inputPresent joined 0 = true ∧ coreOn joined = true ∧
      joined.press.running = true ∧ TripInput.clear.inForce = false) ∧
    (litRow.prot.inputs[0]? = some TripInput.clear ∧ inputPresent litRow 0 = true ∧ coreOn litRow = true ∧
      litRow.press.running = true ∧ TripInput.clear.inForce = false) ∧
    ((inp soon).prot.inputs[0]? = some soon ∧ inputPresent (inp soon) 0 = true ∧ coreOn (inp soon) = true ∧ (inp
      soon).press.running = true ∧ soon.inForce = false) ∧
    (stopped.prot.inputs[0]? = some TripInput.clear ∧ inputPresent stopped 0 = true ∧ (coreOn stopped = false ∨
      stopped.press.running = false)) ∧
    (joined.prot.inputs[0]? = some TripInput.clear ∧ inputPresent joined 0 = true ∧ coreOn joined = true) ∧
    ((inp onInput).prot.inputs[0]? = some onInput ∧ inputPresent (inp onInput) 0 = true ∧ onInput.asserted = true) ∧
    ((inp quietInput).prot.inputs[0]? = some quietInput ∧ coreOn (inp quietInput) = true ∧ quietInput.episode = true ∧
      quietInput.inForce = false ∧ quietInput.asserted = false) :=
  by and_intros <;> decide +kernel

def latchedIn : TripInput := { TripInput.clear with inForce := true, holding := true, episode := true }

def clear1 : ClearReq := { mask := 1, due := 5000010000, chan := 0, seq := 1, no := 1 }

def clearing (x : TripInput) : State :=
  { inp x with
    straps := { run0.straps with levels := List.replicate 10 0 ++ [12, 0] }
    prot := { (inp x).prot with clears := [clear1] } }

def stillIn : TripInput := { latchedIn with asserted := true }

def forceBody : List Byte := wordBytes 0x40000000 ++ List.replicate 200 0

def fset : ForceSet := { limitS := 10, width := 1, codes := [], rows := [] }

def forceWaits : State := { joined with prot := { joined.prot with forceWait := [(some fset, 5000010000, 0, 1, 1)] } }

def stForceHeld : State := { forceWaits with cellar := { joined.cellar with darkPower := true } }

def fset2 : ForceSet := { limitS := 10, width := 1, codes := [0, 2], rows := [] }

def stForceApplyS1 : State :=
  { joined with
    power := { joined.power with st := .s1 }
    prot := { joined.prot with forceWait := [(some fset2, 5000010000, 0, 1, 1)] } }

def stForceLimit : State := { joined with prot := { joined.prot with force := some fset, forceAt := 4900000000 } }

theorem witness_TripClearsAndForceSetsWaitForTheirSeam :
    (takeDispatch (asked joined 51 (wordBytes 1)) 51 = some (msg 51 (wordBytes 1)) ∧ ∀ id ∈ [5, 6, 7], BitVec.getLsbD
      (byteAt (msg 51 (wordBytes 1)).body 3) id = true → auxTrip (asked joined 51 (wordBytes 1)) id = true) ∧
    (takeDispatch (asked joined 51 (wordBytes 224)) 51 = some (msg 51 (wordBytes 224)) ∧ ∃ id ∈ [5, 6, 7],
      BitVec.getLsbD (byteAt (msg 51 (wordBytes 224)).body 3) id = true ∧ auxTrip (asked joined 51 (wordBytes 224)) id =
      false) ∧
    ((clearing latchedIn).prot.clears = [clear1] ∧ pressRuns (clearing latchedIn) = true ∧ 0 < 8 ∧ clear1.mask =
      BitVec.twoPow 8 0 ∧ (clearing latchedIn).prot.inputs[0]? = some latchedIn ∧ inputLatched (clearing latchedIn) 0 =
      true ∧ latchedIn.inForce = true) ∧
    ((clearing stillIn).prot.clears = [clear1] ∧ pressRuns (clearing stillIn) = true ∧ 0 < 8 ∧ clear1.mask =
      BitVec.twoPow 8 0 ∧ (clearing stillIn).prot.inputs[0]? = some stillIn ∧ inputLatched (clearing stillIn) 0 = true ∧
      stillIn.inForce = true) ∧
    (takeDispatch (asked joined 50 forceBody) 50 = some (msg 50 forceBody) ∧ field (wordAt (msg 50 forceBody).body 0) 31
      30 = 1) ∧
    (takeDispatch (asked joined 50 (wordBytes 0)) 50 = some (msg 50 (wordBytes 0)) ∧ field (wordAt (msg 50 (wordBytes
      0)).body 0) 31 30 = 0) ∧
    (stForceHeld.prot.forceWait = [(some fset, 5000010000, 0, 1, 1)] ∧ pressRuns stForceHeld = true ∧ cellarDark
      stForceHeld = true) ∧
    (forceWaits.prot.forceWait = [(some fset, 5000010000, 0, 1, 1)] ∧ pressRuns forceWaits = true ∧ cellarDark
      forceWaits = false) ∧
    (stForceApplyS1.prot.forceWait = [(some fset2, 5000010000, 0, 1, 1)] ∧ pressRuns stForceApplyS1 = true ∧ cellarDark
      stForceApplyS1 = false) ∧
    (stForceLimit.prot.force = some fset ∧ fset.limitS ≠ 0 ∧ pressRuns stForceLimit = true ∧ stForceLimit.prot.forceWait
      = []) :=
  by and_intros <;> decide +kernel

def tapIn (i : TapInstr) : State :=
  { joined with prot := { joined.prot with jtagOn := true, jtagUntil := some 6000000000, tap := i } }

theorem witness_TapInstructionsFollowTheEnable :
    (takeDispatch (asked joined 112 (wordBytes 2147483653)) 112 = some (msg 112 (wordBytes 2147483653)) ∧ field (wordAt
      (msg 112 (wordBytes 2147483653)).body 0) 31 31 = 1) ∧
    (takeDispatch (asked (tapIn TapInstr.extest) 112 (wordBytes 0)) 112 = some (msg 112 (wordBytes 0)) ∧ field (wordAt
      (msg 112 (wordBytes 0)).body 0) 31 31 = 0 ∧ (asked (tapIn TapInstr.extest) 112 (wordBytes 0)).prot.jtagOn = true)
      ∧
    ((tapIn TapInstr.samplePreload).prot.jtagUntil = some 6000000000 ∧ running (tapIn TapInstr.samplePreload) = true ∧
      (tapIn TapInstr.samplePreload).prot.jtagOn = true) ∧
    (running (tapIn TapInstr.samplePreload) = true ∧ (tapIn TapInstr.samplePreload).prot.jtagOn = true ∧ (tapIn
      TapInstr.samplePreload).prot.tap ≠ TapInstr.extest) ∧
    (running (tapIn TapInstr.bypass) = true ∧ (tapIn TapInstr.bypass).prot.jtagOn = true ∧ (tapIn
      TapInstr.bypass).prot.tap ≠ TapInstr.samplePreload) ∧
    (running (tapIn TapInstr.samplePreload) = true ∧ (tapIn TapInstr.samplePreload).prot.jtagOn = true ∧ (tapIn
      TapInstr.samplePreload).prot.tap ≠ TapInstr.highz) ∧
    (running (tapIn TapInstr.samplePreload) = true ∧ (tapIn TapInstr.samplePreload).prot.jtagOn = true ∧ (tapIn
      TapInstr.samplePreload).prot.tap ≠ TapInstr.freeze) ∧
    (running (tapIn TapInstr.extest) = true ∧ (tapIn TapInstr.extest).prot.jtagOn = true ∧ (tapIn
      TapInstr.extest).prot.tap = TapInstr.extest) ∧
    (running (tapIn TapInstr.samplePreload) = true ∧ (tapIn TapInstr.samplePreload).prot.jtagOn = true ∧ (tapIn
      TapInstr.samplePreload).prot.tap = TapInstr.samplePreload) ∧
    (running (tapIn TapInstr.highz) = true ∧ (tapIn TapInstr.highz).prot.jtagOn = true ∧ (tapIn TapInstr.highz).prot.tap
      = TapInstr.highz) ∧
    (running (tapIn TapInstr.freeze) = true ∧ (tapIn TapInstr.freeze).prot.jtagOn = true ∧ (tapIn
      TapInstr.freeze).prot.tap = TapInstr.freeze) ∧
    (running (tapIn TapInstr.extest) = true) ∧
    (running joined = true ∧ joined.prot.jtagOn = false) ∧
    (running (tapIn TapInstr.extest) = true ∧ (tapIn TapInstr.extest).prot.jtagOn = true ∧ ((tapIn
      TapInstr.extest).prot.tap = TapInstr.samplePreload ∨ (tapIn TapInstr.extest).prot.tap = TapInstr.extest)) :=
  by and_intros <;> decide +kernel

def found1 : Detection := .emitter 0 3 .opn 10 5

def finding (d : Detection) (m : List (Nat × ObjState)) : State :=
  { joined with
    start := { joined.start with auxGood := true }
    coll := { joined.coll with fifo := [d], emitters := m } }

def twiceFound : List (Nat × ObjState) := [(3, { kind := .opn, count := 2, lastRefresh := 4, passes := 0, before := none })]

def foundS : Detection := .emitter 0 3 .shrt 10 5

def twiceShort : List (Nat × ObjState) := [(3, { kind := .shrt, count := 2, lastRefresh := 4, passes := 0, before := none })]

def foundC (k : DefKind) : Detection := .column 3 k 10 5

def twoCol (k : DefKind) : State :=
  { finding (foundC k) [] with
    coll :=
      { (finding (foundC k) []).coll with
        columns := [(3, { kind := k, count := 2, lastRefresh := 4, passes := 0, before := none })] } }

def foundR : Detection := .row 3 5

def stDetectRow : State :=
  { finding foundR [] with
    coll :=
      { (finding foundR []).coll with
        rows := [(3, { kind := .opn, count := 2, lastRefresh := 4, passes := 0, before := none })] } }

def defect1 : DefectRec :=
  { kind := 1, unmapped := false, paired := false, row := 0, sink := 0, tsec := 0, tns := 0, level := 0, mapped := 0 }

def stDetectFull : State :=
  { finding foundR [] with
    arch := { joined.arch with mapRecords := List.replicate 254 defect1 }
    coll :=
      { (finding foundR []).coll with
        rows := [(3, { kind := .opn, count := 2, lastRefresh := 4, passes := 0, before := none })] } }

def stDetectColBack : State :=
  { twoCol .opn with
    coll :=
      { (twoCol .opn).coll with
        columns := []
        emitters := [(3, { kind := .opn, count := 1, lastRefresh := 5, passes := 0, before := none })] } }

def stDefectSend : State :=
  { joined with
    coll := { joined.coll with gathered := [(4999000000, defect1), (5000500000, defect1)], gatherSince := 4999000000 } }

def stExclEnd : State := { joined with coll := { joined.coll with excluded := true, excludeUntil := 5100000000 } }

theorem witness_CollatorTakesReportsAndResumes :
    ((finding found1 []).coll.fifo = [found1] ∧ coreOn (finding found1 []) = true ∧ (finding found1 []).start.auxGood =
      true ∧ (finding found1 []).cellar.failAt = none ∧ (finding found1 []).cellar.isolated = false) ∧
    ((finding found1 twiceFound).coll.fifo = [found1] ∧ coreOn (finding found1 twiceFound) = true ∧ (finding found1
      twiceFound).start.auxGood = true ∧ (finding found1 twiceFound).cellar.failAt = none ∧ (finding found1
      twiceFound).cellar.isolated = false) ∧
    ((finding foundS twiceShort).coll.fifo = [foundS] ∧ coreOn (finding foundS twiceShort) = true ∧ (finding foundS
      twiceShort).start.auxGood = true ∧ (finding foundS twiceShort).cellar.failAt = none ∧ (finding foundS
      twiceShort).cellar.isolated = false) ∧
    ((twoCol DefKind.shrt).coll.fifo = [foundC DefKind.shrt] ∧ coreOn (twoCol DefKind.shrt) = true ∧ (twoCol
      DefKind.shrt).start.auxGood = true ∧ (twoCol DefKind.shrt).cellar.failAt = none ∧ (twoCol
      DefKind.shrt).cellar.isolated = false) ∧
    ((twoCol DefKind.opn).coll.fifo = [foundC DefKind.opn] ∧ coreOn (twoCol DefKind.opn) = true ∧ (twoCol
      DefKind.opn).start.auxGood = true ∧ (twoCol DefKind.opn).cellar.failAt = none ∧ (twoCol
      DefKind.opn).cellar.isolated = false) ∧
    (stDetectRow.coll.fifo = [foundR] ∧ coreOn stDetectRow = true ∧ stDetectRow.start.auxGood = true ∧
      stDetectRow.cellar.failAt = none ∧ stDetectRow.cellar.isolated = false) ∧
    (stDetectFull.coll.fifo = [foundR] ∧ coreOn stDetectFull = true ∧ stDetectFull.start.auxGood = true ∧
      stDetectFull.cellar.failAt = none ∧ stDetectFull.cellar.isolated = false) ∧
    (stDetectColBack.coll.fifo = [foundC DefKind.opn] ∧ coreOn stDetectColBack = true ∧ stDetectColBack.start.auxGood =
      true ∧ stDetectColBack.cellar.failAt = none ∧ stDetectColBack.cellar.isolated = false) ∧
    (coreOn stDefectSend = true ∧ gatheredNow stDefectSend ≠ []) ∧
    (coreOn stExclEnd = true ∧ stExclEnd.power.driveGood = true ∧ stExclEnd.coll.excluded = true) :=
  by and_intros <;> decide +kernel

def bus (b : Backstair) : State := { run0 with back := b }

def live8 : Backstair := { Backstair.reset with pstate := .active }

def tx1 : TxFrame := { id := 0x1C1000FF, data := [1, 2] }

def stPorterStopLater : State := bus { live8 with offered := some (1, tx1), buf1 := some tx1 }

def stPorterStopEarly : State := bus { live8 with pstate := .integrating }

def stIntegrated : State := bus { live8 with pstate := .integrating }

def stStrobe : State := { run0 with straps := { run0.straps with svcOn := true } }

def stBusIdleStops : State := bus { live8 with finishing := true, offered := some (1, tx1), buf1 := some tx1 }

def stBusIdle : State := bus { live8 with buf1 := some tx1, station := 0x10, suspend := true }

def stBusIdleAgain : State :=
  bus { live8 with buf1 := some tx1, buf2 := some tx1, offered := some (1, tx1), cancelled := true }

def stFrameSent : State := bus { live8 with offered := some (1, tx1), buf1 := some tx1 }

def alarmTx : TxFrame := { id := 0x041000FF, data := [3, 0xFF] }

def stAlarmSent : State := bus { live8 with offered := some (0, alarmTx), buf0 := some alarmTx, alarms := [alarmTx] }

def stCancelSent : State :=
  bus { live8 with offered := some (1, tx1), buf1 := some { tx1 with data := [] }, cancelled := true }

theorem witness_BackstairParticipationAndOffers :
    ((bus live8).back.pstate = BusState.active ∧ (bus live8).back.offered = none) ∧
    (stPorterStopLater.back.pstate = BusState.active ∧ stPorterStopLater.back.offered ≠ none) ∧
    (stPorterStopEarly.back.pstate = BusState.integrating) ∧
    (stIntegrated.back.pstate = BusState.integrating) ∧
    (coreOn stStrobe = true ∧ svcOn stStrobe = true) ∧
    (stBusIdleStops.back.pstate = BusState.active ∧ stBusIdleStops.back.finishing = true) ∧
    (stBusIdle.back.pstate = BusState.active ∧ stBusIdle.back.finishing = false) ∧
    (stBusIdleAgain.back.pstate = BusState.active ∧ stBusIdleAgain.back.finishing = false) ∧
    (stFrameSent.back.pstate = BusState.active ∧ stFrameSent.back.offered = some (1, tx1) ∧ stFrameSent.back.excepted =
      false) ∧
    (stAlarmSent.back.pstate = BusState.active ∧ stAlarmSent.back.offered = some (0, alarmTx) ∧
      stAlarmSent.back.excepted = false) ∧
    (stCancelSent.back.pstate = BusState.active ∧ stCancelSent.back.offered = some (1, tx1) ∧ stCancelSent.back.excepted
      = false) :=
  by and_intros <;> decide +kernel

def sf (ch : Bool) : ServiceFrame :=
  { chatter := ch, src := 0x20, dest := 0xFF, item := 3, data := List.replicate 8 5, stamp := 0, fd := true }

def sfOther : ServiceFrame := { sf false with dest := 0x30 }

def sfBad : ServiceFrame := { sf true with data := [0x80, 0, 0, 0] }

def stTempBad : State :=
  bus { live8 with sensors := [{ index := 3, src := 0x20, data := [1, 2], time := 0, stamp := 7, valid := true, good := some (0x0102, 7) }] }

def stAnnounced : State := bus { live8 with peers := [{ serial := 9, heard := 4999999999 }] }

def classic : State :=
  { bus live8 with straps := { run0.straps with svcOn := true, levels := List.replicate 8 0 ++ [7, 0, 0, 0] } }

/-- Some serial is not this node's: one of two. -/
theorem other_serial :
    ∃ f : ServiceFrame, hearsWell stAnnounced true f.fd ∧ f.chatter = true ∧ 8 ≤ f.data.length ∧
      stAnnounced.back.peers.length < 15 ∧ longAt f.data 0 ≠ Config.serialFuses := by
  by_cases h : (0 : Long) = Config.serialFuses
  · exact ⟨{ sf true with data := [0, 0, 0, 0, 0, 0, 0, 1] }, by unfold hearsWell; decide, by decide, by decide, by decide, by
      rw [← h]; decide⟩
  · exact ⟨{ sf true with data := List.replicate 8 0 }, by unfold hearsWell; decide, by decide, by decide, by decide, by
      rw [show longAt (List.replicate 8 (0 : Byte)) 0 = 0 by decide]; exact h⟩


theorem witness_BackstairFramesReceived :
    ((Instr.psuFault (sf false) = Instr.psuFault (sf false) ∧ 1 = 1 ∧ 2 = 2 ∨ Instr.psuFault (sf false) = Instr.overtemp
      (sf false) ∧ 1 = 2 ∧ 2 = 2 ∨ Instr.psuFault (sf false) = Instr.fanFault (sf false) ∧ 1 = 3 ∧ 2 = 1 ∨
      Instr.psuFault (sf false) = Instr.peerFault (sf false) ∧ 1 = 4 ∧ 2 = 2) ∧ hearsWell (bus live8) false (sf
      false).fd ∧ (sf false).chatter = false ∧ 2 ≤ (sf false).data.length ∧ ((sf false).dest = 255 ∨ (bus
      live8).back.station ≠ 0 ∧ (sf false).dest = (bus live8).back.station) ∧ (bus live8).larder.events.length < 256) ∧
    ((Instr.overtemp (sf false) = Instr.psuFault (sf false) ∧ 2 = 1 ∧ 2 = 2 ∨ Instr.overtemp (sf false) = Instr.overtemp
      (sf false) ∧ 2 = 2 ∧ 2 = 2 ∨ Instr.overtemp (sf false) = Instr.fanFault (sf false) ∧ 2 = 3 ∧ 2 = 1 ∨
      Instr.overtemp (sf false) = Instr.peerFault (sf false) ∧ 2 = 4 ∧ 2 = 2) ∧ hearsWell (bus live8) false (sf
      false).fd ∧ (sf false).chatter = false ∧ 2 ≤ (sf false).data.length ∧ ((sf false).dest = 255 ∨ (bus
      live8).back.station ≠ 0 ∧ (sf false).dest = (bus live8).back.station) ∧ (bus live8).larder.events.length < 256) ∧
    ((Instr.fanFault (sf false) = Instr.psuFault (sf false) ∧ 3 = 1 ∧ 1 = 2 ∨ Instr.fanFault (sf false) = Instr.overtemp
      (sf false) ∧ 3 = 2 ∧ 1 = 2 ∨ Instr.fanFault (sf false) = Instr.fanFault (sf false) ∧ 3 = 3 ∧ 1 = 1 ∨
      Instr.fanFault (sf false) = Instr.peerFault (sf false) ∧ 3 = 4 ∧ 1 = 2) ∧ hearsWell (bus live8) false (sf
      false).fd ∧ (sf false).chatter = false ∧ 1 ≤ (sf false).data.length ∧ ((sf false).dest = 255 ∨ (bus
      live8).back.station ≠ 0 ∧ (sf false).dest = (bus live8).back.station) ∧ (bus live8).larder.events.length < 256) ∧
    ((Instr.peerFault (sf false) = Instr.psuFault (sf false) ∧ 4 = 1 ∧ 2 = 2 ∨ Instr.peerFault (sf false) =
      Instr.overtemp (sf false) ∧ 4 = 2 ∧ 2 = 2 ∨ Instr.peerFault (sf false) = Instr.fanFault (sf false) ∧ 4 = 3 ∧ 2 = 1
      ∨ Instr.peerFault (sf false) = Instr.peerFault (sf false) ∧ 4 = 4 ∧ 2 = 2) ∧ hearsWell (bus live8) false (sf
      false).fd ∧ (sf false).chatter = false ∧ 2 ≤ (sf false).data.length ∧ ((sf false).dest = 255 ∨ (bus
      live8).back.station ≠ 0 ∧ (sf false).dest = (bus live8).back.station) ∧ (bus live8).larder.events.length < 256) ∧
    (hearsWell (bus live8) false sfOther.fd ∧ sfOther.chatter = false ∧ 2 ≤ sfOther.data.length ∧ sfOther.dest ≠ 255 ∧
      sfOther.dest ≠ (bus live8).back.station ∧ ∀ p ∈ (bus live8).back.patterns, p = none) ∧
    (hearsWell (bus live8) true (sf true).fd ∧ (sf true).chatter = true ∧ 2 ≤ (sf true).data.length ∧ BitVec.toNat (sf
      true).item < 64) ∧
    (hearsWell stTempBad true sfBad.fd ∧ sfBad.chatter = true ∧ 2 ≤ sfBad.data.length ∧ BitVec.toNat sfBad.item < 64) ∧
    (hearsWell (bus live8) true (sf true).fd ∧ (sf true).chatter = true ∧ 8 ≤ (sf true).data.length) ∧
    (hearsWell (bus live8) true (sf true).fd ∧ (sf true).chatter = true ∧ 4 ≤ (sf true).data.length) ∧
    (hearsWell (bus live8) true (sf true).fd ∧ (sf true).chatter = true ∧ 8 ≤ (sf true).data.length ∧ ¬((bus
      live8).back.station ≠ 0 ∧ (sf true).src = (bus live8).back.station)) ∧
    (∃ f : ServiceFrame, hearsWell stAnnounced true f.fd ∧ f.chatter = true ∧ 8 ≤ f.data.length ∧
      stAnnounced.back.peers.length < 15 ∧ longAt f.data 0 ≠ Config.serialFuses) ∧
    (hearsWell (bus live8) (sf false).chatter (sf false).fd) ∧
    (hearsWell (bus live8) (sf true).chatter (sf true).fd) ∧
    (hearsWell (bus live8) (sf true).chatter (sf true).fd ∧ (sf true).chatter = true ∧ reservedKind 5 = true) ∧
    (hearsWell (bus live8) (sf false).chatter (sf false).fd ∧ (sf false).chatter = false ∧ reservedKind 5 = true) ∧
    (hearsWell (bus live8) sfOther.chatter sfOther.fd ∧ sfOther.chatter = false ∧ reservedKind 5 = true) ∧
    (classic.back.pstate = BusState.active ∧ classic.back.excepted = false ∧ classicalOnly classic = true ∧ (sf
      false).fd = true ∧ Instr.psuFault (sf false) ∈ [Instr.psuFault (sf false), Instr.overtemp (sf false),
      Instr.fanFault (sf false), Instr.peerFault (sf false), Instr.announce 0 (sf false), Instr.temp (sf false),
      Instr.psuStatus (sf false), Instr.fanStatus (sf false), Instr.peerStatus (sf false)]) :=
  ⟨by unfold hearsWell; decide +kernel, by unfold hearsWell; decide +kernel, by unfold hearsWell; decide +kernel,
    by unfold hearsWell; decide +kernel, ⟨by unfold hearsWell; decide +kernel, rfl, by decide, by decide, by decide, by
    simp [bus, live8, Backstair.reset]⟩, by unfold hearsWell; decide +kernel, by unfold hearsWell; decide +kernel,
    by unfold hearsWell; decide +kernel, by unfold hearsWell; decide +kernel, by unfold hearsWell; decide +kernel,
    other_serial, by unfold hearsWell; decide +kernel, by unfold hearsWell; decide +kernel,
    by unfold hearsWell; decide +kernel, by unfold hearsWell; decide +kernel, by unfold hearsWell; decide +kernel,
    by decide +kernel⟩

def stBusErr : State := bus { live8 with offered := some (0, alarmTx), buf0 := some alarmTx }

def stBusErrFlag : State := bus { live8 with offered := some (0, alarmTx), buf0 := some alarmTx }

def stBusErrAck : State :=
  bus { live8 with offered := some (0, alarmTx), buf0 := some alarmTx, alarm := { ClassS.reset with st := .passive, txc := 128 } }

def passive252 : Backstair := { live8 with alarm := { ClassS.reset with st := .passive, txc := 252 } }

def near128 : Backstair := { live8 with alarm := { ClassS.reset with txc := 120 } }

def svc (b : Backstair) : State := { bus b with straps := { run0.straps with svcOn := true } }

def stRecoverChatter : State := svc { live8 with chatter := { ClassS.reset with st := .busOff, txc := 256 } }

def offBus : Backstair :=
  { live8 with
    alarm := { ClassS.reset with st := .busOff, txc := 256, recovering := true }
    resume := [(0, 1, 1, 4000000000)] }

def stResumeEndTwo : State := bus { offBus with resume := [(0, 1, 1, 4000000000), (0, 2, 2, 4500000000)] }

def stAlarmsGoOn : State := bus { live8 with station := 0x11, buf0 := some alarmTx, alarms := [alarmTx] }

theorem witness_BackstairErrorsAndRecovery :
    (stBusErr.back.pstate = BusState.active ∧ stBusErr.back.excepted = false ∧ BusErrorKind.stuff ≠
      BusErrorKind.protocolException ∧ (classOf stBusErr false).st ≠ Confine.busOff ∧ overloadRun AfterFlag.nothing =
      false) ∧
    (stBusErrFlag.back.pstate = BusState.active ∧ stBusErrFlag.back.excepted = false ∧ BusErrorKind.bit ≠
      BusErrorKind.protocolException ∧ (classOf stBusErrFlag false).st ≠ Confine.busOff ∧ overloadRun
      AfterFlag.flagError = false) ∧
    (stBusErrAck.back.pstate = BusState.active ∧ stBusErrAck.back.excepted = false ∧ BusErrorKind.ack ≠
      BusErrorKind.protocolException ∧ (classOf stBusErrAck false).st ≠ Confine.busOff ∧ overloadRun AfterFlag.nothing =
      false) ∧
    ((bus live8).back.pstate = BusState.active ∧ (bus live8).back.excepted = false ∧ BusErrorKind.crc ≠
      BusErrorKind.protocolException ∧ (classOf (bus live8) true).st ≠ Confine.busOff ∧ overloadRun AfterFlag.nothing =
      false) ∧
    ((bus live8).back.pstate = BusState.active ∧ (bus live8).back.excepted = false ∧ BusErrorKind.form ≠
      BusErrorKind.protocolException ∧ (classOf (bus live8) true).st ≠ Confine.busOff ∧ overloadRun AfterFlag.dominant =
      false) ∧
    ((bus live8).back.pstate = BusState.active ∧ (bus live8).back.excepted = false ∧ BusErrorKind.form ≠
      BusErrorKind.protocolException ∧ (classOf (bus live8) true).st ≠ Confine.busOff ∧ overloadRun
      (AfterFlag.dominantRun 16) = false) ∧
    ((bus passive252).back.pstate = BusState.active ∧ (bus passive252).back.excepted = false ∧ BusErrorKind.form ≠
      BusErrorKind.protocolException ∧ (classOf (bus passive252) false).st ≠ Confine.busOff ∧ overloadRun
      (AfterFlag.dominantRun 248) = false) ∧
    ((bus live8).back.pstate = BusState.active ∧ (bus live8).back.excepted = false ∧ BusErrorKind.form ≠
      BusErrorKind.protocolException ∧ (classOf (bus live8) false).st ≠ Confine.busOff ∧ overloadRun
      (AfterFlag.dominantRun 240) = false) ∧
    ((bus near128).back.pstate = BusState.active ∧ (bus near128).back.excepted = false ∧ BusErrorKind.form ≠
      BusErrorKind.protocolException ∧ (classOf (bus near128) false).st ≠ Confine.busOff ∧ overloadRun AfterFlag.nothing
      = false) ∧
    ((bus live8).back.pstate = BusState.active ∧ (bus live8).back.excepted = false ∧ BusErrorKind.bit ≠
      BusErrorKind.protocolException ∧ (classOf (bus live8) false).st ≠ Confine.busOff ∧ ((classOf (bus live8)
      false).txc + if true = true then 263 / 8 * 8 else 8) < 264) ∧
    ((bus live8).back.pstate = BusState.active ∧ (bus live8).back.excepted = false ∧ BusErrorKind.bit ≠
      BusErrorKind.protocolException ∧ (classOf (bus live8) true).st ≠ Confine.busOff ∧ ((classOf (bus live8) true).txc
      + if false = true then 16 / 8 * 8 else 8) < 264) ∧
    ((bus live8).back.pstate = BusState.active ∧ (bus live8).back.excepted = false) ∧
    ((classOf stRecoverChatter true).st = Confine.busOff ∧ svcOn stRecoverChatter = true ∧ true = true) ∧
    ((classOf (svc offBus) false).st = Confine.busOff ∧ svcOn (svc offBus) = true ∧ false = false ∧ (svc
      offBus).back.alarm.recovering = true) ∧
    (takeDispatch (asked (bus offBus) 96 [0, 0, 0, 0]) 96 = some (msg 96 [0, 0, 0, 0]) ∧ (asked (bus offBus) 96 [0, 0,
      0, 0]).back.alarm.st = Confine.busOff) ∧
    (takeDispatch (asked (bus live8) 96 [0, 0, 0, 0]) 96 = some (msg 96 [0, 0, 0, 0]) ∧ (asked (bus live8) 96 [0, 0, 0,
      0]).back.alarm.st ≠ Confine.busOff) ∧
    ((bus offBus).back.resume = [(0, 1, 1, 4000000000)]) ∧
    (stResumeEndTwo.back.resume = [(0, 1, 1, 4000000000), (0, 2, 2, 4500000000)]) ∧
    (stAlarmsGoOn.back.pstate = BusState.active ∧ stAlarmsGoOn.back.finishing = false ∧ stAlarmsGoOn.back.alarm.st ≠
      Confine.busOff ∧ stAlarmsGoOn.back.station ≠ 0 ∧ stAlarmsGoOn.back.buf0 = some alarmTx ∧ alarmTx.id.getLsbD 28 =
      false ∧ stAlarmsGoOn.back.buf1 = none ∧ stAlarmsGoOn.back.buf2 = none) :=
  by and_intros <;> decide +kernel

def stPeerSend : State := bus { live8 with station := 0x11 }

def stAnnSend : State := bus { live8 with announceDue := some 6000000000 }

def stStation : State := bus { live8 with peers := [{ serial := 5, heard := 4999999999 }], peersSince := 2000000000 }

def stStationKept : State :=
  bus { live8 with station := 0x11, peers := [{ serial := 5, heard := 4999999999 }], peersSince := 2000000000 }

def stDieTemp : State := svc { live8 with station := 0x11 }

def stDieTempLow : State := svc { live8 with station := 0x11, dieMeasured := true, dieTempAt := 4999000000 }

theorem witness_BackstairOwnFramesAndStation :
    (stPeerSend.back.pstate = BusState.active ∧ stPeerSend.back.station ≠ 0) ∧
    (stAnnSend.back.pstate = BusState.active ∧ stAnnSend.back.announceDue = some 6000000000 ∧
      stAnnSend.back.announceStopped = false) ∧
    ((stStation.back.pstate = BusState.active ∨ stStation.back.pstate = BusState.integrating) ∧ ∀ p ∈
      stStation.back.peers, max stStation.now (stStation.back.peersSince + 3000000003) < p.heard + 5000000000) ∧
    ((stStationKept.back.pstate = BusState.active ∨ stStationKept.back.pstate = BusState.integrating) ∧ ∀ p ∈
      stStationKept.back.peers, max stStationKept.now (stStationKept.back.peersSince + 3000000003) < p.heard +
      5000000000) ∧
    (svcOn stDieTemp = true) ∧
    (svcOn stDieTempLow = true) :=
  by and_intros <;> decide +kernel

def packet : List Byte := [128, 64, 3]

def rdAs (start pers : Nat) : ReadAs := ⟨start, pers⟩

def slateNode : State :=
  { node 10 with legacy := { Legacy.reset with lost := true, blk := { LegacyBlock.factory with personality := 3 } } }

def reset1 : State := { dmxNode with legacy := { Legacy.reset with replaced := [(2, 1, 5000000000)] } }

def dmxOnly : State := node 2

def alone : State := { node 10 with legacy := { Legacy.reset with identify := true, identifyDue := 5100000000 } }

def stBlockWrite : State :=
  { run0 with
    start := { run0.start with auxGood := true }
    legacy := { Legacy.reset with writeDue := some 5200000000 } }

theorem witness_LegacyLevelsBlockAndHouse :
    (portServes dmxNode [LegacyUse.dmxRdm, LegacyUse.dmx] = true ∧ 88 ≤ 100 ∧ 8 ≤ 12 ∧ readsWith dmxNode (dmxNode.now -
      packetNs 100 12 packet.length) (rdAs 1 1) ∧ 1 ≤ (rdAs 1 1).start ∧ (rdAs 1 1).start + footprint (rdAs 1
      1).personality ≤ 513 ∧ (rdAs 1 1).start + footprint (rdAs 1 1).personality ≤ packet.length + 1) ∧
    (portServes slateNode [LegacyUse.dmxRdm, LegacyUse.dmx] = true ∧ 88 ≤ 88 ∧ 8 ≤ 8 ∧ readsWith slateNode
      (slateNode.now - packetNs 88 8 (packet ++ [90]).length) (rdAs 1 3) ∧ 1 ≤ (rdAs 1 3).start ∧ (rdAs 1 3).start +
      footprint (rdAs 1 3).personality ≤ 513 ∧ (rdAs 1 3).start + footprint (rdAs 1 3).personality ≤ (packet ++
      [90]).length + 1) ∧
    (portServes reset1 [LegacyUse.dmxRdm, LegacyUse.dmx] = true ∧ 88 ≤ 100 ∧ 8 ≤ 12 ∧ readsWith reset1 (reset1.now -
      packetNs 100 12 packet.length) (rdAs 2 1) ∧ 1 ≤ (rdAs 2 1).start ∧ (rdAs 2 1).start + footprint (rdAs 2
      1).personality ≤ 513 ∧ (rdAs 2 1).start + footprint (rdAs 2 1).personality ≤ packet.length + 1) ∧
    (portServes dmxOnly [LegacyUse.dmxRdm, LegacyUse.dmx] = true ∧ 88 ≤ 100 ∧ 8 ≤ 12 ∧ readsWith dmxOnly (dmxOnly.now -
      packetNs 100 12 packet.length) (rdAs 1 1) ∧ 1 < (rdAs 1 1).start + footprint (rdAs 1 1).personality) ∧
    (portServes dmxOnly [LegacyUse.dmxRdm, LegacyUse.dmx] = true ∧ (87 < 88 ∨ 12 < 8)) ∧
    (portServes dmxOnly [LegacyUse.dmxRdm, LegacyUse.dmx] = true ∧ 88 ≤ 100 ∧ 8 ≤ 12 ∧ 5 ≠ 0 ∧ ¬(5 = 204 ∧ legacyUse
      dmxOnly = LegacyUse.dmxRdm)) ∧
    (portServes dmxNode [LegacyUse.dmxRdm, LegacyUse.dmx] = true ∧ 88 ≤ 100 ∧ 8 ≤ 12 ∧ legacyUse dmxNode =
      LegacyUse.dmxRdm) ∧
    (portServes seen [LegacyUse.dmxRdm, LegacyUse.dmx] = true ∧ seen.legacy.dmxSeen = true ∧ seen.legacy.lost = false) ∧
    (coreOn alone = true ∧ standalone alone = true ∧ alone.legacy.identify = true) ∧
    (running stBlockWrite = true ∧ stBlockWrite.start.auxGood = true ∧ stBlockWrite.cellar.isolated = false ∧
      stBlockWrite.cellar.failAt = none ∧ stBlockWrite.legacy.writeDue = some 5200000000) ∧
    (takeDispatch (asked run0 97 (wordBytes 2147500032)) 97 = some (msg 97 (wordBytes 2147500032))) :=
  ⟨⟨by decide, by decide, by decide, Or.inl ⟨by simp [dmxNode, node, Legacy.reset, State.reset], rfl, rfl⟩, by decide,
    by decide, by decide⟩, ⟨by decide, by decide, by decide, Or.inl
    ⟨by simp [slateNode, node, Legacy.reset, State.reset], rfl, rfl⟩, by decide, by decide, by decide⟩, ⟨by decide,
    by decide, by decide, Or.inr ⟨[], (2, 1, 5000000000), [], rfl, by decide, by simp, rfl, rfl⟩, by decide, by decide,
    by decide⟩, ⟨by decide, by decide, by decide, Or.inl ⟨by simp [dmxOnly, node, Legacy.reset, State.reset], rfl, rfl⟩,
    by decide⟩, by and_intros <;> decide +kernel⟩

def rq (d : List Byte) : RdmRequest := { dest := rdmUid dmxNode, data := d }

def rb (d : List Byte) : RdmRequest := { dest := 0xFFFFFFFFFFFF, data := d }

def stUnknownSet : RdmRequest := { rq [2] with isSet := true }

def stBranchNot : State := { dmxNode with legacy := { Legacy.reset with muted := true } }

def makerNode : State := { dmxNode with arch := { Archive.reset with colophon := { Colophon.reset with esta := 0x1234 } } }

def rs (d : List Byte) : RdmRequest := { dest := rdmUid makerNode, data := d }

/-- A UID without a maker's identity is not the broadcast. -/
theorem rdmUid_short : (rb []).dest ≠ rdmUid dmxNode := by
  intro h
  have h := congrArg BitVec.toNat h
  have b := (Config.serialFuses.setWidth 32).isLt
  rw [show rdmUid dmxNode = (0 : BitVec 16) ++ Config.serialFuses.setWidth 32 from rfl, BitVec.toNat_append,
    show (0 : BitVec 16).toNat = 0 from rfl, Nat.zero_shiftLeft, Nat.zero_or,
    show (rb []).dest.toNat = 281474976710655 from rfl] at h
  omega

theorem witness_RdmAnswersAndSets :
    (portServes dmxNode [.dmxRdm] = true ∧ (rq []).dest = rdmUid dmxNode) ∧
    (portServes dmxNode [.dmxRdm] = true ∧ (rb []).dest = 0xFFFFFFFFFFFF) ∧
    (portServes dmxNode [LegacyUse.dmxRdm] = true ∧ (rq [3]).dest = rdmUid dmxNode ∧ (rq [3]).data = [3#8] ∧ 1 ≤ 3 ∧ 3 ≤
      3) ∧
    (portServes dmxNode [LegacyUse.dmxRdm] = true ∧ (rq [4]).dest = rdmUid dmxNode ∧ (rq [4]).data = [4] ∧ (4 = 0 ∨ 3 <
      4)) ∧
    (portServes dmxNode [LegacyUse.dmxRdm] = true ∧ (rq [2]).dest = rdmUid dmxNode ∧ ((rq [2]).isSet = false ∨
      dmxNode.arch.colophon.esta ≠ 0)) ∧
    (portServes dmxNode [LegacyUse.dmxRdm] = true ∧ stUnknownSet.dest = rdmUid dmxNode ∧ stUnknownSet.isSet = true ∧
      dmxNode.arch.colophon.esta = 0) ∧
    (portServes dmxNode [LegacyUse.dmxRdm] = true ∧ (rq [2]).dest = rdmUid dmxNode) ∧
    (portServes dmxNode [LegacyUse.dmxRdm] = true ∧ (rb []).dest ≠ rdmUid dmxNode ∧ rdmReaches dmxNode (rb []).dest =
      true) ∧
    (portServes dmxNode [LegacyUse.dmxRdm] = true ∧ dmxNode.legacy.muted = false ∧ 0 ≤ rdmUid dmxNode ∧ rdmUid dmxNode ≤
      281474976710655) ∧
    (portServes stBranchNot [LegacyUse.dmxRdm] = true ∧ ¬(stBranchNot.legacy.muted = false ∧ 0 ≤ rdmUid stBranchNot ∧
      rdmUid stBranchNot ≤ 281474976710655)) ∧
    (portServes makerNode [LegacyUse.dmxRdm] = true ∧ (rs [65]).dest = rdmUid makerNode ∧ makerNode.arch.colophon.esta ≠
      0) ∧
    (portServes makerNode [LegacyUse.dmxRdm] = true ∧ (rs (List.replicate 33 65)).dest = rdmUid makerNode ∧
      makerNode.arch.colophon.esta ≠ 0) ∧
    (portServes makerNode [LegacyUse.dmxRdm] = true ∧ (rs [2]).dest = rdmUid makerNode ∧ makerNode.arch.colophon.esta ≠
      0 ∧ 2 < 256 ∧ (rs [2]).data = [2#8]) ∧
    (portServes makerNode [LegacyUse.dmxRdm] = true ∧ (rs [4]).dest = rdmUid makerNode ∧ makerNode.arch.colophon.esta ≠
      0 ∧ 4 < 256 ∧ (rs [4]).data = [4#8]) ∧
    (portServes makerNode [LegacyUse.dmxRdm] = true ∧ (rs [2, 0]).dest = rdmUid makerNode ∧ makerNode.arch.colophon.esta
      ≠ 0 ∧ 512 < 65536 ∧ (rs [2, 0]).data = beBytes 2 512) ∧
    (portServes makerNode [LegacyUse.dmxRdm] = true ∧ (rs [2, 1]).dest = rdmUid makerNode ∧ makerNode.arch.colophon.esta
      ≠ 0 ∧ 513 < 65536 ∧ (rs [2, 1]).data = beBytes 2 513) ∧
    (portServes makerNode [LegacyUse.dmxRdm] = true ∧ (rs [1]).dest = rdmUid makerNode ∧ makerNode.arch.colophon.esta ≠
      0 ∧ 1 < 256 ∧ (rs [1]).data = [1#8]) ∧
    (portServes makerNode [LegacyUse.dmxRdm] = true ∧ (rs [0]).dest = rdmUid makerNode ∧ makerNode.arch.colophon.esta ≠
      0 ∧ 0 < 256 ∧ (rs [0]).data = [0#8]) :=
  ⟨⟨by decide, rfl⟩, ⟨by decide, rfl⟩, ⟨by decide, rfl, rfl, by decide, by decide⟩, ⟨by decide, rfl, rfl, by decide⟩,
    ⟨by decide, rfl, Or.inl rfl⟩, ⟨by decide, rfl, rfl, by decide⟩, ⟨by decide, rfl⟩, ⟨by decide, rdmUid_short, by simp
    [rdmReaches, rb]⟩, ⟨by decide, rfl, by bv_omega, by bv_omega⟩, ⟨by decide, fun h => absurd h.1 (by decide)⟩,
    ⟨by decide, rfl, by decide⟩, ⟨by decide, rfl, by decide⟩, ⟨by decide, rfl, by decide, by decide, rfl⟩, ⟨by decide,
    rfl, by decide, by decide, rfl⟩, ⟨by decide, rfl, by decide, by decide, rfl⟩, ⟨by decide, rfl, by decide, by decide,
    rfl⟩, ⟨by decide, rfl, by decide, by decide, rfl⟩, ⟨by decide, rfl, by decide, by decide, rfl⟩⟩

def stDaliFailMask : State := { node 3 with legacy := { Legacy.reset with blk := { Legacy.reset.blk with sysFail := 255 } } }

def stDaliBack : State := { node 3 with legacy := { Legacy.reset with daliFailed := true, lost := true } }

theorem witness_DaliLevelsAndSystemFailure :
    (portServes (node 3) [LegacyUse.dali] = true ∧ 128 < 255 ∧ (node 3).legacy.dapcUntil = 0 ∧ (65152 = BitVec.ofNat 24
      (65024 + 128) ∨ (node 3).legacy.blk.short < 64 ∧ 65152 = BitVec.ofNat 24 ((node 3).legacy.blk.short * 512 + 128)))
      ∧
    (portServes (node 3) [LegacyUse.dali] = true ∧ 65442 = 65442) ∧
    (portServes (node 3) [LegacyUse.dali] = true ∧ 24 ≠ 16) ∧
    (portServes (node 3) [LegacyUse.dali] = true ∧ (node 3).legacy.daliFailed = false) ∧
    (portServes stDaliFailMask [LegacyUse.dali] = true ∧ stDaliFailMask.legacy.daliFailed = false) ∧
    (portServes stDaliBack [LegacyUse.dali] = true ∧ stDaliBack.legacy.daliFailed = true) :=
  by and_intros <;> decide +kernel

def stTamper : State := { run0 with cellar := { Cellar.reset with tamperOpens := 1 } }

def stTamperCut : State := { run0 with cellar := { Cellar.reset with cell := .cutOff } }

theorem witness_TamperAndTheCell :
    (stTamper.cellar.cell ≠ CellState.cutOff) ∧
    (run0.cellar.cell ≠ CellState.cutOff) ∧
    (stTamperCut.cellar.cell = CellState.cutOff) :=
  ⟨by decide +kernel, by decide +kernel, by decide +kernel⟩

def stPersistDark : State := { run0 with start := { run0.start with auxGood := false } }

def kept : State := { run0 with start := { run0.start with auxGood := true } }

def stPersistNot : State := { kept with power := { kept.power with entryBegun := true } }

theorem witness_ArchiveErrorsAndTheHourlyPersist :
    (running run0 = true ∧ archiveRegion (792584) = 8 ∧ 792584 < 1048576) ∧
    (running run0 = true ∧ archiveRegion (8) = 1 ∧ 8 < 1048576) ∧
    (coreOn stPersistDark = true ∧ archiveOpen stPersistDark = false ∧ stPersistDark.cellar.failAt = none ∧
      stPersistDark.power.entryBegun = false ∧ 0 < 4 * 2 ^ 32 + stPersistDark.mantel.addend) ∧
    (coreOn kept = true ∧ archiveOpen kept = true ∧ kept.cellar.failAt = none ∧ kept.power.entryBegun = false ∧ 0 < 4 *
      2 ^ 32 + kept.mantel.addend) ∧
    (stPersistNot.cellar.failAt ≠ none ∨ stPersistNot.power.entryBegun = true) :=
  by and_intros <;> decide +kernel

def inField : State :=
  { run0 with start := { run0.start with auxGood := true }, cellar := { Cellar.reset with field := true } }

theorem witness_ReaderSession :
    (inField.cellar.field = true ∧ inField.cellar.quiet = false ∧ BitVec.toNat readerUid % 2 ^ 0 = 0 % 2 ^ 0) ∧
    (inField.cellar.field = true ∧ inField.cellar.quiet = false ∧ BitVec.toNat readerUid % 2 ^ 64 ≠ BitVec.toNat
      (readerUid + 1) % 2 ^ 64) ∧
    (inField.cellar.field = true ∧ readerUid + 1 ≠ readerUid) ∧
    (run0.cellar.field = false) ∧
    (inField.cellar.field = true) :=
  ⟨⟨rfl, rfl, by omega⟩, ⟨rfl, rfl, by bv_omega⟩, ⟨rfl, by bv_omega⟩, by decide +kernel, by decide +kernel⟩

def ch1 : Challenge := { counter := 1, nonce := 7, issued := 4000000000 }

def challenged : State := { inField with cellar := { inField.cellar with challenge := some ch1 } }

def keyedField : State := { challenged with arch := { Archive.reset with keys := [none, some kek, none] } }

def pinData : List Byte := wordBytes 0x41000123 ++ wordBytes 1 ++ List.replicate 16 0

def pinWrite : List Byte := pinData ++ tagOf kek (longBytes 1 ++ longBytes 7 ++ pinData)

theorem witness_CasePageReadsAndWrites :
    (inField.cellar.field = true ∧ inField.cellar.failAt = none ∧ 3 ≠ 8) ∧
    (inField.cellar.field = true ∧ inField.cellar.failAt = none ∧ inField.start.coreGood = true ∧ inField.start.sdGood =
      true ∧ inField.start.auxGood = true) ∧
    (inField.cellar.field = true ∧ 256 < 255 + 2) ∧
    (inField.cellar.field = true ∧ inField.cellar.failAt = none ∧ 8 < 20 ∧ 20 + 1 < 256) ∧
    (challenged.cellar.challenge = some ch1) ∧
    (inField.cellar.field = true ∧ 3 ≠ 9) ∧
    (inField.cellar.field = true) ∧
    (inField.cellar.field = true ∧ inField.cellar.failAt = none ∧ inField.cellar.challenge = none ∧
      inField.start.auxGood = true) ∧
    (keyedField.cellar.field = true ∧ keyedField.cellar.failAt = none ∧ keyedField.start.coreGood = true ∧
      keyedField.start.sdGood = true ∧ keyedField.start.auxGood = true ∧ keyedField.cellar.challenge = some ch1 ∧
      BitVec.setWidth 32 ch1.counter = wordAt pinWrite 4 ∧ keyedField.now ≤ ch1.issued + 10000000000 ∧ writeMalformed
      (wordAt pinWrite 0) = false ∧ roleKey keyedField (field (wordAt pinWrite 0) 31 30) = some kek ∧ tagOf kek
      (longBytes ch1.counter ++ longBytes ch1.nonce ++ List.take 24 pinWrite) = List.take 8 (List.drop 24 pinWrite)) :=
  by and_intros <;> decide +kernel

def resting (p : Power) : State :=
  { run0 with start := { run0.start with auxGood := true }, power := { p with driveGood := true } }

def stS1 : State := resting { Power.reset with entering := some (.s1, 5001000000) }

def stS2Begin : State := resting { Power.reset with entering := some (.s2, 5001000000) }

def stS3Begin : State := resting { Power.reset with entering := some (.s3, 5001000000) }

def stS1Forced : State :=
  { stS1 with prot := { stS1.prot with force := some { limitS := 0, width := 1, codes := [2], rows := [] } } }

def stS4Begin : State :=
  { resting { Power.reset with entering := some (.s4, 5001000000) } with
    spine := { Spine.reset with ringMap := some { epoch := 3, size := 4, inserted := [true, true, true, true] } } }

def stLate : State := resting { Power.reset with entering := some (.s2, 4000000000) }

def stS4Refused : State := { stS4Begin with spine := { stS4Begin.spine with stuck := true } }

def stS2Enter : State := resting { Power.reset with entering := some (.s2, 5001000000), entryBegun := true }

def stS3Enter : State := resting { Power.reset with entering := some (.s3, 5001000000), entryBegun := true }

def stS4Enter : State := resting { Power.reset with entering := some (.s4, 5001000000), entryBegun := true }

def stS3Jtag : State := { stS3Enter with prot := { stS3Enter.prot with jtagOn := true } }

def busyS2 : State :=
  { resting { Power.reset with entering := some (.s2, 5001000000) } with
    larder := { Larder.reset with events := [default] } }

def anchor1 : Anchor :=
  { ringCount := 0, time := 0, addend := 0, p := 0, epoch := 0, lock := .locked, alarm := some 6000000000 }

def s2node : State :=
  { resting { Power.reset with st := .s2 } with
    back := { Backstair.reset with pstate := .silent }
    mantel := { run0.mantel with anchor := some anchor1 } }

def stWakeS1 : State := resting { Power.reset with st := .s1, waking := some 1, wakeAt := 5000000000 }

def stWakeS2 : State := { s2node with power := { s2node.power with waking := some 3, wakeAt := 5000000000 } }

def stWakeS3 : State := { s2node with power := { s2node.power with st := .s3, waking := some 1, wakeAt := 4000000000 } }

def stReversed : State :=
  { resting { Power.reset with entering := some (.s3, 5001000000), entryBegun := true, waking := some 1, wakeAt := 5000000000 } with
    mantel := { run0.mantel with anchor := some anchor1 }
    cellar := { run0.cellar with unreported := [default] } }

theorem witness_RestStatesAndWakes :
    (stS1.power.entering = some (Rest.s1, 5001000000) ∧ stS1.power.waking = none ∧ coreOn stS1 = true ∧ 0 < 4 * 2 ^ 32 +
      stS1.mantel.addend ∧ advanceToSeam stS1 5001000000 = advanceToSeam stS1 5001000000 ∧ Rest.s1 = Rest.s1 ∧ forcedOn
      stS1 = false) ∧
    (stS2Begin.power.entering = some (Rest.s2, 5001000000) ∧ stS2Begin.power.waking = none ∧ coreOn stS2Begin = true ∧ 0
      < 4 * 2 ^ 32 + stS2Begin.mantel.addend ∧ advanceToSeam stS2Begin 5001000000 = advanceToSeam stS2Begin 5001000000 ∧
      Rest.s2 = Rest.s2 ∧ stS2Begin.power.entryBegun = false ∧ hallQuiet stS2Begin = true ∧ mNs (advanceToSeam stS2Begin
      5001000000) ≤ 5001000000 + 1000000) ∧
    (stS3Begin.power.entering = some (Rest.s3, 5001000000) ∧ stS3Begin.power.waking = none ∧ coreOn stS3Begin = true ∧ 0
      < 4 * 2 ^ 32 + stS3Begin.mantel.addend ∧ advanceToSeam stS3Begin 5001000000 = advanceToSeam stS3Begin 5001000000 ∧
      Rest.s3 = Rest.s3 ∧ stS3Begin.power.entryBegun = false ∧ hallQuiet stS3Begin = true ∧ mNs (advanceToSeam stS3Begin
      5001000000) ≤ 5001000000 + 1000000 ∧ stS3Begin.cellar.failAt = none) ∧
    (stS1Forced.power.entering = some (Rest.s1, 5001000000) ∧ stS1Forced.power.waking = none ∧ coreOn stS1Forced = true
      ∧ 0 < 4 * 2 ^ 32 + stS1Forced.mantel.addend ∧ advanceToSeam stS1Forced 5001000000 = advanceToSeam stS1Forced
      5001000000 ∧ Rest.s1 = Rest.s1 ∧ forcedOn stS1Forced = true) ∧
    (stS4Begin.power.entering = some (Rest.s4, 5001000000) ∧ stS4Begin.power.waking = none ∧ coreOn stS4Begin = true ∧ 0
      < 4 * 2 ^ 32 + stS4Begin.mantel.addend ∧ advanceToSeam stS4Begin 5001000000 = advanceToSeam stS4Begin 5001000000 ∧
      Rest.s4 = Rest.s4 ∧ stS4Begin.power.entryBegun = false ∧ hallQuiet stS4Begin = true ∧ mNs (advanceToSeam stS4Begin
      5001000000) ≤ 5001000000 + 1000000 ∧ bypassRefusal (advanceToSeam stS4Begin 5001000000) false = none ∧
      stS4Begin.spine.returnWin = none ∧ stS4Begin.cellar.failAt = none) ∧
    (stLate.power.entering = some (Rest.s2, 4000000000) ∧ stLate.power.waking = none ∧ coreOn stLate = true ∧ 0 < 4 * 2
      ^ 32 + stLate.mantel.addend ∧ advanceToSeam stLate 4000000000 = advanceToSeam stLate 4000000000 ∧ Rest.s2 ≠
      Rest.s0 ∧ Rest.s2 ≠ Rest.s1 ∧ stLate.power.entryBegun = false ∧ 4000000000 + 1000000 < mNs (advanceToSeam stLate
      4000000000)) ∧
    (stS4Refused.power.entering = some (Rest.s4, 5001000000) ∧ stS4Refused.power.waking = none ∧ coreOn stS4Refused =
      true ∧ 0 < 4 * 2 ^ 32 + stS4Refused.mantel.addend ∧ advanceToSeam stS4Refused 5001000000 = advanceToSeam
      stS4Refused 5001000000 ∧ Rest.s4 = Rest.s4 ∧ stS4Refused.power.entryBegun = false ∧ hallQuiet stS4Refused = true ∧
      mNs (advanceToSeam stS4Refused 5001000000) ≤ 5001000000 + 1000000 ∧ bypassRefusal (advanceToSeam stS4Refused
      5001000000) false = some 2) ∧
    (stS2Enter.power.entering = some (Rest.s2, 5001000000) ∧ stS2Enter.power.waking = none ∧ coreOn stS2Enter = true ∧ 0
      < 4 * 2 ^ 32 + stS2Enter.mantel.addend ∧ advanceToSeam stS2Enter 5001000000 = advanceToSeam stS2Enter 5001000000 ∧
      Rest.s2 = Rest.s2 ∧ stS2Enter.power.entryBegun = true) ∧
    (stS3Enter.power.entering = some (Rest.s3, 5001000000) ∧ stS3Enter.power.waking = none ∧ coreOn stS3Enter = true ∧ 0
      < 4 * 2 ^ 32 + stS3Enter.mantel.addend ∧ advanceToSeam stS3Enter 5001000000 = advanceToSeam stS3Enter 5001000000 ∧
      Rest.s3 = Rest.s3 ∧ stS3Enter.power.entryBegun = true ∧ stS3Enter.prot.jtagOn = false) ∧
    (stS4Enter.power.entering = some (Rest.s4, 5001000000) ∧ stS4Enter.power.waking = none ∧ coreOn stS4Enter = true ∧ 0
      < 4 * 2 ^ 32 + stS4Enter.mantel.addend ∧ advanceToSeam stS4Enter 5001000000 = advanceToSeam stS4Enter 5001000000 ∧
      Rest.s4 = Rest.s4 ∧ stS4Enter.power.entryBegun = true ∧ mode stS4Enter = Mode.native ∧ stS4Enter.prot.jtagOn =
      false) ∧
    (stS3Jtag.power.entering = some (Rest.s3, 5001000000) ∧ stS3Jtag.power.waking = none ∧ coreOn stS3Jtag = true ∧ 0 <
      4 * 2 ^ 32 + stS3Jtag.mantel.addend ∧ advanceToSeam stS3Jtag 5001000000 = advanceToSeam stS3Jtag 5001000000 ∧
      (Rest.s3 = Rest.s3 ∨ Rest.s3 = Rest.s4) ∧ stS3Jtag.power.entryBegun = true ∧ stS3Jtag.prot.jtagOn = true) ∧
    (busyS2.power.entering = some (Rest.s2, 5001000000) ∧ busyS2.power.waking = none ∧ coreOn busyS2 = true ∧ 0 < 4 * 2
      ^ 32 + busyS2.mantel.addend ∧ advanceToSeam busyS2 5001000000 = advanceToSeam busyS2 5001000000 ∧ Rest.s2 ≠
      Rest.s0 ∧ Rest.s2 ≠ Rest.s1 ∧ busyS2.power.entryBegun = false ∧ hallQuiet busyS2 = false) ∧
    ((s2node.power.st = Rest.s2 ∨ s2node.power.st = Rest.s3) ∧ s2node.power.waking = none ∧ s2node.mantel.anchor = some
      anchor1 ∧ anchor1.alarm = some 6000000000 ∧ 0 < 4 * 2 ^ 32 + s2node.mantel.addend) ∧
    ((s2node.power.st = Rest.s2 ∨ s2node.power.st = Rest.s3) ∧ s2node.power.waking = none ∧ s2node.back.pstate =
      BusState.silent) ∧
    (stWakeS1.power.waking = some 1 ∧ stWakeS1.power.entryBegun = false) ∧
    (stWakeS2.power.waking = some 3 ∧ stWakeS2.power.entryBegun = false) ∧
    (stWakeS3.power.waking = some 1 ∧ stWakeS3.power.entryBegun = false) ∧
    (stReversed.power.waking = some 1 ∧ stReversed.power.entryBegun = true ∧ stReversed.power.entering = some (Rest.s3,
      5001000000) ∧ stReversed.power.st = Rest.s0) ∧
    (s2node.power.st = Rest.s2 ∧ s2node.power.waking = none ∧ archiveOpen s2node = true ∧ s2node.cellar.failAt = none ∧
      0 < 4 * 2 ^ 32 + s2node.mantel.addend) :=
  ⟨⟨rfl, rfl, by decide +kernel, by decide +kernel, rfl, by decide +kernel⟩, ⟨rfl, rfl, by decide +kernel,
    by decide +kernel, rfl, by decide +kernel⟩, ⟨rfl, rfl, by decide +kernel, by decide +kernel, rfl,
    by decide +kernel⟩, ⟨rfl, rfl, by decide +kernel, by decide +kernel, rfl, by decide +kernel⟩, ⟨rfl, rfl,
    by decide +kernel, by decide +kernel, rfl, by decide +kernel⟩, ⟨rfl, rfl, by decide +kernel, by decide +kernel, rfl,
    by decide +kernel⟩, ⟨rfl, rfl, by decide +kernel, by decide +kernel, rfl, by decide +kernel⟩, ⟨rfl, rfl,
    by decide +kernel, by decide +kernel, rfl, by decide +kernel⟩, ⟨rfl, rfl, by decide +kernel, by decide +kernel, rfl,
    by decide +kernel⟩, ⟨rfl, rfl, by decide +kernel, by decide +kernel, rfl, by decide +kernel⟩, ⟨rfl, rfl,
    by decide +kernel, by decide +kernel, rfl, by decide +kernel⟩, ⟨rfl, rfl, by decide +kernel, by decide +kernel, rfl,
    by decide +kernel⟩, by and_intros <;> decide +kernel⟩

def leafUp : State := { node 8 with leaf := { Gathered.reset with upHop := true, position := some 2 } }

def leafN : State :=
  { node 8 with leaf := { Gathered.reset with upHop := true, downHop := true, position := some 2, pathDelay16 := 40 } }

def headN : State := { node 5 with leaf := { Gathered.reset with downHop := true } }

theorem witness_LeafHopsAndPositions :
    (linkRuns (node 8) = true ∧ mode (node 8) = Mode.leaf ∧ (node 8).leaf.upHop = false) ∧
    (linkRuns (node 5) = true ∧ mode (node 5) = Mode.head ∧ (node 5).leaf.downHop = false) ∧
    (linkRuns leafUp = true ∧ mode leafUp = Mode.leaf ∧ leafUp.leaf.downHop = false ∧ leafUp.leaf.position = some 2) ∧
    (linkRuns leafN = true ∧ leafN.leaf.upHop = true) ∧
    (linkRuns leafN = true ∧ leafN.leaf.downHop = true) ∧
    (linkRuns headN = true ∧ mode headN = Mode.head ∧ headN.leaf.downHop = true) ∧
    (linkRuns headN = true ∧ mode headN = Mode.head) ∧
    (linkRuns leafN = true ∧ mode leafN = Mode.leaf ∧ 1 ≠ 63) ∧
    (linkRuns leafN = true ∧ mode leafN = Mode.leaf ∧ 63 = 63) ∧
    (linkRuns leafN = true ∧ mode leafN = Mode.leaf ∧ leafN.leaf.downHop = true ∧ leafN.leaf.position = some 2) :=
  by and_intros <;> decide +kernel

def own1 : OwnFolio :=
  { kind := 3
    spec := 16
    seq := 1
    payload := [1]
    dueEast := false
    dueWest := true
    leafSrc := none
    unassignedOk := true }

def stLqOwn : State := { leafN with larder := { Larder.reset with reports := [own1] } }

def cf : Folio := mkFolio 3 0 9 0x0010 1 0 [1, 2, 3, 4]

def headUp : State := { ports (node 5) .up with leaf := { Gathered.reset with downHop := true } }

def gspF : Folio := mkFolio 6 0 9 5 1 0 []

def fullHead : State :=
  { headUp with larder := { Larder.reset with reports := [{ own1 with payload := List.replicate 16320 0 }] } }

def stLqHead : State := { headUp with leaf := { headUp.leaf with queue := [(3, cf)] } }

theorem witness_CarriedFoliosPassAndArrive :
    (leafLinked leafN = true) ∧
    (leafLinked leafN = true ∧ leafN.leaf.position ≠ some 4 ∧ 4 ≠ 0 ∧ leafN.leaf.downHop = true) ∧
    (leafLinked leafN = true ∧ leafN.leaf.position = some 2 ∧ coreOn leafN = true) ∧
    (leafLinked leafN = true ∧ 0 = 0 ∧ leafN.leaf.position ≠ some 0 ∧ leafN.leaf.downHop = true ∧ coreOn leafN = true) ∧
    (leafLinked leafN = true ∧ leafN.larder.reports = []) ∧
    (leafLinked stLqOwn = true ∧ stLqOwn.leaf.position = some 2 ∧ stLqOwn.larder.reports = [own1] ∧
      stLqOwn.larder.waiting = [] ∧ mayLeave stLqOwn own1 = true) ∧
    (linkRuns headUp = true ∧ mode headUp = Mode.head ∧ coreOn headUp = true ∧ portUp headUp Port.east = true ∧
      headUp.larder.waiting = [] ∧ reportLevel headUp + (cf.payload.length + 83) / 64 ≤ 248) ∧
    (linkRuns fullHead = true ∧ mode fullHead = Mode.head ∧ coreOn fullHead = true ∧ Folio.kind gspF = 6 ∧ 256 ≤
      reportLevel fullHead ∧ (∀ w ∈ fullHead.larder.waiting, w.kind = 3 ∨ w.kind = 4 ∨ w.kind = 5) ∧ ∀ w ∈
      fullHead.larder.waiting, isAck w = false) ∧
    (linkRuns stLqHead = true ∧ mode stLqHead = Mode.head ∧ stLqHead.leaf.downHop = true ∧ stLqHead.leaf.queue = [(3,
      cf)]) :=
  by and_intros <;> decide +kernel

def headIn : State := { headN with spine := { headN.spine with bypHold := true } }

def stTimeHeld : State := { leafN with mantel := { leafN.mantel with lock := .holdover } }

def stTimeFirst : State := { leafN with mantel := { leafN.mantel with lock := .unset } }

def stPRespMany : State :=
  { leafN with leaf := { leafN.leaf with pdelaySent := some 100, delays := [5, 900, 7, 80, 6, 70, 90, 40] } }

def stPResp : State := { leafN with leaf := { leafN.leaf with pdelaySent := some 100 } }

theorem witness_LeafTimeAndPathDelay :
    (linkRuns headN = true ∧ mode headN = Mode.head ∧ coreOn headN = true ∧ headN.leaf.downHop = true ∧
      headN.spine.bypHold = false) ∧
    (linkRuns headIn = true ∧ mode headIn = Mode.head ∧ coreOn headIn = true ∧ headIn.leaf.downHop = true ∧
      headIn.spine.bypHold = true) ∧
    (leafLinked leafN = true ∧ coreOn leafN = true ∧ leafN.leaf.downHop = true) ∧
    (leafLinked stTimeHeld = true ∧ coreOn stTimeHeld = true ∧ stTimeHeld.leaf.downHop = true) ∧
    (leafLinked stTimeFirst = true ∧ coreOn stTimeFirst = true ∧ stTimeFirst.leaf.downHop = true) ∧
    (coreOn leafN = true ∧ mode leafN = Mode.leaf ∧ leafN.mantel.lock = Lock.locked) ∧
    (linkRuns headN = true ∧ mode headN ≠ Mode.leafFz ∧ headN.leaf.downHop = true) ∧
    (leafLinked leafN = true ∧ leafN.leaf.position = some 2) ∧
    (leafLinked stPRespMany = true ∧ stPRespMany.leaf.position = some 2 ∧ stPRespMany.leaf.pdelaySent = some 100) ∧
    (leafLinked stPResp = true ∧ stPResp.leaf.position = some 2 ∧ stPResp.leaf.pdelaySent = some 100) :=
  by and_intros <;> decide +kernel

def fzN : State := { node 9 with leaf := { Gathered.reset with upHop := true, downHop := true, chip := some 3 } }

def opened9 : Slot := { Slot.empty with st := .receiving, quire := 1, depth := 3, pres := unlatched }

def fzFrame : State := { fzN with larder := { Larder.reset with slots := [opened9, Slot.empty, Slot.empty] } }

def fzTwinned : State :=
  { fzN with larder := { Larder.reset with slots := [{ opened9 with covered := [1] }, Slot.empty, Slot.empty] } }

def stFzTwin : Slot := { opened9 with covered := [1] }

def noBytes : List Byte := []

/-- Bytes 64 to 127 lie in granule 1 alone. -/
theorem one_granule (g : Nat) (h : 64 / 64 ≤ g) (h' : 64 * g < 64 + (List.replicate 64 (7 : Byte)).length) : g ∈ [1] := by
  simp only [List.length_replicate] at h'
  have : g = 1 := by omega
  simp [this]


theorem witness_FzLeafPackets :
    (fzHears fzTwinned = true ∧ fzTwinned.leaf.downHop = true ∧ fzTwinned.leaf.chip = some 3 ∧ 3 ≠ 127 ∧ 1 ≤
      (List.replicate 64 7).length ∧ 64 + (List.replicate 64 7).length ≤ sigSize fzTwinned 0 3 ∧ slotOf fzTwinned
      (fzTwinned.leaf.fzFrame + 1) = some 0 ∧ fzTwinned.larder.slots[0]? = some stFzTwin ∧ ∀ (g : ℕ), 64 / 64 ≤ g → 64 *
      g < 64 + (List.replicate 64 7).length → g ∈ stFzTwin.covered) ∧
    (fzHears fzN = true ∧ fzN.leaf.downHop = true ∧ fzN.leaf.chip ≠ some 4 ∧ 4 ≠ 127) ∧
    (fzHears fzN = true ∧ fzN.leaf.downHop = true) ∧
    (fzHears fzFrame = true ∧ fzFrame.leaf.downHop = true ∧ fzFrame.leaf.chip = some 3 ∧ 3 ≠ 127 ∧ 1 ≤ (List.replicate
      64 7).length ∧ 64 + (List.replicate 64 7).length ≤ sigSize fzFrame 0 3 ∧ slotOf fzFrame (fzFrame.leaf.fzFrame + 1)
      = some 0 ∧ fzFrame.larder.slots[0]? = some opened9 ∧ opened9.data.wf = true ∧ pixelsTwin opened9 64
      (List.replicate 64 7).length = false) ∧
    (fzHears fzN = true ∧ fzN.leaf.downHop = true ∧ fzN.leaf.chip = some 3 ∧ 3 ≠ 127 ∧ (noBytes = [] ∨ sigSize fzN 0 3 <
      0 + noBytes.length)) ∧
    (fzHears fzN = true ∧ fzN.leaf.downHop = true ∧ fzN.leaf.chip = some 3 ∧ 1 ≤ 60 ∧ 60 ≤ 240) ∧
    (fzHears fzN = true ∧ fzN.leaf.downHop = true ∧ fzN.leaf.chip = some 3 ∧ 3 ≠ 127) :=
  ⟨⟨by decide +kernel, rfl, rfl, by decide, by decide +kernel, by decide +kernel, by decide +kernel, rfl, one_granule⟩,
    by and_intros <;> decide +kernel⟩

def srcBody (t : Word) : List Byte := wordBytes t ++ beBytes 8 0x55

def sameSrc : State := { run0 with arch := { Archive.reset with source := some (.ringMaster 7 0x55) } }

def syncAux : State := { run0 with straps := { run0.straps with levels := List.replicate 9 0 ++ [2, 0, 0] } }

def asymBody (a b : Word) : List Byte := wordBytes a ++ wordBytes b

def ph : PtpHead :=
  { srcZero := true
    version := 2
    minor := 1
    domain := 0
    identity := 0x55
    seqId := 9
    correction := 0
    dest := 0xFFF }

def heardM : State :=
  { ports run0 .up with
    arch := { Archive.reset with source := some (.ringMaster 0 0x55) }
    addr := { Addressing.reset with addr := 5 } }

def noMaster : State := { heardM with arch := Archive.reset }

def stFirstMasterOther : State := { noMaster with mantel := { noMaster.mantel with firstMaster := some 0x99 } }

def heardDelay : State :=
  { heardM with mantel := { heardM.mantel with west := { PortSync.reset with delays := [400], d := 200 } } }

def stAsymUsed : State := { heardDelay with arch := { heardDelay.arch with asymWest := 3000 } }

theorem witness_TimeSourceAndAsymmetry :
    (takeDispatch (asked run0 64 (srcBody 7)) 64 = some (msg 64 (srcBody 7)) ∧ sourceType (msg 64 (srcBody 7)) = 0) ∧
    (takeDispatch (asked sameSrc 64 (srcBody 7)) 64 = some (msg 64 (srcBody 7)) ∧ sourceType (msg 64 (srcBody 7)) = 0) ∧
    (takeDispatch (asked syncAux 64 (srcBody 268435456)) 64 = some (msg 64 (srcBody 268435456)) ∧ sourceType (msg 64
      (srcBody 268435456)) = 1 ∧ hasSyncIn (asked syncAux 64 (srcBody 268435456)) = true) ∧
    (takeDispatch (asked run0 64 (srcBody 268435456)) 64 = some (msg 64 (srcBody 268435456)) ∧ sourceType (msg 64
      (srcBody 268435456)) = 1 ∧ hasSyncIn (asked run0 64 (srcBody 268435456)) = false) ∧
    (takeDispatch (asked run0 64 (srcBody 536870912)) 64 = some (msg 64 (srcBody 536870912)) ∧ sourceType (msg 64
      (srcBody 536870912)) = 2) ∧
    (takeDispatch (asked run0 65 (asymBody 1073741824 100000)) 65 = some (msg 65 (asymBody 1073741824 100000))) ∧
    (takeDispatch (asked run0 65 (asymBody 0 4294867296)) 65 = some (msg 65 (asymBody 0 4294867296))) ∧
    (takeDispatch (asked run0 65 (asymBody 1073741824 4294867295)) 65 = some (msg 65 (asymBody 1073741824 4294867295)))
      ∧
    (hears noMaster Port.west = true ∧ mode noMaster ≠ Mode.standalone ∧ noMaster.arch.source = none ∧ ptpOk ph = true ∧
      ph.dest = 4095 ∧ ph.domain = 0 ∧ -7 ≤ -4 ∧ -4 ≤ 0 ∧ (noMaster.mantel.firstMaster = none ∨
      noMaster.mantel.firstMaster = some ph.identity)) ∧
    (hears stFirstMasterOther Port.west = true ∧ mode stFirstMasterOther ≠ Mode.standalone ∧
      stFirstMasterOther.arch.source = none ∧ ptpOk ph = true ∧ ph.dest = 4095 ∧ ph.domain = 0 ∧ -7 ≤ -4 ∧ -4 ≤ 0 ∧
      stFirstMasterOther.mantel.firstMaster = some 153 ∧ 153 ≠ ph.identity) ∧
    (∀ (w : ℕ × ℤ × ℤ), stAsymUsed.mantel.asymWas = some w → w.1 ≠ stAsymUsed.now) :=
  by and_intros <;> decide +kernel

def stSyncElsewhere : PtpHead := { ph with dest := 5 }

def stSyncDomain : PtpHead := { ph with domain := 1 }

def stSyncOther : PtpHead := { ph with identity := 0x56 }

def following : State :=
  { heardDelay with
    mantel :=
      { heardDelay.mantel with west := { heardDelay.mantel.west with pending := some (9, 5, 0, 0, 4999999000) } } }

def asking : State :=
  { heardM with
    mantel := { heardM.mantel with west := { PortSync.reset with sync := some (100, 300, 0), t3 := some (9, 400) } } }

def phR : PtpHead := { ph with dest := 5 }

theorem witness_SyncMessagesMeasure :
    (hears heardM Port.west = true ∧ named heardM = some (0, some ph.identity) ∧ ptpOk ph = true ∧ ph.dest = 4095 ∧
      ph.domain = 0 ∧ -7 ≤ -4 ∧ -4 ≤ 0) ∧
    (hears heardDelay Port.west = true ∧ named heardDelay = some (0, some ph.identity) ∧ ptpOk ph = true ∧ ph.dest =
      4095 ∧ ph.domain = 0 ∧ -7 ≤ 0 ∧ 0 ≤ 0) ∧
    (hears heardM Port.west = true ∧ named heardM = some (0, some 85) ∧ ptpOk stSyncElsewhere = true ∧
      stSyncElsewhere.dest ≠ 4095) ∧
    (hears heardM Port.west = true ∧ named heardM = some (0, some 85) ∧ ptpOk stSyncDomain = true ∧ stSyncDomain.dest =
      4095 ∧ stSyncDomain.domain ≠ 0) ∧
    (hears heardM Port.west = true ∧ named heardM = some (0, some 85) ∧ ptpOk stSyncOther = true ∧ stSyncOther.dest =
      4095 ∧ stSyncOther.domain = 0 ∧ some 85 = some 85 ∧ 85 ≠ stSyncOther.identity) ∧
    (hears following Port.west = true ∧ named following = some (0, some ph.identity) ∧ ptpOk ph = true ∧ ph.dest = 4095
      ∧ ph.domain = 0 ∧ (portSync following Port.west).pending = some (ph.seqId, 5, 0, 0, 4999999000) ∧ following.now ≤
      4999999000 + syncInterval following) ∧
    (hears asking Port.west = true ∧ named asking = some (phR.domain, some 85) ∧ ptpOk phR = true ∧ phR.dest =
      asking.addr.addr ∧ (portSync asking Port.west).sync = some (100, 300, 0) ∧ (portSync asking Port.west).t3 = some
      (phR.seqId, 400)) ∧
    (hears heardM Port.east = true ∧ assigned heardM = true ∧ leafRole heardM = false ∧ heardM.larder.waiting = [] ∧
      reportLevel heardM + 1 ≤ 248) :=
  by and_intros <;> decide +kernel

def lossMet : State :=
  { heardM with
    mantel := { heardM.mantel with lastSync := 5000000000 }
    pending := [Instr.sync .west ph 0 false 5000000000 50000000000] }

def edged (m : Mantel) : State := { syncAux with arch := { Archive.reset with source := some (.syncIn 0 60) }, mantel := m }

def stEdgeOdd : State := edged { run0.mantel with lastEdge := some 49000000000 }

def stEdgeStale : State := edged { run0.mantel with lastEdge := some 40000000000 }

def stEdgeLocks : State := edged { run0.mantel with lock := .acquiring, lockRun := 7 }

def stEdgeFar : State := edged { run0.mantel with bigRun := 2 }

def pendSeam : PendingSet :=
  { set := { Timing.reset with epoch := 1 }
    apply := 0
    due := 4999990000
    chan := 0
    seq := 1
    no := 1
    silent := false }

def stepping (j : Int) : State := { run0 with mantel := { run0.mantel with stepPending := some j } }

def stepF : State := stepping 4294967296000

def stepSet : State := { stepF with press := { run0.press with pendingSet := some pendSeam } }

def steppedTo (s : State) : State := advanceToSeam s (nextSeam s)

def stepSetSeam : State := steppedTo stepSet

def stepFSeam : State := steppedTo stepF

def stepB : State := stepping (-4294967296000)

def stepBSeam : State := steppedTo stepB

def stepBC : State := { stepB with mantel := { stepB.mantel with censuses := [armedC, { armedC with t := 1000 }] } }

def stepBCSeam : State := steppedTo stepBC

def stepBB : State := stepping (-4294967296000000000 * 2)

def stepBBSeam : State := steppedTo stepBB

def step0 : State := stepping 0

def step0Seam : State := steppedTo step0

def stHoldE : State := { run0 with mantel := { run0.mantel with hold := true, p := 5000001000 * 2 ^ 32 } }

theorem witness_MantelLossStepsAndHolds :
    (ruledSource (edged run0.mantel) = some (TimeSource.syncIn 0 60) ∧ 60 ≠ 0 ∧ coreOn (edged run0.mantel) = true ∧
      hasSyncIn (edged run0.mantel) = true ∧ ∀ (e : ℕ), (edged run0.mantel).mantel.lastEdge = some e → edgeStale e
      50000000000 60 = true) ∧
    (ruledSource stEdgeStale = some (TimeSource.syncIn 0 60) ∧ 60 ≠ 0 ∧ coreOn stEdgeStale = true ∧ hasSyncIn
      stEdgeStale = true ∧ ∀ (e : ℕ), stEdgeStale.mantel.lastEdge = some e → edgeStale e 49000000700 60 = true) ∧
    (ruledSource stEdgeLocks = some (TimeSource.syncIn 0 60) ∧ 60 ≠ 0 ∧ coreOn stEdgeLocks = true ∧ hasSyncIn
      stEdgeLocks = true ∧ ∀ (e : ℕ), stEdgeLocks.mantel.lastEdge = some e → edgeStale e 50000000000 60 = true) ∧
    (ruledSource stEdgeFar = some (TimeSource.syncIn 0 60) ∧ 60 ≠ 0 ∧ coreOn stEdgeFar = true ∧ hasSyncIn stEdgeFar =
      true ∧ ∀ (e : ℕ), stEdgeFar.mantel.lastEdge = some e → edgeStale e 50001000000 60 = true) ∧
    (coreOn stepSet = true ∧ stepSet.mantel.stepPending = some 4294967296000 ∧ stepSetSeam = advanceToSeam stepSet
      (nextSeam stepSet) ∧ 0 ≤ (stepSetSeam.mantel.time : Int) + 4294967296000 ∧ stepSetSeam.mantel.time ≤
      stepSetSeam.mantel.p ∧ 4294967296000 ≠ 0 ∧ stepSet.press.pendingSet = some pendSeam ∧ stepSet.press.running = true
      ∧ appliesAtSeam stepSet pendSeam = true ∧ boundaryOf stepSet pendSeam = nextSeam stepSet ∧ stepSet.cellar.failAt =
      none) ∧
    (coreOn stepF = true ∧ stepF.mantel.stepPending = some 4294967296000 ∧ stepFSeam = advanceToSeam stepF (nextSeam
      stepF) ∧ 0 ≤ (stepFSeam.mantel.time : Int) + 4294967296000 ∧ stepFSeam.mantel.time ≤ stepFSeam.mantel.p ∧
      stepF.press.pendingSet = none ∧ 0 < 4294967296000) ∧
    (coreOn stepB = true ∧ stepB.mantel.stepPending = some (-4294967296000) ∧ stepBSeam = advanceToSeam stepB (nextSeam
      stepB) ∧ 0 ≤ (stepBSeam.mantel.time : Int) + -4294967296000 ∧ stepBSeam.mantel.time ≤ stepBSeam.mantel.p ∧
      stepB.press.pendingSet = none ∧ (-4294967296000 : Int) < 0 ∧ (∀ c ∈ stepB.mantel.censuses, stepBSeam.mantel.time <
      c.t * 2 ^ 32) ∧ (stepBSeam.mantel.p : Int) - ((stepBSeam.mantel.time : Int) + -4294967296000) ≤ 1000000000 * 2 ^
      32) ∧
    (coreOn stepBC = true ∧ stepBC.mantel.stepPending = some (-4294967296000) ∧ stepBCSeam = advanceToSeam stepBC
      (nextSeam stepBC) ∧ 0 ≤ (stepBCSeam.mantel.time : Int) + -4294967296000 ∧ stepBCSeam.mantel.time ≤
      stepBCSeam.mantel.p ∧ stepBC.press.pendingSet = none ∧ (-4294967296000 : Int) < 0) ∧
    (coreOn stepBB = true ∧ stepBB.mantel.stepPending = some (-4294967296000000000 * 2) ∧ stepBBSeam = advanceToSeam
      stepBB (nextSeam stepBB) ∧ 0 ≤ (stepBBSeam.mantel.time : Int) + -4294967296000000000 * 2 ∧ stepBBSeam.mantel.time
      ≤ stepBBSeam.mantel.p ∧ stepBB.press.pendingSet = none ∧ (-4294967296000000000 * 2 : Int) < 0 ∧ (∀ c ∈
      stepBB.mantel.censuses, stepBBSeam.mantel.time < c.t * 2 ^ 32) ∧ 1000000000 * 2 ^ 32 < (stepBBSeam.mantel.p : Int)
      - ((stepBBSeam.mantel.time : Int) + -4294967296000000000 * 2)) ∧
    (coreOn step0 = true ∧ step0.mantel.stepPending = some 0 ∧ step0Seam = advanceToSeam step0 (nextSeam step0) ∧ 0 ≤
      (step0Seam.mantel.time : Int) + 0 ∧ step0Seam.mantel.time ≤ step0Seam.mantel.p ∧ 0 = 0) ∧
    (coreOn run0 = true ∧ run0.mantel.lock = Lock.locked ∧ mode run0 ≠ Mode.leaf ∧ (run0.pending = [] ∨
      run0.mantel.lastSync + 4 * nominalInterval run0 < run0.now)) ∧
    (coreOn lossMet = true ∧ lossMet.mantel.lock = Lock.locked ∧ mode lossMet ≠ Mode.leaf ∧ lossMet.now ≤
      lossMet.mantel.lastSync + 4 * nominalInterval lossMet ∧ arrivalFollows (advanceTo lossMet (lossMet.mantel.lastSync
      + 4 * nominalInterval lossMet)) = true) ∧
    (coreOn run0 = true ∧ run0.mantel.lock = Lock.locked) ∧
    (ruledSource stEdgeOdd = some (TimeSource.syncIn 0 60) ∧ 60 ≠ 0 ∧ coreOn stEdgeOdd = true ∧ hasSyncIn stEdgeOdd =
      true ∧ stEdgeOdd.mantel.lastEdge = some 49000000000 ∧ edgeStale 49000000000 49000000700 60 = false ∧ edgeExpected
      49000000000 49000000700 60 = false) ∧
    (coreOn stHoldE = true ∧ stHoldE.mantel.hold = true ∧ 0 < 4 * 2 ^ 32 + stHoldE.mantel.addend) ∧
    (takeDispatch (asked run0 64 (srcBody 7)) 64 = some (msg 64 (srcBody 7)) ∧ sourceType (msg 64 (srcBody 7)) = 0) ∧
    (takeDispatch (asked syncAux 64 (srcBody 268435456)) 64 = some (msg 64 (srcBody 268435456)) ∧ sourceType (msg 64
      (srcBody 268435456)) = 1 ∧ hasSyncIn (asked syncAux 64 (srcBody 268435456)) = true) ∧
    (takeDispatch (asked run0 64 (srcBody 536870912)) 64 = some (msg 64 (srcBody 536870912)) ∧ sourceType (msg 64
      (srcBody 536870912)) = 2) ∧
    (takeDispatch (asked sameSrc 64 (srcBody 7)) 64 = some (msg 64 (srcBody 7)) ∧ sourceType (msg 64 (srcBody 7)) = 0) :=
  ⟨⟨by decide +kernel, by decide, by decide +kernel, by decide +kernel, fun e h => (nomatch h)⟩, ⟨by decide +kernel,
    by decide, by decide +kernel, by decide +kernel, fun e h => by cases h; decide +kernel⟩, ⟨by decide +kernel,
    by decide, by decide +kernel, by decide +kernel, fun e h => (nomatch h)⟩, ⟨by decide +kernel, by decide,
    by decide +kernel, by decide +kernel, fun e h => (nomatch h)⟩, ⟨by decide, rfl, rfl, by decide +kernel,
    by decide +kernel, by decide, rfl, rfl, by decide +kernel, by decide +kernel, rfl⟩, ⟨by decide, rfl, rfl,
    by decide +kernel, by decide +kernel, rfl, by decide⟩, ⟨by decide, rfl, rfl, by decide +kernel, by decide +kernel,
    rfl, by decide, by decide +kernel⟩, ⟨by decide, rfl, rfl, by decide +kernel, by decide +kernel, rfl, by decide⟩,
    ⟨by decide, rfl, rfl, by decide +kernel, by decide +kernel, rfl, by decide, by decide +kernel⟩, ⟨by decide, rfl,
    rfl, by decide +kernel, by decide +kernel, rfl⟩, by and_intros <;> decide +kernel⟩

end Sys2Proof.Tests
end

/-! ## The commit word of the journal

The settlement of O25. The layers: the bytes of a report's words; the records that queue 0x01 and queue 0x02 take, and what
queueing leaves as it is; the commit itself, by its three outcomes (no commit, acceptance, a failed read-back). -/

namespace Sys2Proof.Machine

open Sys2Proof

/-! ### Words in a payload (R13) -/

theorem beNat_append_byte (bs : List Byte) (b : Byte) : beNat (bs ++ [b]) = beNat bs * 256 + b.toNat := by
  simp [beNat]

theorem beNat_beBytes (n v : Nat) : beNat (beBytes n v) = v % 256 ^ n := by
  induction n generalizing v with
  | zero => simp [beBytes, beNat, Nat.mod_one]
  | succ n ih =>
    rw [beBytes, beNat_append_byte, ih, Nat.pow_succ', Nat.mod_mul, BitVec.toNat_ofNat]
    omega

@[simp] theorem wordBytes_length (w : Word) : (wordBytes w).length = 4 := rfl

theorem wordsBytes_cons (w : Word) (ws : List Word) : wordsBytes (w :: ws) = wordBytes w ++ wordsBytes ws := rfl

theorem beNat_wordBytes (w : Word) : beNat (wordBytes w) = w.toNat := by
  rw [wordBytes, beNat_beBytes]
  exact Nat.mod_eq_of_lt w.isLt

/-- The word of place i among the words that a payload spells stands at byte 4 i. -/
theorem wordAt_wordsBytes (ws : List Word) (i : Nat) (w : Word) (h : ws[i]? = some w) :
    wordAt (wordsBytes ws) (4 * i) = w := by
  induction ws generalizing i with
  | nil => simp at h
  | cons v ws ih =>
    cases i with
    | zero =>
      obtain rfl : v = w := by simpa using h
      have htake : (wordBytes v ++ wordsBytes ws).take 4 = wordBytes v := List.take_left' (wordBytes_length v)
      have hpad : 4 - (4 + (wordsBytes ws).length) = 0 := by omega
      simp [wordAt, wordsBytes_cons, htake, hpad, beNat_wordBytes]
    | succ i =>
      rw [← ih i (by simpa using h)]
      have hdrop : (wordBytes v ++ wordsBytes ws).drop (4 * (i + 1)) = (wordsBytes ws).drop (4 * i) := by
        rw [List.drop_append, List.drop_eq_nil_of_le (by simp), wordBytes_length, List.nil_append]
        congr 1
      have hpad : 4 * (i + 1) + 4 - (wordBytes v ++ wordsBytes ws).length = 4 * i + 4 - (wordsBytes ws).length := by
        simp; omega
      rw [wordAt, wordAt, wordsBytes_cons, hdrop, hpad]

theorem ackPayload_length (s : State) (code : Half) (q : Word) (dup : Bool) :
    (ackPayload s code q dup).length = 20 := rfl

theorem nackPayload_length (s : State) (code : Half) (q : Word) (reason : Nat) :
    (nackPayload s code q reason).length = 20 := rfl

/-! ### Queue 0x01: what queueing leaves as it is (R63, R205) -/

theorem queuedAs_trans {s t u : State} (hst : t = queuedAs t s) (htu : u = queuedAs u t) : u = queuedAs u s :=
  calc u = queuedAs u t := htu
    _ = queuedAs u (queuedAs t s) := by rw [← hst]
    _ = queuedAs u s := rfl

theorem settle_frame (s : State) : settle s = queuedAs (settle s) s := rfl

theorem enterQueue_frame (s : State) (f : OwnFolio) : enterQueue s f = queuedAs (enterQueue s f) s :=
  queuedAs_trans rfl (settle_frame _)

theorem queueOwn_frame (s : State) (f : OwnFolio) : queueOwn s f = queuedAs (queueOwn s f) s := by
  unfold queueOwn
  split
  · exact enterQueue_frame s f
  · rfl

theorem queueReport_frame (s : State) (rtype : Half) (payload : List Byte) :
    queueReport s rtype payload = queuedAs (queueReport s rtype payload) s := queueOwn_frame s _

/-! ### Queue 0x01: an ACK or NACK with room for it (R105, R205) -/

/-- A folio that settles keeps its place while its copy is due on an EAST port that is UP. -/
theorem mem_settle_of_dueEast (s : State) (f : OwnFolio) (hf : f ∈ s.larder.reports) (he : f.dueEast = true)
    (hl : leafRole s = false) (hup : portUp s .east = true) :
    ∃ r ∈ (settle s).larder.reports, r.kind = f.kind ∧ r.spec = f.spec ∧ r.seq = f.seq ∧ r.payload = f.payload := by
  refine ⟨dropDown s f, List.mem_filter.mpr ⟨List.mem_map_of_mem hf, ?_⟩, ?_⟩
  · have hdue : (dropDown s f).dueEast = true := by
      rw [dropDown, if_neg (by simp [hl])]
      split <;> simp [he, hup]
    simp [hdue]
  · unfold dropDown
    (repeat' split) <;> simp

/-- A folio of the node's own that enters queue 0x01 stands there under the next report sequence. -/
theorem enterQueue_holds (s : State) (f : OwnFolio) (hown : f.leafSrc = none) (hk : f.kind = 3) (he : f.dueEast = true)
    (hl : leafRole s = false) (hup : portUp s .east = true) :
    ∃ r ∈ (enterQueue s f).larder.reports,
      r.kind = 3 ∧ r.spec = f.spec ∧ r.seq = s.addr.reportSeq ∧ r.payload = f.payload := by
  unfold enterQueue
  have hnot : (f.kind != 4) = true := by rw [hk]; decide
  simp only [hown, hnot, Option.isNone_none, Bool.and_self, if_true]
  rw [← hk]
  refine mem_settle_of_dueEast _ { f with seq := s.addr.reportSeq } ?_ he hl hup
  simp [hown]

/-- The answer of the Hall is queued: an ACK or NACK, of one unit, meets the rule of `hallAnswers`. -/
theorem hallAnswers_queueReport (s : State) (spec : Half) (payload : List Byte) (hspec : spec = 1 ∨ spec = 2)
    (hlen : payload.length = 20) : hallAnswers s (queueReport s spec payload) spec payload := by
  intro _ hup hl hunit hwait
  unfold queueReport queueOwn
  split
  · exact enterQueue_holds s _ rfl rfl rfl hl hup
  · next hfull =>
    refine absurd ?_ hfull
    have hack : ∀ f : OwnFolio, f.kind = 3 → f.spec = spec → isAck f = true := by
      intro f hk hs
      rcases hspec with rfl | rfl <;> simp [isAck, hk, hs]
    have hrank : ∀ g ∈ s.larder.waiting, 0 < waitRank g := by
      intro g hg
      rw [waitRank, if_neg (by simp [hwait g hg])]
      split <;> decide
    simp only [Bool.and_eq_true, List.all_eq_true, decide_eq_true_eq]
    refine ⟨?_, fun g hg => ?_⟩
    · rw [roomFor, hack _ rfl rfl]
      simpa [hlen, foliosUnits, unitFree] using hunit
    · rw [waitRank, hack _ rfl rfl]
      exact hrank g hg

/-! ### EVENT records (R112, R205, R376) -/

theorem reportedAs_trans {s t u : State} (hst : t = reportedAs t s) (htu : u = reportedAs u t) : u = reportedAs u s := by
  refine htu.trans ((congrArg (reportedAs u) hst).trans ?_)
  cases h : s.cellar.failAt <;> simp [reportedAs, h]

theorem reportedAs_self (s : State) : s = reportedAs s s := by
  unfold reportedAs
  rw [ite_self]

/-- EVENT records, and then what queue 0x01 takes. -/
theorem reported_then_queued {s t u : State} (hst : t = reportedAs t s) (htu : u = queuedAs u t) :
    u = reportedAs u (queuedAs u s) := by
  have hu : u = queuedAs u (reportedAs t s) := htu.trans (congrArg (queuedAs u) hst)
  refine (reportedAs_self u).trans ((congrArg (reportedAs u) hu).trans ?_)
  cases h : s.cellar.failAt <;> simp [reportedAs, queuedAs, h]

theorem refuseBurst_eq (s : State) : refuseBurst s =
    { s with cellar := { s.cellar with
        counts := if s.cellar.failAt.isSome = true then bump s.cellar.counts 11 else s.cellar.counts } } := by
  unfold refuseBurst
  split <;> rfl

theorem refuseBurst_frame (s : State) : refuseBurst s = reportedAs (refuseBurst s) s := by
  rw [refuseBurst_eq]
  cases h : s.cellar.failAt <;> simp [reportedAs, h]

theorem logEvent_frame (s : State) (e : EventRec) : logEvent s e = reportedAs (logEvent s e) s := by
  unfold logEvent
  split
  · simp [reportedAs]
  · split
    · simp [reportedAs]
    · exact refuseBurst_frame s

theorem queueEvent_frame (s : State) (e : EventRec) : queueEvent s e = reportedAs (queueEvent s e) s := by
  unfold queueEvent
  split <;> simp [reportedAs, watermark]

theorem raise_frame (s : State) (code arg0 : Half) (arg1 : Word) :
    raise s code arg0 arg1 = reportedAs (raise s code arg0 arg1) s :=
  reportedAs_trans (logEvent_frame s _) (queueEvent_frame _ _)

theorem eventRaised_raise (s : State) (code arg0 : Half) (arg1 : Word) :
    eventRaised s (raise s code arg0 arg1) code := by
  intro hroom
  have hlt : s.larder.events.length < 256 := by omega
  simp [raise, raiseAt, queueEvent, hlt]

/-! ### The hold (R118, R120) -/

theorem takeHeld_of_no_held (s : State) (code : Half) (h : ∀ c ∈ s.hall.channels, c.held = []) :
    takeHeld s code = s := by
  unfold takeHeld
  split
  · rfl
  · next c hc =>
    have hnone : dueHeld c = none := by rw [dueHeld, h c (List.mem_of_find?_eq_some hc)]; rfl
    rw [hnone]

/-! ### The outcomes of the commit word (R118, R127, R131) -/

/-- s with no journal write open. -/
def closeWrite (s : State) : State := { s with hall := { s.hall with writing := none } }

/-- The commit word of a write whose read-back failed: EVENT 0x0203, then NACK 0x07 (R127). -/
def readBackFailed (s : State) (m : Msg) : State :=
  queueNack (raise (closeWrite s) 0x0203 m.chan m.seq) m.chan m.seq 0x07

/-- The message accepted, with its ACK and its audit entry, before a held successor is taken (R118, R129, R155). -/
def committed (s : State) (m : Msg) : State :=
  let acked := queueAck (commitEntry s m) m.chan m.seq false
  if burstGranted s 3 then auditRecord acked m.chan m.cmd m.seq m.role 1 0 s.hall.nextNo else refuseBurst acked

theorem burstGranted_queueAck_commitEntry (s : State) (m : Msg) (code : Half) (q : Word) (dup : Bool) (words : Nat) :
    burstGranted (queueAck (commitEntry s m) code q dup) words = burstGranted s words := by
  simp [burstGranted, archiveOpen]

theorem committed_hall_powerFail (s : State) (m : Msg) : (committed s m).hall.powerFail = s.hall.powerFail := by
  unfold committed
  split
  · simp [auditRecord, commitEntry]
  · simp [refuseBurst_eq, commitEntry]

theorem exec_journalCommit (s : State) (ok : Bool) : exec (.journalCommit ok) s = execJournalCommit ok s := rfl

theorem exec_journalCommit_of_failed {s : State} {m : Msg} (hw : s.hall.writing = some m) (hc : coreWorks s = true)
    (hi : s.cellar.isolated = false) : exec (.journalCommit false) s = .next (readBackFailed s m) := by
  simp [exec_journalCommit, execJournalCommit, hw, hc, hi, readBackFailed, closeWrite]

theorem exec_journalCommit_of_accepted {s : State} {m : Msg} (hw : s.hall.writing = some m) (hc : coreWorks s = true)
    (hi : s.cellar.isolated = false) : exec (.journalCommit true) s =
      .next (if s.hall.powerFail then committed s m else takeHeld (committed s m) m.chan) := by
  rw [exec_journalCommit, ← committed_hall_powerFail s m]
  simp [execJournalCommit, hw, hc, hi, committed, burstGranted_queueAck_commitEntry]

/-! ### What acceptance leaves (R118, R128, R129, R155, R384) -/

/-- s after the acceptance of m, but for the ring of summaries with what it overwrites and the audit entries, which t gives. -/
def acceptedAs (t s : State) (m : Msg) : State :=
  { s with
    hall := { s.hall with
      channels := s.hall.channels.map (fun c => if c.code = m.chan then { c with expected := m.seq + 1 } else c)
      entries := s.hall.entries ++
        [{ msg := { m with no := s.hall.nextNo }, no := s.hall.nextNo, dispatched := false, finished := false }]
      summaries := t.hall.summaries, overwritten := t.hall.overwritten, nextNo := s.hall.nextNo + 1
      writing := none, auditedThrough := if burstGranted s 3 then s.hall.nextNo else s.hall.auditedThrough }
    arch := { s.arch with
      audit := t.arch.audit, auditNext := s.arch.auditNext + (if burstGranted s 3 then 1 else 0) }
    cellar := { s.cellar with
      counts :=
        if burstGranted s 3 = false ∧ s.cellar.failAt.isSome = true then bump s.cellar.counts 11 else s.cellar.counts } }

theorem committed_frame (s : State) (m : Msg) :
    committed s m = queuedAs (committed s m) (acceptedAs (committed s m) s m) := by
  have hq := queueReport_frame (commitEntry s m) 0x0001 (ackPayload (commitEntry s m) m.chan m.seq false)
  generalize hacked : committed s m = t
  unfold committed queueAck at hacked
  rw [hq] at hacked
  subst hacked
  cases hg : burstGranted s 3 <;>
    simp [hg, refuseBurst_eq, queuedAs, acceptedAs, auditRecord, auditWrite, auditAt, commitEntry]

theorem committed_audit_length (s : State) (m : Msg) (h : s.arch.audit.length < 1024) :
    (committed s m).arch.audit.length = s.arch.audit.length + (if burstGranted s 3 then 1 else 0) := by
  unfold committed
  split
  · simp [auditRecord, auditWrite, auditAt]
    omega
  · simp [refuseBurst_eq]

theorem committed_larder_reports (s : State) (m : Msg) :
    (committed s m).larder.reports = (queueAck (commitEntry s m) m.chan m.seq false).larder.reports := by
  unfold committed
  split
  · simp
  · simp [refuseBurst_eq]

theorem committed_hall (s : State) (m : Msg) :
    (committed s m).hall.channels = (commitEntry s m).hall.channels ∧
      (committed s m).hall.entries = (commitEntry s m).hall.entries ∧
      (committed s m).hall.summaries = (commitEntry s m).hall.summaries := by
  unfold committed
  split
  · simp [auditRecord]
  · simp [refuseBurst_eq]

/-- The ACK reads the channels and the journal alone, so it is the same from any state with those. -/
theorem ackPayload_congr {s t : State} (hc : t.hall.channels = s.hall.channels) (he : t.hall.entries = s.hall.entries)
    (code : Half) (q : Word) (dup : Bool) : ackPayload t code q dup = ackPayload s code q dup := by
  simp [ackPayload, channel, pendingCues, hc, he]

theorem committed_ackPayload (s : State) (m : Msg) :
    ackPayload (committed s m) m.chan m.seq false = ackPayload (commitEntry s m) m.chan m.seq false := by
  obtain ⟨hc, he, _⟩ := committed_hall s m
  exact ackPayload_congr hc he _ _ _

theorem hallAnswers_committed (s : State) (m : Msg) :
    hallAnswers s (committed s m) 0x0001 (ackPayload (committed s m) m.chan m.seq false) := by
  rw [committed_ackPayload]
  unfold hallAnswers
  rw [committed_larder_reports]
  exact hallAnswers_queueReport (commitEntry s m) 0x0001 _ (.inl rfl) (ackPayload_length _ _ _ _)

theorem wordAt_ackPayload_seq (s : State) (code : Half) (q : Word) (dup : Bool) : wordAt (ackPayload s code q dup) 4 = q :=
  wordAt_wordsBytes _ 1 q rfl

theorem wordAt_ackPayload_accepted {s : State} {code : Half} {c : Channel} (hc : channel s code = some c) (q : Word)
    (dup : Bool) : wordAt (ackPayload s code q dup) 8 = lastAccepted c := by
  refine wordAt_wordsBytes _ 2 _ ?_
  simp [hc]

theorem channel_commitEntry (s : State) (m : Msg) :
    channel (commitEntry s m) m.chan = (channel s m.chan).map fun c => { c with expected := m.seq + 1 } := by
  have hcode : ((fun c : Channel => c.code == m.chan) ∘ fun c =>
      if c.code == m.chan then { c with expected := m.seq + 1 } else c) = fun c => c.code == m.chan := by
    funext c
    simp only [Function.comp]
    split <;> rfl
  unfold channel commitEntry
  rw [List.find?_map, hcode]
  cases h : s.hall.channels.find? fun c => c.code == m.chan with
  | none => rfl
  | some c =>
    have hm : (c.code == m.chan) = true := List.find?_some (p := fun c : Channel => c.code == m.chan) h
    rw [Option.map_some, if_pos hm, Option.map_some]

/-- The ACK gives the accepted sequence as the last accepted one of a channel that is kept (R107). -/
theorem wordAt_ackPayload_committed (s : State) (m : Msg) (h : ∃ c ∈ s.hall.channels, c.code = m.chan) :
    wordAt (ackPayload (committed s m) m.chan m.seq false) 8 = m.seq := by
  obtain ⟨c, hc⟩ : ∃ c, channel s m.chan = some c := by
    simpa [channel, ← Option.isSome_iff_exists, List.find?_isSome] using h
  rw [committed_ackPayload, wordAt_ackPayload_accepted (by rw [channel_commitEntry, hc]; rfl)]
  simp [lastAccepted]

theorem committed_summary (s : State) (m : Msg) : ∃ y ∈ (committed s m).hall.summaries,
    y.no = s.hall.nextNo ∧ y.chan = m.chan ∧ y.seq = m.seq ∧ y.cmd = m.cmd ∧ y.st = 1 := by
  obtain ⟨_, _, hy⟩ := committed_hall s m
  simp only [hy, commitEntry]
  rw [List.drop_append_of_le_length (by omega)]
  exact ⟨_, List.mem_append_right _ (List.mem_singleton_self _), rfl, rfl, rfl, rfl, rfl⟩

theorem committed_no_held (s : State) (m : Msg) (h : ∀ c ∈ s.hall.channels, c.held = []) :
    ∀ c ∈ (committed s m).hall.channels, c.held = [] := by
  obtain ⟨hc, _, _⟩ := committed_hall s m
  rw [hc]
  simp only [commitEntry, List.mem_map]
  rintro _ ⟨c, hmem, rfl⟩
  split <;> exact h c hmem

theorem exec_journalCommit_of_no_held {s : State} {m : Msg} (hw : s.hall.writing = some m) (hc : coreWorks s = true)
    (hi : s.cellar.isolated = false) (hheld : ∀ c ∈ s.hall.channels, c.held = []) :
    exec (.journalCommit true) s = .next (committed s m) := by
  rw [exec_journalCommit_of_accepted hw hc hi, takeHeld_of_no_held _ _ (committed_no_held s m hheld), ite_self]

/-! ### What a failed read-back leaves (R127) -/

theorem eventRaised_readBackFailed (s : State) (m : Msg) : eventRaised s (readBackFailed s m) 0x0203 := by
  intro hroom
  have h := eventRaised_raise (closeWrite s) 0x0203 m.chan m.seq hroom
  simpa [readBackFailed, closeWrite] using h

theorem hallAnswers_readBackFailed (s : State) (m : Msg) :
    hallAnswers s (readBackFailed s m) 0x0002 (nackPayload s m.chan m.seq 0x07) := by
  have h := hallAnswers_queueReport (raise (closeWrite s) 0x0203 m.chan m.seq) 0x0002
    (nackPayload s m.chan m.seq 0x07) (.inr rfl) (nackPayload_length _ _ _ _)
  have hpay : nackPayload (raise (closeWrite s) 0x0203 m.chan m.seq) m.chan m.seq 0x07 =
      nackPayload s m.chan m.seq 0x07 := by
    simp [nackPayload, channel, closeWrite]
  rw [readBackFailed, queueNack, hpay]
  simpa [hallAnswers, assigned, portUp, getPort, leafRole, unitFree, reportLevel, closeWrite] using h

theorem readBackFailed_frame (s : State) (m : Msg) :
    readBackFailed s m = reportedAs (readBackFailed s m) (queuedAs (readBackFailed s m) (closeWrite s)) :=
  reported_then_queued (raise_frame _ _ _ _) (queueReport_frame _ _ _)

/-! ### The frame of every commit word (R118, R127, R131) -/

/-- s with the Hall, the audit log, queue 0x01 and the EVENT records of t: all that a commit word touches. -/
def commitAs (t s : State) : State :=
  reportedAs t (queuedAs t { s with
    hall := t.hall, arch := { s.arch with audit := t.arch.audit, auditNext := t.arch.auditNext } })

theorem commitAs_self (s : State) : s = commitAs s s := reportedAs_self s

theorem commitAs_trans {s t u : State} (hst : t = commitAs t s) (htu : u = commitAs u t) : u = commitAs u s := by
  refine htu.trans ((congrArg (commitAs u) hst).trans ?_)
  cases h : s.cellar.failAt <;> simp [commitAs, reportedAs, queuedAs, h]

theorem commitAs_of_queuedAs {s t : State} (h : t = queuedAs t s) : t = commitAs t s :=
  calc t = commitAs t t := commitAs_self t
    _ = commitAs t (queuedAs t s) := by rw [← h]
    _ = commitAs t s := rfl

theorem commitAs_of_reportedAs {s t : State} (h : t = reportedAs t s) : t = commitAs t s := by
  refine (commitAs_self t).trans ((congrArg (commitAs t) h).trans ?_)
  cases hf : s.cellar.failAt <;> simp [commitAs, reportedAs, queuedAs, hf]

theorem commitAs_of_hall_audit (s : State) (hall : Hall) (audit : List AuditEntry) (next : Word) :
    ({ s with hall := hall, arch := { s.arch with audit := audit, auditNext := next } } : State) =
      commitAs { s with hall := hall, arch := { s.arch with audit := audit, auditNext := next } } s := commitAs_self _

theorem acceptMsg_frame (s : State) (m : Msg) : acceptMsg s m = commitAs (acceptMsg s m) s := by
  unfold acceptMsg
  split
  · exact commitAs_of_queuedAs (queueReport_frame s _ _)
  · split
    · exact commitAs_of_queuedAs (queueReport_frame s _ _)
    · exact commitAs_of_hall_audit s _ _ _

theorem takeHeld_frame (s : State) (code : Half) : takeHeld s code = commitAs (takeHeld s code) s := by
  unfold takeHeld
  split
  · exact commitAs_self s
  · split
    · exact commitAs_self s
    · split
      · exact commitAs_trans (commitAs_of_hall_audit s _ _ _) (acceptMsg_frame _ _)
      · exact commitAs_self s

theorem auditRecord_frame (s : State) (chan cmd : Half) (q : Word) (role : BitVec 2) (outcome result : BitVec 4) (no : Nat) :
    auditRecord s chan cmd q role outcome result no = commitAs (auditRecord s chan cmd q role outcome result no) s := by
  simp only [auditRecord, auditWrite, auditAt]
  exact commitAs_of_hall_audit s _ _ _

theorem committed_commitAs (s : State) (m : Msg) : committed s m = commitAs (committed s m) s := by
  have hacked : queueAck (commitEntry s m) m.chan m.seq false =
      commitAs (queueAck (commitEntry s m) m.chan m.seq false) s :=
    commitAs_trans (commitAs_of_hall_audit s _ _ _) (commitAs_of_queuedAs (queueReport_frame _ _ _))
  unfold committed
  split
  · exact commitAs_trans hacked (auditRecord_frame _ _ _ _ _ _ _ _)
  · exact commitAs_trans hacked (commitAs_of_reportedAs (refuseBurst_frame _))

theorem readBackFailed_commitAs (s : State) (m : Msg) : readBackFailed s m = commitAs (readBackFailed s m) s :=
  commitAs_trans (commitAs_of_hall_audit s _ _ _)
    (commitAs_trans (commitAs_of_reportedAs (raise_frame _ _ _ _)) (commitAs_of_queuedAs (queueReport_frame _ _ _)))

/-- With no open write, or with CORE or the Archive out of work, the commit word does nothing. -/
theorem exec_journalCommit_idle {s : State} (ok : Bool)
    (h : s.hall.writing = none ∨ coreWorks s = false ∨ s.cellar.isolated = true) :
    exec (.journalCommit ok) s = .next s := by
  rw [exec_journalCommit]
  cases hw : s.hall.writing with
  | none => simp only [execJournalCommit, hw]
  | some m =>
    have hstops : (!coreWorks s || s.cellar.isolated) = true := by
      rcases h with h | h | h
      · simp [hw] at h
      · simp [h]
      · simp [h]
    simp only [execJournalCommit, hw, hstops, if_true]

theorem exec_journalCommit_commitAs (s : State) (ok : Bool) :
    ∃ t, exec (.journalCommit ok) s = .next t ∧ t = commitAs t s := by
  by_cases hidle : s.hall.writing = none ∨ coreWorks s = false ∨ s.cellar.isolated = true
  · exact ⟨s, exec_journalCommit_idle ok hidle, commitAs_self s⟩
  · simp only [not_or, Bool.not_eq_false, Bool.not_eq_true, ← ne_eq, Option.ne_none_iff_exists'] at hidle
    obtain ⟨⟨m, hw⟩, hc, hi⟩ := hidle
    cases ok with
    | false => exact ⟨_, exec_journalCommit_of_failed hw hc hi, readBackFailed_commitAs s m⟩
    | true =>
      refine ⟨_, exec_journalCommit_of_accepted hw hc hi, ?_⟩
      split
      · exact committed_commitAs s m
      · exact commitAs_trans (committed_commitAs s m) (takeHeld_frame _ _)

/-- Settles O25: acceptance in the no-held case, the failed read-back, and the frame of every commit word. -/
theorem journalCommitAccepts : Obligations.JournalCommitAccepts := by
  unfold Obligations.JournalCommitAccepts
  refine ⟨fun s m hw hc hi => ⟨fun hheld haudit => ?_, ?_⟩, exec_journalCommit_commitAs⟩
  · exact ⟨committed s m, exec_journalCommit_of_no_held hw hc hi hheld, committed_audit_length s m haudit,
      hallAnswers_committed s m, wordAt_ackPayload_seq _ _ _ _, wordAt_ackPayload_committed s m, committed_summary s m,
      committed_frame s m⟩
  · exact ⟨readBackFailed s m, exec_journalCommit_of_failed hw hc hi, eventRaised_readBackFailed s m,
      hallAnswers_readBackFailed s m, readBackFailed_frame s m⟩

end Sys2Proof.Machine

/-! ## The idle Mantel tick

The settlement of O2: the three clocks of `advance`, each by its own equation, and what an advance leaves as it is. -/

namespace Sys2Proof.Machine

open Sys2Proof

theorem step_of_idle {s : State} (h : s.pending = []) : step s = .next (idle s) := by
  unfold step
  rw [h]

/-- With no start-up under way, the idle step is one tick, before and after a power-fail detect alike. -/
theorem idle_of_no_start {s : State} (h : s.start.stage = 0) : idle s = advance s 1 := by
  simp [idle, h]

theorem ticks_time (m : Mantel) (n : Nat) (h : 0 ≤ (m.time : Int) + n * tickUnits m) :
    ((m.ticks n).time : Int) = m.time + n * tickUnits m := Int.toNat_of_nonneg h

/-- The RTC in its own 10^-7 ns runs on at its rate, where it is valid (R371). -/
theorem rtcOn_units (s : State) (ns : Nat) : (rtcOn s ns).rtc * 10000000 + (rtcOn s ns).rtcPart =
    s.cellar.rtc * 10000000 + s.cellar.rtcPart + (if s.cellar.rtcValid then ns * rtcRate s else 0) := by
  unfold rtcOn
  split
  · dsimp only
    omega
  · rw [Nat.add_zero]

theorem rtcOn_frame (s : State) (ns : Nat) :
    rtcOn s ns = { s.cellar with rtc := (rtcOn s ns).rtc, rtcPart := (rtcOn s ns).rtcPart } := by
  unfold rtcOn
  split <;> rfl

theorem advance_frame (s : State) (n : Nat) : advance s n = clockedAs (advance s n) s := by
  have hcellar := rtcOn_frame s (4 * n)
  simp only [advance, clockedAs, Mantel.ticks]
  rw [← hcellar]

/-- Settles O2: an idle step is `advance` by one tick. -/
theorem idleStepIsOneMantelTick : Obligations.IdleStepIsOneMantelTick := by
  unfold Obligations.IdleStepIsOneMantelTick
  intro s hidle hstage htime
  refine ⟨advance s 1, ?_, rfl, ?_, rfl, rtcOn_units s 4, advance_frame s 1⟩
  · rw [step_of_idle hidle, idle_of_no_start hstage]
  · have hone : (s.mantel.time : Int) + (1 : Nat) * tickUnits s.mantel = s.mantel.time + (4 * 2 ^ 32 + s.mantel.addend) := by
      simp [tickUnits]
    exact (ticks_time s.mantel 1 (hone ▸ htime)).trans hone

end Sys2Proof.Machine

/-! ## Forwarding

The settlement of O18: what `forwardedFolio` makes of a folio, by its CRC and by the residence that it takes. -/

namespace Sys2Proof.Machine

open Sys2Proof

/-! ### The folio that leaves (R60, R61, R99) -/

/-- The CRC is taken over header and payload alone (R85). -/
theorem goodCrc_withCrc (f : Folio) (c : Word) : Folio.goodCrc { f with crc := c } = Folio.goodCrc f := rfl

theorem crcOk_withGoodCrc (f : Folio) : Folio.crcOk { f with crc := Folio.goodCrc f } = true := by
  simp [Folio.crcOk, goodCrc_withCrc]

theorem forwardedFolio_of_good {s : State} {f : Folio} (residence : Nat) (hok : Folio.crcOk f = true)
    (hc : corrected f = false) : forwardedFolio s f residence = f := by
  have hcrc : f.crc = Folio.goodCrc f := by simpa [Folio.crcOk] using hok
  simp [forwardedFolio, hok, hc, ← hcrc]

theorem forwardedFolio_of_failed {s : State} {f : Folio} (residence : Nat) (hbad : Folio.crcOk f = false)
    (hc : corrected f = false) :
    forwardedFolio s f residence = { f with crc := Folio.goodCrc f ^^^ 0xFFFFFFFF#32 } := by
  simp [forwardedFolio, hbad, hc]

theorem forwardedFolio_of_corrected {s : State} {f : Folio} (residence : Nat) (hok : Folio.crcOk f = true)
    (hc : corrected f = true) (hm : malformed s f = none) :
    forwardedFolio s f residence =
      { addResidence f residence with crc := Folio.goodCrc (addResidence f residence) } := by
  simp [forwardedFolio, hok, hc, hm]

/-! ### The command (R60, R62) -/

theorem exec_folioForward_up {s : State} {p : Port} (u : RxUnit) (residence : Nat) (ht : portsTrain s = true)
    (hp : (getPort s p).st = .up) (hq : (getPort s (otherPort p)).st = .up) :
    exec (.folioForward p u residence) s =
      .next { s with wire := forwardedUnit s (otherPort p) residence u :: s.wire } := by
  have hexec : exec (.folioForward p u residence) s = execFolioForward p u residence s := rfl
  simp [hexec, execFolioForward, portUp, ht, hp, hq, send]

theorem exec_folioForward_discarded {s : State} {p : Port} (u : RxUnit) (residence : Nat) (ht : portsTrain s = true)
    (hp : (getPort s p).st = .up) (hq : (getPort s (otherPort p)).st ≠ .up) :
    exec (.folioForward p u residence) s = .next (countPort s (otherPort p) 4) := by
  have hexec : exec (.folioForward p u residence) s = execFolioForward p u residence s := rfl
  simp [hexec, execFolioForward, portUp, ht, hp, hq]

/-- Settles O18: by the opposite port's state, the kind of unit, and the folio's CRC. -/
theorem forwardingAndResidence : Obligations.ForwardingAndResidence := by
  unfold Obligations.ForwardingAndResidence
  refine ⟨fun s p residence ht hp =>
      ⟨fun hq => ⟨fun f hok hc => ?_, fun f hbad hc => ?_, fun u hu => ?_⟩, fun u hq => ?_⟩,
    fun s p f residence ht hp hq hok hc hm => ?_⟩
  · refine ⟨_, exec_folioForward_up _ _ ht hp hq, ?_⟩
    rw [forwardedUnit, forwardedFolio_of_good residence hok hc]
  · refine ⟨_, exec_folioForward_up _ _ ht hp hq, ?_⟩
    rw [forwardedUnit, forwardedFolio_of_failed residence hbad hc]
  · refine ⟨_, exec_folioForward_up _ _ ht hp hq, ?_⟩
    rcases hu with rfl | rfl | rfl <;> rfl
  · exact ⟨_, exec_folioForward_discarded u residence ht hp hq, rfl⟩
  · refine ⟨_, forwardedFolio s f residence, exec_folioForward_up _ _ ht hp hq, rfl, ?_⟩
    rw [forwardedFolio_of_corrected residence hok hc hm]
    exact ⟨crcOk_withGoodCrc _, rfl, rfl, rfl, rfl, rfl⟩

end Sys2Proof.Machine

/-! ## The delay lines and PCLK

The settlement of O37. The layers: records that stay as more of them come; an EVENT of the Cellar and an alarm to the peers,
each by what it leaves as it is; dark forcing and its release; the four commands. -/

namespace Sys2Proof.Machine

open Sys2Proof

/-! ### EVENT records stay as more come (R205) -/

theorem eventRaised_of_prefix {s t u : State} {code : Half} (h : eventRaised s t code)
    (hp : t.larder.events <+: u.larder.events) : eventRaised s u code := by
  intro hroom
  obtain ⟨e, he, hcode⟩ := h hroom
  exact ⟨e, (hp.drop _).subset he, hcode⟩

theorem eventRaised_of_larder {s s' t : State} {code : Half} (h : eventRaised s' t code) (hl : s'.larder = s.larder) :
    eventRaised s t code := by
  unfold eventRaised at h ⊢
  rwa [hl] at h

theorem events_prefix_queueEvent (s : State) (e : EventRec) : s.larder.events <+: (queueEvent s e).larder.events := by
  unfold queueEvent
  split
  · exact List.prefix_append _ _
  · exact List.prefix_refl _

theorem events_prefix_raise (s : State) (code arg0 : Half) (arg1 : Word) :
    s.larder.events <+: (raise s code arg0 arg1).larder.events := by
  have h := events_prefix_queueEvent (logEvent s ⟨code, arg0, tsecOf (mNs s), tnsOf (mNs s), arg1⟩)
    ⟨code, arg0, tsecOf (mNs s), tnsOf (mNs s), arg1⟩
  rwa [logEvent_larder] at h

theorem loadAlarm_larder (s : State) : (loadAlarm s).larder = s.larder := by
  unfold loadAlarm
  split <;> rfl

theorem events_prefix_queueAlarm (s : State) (cause input : Nat) :
    s.larder.events <+: (queueAlarm s cause input).larder.events := by
  unfold queueAlarm
  split
  · exact List.prefix_refl _
  · split
    · exact events_prefix_raise (countBack s 17) _ _ _
    · simp only [loadAlarm_larder, List.prefix_refl]

/-! ### An EVENT of the Cellar (R376) -/

theorem keep_frame (s : State) (kept : List EventRec) :
    ({ s with cellar := { s.cellar with unreported := kept } } : State) =
      reportedAs { s with cellar := { s.cellar with unreported := kept } } s := by
  simp only [reportedAs, ite_self]

theorem raiseKept_frame (s : State) (code arg0 : Half) (arg1 : Word) :
    raiseKept s code arg0 arg1 = reportedAs (raiseKept s code arg0 arg1) s :=
  reportedAs_trans (logEvent_frame s ⟨code, arg0, tsecOf (rtcNs s), tnsOf (rtcNs s), arg1⟩)
    (keep_frame _ _)

theorem raiseCellar_frame (s : State) (code arg0 : Half) (arg1 : Word) :
    raiseCellar s code arg0 arg1 = reportedAs (raiseCellar s code arg0 arg1) s := by
  unfold raiseCellar
  split
  · exact raise_frame s _ _ _
  · exact raiseKept_frame s _ _ _

theorem eventRaised_raiseCellar (s : State) (code arg0 : Half) (arg1 : Word) (h : coreOn s = true) :
    eventRaised s (raiseCellar s code arg0 arg1) code := by
  rw [raiseCellar, if_pos h]
  exact eventRaised_raise s _ _ _

/-! ### An alarm to the peers (R335, R341) -/

/-- s with the EVENT records of t and its alarms with their counts: all that queueing an alarm touches. -/
def alarmedAs (t s : State) : State :=
  reportedAs t { s with
    back := { s.back with alarms := t.back.alarms, buf0 := t.back.buf0, counts := t.back.counts } }

theorem alarmedAs_self (s : State) : s = alarmedAs s s := reportedAs_self s

theorem alarmedAs_trans {s t u : State} (hst : t = alarmedAs t s) (htu : u = alarmedAs u t) : u = alarmedAs u s := by
  refine htu.trans ((congrArg (alarmedAs u) hst).trans ?_)
  cases h : s.cellar.failAt <;> simp [alarmedAs, reportedAs, h]

theorem alarmedAs_of_reportedAs {s t : State} (h : t = reportedAs t s) : t = alarmedAs t s := by
  refine (alarmedAs_self t).trans ((congrArg (alarmedAs t) h).trans ?_)
  cases hf : s.cellar.failAt <;> simp [alarmedAs, reportedAs, hf]

theorem loadAlarm_frame (s : State) : loadAlarm s = alarmedAs (loadAlarm s) s := by
  unfold loadAlarm
  split <;> exact alarmedAs_self _

theorem queueAlarm_frame (s : State) (cause input : Nat) :
    queueAlarm s cause input = alarmedAs (queueAlarm s cause input) s := by
  unfold queueAlarm
  split
  · exact alarmedAs_self s
  · split
    · exact alarmedAs_trans (t := countBack s 17) (alarmedAs_self _) (alarmedAs_of_reportedAs (raise_frame _ _ _ _))
    · exact alarmedAs_trans (t := { s with back := { s.back with alarms := _ } }) (alarmedAs_self _) (loadAlarm_frame _)

/-! ### Dark forcing (R374, R395) -/

/-- A row cut off is dark, and of the wear alone what its pulses no longer emit is taken back (R284, R382). -/
theorem rowCutOff_eq (s : State) : ∃ wear rest, rowCutOff s =
    { s with
      press := { s.press with rowOn := none, widths := [] }
      arch := { s.arch with wear := wear, wearRest := rest } } := by
  unfold rowCutOff cutWear
  split
  · exact ⟨s.arch.wear, s.arch.wearRest, rfl⟩
  · exact ⟨_, _, rfl⟩

/-- s dark for a cause, with its row cut off, and with the counts, EVENT records and alarms of t. -/
def darkenedAs (t s : State) (cause : Nat) : State :=
  alarmedAs t { s with
    cellar := { setDark s.cellar cause true with counts := t.cellar.counts }
    press := { s.press with rowOn := none, widths := [], counts := t.press.counts }
    arch := { s.arch with wear := t.arch.wear, wearRest := t.arch.wearRest } }

/-- What an EVENT and an alarm touch after a forcing is what the forcing itself may touch. -/
theorem darkenedAs_alarmed {s t u : State} {cause : Nat} (hst : t = darkenedAs t s cause) (htu : u = alarmedAs u t) :
    u = darkenedAs u s cause := by
  have hpress : u.press = t.press := (congrArg State.press htu).trans rfl
  have hwear : u.arch.wear = t.arch.wear :=
    (congrArg (fun x : State => x.arch.wear) htu).trans rfl
  have hrest : u.arch.wearRest = t.arch.wearRest :=
    (congrArg (fun x : State => x.arch.wearRest) htu).trans rfl
  have hcounts : u.cellar.counts = if t.cellar.failAt.isSome then u.cellar.counts else t.cellar.counts :=
    (congrArg (fun x : State => x.cellar.counts) htu).trans rfl
  have hfail : t.cellar.failAt = (setDark s.cellar cause true).failAt :=
    (congrArg (fun x : State => x.cellar.failAt) hst).trans rfl
  refine htu.trans ((congrArg (alarmedAs u) hst).trans ?_)
  rw [hfail] at hcounts
  cases h : (setDark s.cellar cause true).failAt with
  | none =>
    have hsame : u.cellar.counts = t.cellar.counts := by simpa [h] using hcounts
    simp [darkenedAs, alarmedAs, reportedAs, h, hpress, hwear, hrest, hsame]
  | some d => simp [darkenedAs, alarmedAs, reportedAs, h, hpress, hwear, hrest]

@[simp] theorem setDark_counts (c : Cellar) (cause : Nat) (on : Bool) : (setDark c cause on).counts = c.counts := by
  unfold setDark
  split <;> rfl

/-- s as a forcing leaves it before its EVENT: the cause stands, the row on is cut, and the counts are those given. -/
def forcedWith (s : State) (cause : Nat) (cellar press : Counters) : State :=
  let cut := rowCutOff { s with cellar := setDark s.cellar cause true }
  { cut with cellar := { cut.cellar with counts := cellar }, press := { cut.press with counts := press } }

theorem forcedWith_frame (s : State) (cause : Nat) (cellar press : Counters) :
    forcedWith s cause cellar press = darkenedAs (forcedWith s cause cellar press) s cause := by
  obtain ⟨wear, rest, hcut⟩ := rowCutOff_eq { s with cellar := setDark s.cellar cause true }
  simp [forcedWith, hcut, darkenedAs, alarmedAs, reportedAs]

theorem forceDark_of_dark {s : State} (cause : Nat) (h : cellarDark s = true) :
    forceDark s cause = forcedWith s cause s.cellar.counts s.press.counts := by
  obtain ⟨wear, rest, hcut⟩ := rowCutOff_eq { s with cellar := setDark s.cellar cause true }
  simp only [forceDark, forcedWith, h, hcut, if_true]
  rw [← setDark_counts s.cellar cause true]

theorem forceDark_of_lit {s : State} (cause : Nat) (h : cellarDark s = false) : forceDark s cause =
    queueAlarm (raiseCellar (forcedWith s cause (bump s.cellar.counts 4) (bump s.press.counts 30)) 0x070B 1
      (BitVec.ofNat 32 cause)) 2 0xFF := by
  obtain ⟨wear, rest, hcut⟩ := rowCutOff_eq { s with cellar := setDark s.cellar cause true }
  simp [forceDark, forcedWith, countPress, countCellar, h, hcut]

theorem forceDark_frame (s : State) (cause : Nat) : forceDark s cause = darkenedAs (forceDark s cause) s cause := by
  cases h : cellarDark s with
  | true =>
    rw [forceDark_of_dark cause h]
    exact forcedWith_frame s cause _ _
  | false =>
    rw [forceDark_of_lit cause h]
    exact darkenedAs_alarmed (forcedWith_frame s cause _ _)
      (alarmedAs_trans (alarmedAs_of_reportedAs (raiseCellar_frame _ _ _ _)) (queueAlarm_frame _ _ _))

/-- A first forcing raises EVENT 0x070B while CORE is on to report it. -/
theorem eventRaised_forceDark {s : State} (cause : Nat) (hcore : coreOn s = true) (h : cellarDark s = false) :
    eventRaised s (forceDark s cause) 0x070B := by
  have hon : coreOn (forcedWith s cause (bump s.cellar.counts 4) (bump s.press.counts 30)) = true := by
    simpa [coreOn, running, forcedWith, rowCutOff] using hcore
  rw [forceDark_of_lit cause h]
  refine eventRaised_of_prefix (eventRaised_of_larder (eventRaised_raiseCellar _ _ _ _ hon) ?_) (events_prefix_queueAlarm _ _ _)
  simp [forcedWith, rowCutOff]

/-! ### The release (R271, R374) -/

/-- The Cellar releases with the end of the last cause. -/
theorem releaseDark_of_last {s : State} {cause : Nat} (hdark : cellarDark s = true)
    (hlast : cellarDark { s with cellar := setDark s.cellar cause false } = false) : releaseDark s cause =
      raiseCellar { s with
        cellar := setDark s.cellar cause false, press := { s.press with residues := [] }
        prot := { s.prot with resumeAtSeam := true } } 0x070B 0 (BitVec.ofNat 32 cause) := by
  simp [releaseDark, hdark, hlast]

/-- With no cause in force before, or one left after, the end of a cause releases nothing. -/
theorem releaseDark_of_not_last {s : State} {cause : Nat}
    (h : cellarDark s = false ∨ cellarDark { s with cellar := setDark s.cellar cause false } = true) :
    releaseDark s cause = { s with cellar := setDark s.cellar cause false } := by
  rcases h with h | h <;> simp [releaseDark, h]

/-! ### The delay lines (R269, R282) -/

theorem exec_delayLineUnlock {s : State} {k : Nat} (top : Bool) (hrun : pressRuns s = true) (hk : k < 192)
    (hlocked : k ∉ s.press.unlocked) : exec (.delayLineUnlock k top) s =
      .next (raise { s with press := { s.press with
          unlocked := s.press.unlocked ++ [k], trims6 := s.press.trims6.set k (if top then 63 else 0)
          counts := bump s.press.counts 11 } }
        0x0702 (BitVec.ofNat 16 k) (BitVec.ofNat 32 (if top then 63 else 0))) := by
  have hexec : exec (.delayLineUnlock k top) s = execDelayLineUnlock k top s := rfl
  simp [hexec, execDelayLineUnlock, hrun, hk, hlocked, countPress]

theorem exec_delayLineRelock {s : State} {k : Nat} (hrun : pressRuns s = true) (hk : k ∈ s.press.unlocked) :
    exec (.delayLineRelock k) s =
      .next (raise { s with
          press := { s.press with
            unlocked := s.press.unlocked.filter (· != k), trims6 := s.press.trims6.set k (Config.freeNat s.fresh % 62 + 1) }
          fresh := s.fresh + 1 } 0x0703 (BitVec.ofNat 16 k) 0) := by
  have hexec : exec (.delayLineRelock k) s = execDelayLineRelock k s := rfl
  simp [hexec, execDelayLineRelock, hrun, hk, freeBelow]

/-! ### PCLK lost (R26, R299) -/

/-- s as the Cellar finds PCLK lost: its sequencing is over, and the loss counted. -/
def pclkHalted (s : State) : State := countPress (haltPress { s with prot := { s.prot with pclkLost := true } }) 31

theorem exec_pclkLoss {s : State} (hcore : coreOn s = true) (hlost : s.prot.pclkLost = false) :
    exec .pclkLoss s = .next (forceDark (pclkHalted s) 1) := by
  have hexec : exec .pclkLoss s = execPclkLoss s := rfl
  simp [hexec, execPclkLoss, hcore, hlost, pclkHalted]

theorem pclkHalted_eq (s : State) : ∃ wear rest, pclkHalted s =
    { s with
      prot := { s.prot with pclkLost := true }
      press := { s.press with
        slotsDone := true, rowOn := none, widths := [], cutoffDone := false, seamSeen := false
        counts := bump s.press.counts 31 }
      coll := { s.coll with tests := [], proofSinks := [] }
      arch := { s.arch with wear := wear, wearRest := rest } } := by
  obtain ⟨wear, rest, hcut⟩ := rowCutOff_eq { s with prot := { s.prot with pclkLost := true } }
  refine ⟨wear, rest, ?_⟩
  rw [pclkHalted, haltPress, hcut]
  rfl

theorem pclkLoss_frame (s : State) {t : State} (h : t = darkenedAs t (pclkHalted s) 1) :
    t = reportedAs t { s with
        prot := { s.prot with pclkLost := true }
        cellar := { s.cellar with darkPclk := true, counts := t.cellar.counts }
        press := { s.press with
          slotsDone := true, rowOn := none, widths := [], cutoffDone := false, seamSeen := false, counts := t.press.counts }
        coll := { s.coll with tests := [], proofSinks := [] }
        back := { s.back with alarms := t.back.alarms, buf0 := t.back.buf0, counts := t.back.counts }
        arch := { s.arch with wear := t.arch.wear, wearRest := t.arch.wearRest } } := by
  obtain ⟨wear, rest, hhalt⟩ := pclkHalted_eq s
  rw [hhalt] at h
  exact h

theorem pressRuns_of_pclkLost {s : State} (h : s.prot.pclkLost = true) : pressRuns s = false := by
  simp [pressRuns, h]

/-! ### PCLK back (R268, R299) -/

/-- s with PCLK back and its delay lines locked, at instants and with trims left open (R268; log 3). -/
def pclkLocked (s : State) : State := lockLines { s with prot := { s.prot with pclkLost := false } }

theorem exec_pclkRestore {s : State} (hcore : coreOn s = true) (hlost : s.prot.pclkLost = true) :
    exec .pclkRestore s = .next (releaseDark (pclkLocked s) 1) := by
  have hexec : exec .pclkRestore s = execPclkRestore s := rfl
  simp [hexec, execPclkRestore, hcore, hlost, pclkLocked]

theorem pclkLocked_trims (s : State) :
    (pclkLocked s).press.trims6.length = 192 ∧ ∀ c ∈ (pclkLocked s).press.trims6, c < 64 := by
  simp only [pclkLocked, lockLines, lockTrims, freeValue, freeBelow, List.length_map, List.length_range, List.mem_map, true_and]
  rintro _ ⟨k, _, rfl⟩
  exact Nat.mod_lt _ (by decide)

theorem pclkLocked_linesLocked (s : State) :
    s.now ≤ (pclkLocked s).prot.linesLocked ∧ (pclkLocked s).prot.linesLocked ≤ s.now + 200000 := by
  simp only [pclkLocked, lockLines, lockTrims, freeValue, freeBelow, usNs]
  omega

theorem pclkLocked_frame (s : State) : pclkLocked s =
    { s with
      prot := { s.prot with pclkLost := false, linesLocked := (pclkLocked s).prot.linesLocked, resumeAtSeam := true }
      press := { s.press with trims6 := (pclkLocked s).press.trims6 }
      fresh := s.fresh + 2 } := rfl

theorem pclkLocked_cellar (s : State) : (pclkLocked s).cellar = s.cellar := rfl

/-- The return of PCLK ends the last cause of dark. -/
theorem pclkRestore_last {s : State} (hp : s.cellar.darkPclk = true) (hw : s.cellar.darkWatchdog = false)
    (hf : s.cellar.darkPower = false) : releaseDark (pclkLocked s) 1 =
      raiseCellar { pclkLocked s with
        cellar := { s.cellar with darkPclk := false }, press := { (pclkLocked s).press with residues := [] } } 0x070B 0 1 :=
  releaseDark_of_last (by simp [cellarDark, pclkLocked_cellar, hp]) (by simp [cellarDark, setDark, pclkLocked_cellar, hw, hf])

/-- PCLK held nothing dark, or another cause still does. -/
theorem pclkRestore_not_last {s : State}
    (h : s.cellar.darkPclk = false ∨ s.cellar.darkWatchdog = true ∨ s.cellar.darkPower = true) :
    releaseDark (pclkLocked s) 1 = { pclkLocked s with cellar := { s.cellar with darkPclk := false } } := by
  refine releaseDark_of_not_last ?_
  by_cases hrest : s.cellar.darkWatchdog = true ∨ s.cellar.darkPower = true
  · exact .inr (by simpa [cellarDark, setDark, pclkLocked_cellar] using hrest)
  · have hp := h.resolve_right hrest
    simp only [not_or, Bool.not_eq_true] at hrest
    exact .inl (by simp [cellarDark, pclkLocked_cellar, hp, hrest])

/-- s with PCLK back, but for the instant of the lock, the trims and the residues, which t gives, and for the EVENT records. -/
def pclkBackAs (t s : State) : State :=
  reportedAs t { s with
    prot := { s.prot with pclkLost := false, linesLocked := t.prot.linesLocked, resumeAtSeam := true }
    cellar := { s.cellar with darkPclk := false }
    press := { s.press with residues := t.press.residues, trims6 := t.press.trims6 }
    fresh := s.fresh + 2 }

/-- What the return of PCLK answers, whether or not it releases dark: the lock and the trims are those of `pclkLocked`. -/
theorem pclkRestore_frame (s : State) : ∃ t, releaseDark (pclkLocked s) 1 = t ∧
    t.prot.linesLocked = (pclkLocked s).prot.linesLocked ∧ t.press.trims6 = (pclkLocked s).press.trims6 ∧
    t = pclkBackAs t s := by
  refine ⟨_, rfl, ?_⟩
  by_cases hlast : s.cellar.darkPclk = true ∧ s.cellar.darkWatchdog = false ∧ s.cellar.darkPower = false
  · obtain ⟨hp, hw, hf⟩ := hlast
    rw [pclkRestore_last hp hw hf]
    refine ⟨by simp, by simp, (raiseCellar_frame _ _ _ _).trans ?_⟩
    simp only [pclkBackAs, raiseCellar_press, raiseCellar_prot]
    rfl
  · have hrest : s.cellar.darkPclk = false ∨ s.cellar.darkWatchdog = true ∨ s.cellar.darkPower = true := by
      grind
    rw [pclkRestore_not_last hrest]
    exact ⟨rfl, rfl, reportedAs_self _⟩

/-- Settles O37: each command by its equation, with the frames of EVENT, alarm and dark forcing. -/
theorem delayLinesAndPclk : Obligations.DelayLinesAndPclk := by
  unfold Obligations.DelayLinesAndPclk
  refine ⟨fun s k top hrun hk hlocked => ?_, fun s k hrun hk => ?_, fun s hcore hlost => ?_, fun s hcore hlost => ?_⟩
  · exact ⟨_, exec_delayLineUnlock top hrun hk hlocked, eventRaised_of_larder (eventRaised_raise _ _ _ _) rfl,
      raise_frame _ _ _ _⟩
  · have htrim : Config.freeNat s.fresh % 62 < 62 := Nat.mod_lt _ (by decide)
    exact ⟨_, Config.freeNat s.fresh % 62 + 1, exec_delayLineRelock hrun hk,
      eventRaised_of_larder (eventRaised_raise _ _ _ _) rfl, Nat.le_add_left 1 _, htrim, raise_frame _ _ _ _⟩
  · refine ⟨_, exec_pclkLoss hcore hlost, pressRuns_of_pclkLost ?_, fun hlit => ?_, pclkLoss_frame s (forceDark_frame _ 1)⟩
    · obtain ⟨wear, rest, hhalt⟩ := pclkHalted_eq s
      rw [forceDark_prot, hhalt]
    · obtain ⟨wear, rest, hhalt⟩ := pclkHalted_eq s
      rw [hhalt]
      exact eventRaised_of_larder (eventRaised_forceDark 1 hcore hlit) rfl
  · obtain ⟨t, ht, hlines, htrims, hframe⟩ := pclkRestore_frame s
    obtain ⟨hfrom, hto⟩ := pclkLocked_linesLocked s
    obtain ⟨hlen, hcodes⟩ := pclkLocked_trims s
    refine ⟨t, by rw [exec_pclkRestore hcore hlost, ht], hlines ▸ hfrom, hlines ▸ hto, htrims ▸ hlen, htrims ▸ hcodes,
      fun hp hw hf => ?_, fun hrest => ?_, hframe⟩
    · rw [← ht, pclkRestore_last hp hw hf]
      exact ⟨by simp, eventRaised_of_larder (eventRaised_raiseCellar _ _ _ _ hcore) rfl⟩
    · rw [← ht, pclkRestore_not_last (.inr hrest)]
      rfl

end Sys2Proof.Machine

/-! ## Port training

The settlement of O16. The layers: a LINK report with room for it; a port's change of state, by what it leaves of the ports and
of all else; the report of a wake from S4; the five commands. -/

namespace Sys2Proof.Machine

open Sys2Proof

/-! ### A report with room for it (R63, R105, R205) -/

/-- The ring modes are not those of a leaf (R37). -/
theorem leafRole_of_portsTrain {s : State} (h : portsTrain s = true) : leafRole s = false := by
  by_contra hleaf
  have hlevel : s.straps.levels.getD 0 0 = 8 ∨ s.straps.levels.getD 0 0 = 9 := by
    simpa only [leafRole, Bool.not_eq_false, Bool.or_eq_true, beq_iff_eq] using hleaf
  have hmode : mode s = .leaf ∨ mode s = .leafFz := by
    simp only [mode, strap]
    exact hlevel.imp (fun h => by rw [h]; rfl) (fun h => by rw [h]; rfl)
  rcases hmode with hmode | hmode <;> simp [portsTrain, ringMode, hmode] at h

/-- A folio due on both ports keeps its place as the queue settles while either is UP. -/
theorem mem_settle_of_dueBoth (s : State) (f : OwnFolio) (hf : f ∈ s.larder.reports) (he : f.dueEast = true)
    (hw : f.dueWest = true) (hl : leafRole s = false) (hup : (portUp s .east || portUp s .west) = true) :
    ∃ r ∈ (settle s).larder.reports, r.kind = f.kind ∧ r.spec = f.spec ∧ r.seq = f.seq ∧ r.payload = f.payload := by
  refine ⟨dropDown s f, List.mem_filter.mpr ⟨List.mem_map_of_mem hf, ?_⟩, ?_⟩
  · rw [dropDown, if_neg (by simp [hl])]
    split
    · simpa [he, hw] using hup
    · simp [he]
  · unfold dropDown
    (repeat' split) <;> simp

theorem enterQueue_holds_dueBoth (s : State) (f : OwnFolio) (hown : f.leafSrc = none) (hk : f.kind = 3)
    (he : f.dueEast = true) (hw : f.dueWest = true) (hl : leafRole s = false)
    (hup : (portUp s .east || portUp s .west) = true) : ∃ r ∈ (enterQueue s f).larder.reports,
      r.kind = 3 ∧ r.spec = f.spec ∧ r.seq = s.addr.reportSeq ∧ r.payload = f.payload := by
  unfold enterQueue
  have hnot : (f.kind != 4) = true := by rw [hk]; decide
  simp only [hown, hnot, Option.isNone_none, Bool.and_self, if_true]
  rw [← hk]
  refine mem_settle_of_dueBoth _ { f with seq := s.addr.reportSeq } ?_ he hw hl hup
  simp [hown]

/-- What was queued stays said of an earlier state with the same queues and report sequence. -/
theorem reportQueued_of_source {s s' t : State} {rtype : Half} {size : Nat} {holds : List Byte → Prop}
    (h : reportQueued s' t rtype size holds) (hl : s'.larder = s.larder) (ha : s'.addr = s.addr) :
    reportQueued s t rtype size holds := by
  unfold reportQueued reportLevel at h ⊢
  rwa [hl, ha] at h

theorem reportQueued_queueReport (s : State) (rtype : Half) (payload : List Byte) (holds : List Byte → Prop)
    (hl : leafRole s = false) (hp : holds payload) :
    reportQueued s (queueReport s rtype payload) rtype payload.length holds := by
  intro hwait hroom hup
  have hups : (portUp s .east || portUp s .west) = true := by simpa [portUp] using hup
  unfold queueReport queueOwn
  rw [if_pos]
  · obtain ⟨r, hr, hk, hs, hq, hpay⟩ := enterQueue_holds_dueBoth s
      { kind := 3, spec := rtype, seq := 0, payload := payload, dueEast := true, dueWest := true, leafSrc := none
        unassignedOk := false } rfl rfl rfl rfl hl hups
    exact ⟨r, hr, hk, hs, hq, hpay ▸ hp⟩
  · have hfree : reportLevel s + foliosUnits payload.length ≤ 256 := by omega
    simp only [roomFor, hwait, List.all_nil, Bool.and_true, decide_eq_true_eq]
    split <;> assumption

/-! ### LINK (R110) -/

theorem wordsBytes_length (ws : List Word) : (wordsBytes ws).length = 4 * ws.length := by
  induction ws with
  | nil => rfl
  | cons w ws ih => simp only [wordsBytes_cons, List.length_append, wordBytes_length, ih, List.length_cons]; omega

theorem linkPayload_length (s : State) (why : Nat) : (linkPayload s why).length =
    4 * (7 + s.spine.east.counts.length + s.spine.west.counts.length + s.spine.malformed.length) := by
  simp only [linkPayload, linkWords, portBlock, wordsBytes_length, List.length_cons, List.length_append, List.length_nil]
  omega

theorem linkPayload_take (s : State) (why : Nat) : (linkPayload s why).take 4 = wordBytes (BitVec.ofNat 32 why) :=
  List.take_left' (wordBytes_length _)

/-- A port that keeps its counts leaves the length of LINK as it is. -/
theorem linkPayload_setPort_length (s : State) (p : Port) (x : PortS) (why : Nat) (hc : x.counts = (getPort s p).counts) :
    (linkPayload (setPort s p x) why).length = (linkPayload s why).length := by
  cases p <;> simp [linkPayload_length, setPort, getPort] at hc ⊢ <;> simp [hc]

theorem linkQueued_of_reports {s t u : State} (h : linkQueued s t) (hr : u.larder.reports = t.larder.reports)
    (hs : u.spine = t.spine) : linkQueued s u := by
  simpa [linkQueued, reportQueued, portUp, getPort, hr, hs] using h

/-! ### A port's change of state (R57, R106) -/

theorem enterPort_frame (s : State) (p : Port) (x : PortS) (st : PortState) :
    enterPort s p x st = queuedAs (enterPort s p x st) (setPort s p { x with st := st, since := s.now }) :=
  queueReport_frame _ _ _

theorem linkQueued_enterPort {s : State} {p : Port} {x : PortS} (st : PortState) (hl : leafRole s = false)
    (hc : x.counts = (getPort s p).counts) : linkQueued s (enterPort s p x st) := by
  have h := reportQueued_queueReport (setPort s p { x with st := st, since := s.now }) 0x0011
    (linkPayload (setPort s p { x with st := st, since := s.now }) 2) (fun b => b.take 4 = wordBytes 2)
    (by simpa [leafRole] using hl) (linkPayload_take _ 2)
  rw [linkPayload_setPort_length s p { x with st := st, since := s.now } 2 hc] at h
  exact reportQueued_of_source h (setPort_larder _ _ _) (setPort_addr _ _ _)

/-- The port that entered holds what it was given, but for the copies discarded there. -/
theorem getPort_of_queuedAs_setPort {s t : State} {p : Port} {x : PortS} (h : t = queuedAs t (setPort s p x)) :
    getPort t p = { x with counts := (getPort t p).counts } := by
  conv_lhs => rw [h]
  cases p <;> rfl

theorem getPort_enterPort (s : State) (p : Port) (x : PortS) (st : PortState) : getPort (enterPort s p x st) p =
    { x with st := st, since := s.now, counts := (getPort (enterPort s p x st) p).counts } :=
  getPort_of_queuedAs_setPort (enterPort_frame s p x st)

theorem getPort_enterPort_other_st (s : State) (p : Port) (x : PortS) (st : PortState) :
    (getPort (enterPort s p x st) (otherPort p)).st = (getPort s (otherPort p)).st := by
  simp [enterPort]

/-! ### Signal, lock and alignment (R53, R57, R165) -/

theorem fastHeld_iff (s : State) (x : PortS) : fastHeld s x = true ↔
    (x.fastUntil ≠ 0 ∧ s.now ≤ x.fastUntil) ∨ ∃ e, x.windowEnd = some e ∧ mNs s ≤ e := by
  cases h : x.windowEnd <;> simp [fastHeld, h]

theorem exec_portSignalDetect {s : State} {p : Port} (ht : portsTrain s = true) (hst : (getPort s p).st = .down) :
    exec (.portSignalDetect p) s = .next (enterPort s p { getPort s p with
      fastNow := fastHeld s (getPort s p), twoLanes := twoLanesStrapped s, laneMismatch := false
      eqLong := if fastHeld s (getPort s p) then (getPort s p).eqLong else longCables s } .acquire) := by
  have hexec : exec (.portSignalDetect p) s = execPortSignalDetect p s := rfl
  simp [hexec, execPortSignalDetect, ht, hst]

theorem exec_portAcquired {s : State} {p : Port} (ht : portsTrain s = true) (hst : (getPort s p).st = .acquire) :
    exec (.portAcquired p) s = .next (enterPort s p { getPort s p with rateSuspected := false } .blockLock) := by
  have hexec : exec (.portAcquired p) s = execPortAcquired p s := rfl
  simp [hexec, execPortAcquired, ht, hst]

theorem exec_blockLock {s : State} {p : Port} (ht : portsTrain s = true) (hst : (getPort s p).st = .blockLock) :
    exec (.blockLock p) s = .next (enterPort s p (getPort s p) .deskew) := by
  have hexec : exec (.blockLock p) s = execBlockLock p s := rfl
  simp [hexec, execBlockLock, ht, hst]

/-- s with the lane-0 delay of a port kept (R165). -/
def withLane0 (s : State) (p : Port) (ps : Nat) : State := setSync s p { portSync s p with lane0Ps := ps }

/-- s with a port in CONFIRM, its lane-0 delay kept, before its HELLO blocks leave. -/
def deskewed (s : State) (p : Port) (d : LaneDelays) : State :=
  enterPort (withLane0 s p d.lane0Ps) p
    { getPort s p with skewPs := if (getPort s p).twoLanes then d.skewPs else 0 } .confirm

/-- The HELLO block of a port (R101). -/
def helloOf (s : State) (p : Port) : Sent :=
  .hello p (getPort s p).twoLanes (BitVec.ofNat 16 Config.serialFuses.toNat)

/-- What DESKEW answers: a port in CONFIRM and its four HELLO blocks sent. -/
def helloSent (s : State) (p : Port) (d : LaneDelays) : State :=
  { deskewed s p d with wire := List.replicate 4 (helloOf s p) ++ s.wire }

theorem exec_deskew {s : State} {p : Port} {d : LaneDelays} (ht : portsTrain s = true) (hst : (getPort s p).st = .deskew)
    (hskew : (getPort s p).twoLanes = true → d.skewPs ≤ 40000) : exec (.deskew p d) s =
      .next (helloSent s p d) := by
  have hexec : exec (.deskew p d) s = execDeskew p d s := rfl
  have htol : skewTolerated (getPort s p) d.skewPs = true := by
    cases h : (getPort s p).twoLanes <;> simp_all [skewTolerated]
  simp [hexec, execDeskew, ht, hst, htol, helloSent, deskewed, withLane0, helloOf]

theorem deskewed_frame (s : State) (p : Port) (d : LaneDelays) : deskewed s p d = queuedAs (deskewed s p d)
    (setSync (setPort s p { getPort s p with
      st := .confirm, since := s.now, skewPs := (getPort (deskewed s p d) p).skewPs }) p
      { portSync s p with lane0Ps := d.lane0Ps }) := by
  have hskew : (getPort (deskewed s p d) p).skewPs = if (getPort s p).twoLanes then d.skewPs else 0 := by
    rw [deskewed, getPort_enterPort]
  rw [hskew]
  refine (enterPort_frame _ _ _ _).trans ?_
  cases p <;> rfl

theorem linkQueued_deskewed {s : State} {p : Port} {d : LaneDelays} (hl : leafRole s = false) :
    linkQueued s (deskewed s p d) := by
  have h : linkQueued (withLane0 s p d.lane0Ps) (deskewed s p d) :=
    linkQueued_enterPort .confirm (by simpa [withLane0, leafRole] using hl) (by cases p <;> rfl)
  have hsame : linkPayload (withLane0 s p d.lane0Ps) 2 = linkPayload s 2 := by simp [linkPayload, linkWords, withLane0]
  rw [linkQueued, hsame] at h
  exact reportQueued_of_source h (setSync_larder _ _ _) (setSync_addr _ _ _)

theorem getPort_helloSent (s : State) (p : Port) (d : LaneDelays) :
    getPort (helloSent s p d) p = getPort (deskewed s p d) p := by
  cases p <;> rfl

theorem portSync_helloSent_lane0 (s : State) (p : Port) (d : LaneDelays) :
    (portSync (helloSent s p d) p).lane0Ps = d.lane0Ps := by
  cases p <;> simp [helloSent, deskewed, withLane0, portSync, setSync]

theorem helloSent_frame (s : State) (p : Port) (d : LaneDelays) : helloSent s p d = queuedAs (helloSent s p d)
    { setSync (setPort s p { getPort s p with
        st := .confirm, since := s.now, skewPs := (getPort (helloSent s p d) p).skewPs }) p
        { portSync s p with lane0Ps := d.lane0Ps } with
      wire := (helloSent s p d).wire } := by
  rw [getPort_helloSent]
  exact congrArg (fun u : State => { u with wire := List.replicate 4 (helloOf s p) ++ s.wire }) (deskewed_frame s p d)

/-! ### The second link of a splice (R376, R398, R407 to R409, R414) -/

theorem spliced_iff (s : State) (p : Port) : spliced s = true ↔
    s.spine.bypHold = true ∧ (getPort s p).st = .up ∧ (getPort s (otherPort p)).st = .up := by
  cases p <;> simp [spliced, portUp, otherPort, and_assoc, and_comm]

/-- The wake from S4 ends at this splice. -/
def endsS4 (s : State) : Bool :=
  s.start.cause == .s4Wake && s.hall.ready && spliced s && s.power.counts.getD 10 0 == 0

theorem queueEvents_frame (es : List EventRec) (s : State) : es.foldl queueEvent s = reportedAs (es.foldl queueEvent s) s := by
  induction es generalizing s with
  | nil => exact reportedAs_self s
  | cons e es ih => exact reportedAs_trans (queueEvent_frame s e) (ih _)

theorem reportHeld_frame (s : State) : reportHeld s = reportedAs (reportHeld s) s :=
  reportedAs_trans (keep_frame s []) (queueEvents_frame _ _)

/-- s with step 8 of start-up, the power state's record, queue 0x01 and the EVENT records of t: all that CONFIRM touches but
its port. -/
def splicedAs (t s : State) : State :=
  reportedAs t (queuedAs t { s with start := { s.start with stepUs := t.start.stepUs }, power := t.power })

theorem splicedAs_self (s : State) : s = splicedAs s s := reportedAs_self s

theorem splicedAs_trans {s t u : State} (hst : t = splicedAs t s) (htu : u = splicedAs u t) : u = splicedAs u s := by
  refine htu.trans ((congrArg (splicedAs u) hst).trans ?_)
  cases h : s.cellar.failAt <;> simp [splicedAs, reportedAs, queuedAs, h]

theorem splicedAs_of_queuedAs {s t : State} (h : t = queuedAs t s) : t = splicedAs t s :=
  calc t = splicedAs t t := splicedAs_self t
    _ = splicedAs t (queuedAs t s) := by rw [← h]
    _ = splicedAs t s := rfl

theorem splicedAs_of_reportedAs {s t : State} (h : t = reportedAs t s) : t = splicedAs t s := by
  refine (splicedAs_self t).trans ((congrArg (splicedAs t) h).trans ?_)
  cases hf : s.cellar.failAt <;> simp [splicedAs, reportedAs, queuedAs, hf]

/-- EVENT records leave the ports, the power state and the reports of queue 0x01. -/
theorem reportedAs_keeps {s t : State} (h : t = reportedAs t s) :
    t.spine = s.spine ∧ t.power = s.power ∧ t.larder.reports = s.larder.reports :=
  ⟨(congrArg State.spine h).trans rfl, (congrArg State.power h).trans rfl,
    (congrArg (fun x : State => x.larder.reports) h).trans rfl⟩

theorem reportedAs_withPower {s t : State} (h : t = reportedAs t s) (power : Power) :
    ({ t with power := power } : State) = reportedAs { t with power := power } { s with power := power } :=
  congrArg (fun u : State => { u with power := power }) h

theorem noteSplice_frame (s : State) : noteSplice s = splicedAs (noteSplice s) s := by
  unfold noteSplice
  split
  · exact splicedAs_self _
  · exact splicedAs_self s

theorem noteSplice_eq (s : State) :
    noteSplice s = { s with start := { s.start with stepUs := (noteSplice s).start.stepUs } } := by
  unfold noteSplice
  split <;> rfl

/-- What CONFIRM's record of a wake goes on from: EVENT 0x0C01 kept and reported (R376, R407). -/
def wakeReported (s : State) : State := reportHeld (raiseKept s 0x0C01 (stateChange .s4 .s0) (stateArg s 7))

theorem wakeReported_frame (s : State) : wakeReported s = reportedAs (wakeReported s) s :=
  reportedAs_trans (raiseKept_frame _ _ _ _) (reportHeld_frame _)

theorem reportS4_of_end {s : State} (h : endsS4 s = true) : reportS4 s =
    { wakeReported s with
      power := { s.power with lastSt := .s4, lastCause := 7, counts := bump s.power.counts 10 } } := by
  obtain ⟨_, hpower, _⟩ := reportedAs_keeps (wakeReported_frame s)
  rw [reportS4, if_pos (by simpa [endsS4] using h), ← hpower]
  rfl

theorem reportS4_of_not_end {s : State} (h : endsS4 s = false) : reportS4 s = s := by
  rw [reportS4, if_neg (by simpa [endsS4] using h)]

theorem reportS4_frame (s : State) : reportS4 s = reportedAs (reportS4 s) { s with power := (reportS4 s).power } := by
  cases h : endsS4 s with
  | true =>
    rw [reportS4_of_end h]
    exact reportedAs_withPower (wakeReported_frame s) _
  | false =>
    rw [reportS4_of_not_end h]
    exact reportedAs_self s

theorem reportS4_splicedAs (s : State) : reportS4 s = splicedAs (reportS4 s) s :=
  splicedAs_trans (t := { s with power := (reportS4 s).power }) (splicedAs_self _)
    (splicedAs_of_reportedAs (reportS4_frame s))

/-- With nothing else kept, the EVENT of the wake is a new record of queue 0x02. -/
theorem eventRaised_wakeReported {s : State} (h : s.cellar.unreported = []) : eventRaised s (wakeReported s) 0x0C01 := by
  intro hroom
  have hlt : s.larder.events.length < 256 := by omega
  simp [wakeReported, reportHeld, raiseKept, h, queueEvent, hlt]

/-! ### HELLO exchanged (R57, R58, R101) -/

/-- The port x as the HELLO blocks exchanged leave it, before it is UP. -/
def helloTaken (s : State) (x : PortS) (two : Bool) (low : Half) : PortS :=
  { x with
    twoLanes := x.twoLanes && two, laneMismatch := x.twoLanes != two, nbrLow := low, fastNow := false
    outageUs := if x.counts.getD 7 0 != 0 then BitVec.ofNat 32 (sat 32 ((s.now - x.downAt) / usNs)) else x.outageUs
    nextIdent := s.now }

/-- s with a port UP and LINK queued, and step 8 of start-up noted where it ends. -/
def linkedUp (s : State) (p : Port) (two : Bool) (low : Half) : State :=
  noteSplice (enterPort s p (helloTaken s (getPort s p) two low) .up)

/-- EVENT 0x0103 where the lane counts of the two ends differ (R58). -/
def mismatchRaised (s : State) (p : Port) (mismatch : Bool) : State :=
  if mismatch then raise s 0x0103 (BitVec.ofNat 16 (portCode p)) 0 else s

theorem mismatchRaised_frame (s : State) (p : Port) (mismatch : Bool) :
    mismatchRaised s p mismatch = reportedAs (mismatchRaised s p mismatch) s := by
  unfold mismatchRaised
  split
  · exact raise_frame _ _ _ _
  · exact reportedAs_self s

theorem events_prefix_mismatchRaised (s : State) (p : Port) (mismatch : Bool) :
    s.larder.events <+: (mismatchRaised s p mismatch).larder.events := by
  unfold mismatchRaised
  split
  · exact events_prefix_raise _ _ _ _
  · exact List.prefix_refl _

theorem mismatchRaised_unreported (s : State) (p : Port) (mismatch : Bool) :
    (mismatchRaised s p mismatch).cellar.unreported = s.cellar.unreported := by
  unfold mismatchRaised
  split <;> simp

/-- What CONFIRM answers. -/
def confirmed (s : State) (p : Port) (two : Bool) (low : Half) : State :=
  mismatchRaised (reportS4 (linkedUp s p two low)) p ((getPort s p).twoLanes != two)

theorem exec_confirm {s : State} {p : Port} (two : Bool) (low : Half) (ht : portsTrain s = true)
    (hst : (getPort s p).st = .confirm) : exec (.confirm p two low) s = .next (confirmed s p two low) := by
  have hexec : exec (.confirm p two low) s = execConfirm p two low s := rfl
  simp only [hexec, execConfirm, ht, hst, confirmed, mismatchRaised, linkedUp, helloTaken]
  rfl

theorem linkedUp_frame (s : State) (p : Port) (two : Bool) (low : Half) : linkedUp s p two low =
    splicedAs (linkedUp s p two low)
      (setPort s p { helloTaken s (getPort s p) two low with st := .up, since := s.now }) :=
  splicedAs_trans (splicedAs_of_queuedAs (enterPort_frame _ _ _ _))
    (noteSplice_frame _)

/-- What noting step 8 and raising EVENTs leave as the port's change of state left it. -/
theorem linkedUp_keeps (s : State) (p : Port) (two : Bool) (low : Half) :
    (linkedUp s p two low).spine = (enterPort s p (helloTaken s (getPort s p) two low) .up).spine ∧
      (linkedUp s p two low).larder = (enterPort s p (helloTaken s (getPort s p) two low) .up).larder ∧
      (linkedUp s p two low).start.cause = s.start.cause ∧ (linkedUp s p two low).hall.ready = s.hall.ready ∧
      (linkedUp s p two low).power = s.power ∧ (linkedUp s p two low).cellar = s.cellar := by
  rw [linkedUp, noteSplice_eq]
  refine ⟨rfl, rfl, ?_⟩
  simp [enterPort]

theorem confirmed_keeps (s : State) (p : Port) (two : Bool) (low : Half) :
    (confirmed s p two low).spine = (enterPort s p (helloTaken s (getPort s p) two low) .up).spine ∧
      (confirmed s p two low).larder.reports =
        (enterPort s p (helloTaken s (getPort s p) two low) .up).larder.reports ∧
      (confirmed s p two low).power = (reportS4 (linkedUp s p two low)).power := by
  obtain ⟨hspine, hpower, hreports⟩ := reportedAs_keeps
    (mismatchRaised_frame (reportS4 (linkedUp s p two low)) p ((getPort s p).twoLanes != two))
  obtain ⟨hspine', _, hreports'⟩ := reportedAs_keeps (reportS4_frame (linkedUp s p two low))
  obtain ⟨hspine'', hlarder, _⟩ := linkedUp_keeps s p two low
  refine ⟨hspine.trans (hspine'.trans hspine''), ?_, hpower⟩
  exact hreports.trans (hreports'.trans (congrArg Larder.reports hlarder))

theorem getPort_confirmed (s : State) (p : Port) (two : Bool) (low : Half) : getPort (confirmed s p two low) p =
    { helloTaken s (getPort s p) two low with
      st := .up, since := s.now, counts := (getPort (confirmed s p two low) p).counts } := by
  obtain ⟨hspine, _, _⟩ := confirmed_keeps s p two low
  have hport : getPort (confirmed s p two low) p = getPort (enterPort s p (helloTaken s (getPort s p) two low) .up) p := by
    cases p <;> simp only [getPort, hspine]
  rw [hport]
  exact getPort_enterPort _ _ _ _

theorem linkQueued_confirmed {s : State} {p : Port} (two : Bool) (low : Half) (hl : leafRole s = false) :
    linkQueued s (confirmed s p two low) := by
  obtain ⟨hspine, hreports, _⟩ := confirmed_keeps s p two low
  have hlink : linkQueued s (enterPort s p (helloTaken s (getPort s p) two low) .up) := linkQueued_enterPort .up hl rfl
  exact linkQueued_of_reports hlink hreports hspine

/-- With its port UP, the splice is whole where BYP_HOLD is high and the other link is UP. -/
theorem endsS4_linkedUp (s : State) (p : Port) (two : Bool) (low : Half) : endsS4 (linkedUp s p two low) = true ↔
    s.start.cause = .s4Wake ∧ s.hall.ready = true ∧ s.spine.bypHold = true ∧ (getPort s (otherPort p)).st = .up ∧
      s.power.counts.getD 10 0 = 0 := by
  obtain ⟨hspine, _, hcause, hready, hpower, _⟩ := linkedUp_keeps s p two low
  have hsplice : spliced (linkedUp s p two low) = true ↔
      s.spine.bypHold = true ∧ (getPort s (otherPort p)).st = .up := by
    have hstate (q : Port) : getPort (linkedUp s p two low) q =
        getPort (enterPort s p (helloTaken s (getPort s p) two low) .up) q := by
      cases q <;> simp only [getPort, hspine]
    rw [spliced_iff _ p, hstate, hstate, getPort_enterPort_other_st, getPort_enterPort, hspine]
    simp [enterPort]
  simp only [endsS4, Bool.and_eq_true, beq_iff_eq, hsplice, hcause, hready, hpower]
  tauto

theorem confirmed_frame (s : State) (p : Port) (two : Bool) (low : Half) : confirmed s p two low =
    splicedAs (confirmed s p two low)
      (setPort s p { helloTaken s (getPort s p) two low with st := .up, since := s.now }) :=
  splicedAs_trans (linkedUp_frame s p two low)
    (splicedAs_trans (reportS4_splicedAs _) (splicedAs_of_reportedAs (mismatchRaised_frame _ _ _)))

/-- The CONFIRM that ends a wake from S4 records it (R398, R407 to R409). -/
theorem confirmed_of_end {s : State} {p : Port} {two : Bool} {low : Half} (h : endsS4 (linkedUp s p two low) = true) :
    (s.cellar.unreported = [] → eventRaised s (confirmed s p two low) 0x0C01) ∧
      (confirmed s p two low).power =
        { s.power with lastSt := .s4, lastCause := 7, counts := bump s.power.counts 10 } := by
  obtain ⟨_, hlarder, _, _, hpower, hcellar⟩ := linkedUp_keeps s p two low
  obtain ⟨_, _, hend⟩ := confirmed_keeps s p two low
  rw [hend, reportS4_of_end h, hpower]
  refine ⟨fun hkept => ?_, rfl⟩
  rw [confirmed, reportS4_of_end h]
  refine eventRaised_of_prefix ?_ (events_prefix_mismatchRaised _ _ _)
  have hraised := eventRaised_wakeReported (s := linkedUp s p two low) (by rw [hcellar]; exact hkept)
  unfold eventRaised at hraised ⊢
  rw [hlarder] at hraised
  simpa [enterPort] using hraised

theorem confirmed_of_not_end {s : State} {p : Port} {two : Bool} {low : Half}
    (h : endsS4 (linkedUp s p two low) = false) : (confirmed s p two low).power = s.power ∧
      (confirmed s p two low).cellar.unreported = s.cellar.unreported := by
  obtain ⟨_, _, _, _, hpower, hcellar⟩ := linkedUp_keeps s p two low
  obtain ⟨_, _, hend⟩ := confirmed_keeps s p two low
  rw [hend, confirmed, mismatchRaised_unreported, reportS4_of_not_end h, hpower, hcellar]
  exact ⟨rfl, rfl⟩

/-! ### A training command in another state than the one it leaves (R53, R57) -/

theorem exec_training_idle (s : State) (p : Port) :
    ((getPort s p).st ≠ .down → exec (.portSignalDetect p) s = .next s) ∧
      ((getPort s p).st ≠ .acquire → exec (.portAcquired p) s = .next s) ∧
      ((getPort s p).st ≠ .blockLock → exec (.blockLock p) s = .next s) ∧
      (∀ ps skew, (getPort s p).st ≠ .deskew ∨ ((getPort s p).twoLanes = true ∧ 40000 < skew) →
        exec (.deskew p ⟨ps, skew⟩) s = .next s) ∧
      (∀ two low, (getPort s p).st ≠ .confirm → exec (.confirm p two low) s = .next s) := by
  refine ⟨fun h => ?_, fun h => ?_, fun h => ?_, fun ps skew h => ?_, fun two low h => ?_⟩
  · rw [show exec (.portSignalDetect p) s = execPortSignalDetect p s from rfl]
    simp [execPortSignalDetect, h]
  · rw [show exec (.portAcquired p) s = execPortAcquired p s from rfl]
    simp [execPortAcquired, h]
  · rw [show exec (.blockLock p) s = execBlockLock p s from rfl]
    simp [execBlockLock, h]
  · rw [show exec (.deskew p ⟨ps, skew⟩) s = execDeskew p ⟨ps, skew⟩ s from rfl]
    rcases h with h | ⟨htwo, hskew⟩
    · simp [execDeskew, h]
    · simp [execDeskew, skewTolerated, htwo, hskew]
  · rw [show exec (.confirm p two low) s = execConfirm p two low s from rfl]
    simp [execConfirm, h]

/-! ### The obligation -/

/-- Settles O16: each command by its equation, the frame of the change of state, and the record of a wake from S4. -/
theorem portTraining : Obligations.PortTraining := by
  unfold Obligations.PortTraining
  refine ⟨fun s p x ht hx => ?_, exec_training_idle⟩
  subst hx
  have hl := leafRole_of_portsTrain ht
  refine ⟨fun hst => ?_, fun hst => ?_, fun hst => ?_, fun ps skew hst hskew => ?_, fun two low hst => ?_⟩
  · refine ⟨_, exec_portSignalDetect ht hst, ?_, ?_, linkQueued_enterPort _ hl rfl, ?_, ?_⟩
    · rw [getPort_enterPort]
    · rw [getPort_enterPort]
    · rw [getPort_enterPort]
      exact fastHeld_iff s _
    · refine (enterPort_frame _ _ _ _).trans ?_
      rw [getPort_enterPort]
  · refine ⟨_, exec_portAcquired ht hst, ?_, linkQueued_enterPort _ hl rfl, enterPort_frame _ _ _ _⟩
    rw [getPort_enterPort]
  · refine ⟨_, exec_blockLock ht hst, ?_, linkQueued_enterPort _ hl rfl, enterPort_frame _ _ _ _⟩
    rw [getPort_enterPort]
  · refine ⟨_, exec_deskew ht hst hskew, ?_, portSync_helloSent_lane0 _ _ _,
      linkQueued_of_reports (linkQueued_deskewed hl) rfl rfl, rfl, helloSent_frame _ _ _⟩
    rw [getPort_helloSent, deskewed, getPort_enterPort]
  · have hport := getPort_confirmed s p two low
    refine ⟨_, exec_confirm two low ht hst, ?_, ?_, ?_, ?_, linkQueued_confirmed two low hl,
      fun hcause hready hbyp hup hfirst => ?_, fun hnot => ?_, ?_⟩
    · rw [hport]
    · rw [hport]; rfl
    · rw [hport]; rfl
    · rw [hport]; rfl
    · exact confirmed_of_end ((endsS4_linkedUp s p two low).mpr ⟨hcause, hready, hbyp, hup, hfirst⟩)
    · refine confirmed_of_not_end (Bool.eq_false_iff.mpr fun hend => ?_)
      obtain ⟨hcause, hready, hbyp, hup, _⟩ := (endsS4_linkedUp s p two low).mp hend
      simp [hcause, hready, hbyp, hup] at hnot
    · have hout : (getPort (confirmed s p two low) p).outageUs = (helloTaken s (getPort s p) two low).outageUs := by
        rw [hport]
      refine (confirmed_frame s p two low).trans ?_
      rw [hout, splicedAs, setPort_start]
      rfl

end Sys2Proof.Machine

/-! ## Splice windows

The settlement of O21. The layers: a report or an answer with room for it, at a leaf too; what BYP_HOLD's edge touches; the clocks
at a window's instant; the four commands. -/

namespace Sys2Proof.Machine

open Sys2Proof

/-! ### An own folio with room for it, at a ring node or a leaf (R63, R102, R205) -/

/-- A folio due on both ports keeps its place as the queue settles while either port is UP: a leaf's stays due upstream. -/
theorem settle_keeps_dueBoth {s : State} {f : OwnFolio} (hf : f ∈ s.larder.reports) (he : f.dueEast = true)
    (hw : f.dueWest = true) (hup : (portUp s .east || portUp s .west) = true) :
    ∃ r ∈ (settle s).larder.reports, r.kind = f.kind ∧ r.spec = f.spec ∧ r.seq = f.seq ∧ r.payload = f.payload := by
  by_cases hl : leafRole s = true
  · refine ⟨dropDown s f, List.mem_filter.mpr ⟨List.mem_map_of_mem hf, ?_⟩, ?_⟩ <;> simp [dropDown, hl, hw]
  · exact mem_settle_of_dueBoth s f hf he hw (by simpa using hl) hup

/-- An own folio due on both ports, of a kind that takes a report sequence. -/
def ownOnBoth (f : OwnFolio) : Prop := f.leafSrc = none ∧ f.kind ≠ 4 ∧ f.dueEast = true ∧ f.dueWest = true

theorem enterQueue_holds_ownOnBoth {s : State} {f : OwnFolio} (hf : ownOnBoth f)
    (hup : (portUp s .east || portUp s .west) = true) : ∃ r ∈ (enterQueue s f).larder.reports,
      r.kind = f.kind ∧ r.spec = f.spec ∧ r.seq = s.addr.reportSeq ∧ r.payload = f.payload := by
  obtain ⟨hown, hkind, he, hw⟩ := hf
  have hsequenced : (f.leafSrc.isNone && f.kind != 4) = true := by
    rw [hown, Bool.and_eq_true]
    exact ⟨rfl, bne_iff_ne.mpr hkind⟩
  unfold enterQueue
  simp only [hsequenced, if_true]
  refine settle_keeps_dueBoth (f := { f with seq := s.addr.reportSeq }) ?_ he hw hup
  simp

/-- With nothing waiting and room below the 8 units kept for ACK and NACK, an own folio is queued at once. -/
theorem queueOwn_holds {s : State} {f : OwnFolio} (hf : ownOnBoth f) (hwait : s.larder.waiting = [])
    (hroom : reportLevel s + foliosUnits f.payload.length ≤ 248) (hup : (portUp s .east || portUp s .west) = true) :
    ∃ r ∈ (queueOwn s f).larder.reports,
      r.kind = f.kind ∧ r.spec = f.spec ∧ r.seq = s.addr.reportSeq ∧ r.payload = f.payload := by
  have hfree : reportLevel s + foliosUnits f.payload.length ≤ 256 := by omega
  rw [queueOwn, if_pos]
  · exact enterQueue_holds_ownOnBoth hf hup
  · simp only [roomFor, hwait, List.all_nil, Bool.and_true, decide_eq_true_eq]
    split <;> assumption

theorem answerQueued_queueAnswer (s : State) (q stype : Word) (result : Nat) :
    answerQueued s (queueAnswer s q stype result) q stype result := by
  intro hwait hroom hup
  have hunits : foliosUnits (wordsBytes [q, stype, BitVec.ofNat 32 result]).length = 1 := by
    simp [wordsBytes_length, foliosUnits]
  refine queueOwn_holds (s := s) ⟨rfl, (by decide : (5 : BitVec 4) ≠ 4), rfl, rfl⟩ hwait (by rw [hunits]; omega) ?_
  simpa [queueAnswer, portUp] using hup

theorem answerQueued_of_source {s s' t : State} {q stype : Word} {result : Nat} (h : answerQueued s' t q stype result)
    (hr : s'.larder.reports = s.larder.reports) (hw : s'.larder.waiting = s.larder.waiting) (ha : s'.addr = s.addr) :
    answerQueued s t q stype result := by
  unfold answerQueued reportLevel at h ⊢
  rwa [hr, hw, ha] at h

theorem queueAnswer_frame (s : State) (q stype : Word) (result : Nat) :
    queueAnswer s q stype result = queuedAs (queueAnswer s q stype result) s := queueOwn_frame s _

/-- LINK is queued at a node of any role. -/
theorem linkQueued_queueLink (s : State) : linkQueued s (queueLink s 2) := by
  intro hwait hroom hup
  obtain ⟨r, hr, hk, hs, hq, hp⟩ := queueOwn_holds (s := s)
    (f := { kind := 3, spec := 0x0011, seq := 0, payload := linkPayload s 2, dueEast := true, dueWest := true
            leafSrc := none, unassignedOk := false }) ⟨rfl, (by decide : (3 : BitVec 4) ≠ 4), rfl, rfl⟩ hwait hroom
    (by simpa [portUp] using hup)
  exact ⟨r, hr, hk, hs, hq, by rw [hp]; exact linkPayload_take s 2⟩

/-! ### SPLICE_WINDOW (R75, R77, R102) -/

/-- The window that SPLICE_WINDOW brings. -/
def windowOf (q : Word) (tw : Nat) (w : Word) : Window := { tw := tw, len := w.toNat * 1000, seq := q }

theorem exec_spliceWindow_own {s : State} {q action : Word} (pos : BitVec 16) (tw : Nat) (w : Word)
    (h : splHeard s = true) (hq : q ∉ s.spine.splSeen) (ha : action = 1 ∨ action = 2) :
    exec (.spliceWindow q Config.serialFuses pos action tw w) s =
      .next (ownWindow (splNote s q) q action (windowOf q tw w)) := by
  have hexec : exec (.spliceWindow q Config.serialFuses pos action tw w) s =
      execSpliceWindow q Config.serialFuses pos action tw w s := rfl
  have hact : (action == 1 || action == 2) = true := by simpa using ha
  simp only [hexec, execSpliceWindow, hact, if_true, actOnce, h, splTwin]
  simp [hq, windowOf, usNs]

theorem exec_spliceWindow_other {s : State} {q action : Word} {target : Long} (pos : BitVec 16) (tw : Nat) (w : Word)
    (h : splHeard s = true) (hq : q ∉ s.spine.splSeen) (ha : action = 1 ∨ action = 2) (ht : target ≠ Config.serialFuses)
    (hm : ringMode s = true) : exec (.spliceWindow q target pos action tw w) s =
      .next { splNote s q with spine := { (splNote s q).spine with
        watched := s.spine.watched ++ [(pos, windowOf q tw w)] } } := by
  have hexec : exec (.spliceWindow q target pos action tw w) s = execSpliceWindow q target pos action tw w s := rfl
  have hact : (action == 1 || action == 2) = true := by simpa using ha
  have hmode : ringMode (splNote s q) = true := hm
  simp only [hexec, execSpliceWindow, hact, if_true, actOnce, h, splTwin]
  simp [hq, ht, hmode, windowOf, usNs]
  rfl

/-- The answer of a refusal, with the EVENT of a run over its limit. -/
def refusedWindow (s : State) (q : Word) (r : Nat) : State := queueAnswer (if r == 1 then raiseRun s else s) q 5 r

theorem ownWindow_of_leave_refused {s : State} {q : Word} {w : Window} {r : Nat}
    (h : bypassRefusal s (decide (w.tw < mNs s)) = some r) : ownWindow s q 1 w = refusedWindow s q r := by
  simp [ownWindow, refusedWindow, h]

theorem ownWindow_of_leave_held {s : State} {q : Word} {w : Window}
    (h : bypassRefusal s (decide (w.tw < mNs s)) = none) :
    ownWindow s q 1 w = queueAnswer { s with spine := { s.spine with leaveWin := some w } } q 5 0 := by
  simp [ownWindow, h]

theorem ownWindow_of_return_held {s : State} {q : Word} {w : Window} (h : mNs s ≤ w.tw) :
    ownWindow s q 2 w = queueAnswer { s with spine := { s.spine with returnWin := some w } } q 5 0 := by
  simp [ownWindow, Nat.not_lt.mpr h]

theorem ownWindow_of_return_past {s : State} {q : Word} {w : Window} (h : w.tw < mNs s) :
    ownWindow s q 2 w = refusedWindow s q 4 := by
  simp [ownWindow, refusedWindow, h]

theorem raiseRun_frame (s : State) : raiseRun s = reportedAs (raiseRun s) s := by
  unfold raiseRun
  split
  · exact raise_frame s _ _ _
  · exact reportedAs_self s

theorem raiseRun_keeps (s : State) : (raiseRun s).larder.reports = s.larder.reports ∧
    (raiseRun s).larder.waiting = s.larder.waiting ∧ (raiseRun s).addr = s.addr := by
  unfold raiseRun
  split <;> simp

theorem answerQueued_refusedWindow (s : State) (q : Word) (r : Nat) : answerQueued s (refusedWindow s q r) q 5 r := by
  unfold refusedWindow
  split
  · obtain ⟨hr, hw, ha⟩ := raiseRun_keeps s
    exact answerQueued_of_source (answerQueued_queueAnswer _ q 5 r) hr hw ha
  · exact answerQueued_queueAnswer s q 5 r

theorem refusedWindow_frame (s : State) (q : Word) (r : Nat) :
    refusedWindow s q r = reportedAs (refusedWindow s q r) (queuedAs (refusedWindow s q r) s) := by
  refine reported_then_queued ?_ (queueAnswer_frame _ _ _ _)
  split
  · exact raiseRun_frame s
  · exact reportedAs_self s

/-- Only a run over its limit raises an EVENT: a return refused for its T_w raises none. -/
theorem refusedWindow_past_frame (s : State) (q : Word) : refusedWindow s q 4 = queuedAs (refusedWindow s q 4) s :=
  queueAnswer_frame s q 5 4

theorem spliceWindow_holds (s : State) (q : Word) (pos : BitVec 16) (tw : Nat) (w : Word) (h : splHeard s = true)
    (hq : q ∉ s.spine.splSeen) :
    (∀ r, bypassRefusal s (decide (tw < mNs s)) = some r →
      ∃ t, exec (.spliceWindow q Config.serialFuses pos 1 tw w) s = .next t ∧ answerQueued s t q 5 r ∧
        t = reportedAs t (queuedAs t { s with spine := { s.spine with splSeen := (q :: s.spine.splSeen).take 64 } })) ∧
    (bypassRefusal s (decide (tw < mNs s)) = none →
      ∃ t, exec (.spliceWindow q Config.serialFuses pos 1 tw w) s = .next t ∧ answerQueued s t q 5 0 ∧
        t = queuedAs t { s with spine := { s.spine with
          leaveWin := some { tw := tw, len := w.toNat * 1000, seq := q }, splSeen := (q :: s.spine.splSeen).take 64 } }) ∧
    (mNs s ≤ tw →
      ∃ t, exec (.spliceWindow q Config.serialFuses pos 2 tw w) s = .next t ∧ answerQueued s t q 5 0 ∧
        t = queuedAs t { s with spine := { s.spine with
          returnWin := some { tw := tw, len := w.toNat * 1000, seq := q }, splSeen := (q :: s.spine.splSeen).take 64 } }) ∧
    (tw < mNs s →
      ∃ t, exec (.spliceWindow q Config.serialFuses pos 2 tw w) s = .next t ∧ answerQueued s t q 5 4 ∧
        t = queuedAs t { s with spine := { s.spine with splSeen := (q :: s.spine.splSeen).take 64 } }) ∧
    (∀ target, target ≠ Config.serialFuses → ringMode s = true →
      ∃ t, exec (.spliceWindow q target pos 1 tw w) s = .next t ∧
        t = { s with spine := { s.spine with
          watched := s.spine.watched ++ [(pos, { tw := tw, len := w.toNat * 1000, seq := q })]
          splSeen := (q :: s.spine.splSeen).take 64 } }) := by
  have hleave := exec_spliceWindow_own pos tw w h hq (.inl rfl)
  have hreturn := exec_spliceWindow_own pos tw w h hq (.inr rfl)
  refine ⟨fun r hr => ?_, fun hr => ?_, fun hr => ?_, fun hr => ?_, fun target htarget hmode => ?_⟩
  · rw [hleave, ownWindow_of_leave_refused (r := r) (by exact hr)]
    exact ⟨_, rfl, answerQueued_of_source (answerQueued_refusedWindow _ q r) rfl rfl rfl, refusedWindow_frame _ q r⟩
  · rw [hleave, ownWindow_of_leave_held (by exact hr)]
    exact ⟨_, rfl, answerQueued_of_source (answerQueued_queueAnswer _ q 5 0) rfl rfl rfl, queueAnswer_frame _ q 5 0⟩
  · rw [hreturn, ownWindow_of_return_held (by exact hr)]
    exact ⟨_, rfl, answerQueued_of_source (answerQueued_queueAnswer _ q 5 0) rfl rfl rfl, queueAnswer_frame _ q 5 0⟩
  · rw [hreturn, ownWindow_of_return_past (by exact hr)]
    exact ⟨_, rfl, answerQueued_of_source (answerQueued_refusedWindow _ q 4) rfl rfl rfl, refusedWindow_past_frame _ q⟩
  · rw [exec_spliceWindow_other pos tw w h hq (.inl rfl) htarget hmode]
    exact ⟨_, rfl, rfl⟩

/-! ### An edge of BYP_HOLD (R57, R71, R72) -/

theorem queuedAs_self (s : State) : s = queuedAs s s := rfl

theorem enterQueue_withWaiting_frame (s : State) (ws : List OwnFolio) (f : OwnFolio) :
    enterQueue { s with larder := { s.larder with waiting := ws } } f =
      queuedAs (enterQueue { s with larder := { s.larder with waiting := ws } } f) s :=
  queuedAs_trans (t := { s with larder := { s.larder with waiting := ws } }) rfl (enterQueue_frame _ f)

theorem admitWaiting_frame (n : Nat) (s : State) : admitWaiting n s = queuedAs (admitWaiting n s) s := by
  induction n generalizing s with
  | zero => exact queuedAs_self s
  | succ n ih =>
    rw [admitWaiting]
    split
    · exact queuedAs_self s
    · next f ws _ =>
      split
      · exact queuedAs_trans (enterQueue_withWaiting_frame s ws f) (ih _)
      · exact queuedAs_self s

theorem settleAdmit_frame (s : State) : settleAdmit s = queuedAs (settleAdmit s) s :=
  queuedAs_trans (settle_frame s) (admitWaiting_frame _ _)

/-- s with the ports, BYP_HOLD, the next sense sample and queue 0x01 of t: all that an edge of BYP_HOLD touches. -/
def switchedAs (t s : State) : State :=
  queuedAs t { s with spine := { s.spine with
    east := t.spine.east, west := t.spine.west, bypHold := t.spine.bypHold, senseDue := t.spine.senseDue } }

theorem switchedAs_self (s : State) : s = switchedAs s s := rfl

theorem switchedAs_trans {s t u : State} (hst : t = switchedAs t s) (htu : u = switchedAs u t) : u = switchedAs u s :=
  htu.trans ((congrArg (switchedAs u) hst).trans rfl)

theorem switchedAs_of_queuedAs {s t : State} (h : t = queuedAs t s) : t = switchedAs t s :=
  (congrArg (switchedAs t) h).trans rfl

theorem setPort_frame (s : State) (p : Port) (x : PortS) : setPort s p x = switchedAs (setPort s p x) s := by
  cases p <;> rfl

/-- A port that goes DOWN enters that state, and the queue settles; one that is DOWN stays. -/
theorem portDown_cases (s : State) (p : Port) :
    portDown s p = s ∨ ∃ y, portDown s p = settleAdmit (enterPort s p y .down) := by
  simp only [portDown]
  split
  · exact .inl rfl
  · exact .inr ⟨_, rfl⟩

theorem portDown_frame (s : State) (p : Port) : portDown s p = switchedAs (portDown s p) s := by
  rcases portDown_cases s p with h | ⟨y, h⟩ <;> rw [h]
  · exact switchedAs_self s
  · exact switchedAs_trans (setPort_frame _ _ _)
      (switchedAs_of_queuedAs (queuedAs_trans (enterPort_frame _ _ _ _) (settleAdmit_frame _)))

theorem setByp_frame (s : State) (high : Bool) : setByp s high = switchedAs (setByp s high) s := by
  unfold setByp
  split
  · exact switchedAs_self s
  · exact switchedAs_trans (t := portDown (portDown s .east) .west)
      (switchedAs_trans (portDown_frame s .east) (portDown_frame _ .west)) rfl

theorem releaseByp_frame (s : State) : releaseByp s = switchedAs (releaseByp s) s := by
  unfold releaseByp
  split
  · exact switchedAs_self s
  · exact setByp_frame s false

theorem releaseByp_bypHold (s : State) : (releaseByp s).spine.bypHold = (s.spine.bypHold && cellDrives s) := by
  unfold releaseByp
  cases h : cellDrives s <;> simp

theorem switchedAs_events {s t : State} (h : t = switchedAs t s) : t.larder.events = s.larder.events :=
  (congrArg (fun u : State => u.larder.events) h).trans rfl

/-! ### The clocks at an instant of Mantel time -/

theorem advanceToMantel_frame (s : State) (t : Nat) : advanceToMantel s t = clockedAs (advanceToMantel s t) s :=
  advance_frame s _

theorem advanceTo_frame (s : State) (t : Nat) : advanceTo s t = clockedAs (advanceTo s t) s := advance_frame s _

/-- Mantel moved on to an instant is less than one tick beyond it. -/
theorem advanceToMantel_bound (s : State) (t : Nat) (h : 0 < tickUnits s.mantel) :
    ((advanceToMantel s t).mantel.time : Int) <
      max (s.mantel.time + 1 : Int) ((t : Int) * 2 ^ 32 + tickUnits s.mantel) := by
  have hunits : ((t * 2 ^ 32 : Nat) : Int) = (t : Int) * 2 ^ 32 := by push_cast; rfl
  unfold advanceToMantel advanceToUnits advance Mantel.ticks
  dsimp only
  rw [hunits]
  by_cases hreached : (t : Int) * 2 ^ 32 ≤ s.mantel.time
  · have hquot : ((t : Int) * 2 ^ 32 - s.mantel.time + tickUnits s.mantel - 1) / tickUnits s.mantel ≤ 0 := by
      rw [← Int.lt_add_one_iff]
      exact Int.ediv_lt_of_lt_mul h (by omega)
    rw [Int.toNat_of_nonpos hquot]
    omega
  · have hquot : 0 ≤ ((t : Int) * 2 ^ 32 - s.mantel.time + tickUnits s.mantel - 1) / tickUnits s.mantel :=
      Int.ediv_nonneg (by omega) (by omega)
    have hdiv := Int.emod_add_mul_ediv ((t : Int) * 2 ^ 32 - s.mantel.time + tickUnits s.mantel - 1) (tickUnits s.mantel)
    have hrest := Int.emod_nonneg
      ((t : Int) * 2 ^ 32 - s.mantel.time + tickUnits s.mantel - 1) (by omega : tickUnits s.mantel ≠ 0)
    rw [Int.toNat_of_nonneg hquot]
    rw [Int.mul_comm (tickUnits s.mantel)] at hdiv
    omega

/-- The wait for an RTC time reaches it (R371). -/
theorem advanceTo_rtcWait_reaches (s : State) (a : Nat) (h : s.cellar.rtcValid = true) :
    a ≤ (advanceTo s (s.now + rtcWait s a)).cellar.rtc := by
  have hrate : 0 < rtcRate s := by unfold rtcRate; omega
  have hceil (n : Nat) : n ≤ (n + rtcRate s - 1) / rtcRate s * rtcRate s := by
    have hn := le_smul_ceilDiv (b := n) hrate
    rwa [Nat.ceilDiv_eq_add_pred_div, smul_eq_mul, Nat.mul_comm] at hn
  have hwait : (a - s.cellar.rtc) * 10000000 - s.cellar.rtcPart ≤ rtcWait s a * rtcRate s := hceil _
  have hticks : rtcWait s a ≤ 4 * ((s.now + rtcWait s a - s.now + 3) / 4) := by omega
  have hunits := Nat.le_trans hwait (Nat.mul_le_mul_right (rtcRate s) hticks)
  show a ≤ (rtcOn s _).rtc
  simp only [rtcOn, h, if_true]
  omega

/-! ### The leave (R64, R71, R73, R77, R113) -/

theorem reportRun_frame (s : State) : reportRun s = reportedAs (reportRun s) s := by
  unfold reportRun
  split
  · split
    · exact raise_frame s _ _ _
    · exact reportedAs_self s
  · exact reportedAs_self s

/-- A run's report leaves all that GSP tells, and the Cellar while no power fail is dated. -/
theorem reportRun_keeps (s : State) : (reportRun s).straps = s.straps ∧ (reportRun s).addr = s.addr ∧
    (reportRun s).wire = s.wire ∧ (reportRun s).now = s.now ∧ (reportRun s).power = s.power ∧
    gspPayload (reportRun s) = gspPayload s ∧ (s.cellar.failAt = none → (reportRun s).cellar = s.cellar) := by
  unfold reportRun
  split
  · split
    · simp +contextual [gspPayload, nodeChannel, channel, raise_cellar]
    · simp
  · simp

theorem eventRaised_reportRun {s : State} {m : RingMap} (hm : s.spine.ringMap = some m) (hp : strapField s 7 1 0 = 2)
    (hrun : 1 < ownRun s m) : eventRaised s (reportRun s) 0x0107 := by
  have hreported : (strapField s 7 1 0 == 2 && decide (1 < ownRun s m)) = true := by simp [hp, hrun]
  simp only [reportRun, hm, hreported, if_true]
  exact eventRaised_raise s _ _ _

theorem sendGsp_of_ring {s : State} (cause : Nat) (h : ringMode s = true) : sendGsp s cause =
    { s with
      addr := { s.addr with reportSeq := s.addr.reportSeq + 1 }
      cellar := { s.cellar with counts := bump s.cellar.counts 1 }
      wire := .folio .west (mkFolio 6 0 s.addr.addr.toNat cause s.addr.reportSeq 0 (gspPayload s)) ::
        .folio .east (mkFolio 6 0 s.addr.addr.toNat cause s.addr.reportSeq 0 (gspPayload s)) :: s.wire } := by
  have hmode : mode s = .native ∨ mode s = .head := by simpa [ringMode] using h
  rcases hmode with hmode | hmode <;> simp [sendGsp, hmode, send]

theorem sendGsp_counts (s : State) (cause : Nat) : (sendGsp s cause).cellar.counts =
    if ringMode s = true ∨ mode s = .leaf then bump s.cellar.counts 1 else s.cellar.counts := by
  cases h : mode s <;> simp [sendGsp, h, ringMode, sendUp]
  split <;> [split; skip] <;> rfl

/-- What leaves the ports at T_w: GSP with cause 0x06, then LEAVE. -/
def leaveSent (s : State) : State := sendLeave (sendGsp (reportRun s) 6)

theorem leaveSent_keeps (s : State) : (leaveSent s).now = s.now ∧ (leaveSent s).power = s.power := by
  obtain ⟨_, _, _, hnow, hpower, _⟩ := reportRun_keeps s
  exact ⟨by simpa [leaveSent] using hnow, by simpa [leaveSent] using hpower⟩

theorem switchedAs_power {s t : State} (h : t = switchedAs t s) : t.power = s.power := (congrArg State.power h).trans rfl

/-- A leave bridges the node from now on; whether its return is coordinated depends on the return window alone. -/
theorem leaveRing_eq (s : State) : ∃ uncoordinated, leaveRing s =
    { releaseByp (leaveSent s) with
      spine := { (releaseByp (leaveSent s)).spine with
        leaveWin := none, leftAt := some s.now, selfTestDue := some (s.now + 10000000000) }
      power := { s.power with uncoordinated := uncoordinated } } := by
  obtain ⟨hnow, hpower⟩ := leaveSent_keeps s
  have hpower := (switchedAs_power (releaseByp_frame (leaveSent s))).trans hpower
  rw [← hpower, ← hnow]
  unfold leaveRing
  dsimp only
  split
  · exact ⟨_, rfl⟩
  · exact ⟨_, rfl⟩

/-- s with all that a leave or a return touches of t: the clocks, the EVENT records with the Cellar's counts, queue 0x01, the ports,
the bypass, the windows, the leave and the wire. -/
def bridgedAs (t s : State) : State :=
  { s with
    now := t.now, mantel := { s.mantel with time := t.mantel.time, p := t.mantel.p }
    larder := { s.larder with
      reports := t.larder.reports, waiting := t.larder.waiting, events := t.larder.events, waters := t.larder.waters
      counts := t.larder.counts }
    addr := { s.addr with reportSeq := t.addr.reportSeq }, hall := { s.hall with lastQueued := t.hall.lastQueued }
    spine := { s.spine with
      east := t.spine.east, west := t.spine.west, bypHold := t.spine.bypHold, senseDue := t.spine.senseDue
      leaveWin := t.spine.leaveWin, returnWin := t.spine.returnWin, leftAt := t.spine.leftAt
      selfTestDue := t.spine.selfTestDue }
    cellar := { s.cellar with
      rtc := t.cellar.rtc, rtcPart := t.cellar.rtcPart, unreported := t.cellar.unreported, counts := t.cellar.counts }
    arch := { s.arch with
      eventLog := t.arch.eventLog, loggedThisSecond := t.arch.loggedThisSecond, loggedSecond := t.arch.loggedSecond }
    power := { s.power with uncoordinated := t.power.uncoordinated }, wire := t.wire }

theorem bridgedAs_self (s : State) : s = bridgedAs s s := rfl

theorem bridgedAs_trans {s t u : State} (hst : t = bridgedAs t s) (htu : u = bridgedAs u t) : u = bridgedAs u s :=
  htu.trans ((congrArg (bridgedAs u) hst).trans rfl)

theorem bridgedAs_of_clockedAs {s t : State} (h : t = clockedAs t s) : t = bridgedAs t s :=
  (congrArg (bridgedAs t) h).trans rfl

theorem bridgedAs_of_reportedAs {s t : State} (h : t = reportedAs t s) : t = bridgedAs t s :=
  (congrArg (bridgedAs t) h).trans rfl

theorem bridgedAs_of_switchedAs {s t : State} (h : t = switchedAs t s) : t = bridgedAs t s :=
  (congrArg (bridgedAs t) h).trans rfl

theorem send_bridgedAs (s : State) (x : Sent) : send s x = bridgedAs (send s x) s := rfl

theorem sendUp_bridgedAs (s : State) (f : Folio) : sendUp s f = bridgedAs (sendUp s f) s := by
  unfold sendUp
  split
  · split
    · exact send_bridgedAs s _
    · exact bridgedAs_self s
  · exact bridgedAs_self s

theorem sendLeave_bridgedAs (s : State) : sendLeave s = bridgedAs (sendLeave s) s := rfl

theorem sendGsp_bridgedAs (s : State) (cause : Nat) : sendGsp s cause = bridgedAs (sendGsp s cause) s := by
  unfold sendGsp
  dsimp only
  split
  · rfl
  · rfl
  · exact bridgedAs_trans (t := { s with addr := _, cellar := _ }) rfl (sendUp_bridgedAs _ _)
  · exact bridgedAs_self s

theorem leaveSent_frame (s : State) : leaveSent s = bridgedAs (leaveSent s) s :=
  bridgedAs_trans (bridgedAs_trans (bridgedAs_of_reportedAs (reportRun_frame s)) (sendGsp_bridgedAs _ 6))
    (sendLeave_bridgedAs _)

theorem leaveRing_bridgedAs (s : State) : leaveRing s = bridgedAs (leaveRing s) s := by
  obtain ⟨uncoordinated, h⟩ := leaveRing_eq s
  have hclosed := bridgedAs_trans (leaveSent_frame s) (bridgedAs_of_switchedAs (releaseByp_frame (leaveSent s)))
  have hpower := (switchedAs_power (releaseByp_frame (leaveSent s))).trans (leaveSent_keeps s).2
  refine bridgedAs_trans hclosed ?_
  rw [h, ← hpower]
  rfl

theorem leaveSent_spine (s : State) : (leaveSent s).spine = s.spine := by
  have hrun : (reportRun s).spine = s.spine := (congrArg State.spine (reportRun_frame s)).trans rfl
  simpa [leaveSent] using hrun

theorem cellDrives_leaveSent (s : State) : cellDrives (leaveSent s) = cellDrives s :=
  (congrArg cellDrives (leaveSent_frame s)).trans rfl

/-- A leave closes the bypass where its cell does not drive it, and dates itself. -/
theorem leaveRing_spine (s : State) : (leaveRing s).spine.bypHold = (s.spine.bypHold && cellDrives s) ∧
    (leaveRing s).spine.leaveWin = none ∧ (leaveRing s).spine.returnWin = s.spine.returnWin ∧
    (leaveRing s).spine.leftAt = some s.now ∧ (leaveRing s).spine.selfTestDue = some (s.now + 10000000000) := by
  obtain ⟨uncoordinated, h⟩ := leaveRing_eq s
  rw [h]
  have hreturn : (releaseByp (leaveSent s)).spine.returnWin = (leaveSent s).spine.returnWin :=
    (congrArg (fun x : State => x.spine.returnWin) (releaseByp_frame (leaveSent s))).trans rfl
  refine ⟨?_, rfl, hreturn.trans (congrArg Spine.returnWin (leaveSent_spine s)), rfl, rfl⟩
  rw [← leaveSent_spine s, ← cellDrives_leaveSent s]
  exact releaseByp_bypHold _

/-- The wire, the EVENT records and the Cellar of a leave are those of its GSP and LEAVE. -/
theorem leaveRing_sent (s : State) : (leaveRing s).now = s.now ∧ (leaveRing s).mantel = s.mantel ∧
    (leaveRing s).wire = (leaveSent s).wire ∧ (leaveRing s).larder.events = (reportRun s).larder.events ∧
    (leaveRing s).cellar = (leaveSent s).cellar := by
  obtain ⟨uncoordinated, h⟩ := leaveRing_eq s
  have hclosed := releaseByp_frame (leaveSent s)
  have hevents : (leaveSent s).larder.events = (reportRun s).larder.events := by simp [leaveSent]
  rw [h]
  refine ⟨((congrArg State.now hclosed).trans rfl).trans (leaveSent_keeps s).1, ?_, (congrArg State.wire hclosed).trans rfl,
    (switchedAs_events hclosed).trans hevents, (congrArg State.cellar hclosed).trans rfl⟩
  have hrun : (reportRun s).mantel = s.mantel := (congrArg State.mantel (reportRun_frame s)).trans rfl
  have hsent : (leaveSent s).mantel = s.mantel := by simpa [leaveSent] using hrun
  exact ((congrArg State.mantel hclosed).trans rfl).trans hsent

theorem leaveSent_wire {s : State} (h : ringMode s = true) : (leaveSent s).wire =
    .leave .west 16 :: .leave .east 16 ::
      .folio .west (mkFolio 6 0 s.addr.addr.toNat 6 s.addr.reportSeq 0 (gspPayload s)) ::
      .folio .east (mkFolio 6 0 s.addr.addr.toNat 6 s.addr.reportSeq 0 (gspPayload s)) :: s.wire := by
  obtain ⟨hstraps, haddr, hwire, _, _, hgsp, _⟩ := reportRun_keeps s
  have hmode : ringMode (reportRun s) = true := by simpa [ringMode, mode, strap, hstraps] using h
  simp [leaveSent, sendLeave, sendGsp_of_ring 6 hmode, haddr, hwire, hgsp]

theorem leaveSent_counts {s : State} (h : s.cellar.failAt = none) : (leaveSent s).cellar.counts =
    if ringMode s = true ∨ mode s = .leaf then bump s.cellar.counts 1 else s.cellar.counts := by
  obtain ⟨hstraps, _, _, _, _, _, hcellar⟩ := reportRun_keeps s
  have hmode : mode (reportRun s) = mode s := by simp [mode, strap, hstraps]
  have hring : ringMode (reportRun s) = ringMode s := by simp [ringMode, hmode]
  rw [leaveSent, sendLeave_cellar, sendGsp_counts, hring, hmode, hcellar h]

/-! ### SPLICE_WINDOW_START (R75, R77) -/

theorem nextWindowStart_of_leave {s : State} {w : Window} (hw : s.spine.leaveWin = some w)
    (hlater : ∀ x ∈ s.spine.watched, w.tw < x.2.tw) : nextWindowStart s = some w.tw := by
  rw [nextWindowStart, hw, List.min?_eq_some_iff]
  refine ⟨by simp, fun b hb => ?_⟩
  simp only [List.singleton_append, List.mem_cons, List.mem_map] at hb
  rcases hb with rfl | ⟨x, hx, rfl⟩
  · exact Nat.le_refl _
  · exact Nat.le_of_lt (hlater x hx)

/-- With every watched window later than its own leave, the node leaves at its T_w. -/
theorem exec_spliceWindowStart_of_leave {s : State} {w : Window} (h : splHeard s = true) (hw : s.spine.leaveWin = some w)
    (hlater : ∀ x ∈ s.spine.watched, w.tw < x.2.tw) :
    exec .spliceWindowStart s = .next (leaveRing (advanceToMantel s w.tw)) := by
  have hnone : (s.spine.watched.filter fun x => x.2.tw == w.tw) = [] :=
    List.filter_eq_nil_iff.mpr fun x hx => by simpa using Nat.ne_of_gt (hlater x hx)
  have hall : (s.spine.watched.filter fun x => x.2.tw != w.tw) = s.spine.watched :=
    List.filter_eq_self.mpr fun x hx => by simpa using Nat.ne_of_gt (hlater x hx)
  have hexec : exec .spliceWindowStart s = execSpliceWindowStart s := rfl
  simp only [hexec, execSpliceWindowStart, nextWindowStart_of_leave hw hlater, h, advanceToMantel_spine, hnone, hall,
    List.foldl_nil, hw, beq_self_eq_true, if_true, Bool.not_true, Bool.false_eq_true, if_false]
  rw [← hw]
  rfl

/-- Where the Cellar counts what is said while no power fail is dated, the frame is that of clocks, EVENT records and queue 0x01. -/
theorem bridgedAs_eq {s t : State} {counts : Counters} (h : s.cellar.failAt = none → t.cellar.counts = counts) :
    bridgedAs t s = clockedAs t (reportedAs t (queuedAs t { s with
      spine := { s.spine with
        east := t.spine.east, west := t.spine.west, bypHold := t.spine.bypHold, senseDue := t.spine.senseDue
        leaveWin := t.spine.leaveWin, returnWin := t.spine.returnWin, leftAt := t.spine.leftAt
        selfTestDue := t.spine.selfTestDue }
      cellar := { s.cellar with counts := counts }
      power := { s.power with uncoordinated := t.power.uncoordinated }, wire := t.wire })) := by
  cases hf : s.cellar.failAt with
  | none => simp [bridgedAs, clockedAs, reportedAs, queuedAs, hf, h hf]
  | some d => simp [bridgedAs, clockedAs, reportedAs, queuedAs, hf]

theorem spliceWindowStart_holds (s : State) (w : Window) (h : splHeard s = true) (hw : s.spine.leaveWin = some w)
    (hlater : ∀ x ∈ s.spine.watched, w.tw < x.2.tw) :
    ∃ t, exec .spliceWindowStart s = .next t ∧ t.spine.bypHold = (s.spine.bypHold && cellDrives s) ∧
      t.spine.leaveWin = none ∧ t.spine.leftAt = some t.now ∧ t.spine.selfTestDue = some (t.now + 10000000000) ∧
      (ringMode s = true → t.wire = .leave .west 16 :: .leave .east 16 ::
        .folio .west (mkFolio 6 0 s.addr.addr.toNat 6 s.addr.reportSeq 0 (gspPayload s)) ::
        .folio .east (mkFolio 6 0 s.addr.addr.toNat 6 s.addr.reportSeq 0 (gspPayload s)) :: s.wire) ∧
      (0 < 4 * 2 ^ 32 + s.mantel.addend → w.tw ≤ mNs t) ∧
      t.spine.watched = s.spine.watched ∧
      (∀ m, s.spine.ringMap = some m → strapField s 7 1 0 = 2 → 1 < ownRun s m → eventRaised s t 0x0107) ∧
      t = clockedAs t (reportedAs t (queuedAs t { s with
        spine := { s.spine with
          east := t.spine.east, west := t.spine.west, bypHold := t.spine.bypHold, senseDue := t.spine.senseDue
          leaveWin := none, leftAt := some t.now, selfTestDue := t.spine.selfTestDue }
        cellar := { s.cellar with
          counts := if ringMode s = true ∨ mode s = .leaf then bump s.cellar.counts 1 else s.cellar.counts }
        power := { s.power with uncoordinated := t.power.uncoordinated }, wire := t.wire })) := by
  have hclock := advanceToMantel_frame s w.tw
  have hdrives : cellDrives (advanceToMantel s w.tw) = cellDrives s := (congrArg cellDrives hclock).trans rfl
  have hfail : (advanceToMantel s w.tw).cellar.failAt = s.cellar.failAt :=
    (congrArg (fun x : State => x.cellar.failAt) hclock).trans rfl
  have hcounts : (advanceToMantel s w.tw).cellar.counts = s.cellar.counts :=
    (congrArg (fun x : State => x.cellar.counts) hclock).trans rfl
  obtain ⟨hbyp, hleave, hreturn, hleft, htest⟩ := leaveRing_spine (advanceToMantel s w.tw)
  obtain ⟨hnow, hmantel, hwire, hevents, hcellar⟩ := leaveRing_sent (advanceToMantel s w.tw)
  have hframe := bridgedAs_trans (bridgedAs_of_clockedAs hclock) (leaveRing_bridgedAs _)
  refine ⟨_, exec_spliceWindowStart_of_leave h hw hlater, ?_, hleave, ?_, ?_, fun hmode => ?_, fun hrate => ?_, ?_,
    fun m hm hp hrun => ?_, ?_⟩
  · rw [hbyp, hdrives]; rfl
  · rw [hleft, hnow]
  · rw [htest, hnow]
  · rw [hwire]
    exact leaveSent_wire hmode
  · rw [mNs, hmantel]
    exact advanceToMantel_reaches s w.tw hrate
  · exact (congrArg (fun x : State => x.spine.watched) hframe).trans rfl
  · have hrun' := eventRaised_reportRun (s := advanceToMantel s w.tw) hm hp hrun
    unfold eventRaised at hrun' ⊢
    rw [hevents]
    exact hrun'
  · have hcounted (hf : s.cellar.failAt = none) : (leaveRing (advanceToMantel s w.tw)).cellar.counts =
        if ringMode s = true ∨ mode s = .leaf then bump s.cellar.counts 1 else s.cellar.counts := by
      rw [hcellar, leaveSent_counts (hfail.trans hf), hcounts]
      rfl
    have heq := bridgedAs_eq hcounted
    rw [hleave, hreturn, hleft] at heq
    rw [hnow]
    exact hframe.trans heq

/-! ### The return (R71, R76, R77, R405, R418) -/

/-- s with no uncoordinated return to report. -/
def coordinated (s : State) : State := { s with power := { s.power with uncoordinated := false } }

theorem raiseUncoordinated_frame (s : State) (len : Nat) :
    raiseUncoordinated s len = reportedAs (raiseUncoordinated s len) (coordinated s) := by
  unfold raiseUncoordinated
  split
  · exact raise_frame (coordinated s) _ _ _
  · next h =>
    have hsame : coordinated s = s := by
      rw [coordinated, ← Bool.eq_false_iff.mpr h]
    rw [hsame]
    exact reportedAs_self s

theorem eventRaised_raiseUncoordinated {s : State} (len : Nat) (h : s.power.uncoordinated = true) :
    eventRaised s (raiseUncoordinated s len) 0x0106 := by
  rw [raiseUncoordinated, if_pos h]
  exact eventRaised_of_larder (eventRaised_raise _ _ _ _) rfl

theorem raiseUncoordinated_cellar {s : State} (len : Nat) (h : s.cellar.failAt = none) :
    (raiseUncoordinated s len).cellar = s.cellar := by
  unfold raiseUncoordinated
  split
  · exact raise_cellar (coordinated s) _ _ _ h
  · rfl

/-- BYP_HOLD goes high where every condition of R71 holds, and stays where one does not. -/
def insertIfAllowed (s : State) : State := if insertAllowed s then setByp s true else s

theorem insertIfAllowed_frame (s : State) : insertIfAllowed s = switchedAs (insertIfAllowed s) s := by
  unfold insertIfAllowed
  split
  · exact setByp_frame s true
  · exact switchedAs_self s

theorem insertIfAllowed_bypHold (s : State) : (insertAllowed s = true → (insertIfAllowed s).spine.bypHold = true) ∧
    (insertAllowed s = false → (insertIfAllowed s).spine.bypHold = s.spine.bypHold) := by
  unfold insertIfAllowed
  constructor <;> intro h <;> simp [h]

/-- s no longer bridged by its leave, the return window used. -/
def rejoined (s : State) : State := { s with spine := { s.spine with leftAt := none, returnWin := none } }

theorem insertAllowed_rejoined (s : State) (len : Nat) :
    insertAllowed (rejoined (raiseUncoordinated s len)) = insertAllowed (rejoined s) :=
  (congrArg (fun x => insertAllowed (rejoined x)) (raiseUncoordinated_frame s len)).trans rfl

theorem returnRing_bridgedAs (s : State) (w : Window) : returnRing s w = bridgedAs (returnRing s w) s := by
  have hraised : raiseUncoordinated s w.len = bridgedAs (raiseUncoordinated s w.len) s :=
    bridgedAs_trans (t := coordinated s) rfl (bridgedAs_of_reportedAs (raiseUncoordinated_frame s w.len))
  have hrejoined := bridgedAs_trans hraised (u := rejoined (raiseUncoordinated s w.len)) rfl
  exact bridgedAs_trans hrejoined (bridgedAs_of_switchedAs (insertIfAllowed_frame _))

theorem returnRing_frame (s : State) (w : Window) : returnRing s w =
    switchedAs (returnRing s w) (rejoined (reportedAs (raiseUncoordinated s w.len) (coordinated s))) :=
  (insertIfAllowed_frame _).trans
    (congrArg (fun x => switchedAs (returnRing s w) (rejoined x)) (raiseUncoordinated_frame s w.len))

/-- A return ends the leave and its report; of what a leave touches it keeps the window, the self-test's instant and the wire. -/
theorem returnRing_keeps (s : State) (w : Window) : (returnRing s w).mantel = s.mantel ∧ (returnRing s w).wire = s.wire ∧
    (returnRing s w).spine.leaveWin = s.spine.leaveWin ∧ (returnRing s w).spine.selfTestDue = s.spine.selfTestDue ∧
    (returnRing s w).spine.leftAt = none ∧ (returnRing s w).spine.returnWin = none ∧
    (returnRing s w).power.uncoordinated = false := by
  have h := returnRing_frame s w
  exact ⟨(congrArg State.mantel h).trans rfl, (congrArg State.wire h).trans rfl,
    (congrArg (fun x : State => x.spine.leaveWin) h).trans rfl, (congrArg (fun x : State => x.spine.selfTestDue) h).trans rfl,
    (congrArg (fun x : State => x.spine.leftAt) h).trans rfl, (congrArg (fun x : State => x.spine.returnWin) h).trans rfl,
    (congrArg (fun x : State => x.power.uncoordinated) h).trans rfl⟩

theorem returnRing_cellar {s : State} (w : Window) (h : s.cellar.failAt = none) : (returnRing s w).cellar = s.cellar :=
  ((congrArg State.cellar (insertIfAllowed_frame (rejoined (raiseUncoordinated s w.len)))).trans rfl).trans
    (raiseUncoordinated_cellar w.len h)

theorem eventRaised_returnRing {s : State} (w : Window) (h : s.power.uncoordinated = true) :
    eventRaised s (returnRing s w) 0x0106 := by
  have hraised := eventRaised_raiseUncoordinated w.len h
  have hkept : (returnRing s w).larder.events = (raiseUncoordinated s w.len).larder.events :=
    switchedAs_events (s := rejoined (raiseUncoordinated s w.len)) (insertIfAllowed_frame _)
  unfold eventRaised at hraised ⊢
  rwa [hkept]

theorem returnRing_bypHold (s : State) (w : Window) :
    (insertAllowed (rejoined s) = true → (returnRing s w).spine.bypHold = true) ∧
      (insertAllowed (rejoined s) = false → (returnRing s w).spine.bypHold = s.spine.bypHold) := by
  obtain ⟨hin, hout⟩ := insertIfAllowed_bypHold (rejoined (raiseUncoordinated s w.len))
  have hkept : (raiseUncoordinated s w.len).spine.bypHold = s.spine.bypHold :=
    (congrArg (fun x : State => x.spine.bypHold) (raiseUncoordinated_frame s w.len)).trans rfl
  rw [insertAllowed_rejoined] at hin hout
  exact ⟨hin, fun h => (hout h).trans hkept⟩

theorem exec_spliceReturn_of_leave {s : State} {w : Window} {d : Nat} (h : splHeard s = true)
    (hd : s.spine.leftAt = some d) (hw : s.spine.returnWin = some w) :
    exec .spliceReturn s = .next (returnRing (advanceToMantel s (w.tw + w.len / 2)) w) := by
  have hexec : exec .spliceReturn s = execSpliceReturn s := rfl
  simp [hexec, execSpliceReturn, h, hd, hw]

/-- s with the alarm of its return over. -/
def alarmOver (s : State) : State := { s with cellar := { s.cellar with rtcAlarm := none } }

theorem alarmOver_frame {s t : State} (h : t = clockedAs t s) : alarmOver t = clockedAs (alarmOver t) (alarmOver s) :=
  (congrArg alarmOver h).trans rfl

theorem alarmOver_spine (s : State) : (alarmOver s).spine = s.spine := rfl

/-- s at the instant at which the Cellar RTC reads a time, its alarm over (R405). -/
def alarmReached (s : State) (time : Nat) : State := alarmOver (advanceTo s (s.now + rtcWait s time))

theorem alarmReached_frame (s : State) (time : Nat) :
    alarmReached s time = clockedAs (alarmReached s time) (alarmOver s) := alarmOver_frame (advanceTo_frame s _)

theorem insertAllowed_of_clockedAs {s t : State} (h : t = clockedAs t s) : insertAllowed t = insertAllowed s :=
  (congrArg insertAllowed h).trans rfl

theorem insertAllowed_alarmReached (s : State) (time : Nat) : insertAllowed (alarmReached s time) = insertAllowed s :=
  insertAllowed_of_clockedAs (s := alarmOver s) (alarmReached_frame s time)

theorem alarmReached_spine (s : State) (time : Nat) : (alarmReached s time).spine = s.spine :=
  (alarmOver_spine _).trans (advanceTo_spine s (s.now + rtcWait s time))

theorem alarmReached_rtc_reaches {s : State} (time : Nat) (h : s.cellar.rtcValid = true) :
    time ≤ (alarmReached s time).cellar.rtc := advanceTo_rtcWait_reaches s time h

theorem exec_spliceReturn_of_alarm {s : State} {a : Nat} (h : splHeard s = true) (hd : s.spine.leftAt = none)
    (ha : s.cellar.rtcAlarm = some a) (hwait : awaitsReturn s = true) :
    exec .spliceReturn s = .next (insertIfAllowed (alarmReached s (a + 690 * msNs))) := by
  have hexec : exec .spliceReturn s = execSpliceReturn s := rfl
  simp only [hexec, execSpliceReturn, h, hd, ha, hwait, Bool.not_true, Bool.false_eq_true, if_false]
  rfl

theorem clocked_then_switched {s t u : State} (hst : t = clockedAs t s) (htu : u = switchedAs u t) :
    u = clockedAs u (switchedAs u s) :=
  (congrArg (clockedAs u) (htu.trans (congrArg (switchedAs u) hst))).trans rfl

theorem spliceReturn_holds_of_leave (s : State) (w : Window) (d : Nat) (h : splHeard s = true)
    (hd : s.spine.leftAt = some d) (hw : s.spine.returnWin = some w) :
    ∃ t, exec .spliceReturn s = .next t ∧ t.spine.leftAt = none ∧ t.spine.returnWin = none ∧ t.power.uncoordinated = false ∧
      (0 < 4 * 2 ^ 32 + s.mantel.addend → w.tw + w.len / 2 ≤ mNs t ∧
        (t.mantel.time : Int) <
          max (s.mantel.time + 1 : Int) (((w.tw + w.len / 2 : Nat) : Int) * 2 ^ 32 + (4 * 2 ^ 32 + s.mantel.addend))) ∧
      (s.power.uncoordinated = true → eventRaised s t 0x0106) ∧
      (insertAllowed { s with spine := { s.spine with leftAt := none, returnWin := none } } = true → t.spine.bypHold = true) ∧
      (insertAllowed { s with spine := { s.spine with leftAt := none, returnWin := none } } = false →
        t.spine.bypHold = s.spine.bypHold) ∧
      t = clockedAs t (reportedAs t (queuedAs t { s with
        spine := { s.spine with
          east := t.spine.east, west := t.spine.west, bypHold := t.spine.bypHold, senseDue := t.spine.senseDue, leftAt := none
          returnWin := none }
        power := { s.power with uncoordinated := false } })) := by
  have hclock := advanceToMantel_frame s (w.tw + w.len / 2)
  generalize hu : advanceToMantel s (w.tw + w.len / 2) = u at hclock
  obtain ⟨hmantel, hwire, hleave, htest, hleft, hreturn, hcoord⟩ := returnRing_keeps u w
  obtain ⟨hin, hout⟩ := returnRing_bypHold u w
  have hallowed : insertAllowed (rejoined u) = insertAllowed (rejoined s) :=
    (congrArg (fun x => insertAllowed (rejoined x)) hclock).trans rfl
  have hfail : u.cellar.failAt = s.cellar.failAt := (congrArg (fun x : State => x.cellar.failAt) hclock).trans rfl
  have hspine : u.spine = s.spine := (congrArg State.spine hclock).trans rfl
  have hpower : u.power = s.power := (congrArg State.power hclock).trans rfl
  have hlarder : u.larder = s.larder := (congrArg State.larder hclock).trans rfl
  have hsent : u.wire = s.wire := (congrArg State.wire hclock).trans rfl
  have hcounts (hf : s.cellar.failAt = none) : (returnRing u w).cellar.counts = s.cellar.counts := by
    rw [returnRing_cellar w (hfail.trans hf)]
    exact (congrArg (fun x : State => x.cellar.counts) hclock).trans rfl
  rw [hallowed] at hin hout
  refine ⟨returnRing u w, by rw [exec_spliceReturn_of_leave h hd hw, hu], hleft, hreturn, hcoord, fun hrate => ⟨?_, ?_⟩,
    fun hunc => ?_, hin, fun hnot => ?_, ?_⟩
  · rw [mNs, hmantel, ← hu]
    exact advanceToMantel_reaches s _ hrate
  · rw [hmantel, ← hu]
    exact advanceToMantel_bound s _ hrate
  · exact eventRaised_of_larder (eventRaised_returnRing w (hpower ▸ hunc)) hlarder
  · rw [hout hnot, hspine]
  · have heq := bridgedAs_eq hcounts
    rw [hwire, hleave, htest, hleft, hreturn, hcoord, hspine, hsent] at heq
    exact (bridgedAs_trans (bridgedAs_of_clockedAs hclock) (returnRing_bridgedAs u w)).trans heq

theorem spliceReturn_holds_of_alarm (s : State) (a : Nat) (h : splHeard s = true) (hd : s.spine.leftAt = none)
    (ha : s.cellar.rtcAlarm = some a) (hwait : awaitsReturn s = true) :
    ∃ t, exec .spliceReturn s = .next t ∧ t.cellar.rtcAlarm = none ∧ (insertAllowed s = true → t.spine.bypHold = true) ∧
      (insertAllowed s = false → t.spine.bypHold = s.spine.bypHold) ∧
      (s.cellar.rtcValid = true → a + 690000000 ≤ t.cellar.rtc) ∧
      t = clockedAs t (queuedAs t { s with
        cellar := { s.cellar with rtcAlarm := none }
        spine := { s.spine with
          east := t.spine.east, west := t.spine.west, bypHold := t.spine.bypHold, senseDue := t.spine.senseDue } }) := by
  have hms : a + 690 * msNs = a + 690000000 := by simp only [msNs, Nat.reduceMul]
  have hexec := exec_spliceReturn_of_alarm h hd ha hwait
  generalize a + 690 * msNs = time at hms hexec
  have hreached := alarmReached_frame s time
  have hinserted := insertIfAllowed_frame (alarmReached s time)
  obtain ⟨hin, hout⟩ := insertIfAllowed_bypHold (alarmReached s time)
  have hcellar : (insertIfAllowed (alarmReached s time)).cellar = (alarmReached s time).cellar :=
    (congrArg State.cellar hinserted).trans rfl
  rw [insertAllowed_alarmReached] at hin hout
  refine ⟨_, hexec, by rw [hcellar]; rfl, hin, fun hnot => ?_, fun hvalid => ?_, ?_⟩
  · rw [hout hnot, alarmReached_spine]
  · rw [hcellar, ← hms]
    exact alarmReached_rtc_reaches time hvalid
  · exact clocked_then_switched hreached hinserted

/-! ### SPLICE_WINDOW_END (R75, R81) -/

/-- The port x as the end of its window leaves it. -/
def windowEnded (s : State) (x : PortS) : PortS :=
  let y : PortS := { x with windowEnd := none, inWindow := x.inWindow && x.st == PortState.up }
  { y with fastNow := y.fastNow && fastHeld s y }

theorem endWindow_of_ended {s : State} {p : Port} {e : Nat} (he : (getPort s p).windowEnd = some e) (hpast : e ≤ mNs s) :
    endWindow s p = if (getPort s p).st = .up then setPort s p (windowEnded s (getPort s p))
      else queueLink (setPort s p (windowEnded s (getPort s p))) 2 := by
  simp only [endWindow, he, Nat.not_lt.mpr hpast, if_false, beq_iff_eq]
  rfl

theorem endWindow_of_none {s : State} {p : Port} (h : (getPort s p).windowEnd = none) : endWindow s p = s := by
  simp only [endWindow, h]

theorem endWindow_frame {s : State} {p : Port} {e : Nat} (he : (getPort s p).windowEnd = some e) (hpast : e ≤ mNs s) :
    endWindow s p = queuedAs (endWindow s p) (setPort s p (windowEnded s (getPort s p))) := by
  rw [endWindow_of_ended he hpast]
  split
  · exact queuedAs_self _
  · exact queueReport_frame _ _ _

/-- A port that is still not UP at its window's end is reported. -/
theorem linkQueued_endWindow {s : State} {p : Port} {e : Nat} (he : (getPort s p).windowEnd = some e) (hpast : e ≤ mNs s)
    (hdown : (getPort s p).st ≠ .up) : linkQueued s (endWindow s p) := by
  rw [endWindow_of_ended he hpast, if_neg hdown]
  have h := linkQueued_queueLink (setPort s p (windowEnded s (getPort s p)))
  unfold linkQueued at h ⊢
  rw [linkPayload_setPort_length s p (windowEnded s (getPort s p)) 2 rfl] at h
  exact reportQueued_of_source h (setPort_larder _ _ _) (setPort_addr _ _ _)

theorem exec_spliceWindowEnd_of_east {s : State} {e : Nat} (h : splHeard s = true)
    (heast : s.spine.east.windowEnd = some e) (hwest : s.spine.west.windowEnd = none)
    (hpast : e ≤ mNs (advanceToMantel s e)) :
    exec .spliceWindowEnd s = .next (endWindow (advanceToMantel s e) .east) := by
  have hexec : exec .spliceWindowEnd s = execSpliceWindowEnd s := rfl
  have hother : (getPort (endWindow (advanceToMantel s e) .east) .west).windowEnd = none := by
    rw [endWindow_frame (s := advanceToMantel s e) (p := .east) heast hpast]
    exact hwest
  simp [hexec, execSpliceWindowEnd, h, heast, hwest, endWindow_of_none hother]

/-- Where only the clocks ran on before, LINK is queued from the earlier state too. -/
theorem linkQueued_of_clockedAs {s t u : State} (h : t = clockedAs t s) (hq : linkQueued t u) : linkQueued s u := by
  rw [h] at hq
  exact hq

theorem clocked_then_queued {s t u : State} (hst : t = clockedAs t s) (htu : u = queuedAs u t) :
    u = clockedAs u (queuedAs u s) :=
  (congrArg (clockedAs u) (htu.trans (congrArg (queuedAs u) hst))).trans rfl

theorem setPort_of_clockedAs {s t : State} {p : Port} {x : PortS} (h : t = clockedAs t s) :
    setPort t p x = clockedAs (setPort t p x) (setPort s p x) := by
  refine (congrArg (fun y => setPort y p x) h).trans ?_
  cases p <;> rfl

theorem spliceWindowEnd_holds (s : State) (e : Nat) (h : splHeard s = true) (heast : s.spine.east.windowEnd = some e)
    (hwest : s.spine.west.windowEnd = none) (hrate : 0 < 4 * 2 ^ 32 + s.mantel.addend) :
    ∃ t, exec .spliceWindowEnd s = .next t ∧ t.spine.east.windowEnd = none ∧ e ≤ mNs t ∧
      (s.spine.east.fastUntil = 0 → t.spine.east.fastNow = false) ∧ (s.spine.east.st ≠ .up → linkQueued s t) ∧
      t = clockedAs t (queuedAs t { s with
        spine := { s.spine with
          east := { s.spine.east with
            windowEnd := none, fastNow := t.spine.east.fastNow, inWindow := t.spine.east.inWindow } } }) := by
  have hclock := advanceToMantel_frame s e
  have hpast := advanceToMantel_reaches s e hrate
  have heast' : (getPort (advanceToMantel s e) .east).windowEnd = some e := heast
  have hframe := endWindow_frame heast' hpast
  have hmantel : (endWindow (advanceToMantel s e) .east).mantel = (advanceToMantel s e).mantel :=
    (congrArg State.mantel hframe).trans rfl
  have hport := getPort_of_queuedAs_setPort hframe
  refine ⟨_, exec_spliceWindowEnd_of_east h heast hwest hpast, ?_, ?_, fun hfast => ?_, fun hdown => ?_, ?_⟩
  · exact congrArg PortS.windowEnd hport
  · rw [mNs, hmantel]
    exact hpast
  · refine (congrArg PortS.fastNow hport).trans ?_
    simp [windowEnded, fastHeld, getPort, hfast]
  · exact linkQueued_of_clockedAs hclock (linkQueued_endWindow heast' hpast hdown)
  · have hfastNow : (endWindow (advanceToMantel s e) .east).spine.east.fastNow = _ := congrArg PortS.fastNow hport
    have hinWindow : (endWindow (advanceToMantel s e) .east).spine.east.inWindow = _ := congrArg PortS.inWindow hport
    rw [hfastNow, hinWindow]
    exact clocked_then_queued (setPort_of_clockedAs hclock) hframe

/-- Settles O21. -/
theorem spliceWindowsLeavesAndReturns : Obligations.SpliceWindowsLeavesAndReturns := by
  unfold Obligations.SpliceWindowsLeavesAndReturns
  exact ⟨spliceWindow_holds, ⟨spliceWindowStart_holds, spliceReturn_holds_of_leave, spliceReturn_holds_of_alarm,
    spliceWindowEnd_holds⟩⟩

end Sys2Proof.Machine

/-! ## Resets

The settlement of O10. The layers: what the ordered stop touches; that it queues no DEFECT; what a reset leaves of the state that
stopped; the two commands. -/

namespace Sys2Proof.Machine

open Sys2Proof

/-! ### The ordered stop (R130, R413) -/

/-- s with the Hall, the wire, the ports, the bypass and queue 0x01 of t: all that the ordered stop touches. -/
def stoppedAs (t s : State) : State := switchedAs t { s with hall := t.hall, wire := t.wire }

theorem stoppedAs_trans {s t u : State} (hst : t = stoppedAs t s) (htu : u = stoppedAs u t) : u = stoppedAs u s :=
  htu.trans ((congrArg (stoppedAs u) hst).trans rfl)

theorem stoppedAs_of_switchedAs {s t : State} (h : t = switchedAs t s) : t = stoppedAs t s :=
  (congrArg (stoppedAs t) h).trans rfl

/-- s with its open write finished and the Hall stopped. -/
def writeFinished (s : State) : State := finishWrite (stopHall s)

theorem writeFinished_frame (s : State) : writeFinished s = { s with hall := (writeFinished s).hall } := by
  unfold writeFinished finishWrite
  split <;> rfl

/-- s as the ordered stop finds its ports: LEAVE is sent in the ring modes. -/
def leaveOrdered (s : State) : State :=
  if ringMode s && ringOn s then sendLeave (writeFinished s) else writeFinished s

theorem orderedStop_eq (s : State) : orderedStop s = setByp (leaveOrdered s) false := by
  have hring : (ringMode (writeFinished s) && ringOn (writeFinished s)) = (ringMode s && ringOn s) := by
    rw [writeFinished_frame]; rfl
  rw [leaveOrdered, ← hring]
  exact (apply_ite (setByp · false) _ _ _).symm

theorem leaveOrdered_frame (s : State) : leaveOrdered s = stoppedAs (leaveOrdered s) s := by
  have hfinished : writeFinished s = stoppedAs (writeFinished s) s :=
    (congrArg (stoppedAs (writeFinished s)) (writeFinished_frame s)).trans rfl
  unfold leaveOrdered
  split
  · exact stoppedAs_trans hfinished rfl
  · exact hfinished

theorem orderedStop_frame (s : State) : orderedStop s = stoppedAs (orderedStop s) s := by
  rw [orderedStop_eq]
  exact stoppedAs_trans (leaveOrdered_frame s) (stoppedAs_of_switchedAs (setByp_frame _ false))

theorem leaveOrdered_hall (s : State) : (leaveOrdered s).hall = (writeFinished s).hall := by
  unfold leaveOrdered
  split <;> simp

theorem leaveOrdered_larder (s : State) : (leaveOrdered s).larder = s.larder := by
  have hfinished : (writeFinished s).larder = s.larder := (congrArg State.larder (writeFinished_frame s)).trans rfl
  unfold leaveOrdered
  split <;> simpa using hfinished

/-- Beside finishing the open write, the stop does nothing to the Hall that a reset keeps. -/
theorem journalKept_orderedStop (s : State) : journalKept (orderedStop s).hall = journalKept (writeFinished s).hall := by
  rw [orderedStop_eq, ← leaveOrdered_hall]
  exact (congrArg (fun x : State => journalKept x.hall) (setByp_frame (leaveOrdered s) false)).trans rfl

theorem orderedStop_wire {s : State} (hm : ringMode s = true) (ho : ringOn s = true) :
    (orderedStop s).wire = .leave .west 16 :: .leave .east 16 :: s.wire := by
  have hfinished : (writeFinished s).wire = s.wire := (congrArg State.wire (writeFinished_frame s)).trans rfl
  simp [orderedStop_eq, leaveOrdered, hm, ho, sendLeave, hfinished]

/-! ### The open write (R130) -/

theorem writeFinished_of_none {s : State} (h : s.hall.writing = none) :
    (writeFinished s).hall = { s.hall with powerFail := true } := by
  simp [writeFinished, finishWrite, stopHall, h]

theorem writeFinished_of_some {s : State} {m : Msg} (h : s.hall.writing = some m) :
    writeFinished s = commitEntry (stopHall s) m := by
  simp [writeFinished, finishWrite, stopHall, h]

theorem commitEntry_codes (s : State) (m : Msg) :
    (commitEntry s m).hall.channels.map (·.code) = s.hall.channels.map (·.code) := by
  rw [commitEntry]
  simp only [List.map_map]
  refine List.map_congr_left fun c _ => ?_
  simp only [Function.comp_apply]
  split <;> rfl

/-- The write that the stop finishes is in the journal that a reset keeps. -/
theorem journalKept_commitEntry (s : State) (m : Msg) :
    (journalKept (commitEntry s m).hall).writing = none ∧
      (journalKept (commitEntry s m).hall).nextNo = s.hall.nextNo + 1 ∧
      (∃ e ∈ (journalKept (commitEntry s m).hall).entries,
        e.no = s.hall.nextNo ∧ e.msg.chan = m.chan ∧ e.msg.seq = m.seq) ∧
      ∀ c ∈ (journalKept (commitEntry s m).hall).channels, c.code = m.chan → c.expected = m.seq + 1 := by
  refine ⟨rfl, rfl, ⟨_, List.mem_append_right _ List.mem_cons_self, rfl, rfl, rfl⟩, fun c hc hcode => ?_⟩
  simp only [journalKept, commitEntry, List.map_map, List.mem_map, Function.comp_apply] at hc
  obtain ⟨d, _, rfl⟩ := hc
  by_cases hd : d.code = m.chan
  · simp [hd]
  · simp [hd] at hcode

theorem writeFinished_codes (s : State) :
    (writeFinished s).hall.channels.map (·.code) = s.hall.channels.map (·.code) := by
  cases h : s.hall.writing with
  | none => rw [writeFinished_of_none h]
  | some m => rw [writeFinished_of_some h, commitEntry_codes]; rfl

/-! ### No DEFECT is queued by a stop (R318, R326) -/

/-- No report that stands in queue 0x01 or waits for room there is a DEFECT. -/
def NoDefect (s : State) : Prop := ∀ f ∈ s.larder.reports ++ s.larder.waiting, f.spec ≠ 0x0030

theorem unsentDefects_of_noDefect {s : State} (h : NoDefect s) : unsentDefects s = [] := by
  rw [unsentDefects, List.filter_eq_nil_iff.mpr]
  · rfl
  · intro f hf
    have hspec : f.spec ≠ 48#16 := h f hf
    simp [hspec]

theorem noDefect_of_larder {s t : State} (h : NoDefect s) (hl : t.larder = s.larder) : NoDefect t := by
  unfold NoDefect
  rwa [hl]

theorem dropDown_spec (s : State) (f : OwnFolio) : (dropDown s f).spec = f.spec := by
  unfold dropDown
  (repeat' split) <;> rfl

theorem noDefect_settle {s : State} (h : NoDefect s) : NoDefect (settle s) := by
  intro f hf
  rcases List.mem_append.mp hf with hf | hf
  · obtain ⟨g, hg, rfl⟩ := List.mem_map.mp (List.mem_filter.mp hf).1
    rw [dropDown_spec]
    exact h g (List.mem_append_left _ hg)
  · exact h f (List.mem_append_right _ (by simpa using hf))

theorem noDefect_enterQueue {s : State} {f : OwnFolio} (h : NoDefect s) (hf : f.spec ≠ 0x0030) :
    NoDefect (enterQueue s f) := by
  unfold enterQueue
  refine noDefect_settle fun g hg => ?_
  simp only [watermark_larder_reports, watermark_larder_waiting, List.mem_append, List.mem_singleton] at hg
  rcases hg with (hg | rfl) | hg
  · exact h g (List.mem_append_left _ hg)
  · split <;> exact hf
  · exact h g (List.mem_append_right _ hg)

theorem mem_joinWaiting {ws : List OwnFolio} {f g : OwnFolio} (h : g ∈ joinWaiting ws f) : g = f ∨ g ∈ ws := by
  simp only [joinWaiting, List.mem_append, List.mem_cons] at h
  rcases h with h | rfl | h
  · exact .inr ((List.takeWhile_sublist _).subset h)
  · exact .inl rfl
  · exact .inr ((List.dropWhile_sublist _).subset h)

theorem noDefect_queueOwn {s : State} {f : OwnFolio} (h : NoDefect s) (hf : f.spec ≠ 0x0030) :
    NoDefect (queueOwn s f) := by
  unfold queueOwn
  split
  · exact noDefect_enterQueue h hf
  · intro g hg
    rcases List.mem_append.mp hg with hg | hg
    · exact h g (List.mem_append_left _ hg)
    · rcases mem_joinWaiting hg with rfl | hg
      · exact hf
      · exact h g (List.mem_append_right _ hg)

theorem noDefect_admitWaiting (n : Nat) {s : State} (h : NoDefect s) : NoDefect (admitWaiting n s) := by
  induction n generalizing s with
  | zero => exact h
  | succ n ih =>
    rw [admitWaiting]
    split
    · exact h
    · next f ws hws =>
      have hwaiting : ∀ g ∈ f :: ws, g.spec ≠ 0x0030 := fun g hg => h g (List.mem_append_right _ (hws ▸ hg))
      have hrest : NoDefect { s with larder := { s.larder with waiting := ws } } := by
        intro g hg
        rcases List.mem_append.mp hg with hg | hg
        · exact h g (List.mem_append_left _ hg)
        · exact hwaiting g (List.mem_cons_of_mem _ hg)
      split
      · exact ih (noDefect_enterQueue hrest (hwaiting f List.mem_cons_self))
      · exact h

theorem noDefect_portDown {s : State} (p : Port) (h : NoDefect s) : NoDefect (portDown s p) := by
  rcases portDown_cases s p with hsame | ⟨y, hdown⟩
  · rwa [hsame]
  · rw [hdown]
    have hentered : NoDefect (enterPort s p y .down) :=
      noDefect_queueOwn (noDefect_of_larder h (setPort_larder s p _)) (by decide : (0x0011 : Half) ≠ 0x0030)
    exact noDefect_admitWaiting _ (noDefect_settle hentered)

theorem noDefect_setByp {s : State} (high : Bool) (h : NoDefect s) : NoDefect (setByp s high) := by
  unfold setByp
  split
  · exact h
  · exact noDefect_of_larder (noDefect_portDown .west (noDefect_portDown .east h)) rfl

theorem noDefect_orderedStop {s : State} (h : NoDefect s) : NoDefect (orderedStop s) := by
  rw [orderedStop_eq]
  exact noDefect_setByp false (noDefect_of_larder h (leaveOrdered_larder s))

theorem collKept_of_noDefect {s : State} (h : NoDefect s) :
    (collKept s).gathered = s.coll.gathered ∧ (collKept s).gatherSince = s.coll.gatherSince := by
  simp [collKept, unsentDefects_of_noDefect h]

/-! ### What a reset leaves (R122, R331, R412) -/

theorem journalKept_codes (h : Hall) : (journalKept h).channels.map (·.code) = h.channels.map (·.code) := by
  simp [journalKept]

theorem journalKept_held {h : Hall} {c : Channel} (hc : c ∈ (journalKept h).channels) : c.held = [] := by
  obtain ⟨d, _, rfl⟩ := List.mem_map.mp hc
  rfl

theorem cutPersist_eq (s : State) : ∃ saved persistEnd fresh, cutPersist s =
    { s with arch := { s.arch with wearSaved := saved, persistEnd := persistEnd }, fresh := fresh } := by
  unfold cutPersist
  split
  · exact ⟨_, _, _, rfl⟩
  · exact ⟨_, _, _, rfl⟩

/-- The reset of a state that differs from s only in what the ordered stop touches leaves of s what R412 keeps. -/
theorem leftByReset_resetBlock {s u : State} (cause : ResetCause) (phase : Phase) (h : u = stoppedAs u s)
    (hcodes : u.hall.channels.map (·.code) = s.hall.channels.map (·.code)) (hqueue : NoDefect s → NoDefect u)
    (hjournal : s.hall.writing = none → journalKept u.hall = journalKept s.hall) :
    LeftByReset s (resetBlock u cause phase) cause := by
  obtain ⟨v, rfl⟩ : ∃ v, u = stoppedAs v s := ⟨u, h⟩
  obtain ⟨saved, persistEnd, fresh, hcut⟩ := cutPersist_eq (stoppedAs v s)
  rw [resetBlock, hcut]
  refine ⟨rfl, fun hread => ?_, fun hsvc hread => ?_, ⟨_, rfl⟩, fun hreports hwaiting => ?_, ?_, fun c hc => ?_, hjournal⟩
  · have hoff : s.straps.read = false := hread
    simp [stoppedAs, switchedAs, queuedAs, hoff]
  · have hon : s.straps.read = true := hread
    simp [stoppedAs, switchedAs, queuedAs, hsvc, hon]
  · have hnone : NoDefect (stoppedAs v s) := hqueue fun f hf => by simp [hreports, hwaiting] at hf
    exact collKept_of_noDefect (noDefect_of_larder hnone rfl)
  · exact (journalKept_codes _).trans hcodes
  · exact journalKept_held hc

theorem leftByReset_stopAndReset (s : State) (cause : ResetCause) (phase : Phase) :
    LeftByReset s (stopAndReset s cause phase) cause := by
  refine leftByReset_resetBlock cause phase (orderedStop_frame s) ?_ noDefect_orderedStop fun hw => ?_
  · rw [← journalKept_codes, journalKept_orderedStop, journalKept_codes, writeFinished_codes]
  · rw [journalKept_orderedStop, writeFinished_of_none hw]
    rfl

theorem resetBlock_keeps (s : State) (cause : ResetCause) (phase : Phase) :
    (resetBlock s cause phase).now = s.now ∧ (resetBlock s cause phase).start.phase = phase ∧
      (resetBlock s cause phase).start.ioGood = s.start.ioGood ∧ (resetBlock s cause phase).straps = s.straps ∧
      (resetBlock s cause phase).wire = s.wire ∧ (resetBlock s cause phase).hall = journalKept s.hall := by
  simp [resetBlock]

theorem stopAndReset_keeps (s : State) (cause : ResetCause) (phase : Phase) :
    (stopAndReset s cause phase).now = s.now ∧ (stopAndReset s cause phase).start.phase = phase ∧
      (stopAndReset s cause phase).start.ioGood = s.start.ioGood ∧ (stopAndReset s cause phase).straps = s.straps ∧
      (stopAndReset s cause phase).wire = (orderedStop s).wire ∧
      (stopAndReset s cause phase).hall = journalKept (writeFinished s).hall := by
  obtain ⟨hnow, hphase, hio, hstraps, hwire, hhall⟩ := resetBlock_keeps (orderedStop s) cause phase
  simp only [orderedStop_now, orderedStop_start, orderedStop_straps] at hnow hio hstraps
  exact ⟨hnow, hphase, hio, hstraps, hwire, hhall.trans (journalKept_orderedStop s)⟩

/-- A reset that finds SVC lost, or loses it after, leaves what it would have left but for the straps and the Backstair. -/
theorem leftByReset_of_svcLost {s t : State} {cause : ResetCause} (h : LeftByReset (svcLost s) t cause)
    (hread : t.straps.read = false) : LeftByReset s t cause := by
  obtain ⟨hframe, hoff, _, hrest⟩ := h
  exact ⟨hframe, hoff, fun _ hon => absurd hon (by simp [hread]), hrest⟩

theorem leftByReset_svcLost {s t : State} {cause : ResetCause} (h : LeftByReset s t cause) :
    LeftByReset s (svcLost t) cause := by
  obtain ⟨hframe, _, _, hrest⟩ := h
  exact ⟨congrArg svcLost hframe, fun _ => rfl, fun _ hon => absurd hon (by simp [svcLost]), hrest⟩

/-! ### RESET_N and VDD_IO (R31, R411, R413, R440) -/

/-- s with the cause of its reset recorded in CELL. -/
def withCause (s : State) (cause : ResetCause) : State := { s with cellar := { s.cellar with cause := some cause } }

theorem dropTo_of_running {s : State} (cause : ResetCause) (phase : Phase) (h : running s = true) :
    dropTo s cause phase = stopAndReset (withCause s cause) cause phase := by
  have hrun : running (withCause s cause) = true := h
  simp only [dropTo]
  rw [if_pos]
  · rfl
  · exact Bool.or_eq_true _ _ |>.mpr (.inl hrun)

theorem leftByReset_of_withCause {s t : State} {cause : ResetCause} (h : LeftByReset (withCause s cause) t cause) :
    LeftByReset s t cause := h

/-- What RESET_N answers at a running node whose SVC is as s has it. -/
def resetByPin (s : State) : State := stopAndReset (withCause s .resetN) .resetN .inReset

theorem leftByReset_resetByPin (s : State) : LeftByReset s (resetByPin s) .resetN :=
  leftByReset_of_withCause (leftByReset_stopAndReset _ _ _)

/-- RESET_N in S4 finds SVC off. -/
theorem exec_resetN {s : State} (hrun : running s = true) (hf : s.cellar.failAt = none) (hn : failFollows s = false) :
    exec .resetN s = .next (resetByPin (if s.power.st = .s4 then svcLost s else s)) := by
  have hexec : exec .resetN s = execResetN s := rfl
  have hphase : s.start.phase = .running := by simpa [running] using hrun
  have hrun' : running (if s.power.st = .s4 then svcLost s else s) = true := by split <;> exact hrun
  simp [hexec, execResetN, hphase, hf, hn, dropTo_of_running _ _ hrun', resetByPin]

theorem exec_resetN_of_failFollows {s : State} (hn : failFollows s = true) : exec .resetN s = .next s := by
  have hexec : exec .resetN s = execResetN s := rfl
  simp [hexec, execResetN, hn]

/-- s with the supply of its logic pins lost. -/
def ioLost (s : State) : State := { s with start := { s.start with ioGood := false } }

theorem exec_vddIoBrownout {s : State} (hrun : running s = true) (hf : s.cellar.failAt = none) :
    exec .vddIoBrownout s = .next (svcLost
      (stopAndReset (withCause (ioLost s) .vddIo) .vddIo .inReset)) := by
  have hexec : exec .vddIoBrownout s = execVddIoBrownout s := rfl
  have hphase : s.start.phase = .running := by simpa [running] using hrun
  have hpowered : (s.start.phase == .off || s.cellar.failAt.isSome) = false := by simp [hphase, hf]
  have hdrop := dropTo_of_running (s := ioLost s) .vddIo .inReset hrun
  simp only [hexec, execVddIoBrownout, hpowered, Bool.false_eq_true, if_false]
  rw [← hdrop]
  rfl

theorem exec_vddIoBrownout_of_failed {s : State} (h : s.start.phase = .off ∨ s.cellar.failAt.isSome = true) :
    exec .vddIoBrownout s = .next (svcLost (ioLost s)) := by
  have hexec : exec .vddIoBrownout s = execVddIoBrownout s := rfl
  have hfailed : (s.start.phase == .off || s.cellar.failAt.isSome) = true := by simpa using h
  simp only [hexec, execVddIoBrownout, hfailed, if_true]
  rfl

theorem ringOn_of_running {s : State} (hrun : running s = true) (h4 : s.power.st ≠ .s4) : ringOn s = true := by
  simp [ringOn, hrun, h4]

/-- Settles O10: the ordered stop by its frame, and the reset by what it leaves of a state that stopped. -/
theorem resetsHoldTheNodeAndKeepTheJournal : Obligations.ResetsHoldTheNodeAndKeepTheJournal := by
  unfold Obligations.ResetsHoldTheNodeAndKeepTheJournal
  refine ⟨⟨fun s hrun hf => ⟨exec_resetN_of_failFollows, fun hn => ?_, ?_⟩, fun s => exec_vddIoBrownout_of_failed⟩,
    fun s hrun h4 hf hn => ⟨fun hmode => ?_, fun m hm => ?_⟩⟩
  · refine ⟨_, exec_resetN hrun hf hn, ?_⟩
    by_cases h4 : s.power.st = .s4
    · rw [if_pos h4, if_pos h4]
      obtain ⟨hnow, hphase, hio, hstraps, _⟩ := stopAndReset_keeps (withCause (svcLost s) .resetN) .resetN .inReset
      exact ⟨leftByReset_of_svcLost (leftByReset_resetByPin _) (congrArg Straps.read hstraps), hphase, hnow, hio, hstraps⟩
    · rw [if_neg h4, if_neg h4]
      obtain ⟨hnow, hphase, hio, hstraps, _⟩ := stopAndReset_keeps (withCause s .resetN) .resetN .inReset
      exact ⟨leftByReset_resetByPin s, hphase, hnow, hio, hstraps⟩
  · obtain ⟨hnow, hphase, hio, hstraps, _⟩ := stopAndReset_keeps
      (withCause (ioLost s) .vddIo) .vddIo .inReset
    have hleft := leftByReset_of_withCause (leftByReset_stopAndReset (withCause (ioLost s) .vddIo) .vddIo .inReset)
    refine ⟨_, exec_vddIoBrownout hrun hf, leftByReset_svcLost hleft, hphase, hnow, hio, ?_⟩
    rw [svcLost, hstraps]
    rfl
  · refine ⟨_, exec_resetN hrun hf hn, ?_⟩
    rw [if_neg h4]
    obtain ⟨_, _, _, _, hwire, _⟩ := stopAndReset_keeps (withCause s .resetN) .resetN .inReset
    exact hwire.trans (orderedStop_wire hmode (ringOn_of_running hrun h4))
  · refine ⟨_, exec_resetN hrun hf hn, ?_⟩
    rw [if_neg h4]
    obtain ⟨_, _, _, _, _, hhall⟩ := stopAndReset_keeps (withCause s .resetN) .resetN .inReset
    rw [writeFinished_of_some (s := withCause s .resetN) hm] at hhall
    rw [resetByPin, hhall]
    exact journalKept_commitEntry _ m

end Sys2Proof.Machine

/-! ## Power-up, straps and the staged start-up

The settlement of O9. The layers: the cell as VDD_AUX comes good; a start-up from S; the strap readout; the instants of the steps;
what the operations of the steps keep; the steps one by one. -/

namespace Sys2Proof.Machine

open Sys2Proof

/-! ### The cell follows VDD_AUX (R370) -/

theorem coreOn_of_not_running {s : State} (h : running s = false) : coreOn s = false := by simp [coreOn, h]

/-- s with its cell in a state. -/
def withCell (s : State) (new : CellState) : State := { s with cellar := { s.cellar with cell := new } }

theorem moveCell_of_same {s : State} {new : CellState} (h : new = s.cellar.cell) : moveCell s new = s := by
  simp [moveCell, h]

/-- A cell that is not cut off moves with EVENT 0x0B07 and nothing else. -/
theorem moveCell_of_move {s : State} {new : CellState} (hmove : new ≠ s.cellar.cell) (hcut : new ≠ .cutOff) :
    ∃ arg0 arg1, moveCell s new = withCell (raiseCellar s 0x0B07 arg0 arg1) new := by
  have hmove' : (new == s.cellar.cell) = false := by simpa using hmove
  have hcut' : (new == CellState.cutOff) = false := by simpa using hcut
  simp only [moveCell, hmove', hcut', Bool.false_eq_true, if_false]
  exact ⟨_, _, rfl⟩

theorem moveCell_frame (s : State) {new : CellState} (hcut : new ≠ .cutOff) :
    moveCell s new = reportedAs (moveCell s new) (withCell s new) := by
  by_cases hmove : new = s.cellar.cell
  · have hsame : withCell s new = s := by rw [withCell, hmove]
    rw [moveCell_of_same hmove, hsame]
    exact reportedAs_self s
  · obtain ⟨arg0, arg1, h⟩ := moveCell_of_move hmove hcut
    rw [h]
    exact congrArg (withCell · new) (raiseCellar_frame s _ _ _)

/-- While CORE is off, the move is kept for the report after replay (R376). -/
theorem moveCell_unreported {s : State} {new : CellState} (hcore : coreOn s = false) (hmove : new ≠ s.cellar.cell)
    (hcut : new ≠ .cutOff) :
    ∃ e : EventRec, (moveCell s new).cellar.unreported = s.cellar.unreported ++ [e] ∧ e.code = 0x0B07 := by
  obtain ⟨arg0, arg1, h⟩ := moveCell_of_move hmove hcut
  rw [h, raiseCellar, if_neg (by simp [hcore])]
  simp only [withCell, raiseKept, logEvent_cellar_unreported]
  exact ⟨_, rfl, rfl⟩

theorem cellByAux_ne_cutOff (c : Cellar) : cellByAux c true ≠ .cutOff := by
  cases h : c.cell <;> simp [cellByAux, nextCell, selectCell, h] <;> (repeat' split) <;> simp

theorem cellByAux_cutOff {c : Cellar} (h : c.cell = .cutOff) :
    cellByAux c true = if c.tempC < 0 ∨ 45 < c.tempC then .paused else .precharge := by
  simp [cellByAux, nextCell, h]

theorem cellByAux_discharge {c : Cellar} (h : c.cell = .discharge) : cellByAux c true = selectCell c.vcellMv c.tempC := by
  simp [cellByAux, nextCell, h]

theorem cellByAux_charging {c : Cellar} (h : c.cell ≠ .cutOff) (h' : c.cell ≠ .discharge) : cellByAux c true = c.cell := by
  simp [cellByAux, h, h']

/-- s with the four supplies of S good, before the cell follows. -/
def supplied (s : State) : State :=
  { s with
    start := { s.start with coreGood := true, sdGood := true, ioGood := true, auxGood := true }
    power := { s.power with auxBrownAt := none }
    cellar := { s.cellar with isolated := false } }

/-! ### A start-up from S (R31, R394, R411, R412, R414) -/

theorem startSteps_at_S {s : State} (h : s.start.s = s.now) : startSteps s 0 = setStage (noteStep s 0 0) 2 := by
  have hbefore : (noteStep s 0 0).now < (noteStep s 0 0).start.s + 1200 * usNs := by
    show s.now < s.start.s + 1200 * usNs
    simp only [h, usNs]
    omega
  exact if_pos hbefore

/-- The straps survive to a start-up of a cause. -/
def strapsStay (s : State) (cause : ResetCause) : Bool := s.straps.read && cause != .firstPower

theorem startFrom_eq (s : State) (cause : ResetCause) : ∃ stepUs, startFrom s cause =
    { s with
      start := { s.start with
        phase := .awaitStraps, cause := cause, s := s.now, strapsKept := strapsStay s cause
        stage := if strapsStay s cause then 2 else s.start.stage, stepUs := stepUs }
      cellar := { s.cellar with cause := some cause, counts := zeros 14 }
      arch := { s.arch with poweredFrom := s.now }
      straps := { s.straps with
        svcOn := true, svcSince := if s.straps.svcOn ∧ cause ≠ .firstPower then s.straps.svcSince else s.now
        read := strapsStay s cause }
      back := { s.back with pstate := if cause = .firstPower then .off else s.back.pstate } } := by
  by_cases hfirst : cause = .firstPower
  · subst hfirst
    exact ⟨s.start.stepUs, by simp [startFrom, svcLost, strapsStay]⟩
  · have hnot : (cause == ResetCause.firstPower) = false := by simpa using hfirst
    cases hread : s.straps.read with
    | false => exact ⟨s.start.stepUs, by simp [startFrom, strapsStay, hread, hnot, hfirst]⟩
    | true =>
      refine ⟨s.start.stepUs.set 0 (BitVec.ofNat 32 (sat 32 0)), ?_⟩
      have hbne : (cause != ResetCause.firstPower) = true := by simpa using hfirst
      simp only [startFrom, hnot, Bool.false_eq_true, if_false, hread, if_true]
      rw [startSteps_at_S rfl]
      simp [strapsStay, hread, hfirst, setStage, noteStep]

/-! ### POWER_UP (R31, R376, R411) -/

/-- s as POWER_UP finds SVC: lost where VDD_IO fell. -/
def afterIo (s : State) (ioFell : Bool) : State := if ioFell then svcLost s else s

/-- The cause of the start-up that POWER_UP begins (R411). -/
def powerUpCause (s : State) : ResetCause :=
  if s.start.phase = .off then s.cellar.cause.getD .firstPower else s.start.cause

theorem exec_powerUp {s : State} (ioFell : Bool) (hp : s.start.phase = .off ∨ s.start.phase = .inReset)
    (hf : s.cellar.failAt = none) :
    exec (.powerUp ioFell) s = .next (startFrom (suppliesGood (afterIo s ioFell)) (powerUpCause s)) := by
  have hexec : exec (.powerUp ioFell) s = execPowerUp ioFell s := rfl
  rcases hp with hp | hp <;> cases ioFell <;>
    simp [hexec, execPowerUp, hf, hp, afterIo, svcLost, poweredCause, powerUpCause]

/-- The supplies good, with the EVENT of a cell that moves. -/
theorem suppliesGood_frame (s : State) : suppliesGood s =
    reportedAs (suppliesGood s) (withCell (supplied s) (cellByAux s.cellar true)) :=
  moveCell_frame (supplied s) (cellByAux_ne_cutOff s.cellar)

theorem suppliesGood_unreported {s : State} (hoff : running s = false) (hmove : cellByAux s.cellar true ≠ s.cellar.cell) :
    ∃ e : EventRec, (suppliesGood s).cellar.unreported = s.cellar.unreported ++ [e] ∧ e.code = 0x0B07 :=
  moveCell_unreported (s := supplied s) (coreOn_of_not_running hoff) hmove (cellByAux_ne_cutOff s.cellar)

theorem powerUp_holds (s : State) (ioFell : Bool) (hp : s.start.phase = .off ∨ s.start.phase = .inReset)
    (hf : s.cellar.failAt = none) : ∃ t, exec (.powerUp ioFell) s = .next t ∧ t.start.phase = .awaitStraps ∧ t.start.s = s.now ∧
      (s.start.phase = .off → t.start.cause = s.cellar.cause.getD .firstPower) ∧
      (s.start.phase = .inReset → t.start.cause = s.start.cause) ∧ t.straps.svcOn = true ∧
      t.straps.read = (s.straps.read && !ioFell && t.start.cause != .firstPower) ∧
      t.start.stage = (if t.straps.read then 2 else s.start.stage) ∧
      t.straps.svcSince = (if s.straps.svcOn ∧ ioFell = false ∧ t.start.cause ≠ .firstPower then s.straps.svcSince else s.now) ∧
      t.back.pstate = (if ioFell ∨ t.start.cause = .firstPower then .off else s.back.pstate) ∧
      t.cellar.cell = (match s.cellar.cell with
        | .cutOff => if s.cellar.tempC < 0 ∨ 45 < s.cellar.tempC then .paused else .precharge
        | .discharge => selectCell s.cellar.vcellMv s.cellar.tempC
        | c => c) ∧
      (t.cellar.cell ≠ s.cellar.cell → ∃ e : EventRec, t.cellar.unreported = s.cellar.unreported ++ [e] ∧ e.code = 0x0B07) ∧
      t = reportedAs t { s with
        start := { s.start with
          phase := .awaitStraps, cause := t.start.cause, s := s.now, strapsKept := t.straps.read, stage := t.start.stage
          stepUs := t.start.stepUs, coreGood := true, sdGood := true, ioGood := true, auxGood := true }
        straps := { s.straps with svcOn := true, svcSince := t.straps.svcSince, read := t.straps.read }
        cellar := { s.cellar with cause := some t.start.cause, isolated := false, cell := t.cellar.cell, counts := zeros 14 }
        power := { s.power with auxBrownAt := none }
        back := { s.back with pstate := t.back.pstate }
        arch := { s.arch with poweredFrom := s.now } } := by
  obtain ⟨stepUs, hstart⟩ := startFrom_eq (suppliesGood (afterIo s ioFell)) (powerUpCause s)
  have hframe := suppliesGood_frame (afterIo s ioFell)
  have hmoved := suppliesGood_unreported (s := afterIo s ioFell)
  refine ⟨_, exec_powerUp ioFell hp hf, ?_⟩
  rw [hstart]
  generalize suppliesGood (afterIo s ioFell) = v at hframe hmoved
  have hcell : v.cellar.cell = cellByAux s.cellar true := by
    rw [hframe]; cases ioFell <;> rfl
  have hstraps : v.straps = (afterIo s ioFell).straps := by rw [hframe]; rfl
  have hback : v.back = (afterIo s ioFell).back := by rw [hframe]; rfl
  have hv : v.start = (supplied s).start := by rw [hframe]; cases ioFell <;> rfl
  have hnow : v.now = s.now := by rw [hframe]; cases ioFell <;> rfl
  refine ⟨rfl, hnow, fun h => ?_, fun h => ?_, rfl, ?_, ?_, ?_, ?_, ?_, fun h => ?_, ?_⟩
  · simp [powerUpCause, h]
  · simp [powerUpCause, h]
  · simp only [strapsStay, hstraps]
    cases ioFell <;> simp [afterIo, svcLost]
  · simp only [hv, supplied]
  · simp only [hstraps, hnow]
    cases ioFell <;> simp [afterIo, svcLost]
  · simp only [hback]
    cases ioFell <;> simp [afterIo, svcLost]
  · simp only [hcell]
    cases h : s.cellar.cell <;> simp [cellByAux_cutOff, cellByAux_discharge, cellByAux_charging, h]
  · have hoff : running (afterIo s ioFell) = false := by
      rcases hp with hp | hp <;> cases ioFell <;> simp [running, afterIo, svcLost, hp]
    cases ioFell <;> exact hmoved hoff (hcell ▸ h)
  · rw [hframe]
    cases ioFell <;> simp [reportedAs, withCell, supplied, afterIo, svcLost, strapsStay, hf]

/-! ### The strap readout (R31, R34, R72, R331) -/

/-- The straps' words take free values and nothing else. -/
theorem strapWords_state (m : Mode) (cs : List (Nat × Nat × Nat × Nat)) (i : Nat) (codes : List (List Nat)) (s : State) :
    ∃ fresh, (strapWords m cs i codes s).2 = { s with fresh := fresh } := by
  induction codes generalizing i s with
  | nil => exact ⟨s.fresh, rfl⟩
  | cons c codes ih =>
    obtain ⟨fresh, h⟩ := ih (i + 1) (freeBelow s 1).2
    exact ⟨fresh, h⟩

/-- A readout sets the straps, and with them puts the Backstair in INTEGRATING. -/
theorem readStraps_frame (s : State) (codes : List (List Nat)) (irefPa : List Nat) : readStraps s codes irefPa =
    { s with
      straps := (readStraps s codes irefPa).straps, fresh := (readStraps s codes irefPa).fresh
      back := { s.back with pstate := if s.back.pstate = .off then .integrating else s.back.pstate } } := by
  simp only [readStraps]
  generalize hw : strapWords _ _ _ codes s = w
  obtain ⟨fresh, hstate⟩ := hw ▸ strapWords_state _ _ _ codes s
  simp only [hstate, beq_iff_eq]

theorem readStraps_of_clocked {s u : State} (codes : List (List Nat)) (irefPa : List Nat) (h : u = clockedAs u s) :
    readStraps u codes irefPa = clockedAs (readStraps u codes irefPa) { s with
      straps := (readStraps u codes irefPa).straps, fresh := (readStraps u codes irefPa).fresh
      back := { s.back with pstate := if s.back.pstate = .off then .integrating else s.back.pstate } } := by
  have hframe := readStraps_frame u codes irefPa
  generalize readStraps u codes irefPa = v at hframe ⊢
  have hread := congrArg (fun x : State => clockedAs v { x with
    straps := v.straps, fresh := v.fresh
    back := { x.back with pstate := if x.back.pstate = .off then .integrating else x.back.pstate } }) h
  exact (congrArg (clockedAs v) hframe).trans hread

theorem readStraps_straps (s : State) (codes : List (List Nat)) (irefPa : List Nat) :
    (readStraps s codes irefPa).straps.read = true ∧ (readStraps s codes irefPa).straps.svcOn = true ∧
      (readStraps s codes irefPa).straps.svcSince = s.straps.svcSince ∧
      (readStraps s codes irefPa).straps.levels = codes.map (fun c => BitVec.ofNat 4 (bandLevel (codeSum c))) := by
  refine ⟨rfl, rfl, ?_, rfl⟩
  simp only [readStraps]
  generalize hw : strapWords _ _ _ codes s = w
  obtain ⟨fresh, hstate⟩ := hw ▸ strapWords_state _ _ _ codes s
  rw [hstate]

/-- The sampling ends 2.0 ms to 2.4 ms after SVC power became good, or now where that is past. -/
theorem strapsEnd_eq (s : State) : ∃ u, strapsEnd s = u ∧ s.straps.svcSince + 2000000 ≤ u.now ∧
    u.now ≤ max s.now (s.straps.svcSince + 2400003) ∧ u = clockedAs u { s with fresh := s.fresh + 1 } := by
  have hopen : Config.freeNat s.fresh % (400 * usNs + 1) < 400 * usNs + 1 := Nat.mod_lt _ (Nat.succ_pos _)
  generalize hn : Config.freeNat s.fresh % (400 * usNs + 1) = n at hopen
  have hend : strapsEnd s = advanceTo { s with fresh := s.fresh + 1 } (s.straps.svcSince + 2000 * usNs + n) := by
    rw [← hn]; rfl
  refine ⟨_, hend, ?_, ?_, advanceTo_frame _ _⟩
  · rw [advanceTo_now]
    simp only [usNs]
    omega
  · rw [advanceTo_now]
    simp only [usNs] at hopen ⊢
    omega

/-- Step 4 is due once 1.2 ms have passed from S, with the RING PLL locked and the senses sampled from then on. -/
theorem startSteps_eq (s : State) (us : Nat) : ∃ stage stepUs, startSteps s us =
    { s with
      start := { s.start with stage := stage, stepUs := stepUs }
      spine := if stage = 4 then { s.spine with pllLocked := true, senseDue := s.now } else s.spine } ∧
    stage = if s.now < s.start.s + 1200000 then 2 else 4 := by
  by_cases h : s.now < s.start.s + 1200000
  · refine ⟨2, (noteStep s 0 us).start.stepUs, ?_, by simp [h]⟩
    simp [startSteps, noteStep, usNs, h, setStage]
  · refine ⟨4, (noteStep s 0 us).start.stepUs, ?_, by simp [h]⟩
    simp [startSteps, noteStep, usNs, h, setStage, clocksLock]

theorem exec_strapSample_awaited {s : State} (codes : List (List Nat)) (irefPa : List Nat) (hsvc : s.straps.svcOn = true)
    (hread : s.straps.read = false) (hp : s.start.phase = .awaitStraps) : exec (.strapSample codes irefPa) s =
      .next (startSteps (readStraps (strapsEnd s) codes irefPa) (usSince (readStraps (strapsEnd s) codes irefPa))) := by
  have hexec : exec (.strapSample codes irefPa) s = execStrapSample codes irefPa s := rfl
  simp [hexec, execStrapSample, hsvc, hread, hp]

theorem exec_strapSample_inReset {s : State} (codes : List (List Nat)) (irefPa : List Nat) (hsvc : s.straps.svcOn = true)
    (hread : s.straps.read = false) (hp : s.start.phase = .inReset) :
    exec (.strapSample codes irefPa) s = .next (readStraps (strapsEnd s) codes irefPa) := by
  have hexec : exec (.strapSample codes irefPa) s = execStrapSample codes irefPa s := rfl
  simp [hexec, execStrapSample, hsvc, hread, hp]

theorem strapSample_holds (s : State) (codes : List (List Nat)) (irefPa : List Nat) (hsvc : s.straps.svcOn = true)
    (hread : s.straps.read = false) :
    (s.start.phase = .awaitStraps →
      ∃ t, exec (.strapSample codes irefPa) s = .next t ∧ t.straps.read = true ∧ t.straps.svcOn = true ∧
        t.straps.svcSince = s.straps.svcSince ∧
        t.straps.levels = codes.map (fun c => BitVec.ofNat 4 (bandLevel (codeSum c))) ∧
        t.start.stage = (if t.now < s.start.s + 1200000 then 2 else 4) ∧
        s.straps.svcSince + 2000000 ≤ t.now ∧ t.now ≤ max s.now (s.straps.svcSince + 2400003) ∧
        t = clockedAs t { s with
          start := { s.start with stage := t.start.stage, stepUs := t.start.stepUs }, straps := t.straps, fresh := t.fresh
          spine := if t.start.stage = 4 then { s.spine with pllLocked := true, senseDue := t.now } else s.spine
          back := { s.back with pstate := if s.back.pstate = .off then .integrating else s.back.pstate } }) ∧
    (s.start.phase = .inReset →
      ∃ t, exec (.strapSample codes irefPa) s = .next t ∧ t.straps.read = true ∧
        s.straps.svcSince + 2000000 ≤ t.now ∧ t.now ≤ max s.now (s.straps.svcSince + 2400003) ∧
        t.straps.levels = codes.map (fun c => BitVec.ofNat 4 (bandLevel (codeSum c))) ∧
        t = clockedAs t { s with
          straps := t.straps, fresh := t.fresh
          back := { s.back with pstate := if s.back.pstate = .off then .integrating else s.back.pstate } }) := by
  obtain ⟨u, hu, hfrom, hto, hclock⟩ := strapsEnd_eq s
  have hread' := readStraps_of_clocked codes irefPa hclock
  have hnow : (readStraps u codes irefPa).now = u.now := by rw [readStraps_frame]
  obtain ⟨hon, hsvcOn, hsince, hlevels⟩ := readStraps_straps u codes irefPa
  obtain ⟨stage, stepUs, hsteps, hstage⟩ := startSteps_eq (readStraps u codes irefPa) (usSince (readStraps u codes irefPa))
  have hawaited := exec_strapSample_awaited codes irefPa hsvc hread
  have hreset := exec_strapSample_inReset codes irefPa hsvc hread
  rw [hu] at hreset
  rw [hu, hsteps] at hawaited
  have hsince' : u.straps.svcSince = s.straps.svcSince := by rw [hclock]; rfl
  have hstart : (readStraps u codes irefPa).start = s.start := by rw [hread']; rfl
  generalize readStraps u codes irefPa = v at *
  refine ⟨fun hp => ⟨_, hawaited hp, hon, hsvcOn, hsince.trans hsince', hlevels, ?_, ?_, ?_, ?_⟩,
    fun hp => ⟨_, hreset hp, hon, hnow ▸ hfrom, hnow ▸ hto, hlevels, ?_⟩⟩
  · rw [hstage, hstart]
  · exact hnow ▸ hfrom
  · exact hnow ▸ hto
  · exact (congrArg (fun x : State => ({ x with
      start := { x.start with stage := stage, stepUs := stepUs }
      spine := if stage = 4 then { x.spine with pllLocked := true, senseDue := x.now } else x.spine } : State)) hread').trans rfl
  · exact hread'

/-! ### The instants of the steps (R414; log 62) -/

theorem step_of_stage {s : State} (hp : s.pending = []) (hf : s.cellar.failAt = none) (hs : s.start.stage ≠ 0) :
    step s = .next (runStage s) := by
  rw [step_of_idle hp, idle, if_neg]
  simp [hs, hf]

/-- A step ends at a whole number of us from S, within its bounds or as soon as its lower bound lets it. -/
theorem stepEnds_eq (s : State) (lo hi : Nat) : ∃ k u, stepEnds s lo hi = (k, u) ∧ lo ≤ k ∧ k ≤ max lo hi ∧
    s.start.s + k * 1000 ≤ u.now ∧ s.now ≤ u.now ∧ u.now ≤ max s.now (s.start.s + k * 1000 + 3) ∧
    u = clockedAs u { s with fresh := s.fresh + 1 } := by
  have hopen : Config.freeNat s.fresh % (hi - lo + 1) < hi - lo + 1 := Nat.mod_lt _ (Nat.succ_pos _)
  generalize hn : Config.freeNat s.fresh % (hi - lo + 1) = n at hopen
  have hend : stepEnds s lo hi =
      (lo + n, advanceTo { s with fresh := s.fresh + 1 } (s.start.s + (lo + n) * 1000)) := by rw [← hn]; rfl
  refine ⟨_, _, hend, by omega, by omega, ?_, ?_, ?_, advanceTo_frame _ _⟩
  · exact (advanceTo_reaches _ _).1
  · exact (advanceTo_reaches { s with fresh := s.fresh + 1 } _).2
  · exact advanceTo_bound _ _

theorem usSince_bound (s : State) : s.start.s + usSince s * 1000 ≤ max (s.now + 999) s.start.s := by
  simp only [usSince, usNs]
  omega

/-- A step whose lower bound is the us in progress, or lies within its upper bound, ends within the upper bound from S, or with
the us in progress where the upper bound is past. -/
theorem stepEnds_within {s : State} {lo hi : Nat} (h : lo ≤ max (usSince s) hi) : ∃ k u, stepEnds s lo hi = (k, u) ∧
    s.start.s + lo * 1000 ≤ u.now ∧ s.now ≤ u.now ∧ u.now ≤ max (s.now + 1003) (s.start.s + (hi * 1000 + 3)) ∧
    u = clockedAs u { s with fresh := s.fresh + 1 } := by
  obtain ⟨k, u, hend, hlo, hk, hdue, hnow, hto, hclock⟩ := stepEnds_eq s lo hi
  have hsince := usSince_bound s
  have hleast : s.start.s + lo * 1000 ≤ u.now := (Nat.add_le_add_left (Nat.mul_le_mul_right 1000 hlo) _).trans hdue
  exact ⟨k, u, hend, hleast, hnow, by omega, hclock⟩

/-! ### Steps 2 and 3 (R72, R414) -/

theorem clocksLock_frame {s u : State} (h : u = clockedAs u { s with fresh := s.fresh + 1 }) :
    clocksLock u = clockedAs (clocksLock u) { s with
      start := { s.start with stage := 4 }, spine := { s.spine with pllLocked := true, senseDue := (clocksLock u).now }
      fresh := (clocksLock u).fresh } := by
  have hfresh : (clocksLock u).fresh = s.fresh + 1 := (congrArg State.fresh h).trans rfl
  rw [hfresh]
  exact (congrArg clocksLock h).trans rfl

theorem runStage_2 {s : State} (h : s.start.stage = 2) : ∃ t, runStage s = t ∧
    s.start.s + 1000000 ≤ t.now ∧ t.now ≤ max (s.now + 1003) (s.start.s + 1200003) ∧
    t = clockedAs t { s with
      start := { s.start with stage := 4 }, spine := { s.spine with pllLocked := true, senseDue := t.now }, fresh := t.fresh } := by
  obtain ⟨k, u, hend, hdue, _, hto, hclock⟩ :=
    stepEnds_within (s := s) (lo := max (usSince s) 1000) (hi := 1200) (max_le_max_left _ (by decide))
  have hrun : runStage s = clocksLock u := by simp only [runStage, h, hend]
  have hnow : (clocksLock u).now = u.now := rfl
  have hlock : 1000 ≤ max (usSince s) 1000 := le_max_right _ _
  generalize max (usSince s) 1000 = lo at hdue hlock
  refine ⟨_, hrun, ?_, ?_, clocksLock_frame hclock⟩ <;> rw [hnow]
  · omega
  · omega

/-! ### What the operations of the steps keep -/

/-- What the checks, reports and loads of a step of start-up leave of s. -/
structure StepKeeps (s t : State) : Prop where
  now : t.now = s.now
  straps : t.straps = s.straps
  stage : t.start.stage = s.start.stage
  addr : t.addr.addr = s.addr.addr
  pin : t.arch.pin = s.arch.pin
  badWords : t.arch.badWords = s.arch.badWords

/-- What a step that talks to no one leaves of s: besides, the Spine, the addressing and the Hall, the phase, S and cause of the
start-up, the measured delays of the ports, the watchdog, and the Press as it runs. -/
structure StepQuiet (s t : State) : Prop where
  now : t.now = s.now
  straps : t.straps = s.straps
  stage : t.start.stage = s.start.stage
  pin : t.arch.pin = s.arch.pin
  badWords : t.arch.badWords = s.arch.badWords
  spine : t.spine = s.spine
  addressing : t.addr = s.addr
  hall : t.hall = s.hall
  phase : t.start.phase = s.start.phase
  since : t.start.s = s.start.s
  cause : t.start.cause = s.start.cause
  east : t.mantel.east = s.mantel.east
  west : t.mantel.west = s.mantel.west
  watchdog : t.cellar.watchdogArmed = s.cellar.watchdogArmed
  running : t.press.running = s.press.running
  timing : t.press.timing = s.press.timing

theorem StepKeeps.refl (s : State) : StepKeeps s s := by constructor <;> rfl

theorem StepKeeps.trans {s t u : State} (h : StepKeeps s t) (k : StepKeeps t u) : StepKeeps s u where
  now := k.now.trans h.now
  straps := k.straps.trans h.straps
  stage := k.stage.trans h.stage
  addr := k.addr.trans h.addr
  pin := k.pin.trans h.pin
  badWords := k.badWords.trans h.badWords

theorem StepQuiet.trans {s t u : State} (h : StepQuiet s t) (k : StepQuiet t u) : StepQuiet s u where
  now := k.now.trans h.now
  straps := k.straps.trans h.straps
  stage := k.stage.trans h.stage
  pin := k.pin.trans h.pin
  badWords := k.badWords.trans h.badWords
  spine := k.spine.trans h.spine
  addressing := k.addressing.trans h.addressing
  hall := k.hall.trans h.hall
  phase := k.phase.trans h.phase
  since := k.since.trans h.since
  cause := k.cause.trans h.cause
  east := k.east.trans h.east
  west := k.west.trans h.west
  watchdog := k.watchdog.trans h.watchdog
  running := k.running.trans h.running
  timing := k.timing.trans h.timing

theorem StepQuiet.keeps {s t : State} (h : StepQuiet s t) : StepKeeps s t :=
  ⟨h.now, h.straps, h.stage, congrArg Addressing.addr h.addressing, h.pin, h.badWords⟩

theorem StepQuiet.of_reportedAs {s t : State} (h : t = reportedAs t s) : StepQuiet s t where
  now := (congrArg (fun x : State => x.now) h).trans rfl
  straps := (congrArg (fun x : State => x.straps) h).trans rfl
  stage := (congrArg (fun x : State => x.start.stage) h).trans rfl
  pin := (congrArg (fun x : State => x.arch.pin) h).trans rfl
  badWords := (congrArg (fun x : State => x.arch.badWords) h).trans rfl
  spine := (congrArg (fun x : State => x.spine) h).trans rfl
  addressing := (congrArg (fun x : State => x.addr) h).trans rfl
  hall := (congrArg (fun x : State => x.hall) h).trans rfl
  phase := (congrArg (fun x : State => x.start.phase) h).trans rfl
  since := (congrArg (fun x : State => x.start.s) h).trans rfl
  cause := (congrArg (fun x : State => x.start.cause) h).trans rfl
  east := (congrArg (fun x : State => x.mantel.east) h).trans rfl
  west := (congrArg (fun x : State => x.mantel.west) h).trans rfl
  watchdog := (congrArg (fun x : State => x.cellar.watchdogArmed) h).trans rfl
  running := (congrArg (fun x : State => x.press.running) h).trans rfl
  timing := (congrArg (fun x : State => x.press.timing) h).trans rfl

theorem StepQuiet.refl (s : State) : StepQuiet s s := .of_reportedAs (reportedAs_self s)

theorem raise_quiet (s : State) (code arg0 : Half) (arg1 : Word) : StepQuiet s (raise s code arg0 arg1) :=
  .of_reportedAs (raise_frame s code arg0 arg1)

theorem StepQuiet.raise {s t : State} (h : StepQuiet s t) (code arg0 : Half) (arg1 : Word) :
    StepQuiet s (raise t code arg0 arg1) := h.trans (raise_quiet t code arg0 arg1)

theorem noteStep_quiet (s : State) (i us : Nat) : StepQuiet s (noteStep s i us) := by constructor <;> rfl

/-- Time has run on up to the end of a step: it leaves what a quiet step does, but the instant. -/
theorem stepEnds_quiet {s u : State} (h : u = clockedAs u { s with fresh := s.fresh + 1 }) :
    StepQuiet { s with now := u.now } u where
  now := rfl
  straps := (congrArg (fun x : State => x.straps) h).trans rfl
  stage := (congrArg (fun x : State => x.start.stage) h).trans rfl
  pin := (congrArg (fun x : State => x.arch.pin) h).trans rfl
  badWords := (congrArg (fun x : State => x.arch.badWords) h).trans rfl
  spine := (congrArg (fun x : State => x.spine) h).trans rfl
  addressing := (congrArg (fun x : State => x.addr) h).trans rfl
  hall := (congrArg (fun x : State => x.hall) h).trans rfl
  phase := (congrArg (fun x : State => x.start.phase) h).trans rfl
  since := (congrArg (fun x : State => x.start.s) h).trans rfl
  cause := (congrArg (fun x : State => x.start.cause) h).trans rfl
  east := (congrArg (fun x : State => x.mantel.east) h).trans rfl
  west := (congrArg (fun x : State => x.mantel.west) h).trans rfl
  watchdog := (congrArg (fun x : State => x.cellar.watchdogArmed) h).trans rfl
  running := (congrArg (fun x : State => x.press.running) h).trans rfl
  timing := (congrArg (fun x : State => x.press.timing) h).trans rfl

theorem setStage_quiet {s t : State} (h : StepQuiet s t) (k : Nat) : StepQuiet (setStage s k) (setStage t k) :=
  { h with stage := rfl }

/-! ### Step 4 (R17, R165, R373, R414) -/

theorem setLock_quiet (s : State) (l : Lock) (offsetPs : Int) : StepQuiet s (setLock s l offsetPs) := by
  simp only [setLock, nowValid]
  split
  · exact .refl s
  · refine StepQuiet.raise ?_ _ _ _
    split <;> constructor <;> rfl

theorem takeLock_quiet (s : State) (l : Lock) : StepQuiet s (takeLock s l) := by
  unfold takeLock
  refine StepQuiet.trans ?_ (setLock_quiet _ _ _)
  split <;> split <;> constructor <;> rfl

theorem loadPatch_quiet (s : State) : StepQuiet s (loadPatch s) := by
  have hrun (loaded : Bool) (identity : Word) : StepQuiet s (runPatch s loaded identity) := by constructor <;> rfl
  unfold loadPatch
  split
  · exact hrun _ _
  · split
    · exact (hrun _ _).raise _ _ _
    · exact hrun _ _

theorem porterStart_quiet (s : State) : StepQuiet s (porterStart s) := by
  unfold porterStart
  split
  · constructor <;> rfl
  · exact .refl s

/-- s with the engines on, the watchdog armed, and of the ports' delays what was measured: what step 4 does to what a quiet step
leaves. -/
def enginesOn (s : State) : State :=
  { s with
    start := { s.start with phase := .running }, cellar := { s.cellar with watchdogArmed := true }
    mantel := { s.mantel with east := measuredOnly s.mantel.east, west := measuredOnly s.mantel.west } }

theorem startMantel_quiet (s : State) : StepQuiet
    { s with mantel := { s.mantel with east := measuredOnly s.mantel.east, west := measuredOnly s.mantel.west } }
    (startMantel s) := by
  simp only [startMantel]
  split
  · refine StepQuiet.trans ?_ (takeLock_quiet _ _)
    constructor <;> rfl
  · constructor <;> rfl

theorem step4_quiet (s : State) : StepQuiet (enginesOn s) (step4 s) := by
  unfold step4
  refine StepQuiet.trans ?_ ((loadPatch_quiet _).trans (porterStart_quiet _))
  refine StepQuiet.trans ?_ (startMantel_quiet _)
  constructor <;> rfl

theorem runStage_4 {s : State} (h : s.start.stage = 4) : ∃ t, runStage s = t ∧ s.now ≤ t.now ∧
    t.now ≤ max (s.now + 1003) (s.start.s + 3000003) ∧
    StepQuiet (enginesOn (setStage { s with now := t.now } 5)) t := by
  obtain ⟨k, u, hend, _, hfrom, hto, hclock⟩ := stepEnds_within (s := s) (hi := 3000) (le_max_left _ _)
  have hrun : runStage s = noteStep (step4 (setStage u 5)) 1 k := by simp only [runStage, h, hend]
  have hquiet := (step4_quiet (setStage u 5)).trans (noteStep_quiet _ 1 k)
  have hnow : (noteStep (step4 (setStage u 5)) 1 k).now = u.now := hquiet.now.trans rfl
  have hu := setStage_quiet (stepEnds_quiet hclock) 5
  have hon : StepQuiet (enginesOn (setStage { s with now := u.now } 5)) (enginesOn (setStage u 5)) :=
    { hu with
      phase := rfl, watchdog := rfl
      east := congrArg measuredOnly hu.east, west := congrArg measuredOnly hu.west }
  exact ⟨_, hrun, by omega, by omega, hnow ▸ hon.trans hquiet⟩

/-- What a deskew or a self-test has measured is kept where only it is. -/
theorem measured_of_measuredOnly {s t : State} (he : t.mantel.east = measuredOnly s.mantel.east)
    (hw : t.mantel.west = measuredOnly s.mantel.west) (p : Port) :
    (portSync t p).loopbackPs = (portSync s p).loopbackPs ∧ (portSync t p).lane0Ps = (portSync s p).lane0Ps := by
  cases p <;> simp [portSync, measuredOnly, he, hw]

/-! ### Step 5 (R268, R276, R291, R414) -/

theorem queueAlarm_quiet (s : State) (cause input : Nat) : StepQuiet s (queueAlarm s cause input) := by
  unfold queueAlarm loadAlarm
  split
  · exact .refl s
  · split
    · refine StepQuiet.trans (t := countBack s 17) ?_ (raise_quiet _ _ _ _)
      constructor <;> rfl
    · dsimp only
      split <;> constructor <;> rfl

theorem cutWear_quiet (s : State) (cut : Nat → Bool) : StepQuiet s (cutWear s cut) := by
  unfold cutWear
  split
  · exact .refl s
  · constructor <;> rfl

theorem rowCutOff_quiet (s : State) : StepQuiet s (rowCutOff s) := by
  refine (cutWear_quiet s fun _ => true).trans ?_
  constructor <;> rfl

theorem cutOutputs_quiet (s : State) (d : Darkens) : StepQuiet s (cutOutputs s d) := by
  have hcut (cut : Nat → Bool) : StepQuiet s
      { cutWear s cut with
        press := { (cutWear s cut).press with
          widths := (cutWear s cut).press.widths.mapIdx fun k w => if cut k then 0 else w } } := by
    refine (cutWear_quiet s cut).trans ?_
    constructor <;> rfl
  simp only [cutOutputs]
  split
  · split
    · exact rowCutOff_quiet s
    · exact hcut _
  · rw [if_neg Bool.false_ne_true]
    exact hcut _

theorem countPress_quiet (s : State) (i : Nat) : StepQuiet s (countPress s i) := by constructor <;> rfl

theorem protect_quiet (s : State) (prot : Protect) : StepQuiet s { s with prot := prot } := by constructor <;> rfl

theorem tripEffect_quiet (s : State) (id : Nat) : StepQuiet s (tripEffect s id) := by
  have hcut (prot : Protect) (d : Darkens) :
      StepQuiet s (countPress (cutOutputs { s with prot := prot } d) (tripWord id)) :=
    (protect_quiet s prot).trans ((cutOutputs_quiet _ d).trans (countPress_quiet _ _))
  unfold tripEffect
  split
  · exact .refl s
  · split
    · exact .refl s
    · dsimp only
      split
      · exact hcut _ _
      · exact ((hcut _ _).raise _ _ _).trans (queueAlarm_quiet _ _ _)

theorem judgePins_quiet (s : State) (latchedKept : Bool) : StepQuiet s (judgePins s latchedKept) := by
  unfold judgePins
  dsimp only
  refine List.foldlRecOn (motive := StepQuiet s) _ _ (protect_quiet s _) fun t h i _ => ?_
  split
  · split
    · exact h.trans (tripEffect_quiet t i)
    · exact h
  · exact h

theorem step5_quiet (s : State) :
    StepQuiet { s with press := { s.press with running := true, timing := startTiming s } } (step5 s) := by
  have hdrive (t : State) : StepQuiet t (if auxIn t then driveOn t else t) := by
    split
    · constructor <;> rfl
    · exact .refl t
  unfold step5
  refine StepQuiet.trans ?_ ((hdrive _).trans (judgePins_quiet _ _))
  constructor <;> rfl

theorem runStage_5 {s : State} (h : s.start.stage = 5) : runStage s = step5 (setStage s 6) := by
  simp only [runStage, h]

/-! ### Step 6: the checks of an Archive with no bad word (R378) -/

theorem StepKeeps.raise {s t : State} (k : StepKeeps s t) (code arg0 : Half) (arg1 : Word) :
    StepKeeps s (raise t code arg0 arg1) := k.trans (raise_quiet t code arg0 arg1).keeps

theorem StepKeeps.noteRegion {s t : State} (k : StepKeeps s t) (bad : Bool) (region arg : Nat) :
    StepKeeps s (noteRegion t bad region arg) := by
  unfold Machine.noteRegion
  split
  · refine StepKeeps.raise (k.trans ?_) _ _ _
    constructor <;> rfl
  · exact k

theorem StepKeeps.checkColophon {s t : State} (k : StepKeeps s t) : StepKeeps s (checkColophon t) := by
  simp only [Machine.checkColophon]
  have hnote := (k.noteRegion (badIn t 0x90800 0x1000 || t.arch.keysLost) 5 0).noteRegion
    (badIn t 0xF2000 0x1000 || t.arch.keysLost) 9 1
  generalize Machine.noteRegion _ _ 9 1 = u at hnote ⊢
  split
  · refine StepKeeps.raise (hnote.trans ?_) _ _ _
    constructor <;> rfl
  · split
    · exact hnote.raise _ _ _
    · exact hnote

theorem badIn_of_no_badWords {s : State} (h : s.arch.badWords = []) (lo size : Nat) : badIn s lo size = false := by
  simp [badIn, h]

theorem checkLogs_of_no_badWords {s : State} (h : s.arch.badWords = []) : checkLogs s = s := by
  simp [checkLogs, badIn_of_no_badWords h, h, noteRegion]

theorem checkWear_of_no_badWords {s : State} (h : s.arch.badWords = []) : checkWear s = s := by
  simp [checkWear, h, noteRegion]

theorem checkShadow_of_no_badWords {s : State} (h : s.arch.badWords = []) : checkShadow s = s := by
  rw [checkShadow, badIn_of_no_badWords h, if_neg Bool.false_ne_true]

theorem loadLegacy_keeps {s : State} (h : s.arch.badWords = []) : StepKeeps s (loadLegacy s) := by
  rw [loadLegacy, badIn_of_no_badWords h, if_neg Bool.false_ne_true]
  constructor <;> rfl

theorem checkArchive_keeps {s : State} (h : s.arch.badWords = []) : StepKeeps s (checkArchive s) := by
  have none {t : State} (k : StepKeeps s t) : t.arch.badWords = [] := k.badWords.trans h
  have hobj : StepKeeps s (checkObjects { s with
      arch := { s.arch with badAtStart := [] }
      cellar := { s.cellar with counts := bumpBy s.cellar.counts 13 s.arch.badWords.length } }) := by
    constructor <;> rfl
  simp only [checkArchive]
  generalize checkObjects _ = o at hobj ⊢
  have hfirst := (hobj.noteRegion (objBad o.arch.calibration) 1 0)
  generalize noteRegion o _ 1 0 = a at hfirst ⊢
  have hslates := hfirst.noteRegion (a.arch.slates.any objBad) 2 0
  generalize noteRegion a _ 2 0 = b at hslates ⊢
  have hcurves := hslates.noteRegion (b.arch.curves.any objBad) 3 0
  generalize noteRegion b _ 3 0 = c at hcurves ⊢
  have hjournal := hcurves.noteRegion (badIn c 0x88800 0x8000) 4 0
  generalize hd : noteRegion c _ 4 0 = d at hjournal ⊢
  rw [badIn_of_no_badWords (none hcurves), if_neg Bool.false_ne_true,
    checkLogs_of_no_badWords (none hjournal.checkColophon)]
  have hcolophon := hjournal.checkColophon
  generalize checkColophon d = e at hcolophon ⊢
  have hpatch := hcolophon.noteRegion (objBad e.arch.patch) 7 0
  generalize noteRegion e _ 7 0 = f at hpatch ⊢
  rw [checkWear_of_no_badWords (none hpatch)]
  have hfactory := hpatch.noteRegion (objBad f.arch.factory) 9 1
  generalize noteRegion f _ 9 1 = g at hfactory ⊢
  rw [checkShadow_of_no_badWords (none hfactory)]
  have hlegacy := hfactory.trans (loadLegacy_keeps (none hfactory))
  exact { hlegacy with badWords := h.symm }

/-! ### Step 6: the address and what waited (R104, R414, R421) -/

theorem phaseDelayReq_keeps (s : State) : StepKeeps s (phaseDelayReq s) := by constructor <;> rfl

theorem powerOnLevel_keeps (s : State) : StepKeeps s (powerOnLevel s) := by
  simp only [powerOnLevel]
  split
  · constructor <;> rfl
  · exact .refl s

theorem queueSpl_keeps (s : State) (stype : Half) (payload : List Byte) : StepKeeps s (queueSpl s stype payload) := by
  constructor <;> simp

theorem queueReport_keeps (s : State) (rtype : Half) (payload : List Byte) : StepKeeps s (queueReport s rtype payload) := by
  constructor <;> simp

theorem tellUntold_keeps (s : State) : StepKeeps s (tellUntold s) := by
  refine StepKeeps.trans ?_ (StepQuiet.of_reportedAs (queueEvents_frame s.spine.untold _)).keeps
  constructor <;> rfl

theorem queueJoin_keeps (s : State) : StepKeeps s (queueJoin s) := by
  refine (queueReport_keeps s 0x0010 (joinPayload s)).trans (StepKeeps.trans ?_ (tellUntold_keeps _))
  constructor <;> rfl

theorem answerEnum_keeps (s : State) : StepKeeps s (answerEnum s) := by
  have hstart : StepKeeps s { s with start := { s.start with claimDue := none, joinDue := false } } := by
    constructor <;> rfl
  simp only [answerEnum]
  cases s.start.claimDue with
  | none =>
    split
    · exact hstart.trans (queueJoin_keeps _)
    · exact hstart
  | some epoch =>
    have hclaim := hstart.trans (queueSpl_keeps _ 2 (claimPayload { s with
      start := { s.start with claimDue := none, joinDue := false } } epoch))
    split
    · exact hclaim.trans (queueJoin_keeps _)
    · exact hclaim

/-- s with its pin as the address where it holds none. -/
def addressPinned (s : State) : State :=
  { s with addr := { s.addr with addr := if s.addr.addr = 0xFFF then s.arch.pin.getD 0xFFF else s.addr.addr } }

theorem StepKeeps.addressPinned {s t : State} (k : StepKeeps s t) : StepKeeps (addressPinned s) (addressPinned t) :=
  { k with addr := by simp only [Machine.addressPinned, k.addr, k.pin] }

theorem step6_keeps {s : State} (h : s.arch.badWords = []) : StepKeeps (addressPinned s) (step6 s) := by
  have hcheck := (checkArchive_keeps h).addressPinned
  simp only [step6]
  generalize checkArchive s = a at hcheck ⊢
  have haddr : (if assigned a = true then a.addr.addr else a.arch.pin.getD 0xFFF) = (addressPinned a).addr.addr := by
    by_cases hown : a.addr.addr = 0xFFF <;> simp [assigned, Machine.addressPinned, hown]
  rw [haddr]
  generalize hb : powerOnLevel _ = b
  have hlevel : StepKeeps (addressPinned s) (phaseDelayReq b) := by
    rw [← hb]
    refine (hcheck.trans (StepKeeps.trans ?_ (powerOnLevel_keeps _))).trans (phaseDelayReq_keeps _)
    constructor <;> rfl
  generalize phaseDelayReq b = c at hlevel ⊢
  have hrtc : StepKeeps (addressPinned s) (if c.cellar.rtcValid = true then c else raise c 0x0B01 0 0) := by
    split
    · exact hlevel
    · exact hlevel.raise _ _ _
  generalize (if c.cellar.rtcValid = true then c else raise c 0x0B01 0 0) = d at hrtc ⊢
  have hfree (b : Bool) : StepKeeps d (if b = true then takeLock d .free else d) := by
    split
    · exact (takeLock_quiet _ _).keeps
    · exact .refl d
  exact (hrtc.trans (hfree _)).trans (answerEnum_keeps _)

theorem runStage_6 {s : State} (h : s.start.stage = 6) (hbad : s.arch.badWords = []) : ∃ t, runStage s = t ∧ s.now ≤ t.now ∧
    t.now ≤ max (s.now + 1003) (s.start.s + 7000003) ∧
    StepKeeps (addressPinned (setStage { s with now := t.now } 9)) t := by
  obtain ⟨k, u, hend, _, hfrom, hto, hclock⟩ := stepEnds_within (s := s) (hi := 7000) (le_max_left _ _)
  have hrun : runStage s = noteStep (step6 (setStage u 9)) 2 k := by simp only [runStage, h, hend]
  have hu := (setStage_quiet (stepEnds_quiet hclock) 9).keeps
  have hkeeps := (step6_keeps (hu.badWords.trans hbad)).trans (noteStep_quiet _ 2 k).keeps
  have hnow : (noteStep (step6 (setStage u 9)) 2 k).now = u.now := hkeeps.now.trans rfl
  refine ⟨_, hrun, by omega, by omega, ?_⟩
  rw [hnow]
  exact hu.addressPinned.trans hkeeps

/-! ### Step 9 (R234, R235, R414) -/

theorem bindery_quiet (s : State) (bindery : Bindery) : StepQuiet s { s with bindery := bindery } := by constructor <;> rfl

theorem loadImage_quiet (s : State) : StepQuiet s (loadImage s) := by
  simp only [loadImage]
  split <;> exact bindery_quiet s _

theorem loadFactory_quiet (s : State) : StepQuiet s (loadFactory s) := by
  unfold loadFactory
  split
  · split <;> exact bindery_quiet s _
  · exact bindery_quiet s _

theorem recomputeWear_quiet (s : State) : StepQuiet s (recomputeWear s) := by
  simp only [recomputeWear]
  split
  · exact (bindery_quiet s _).raise _ _ _
  · exact bindery_quiet s _

theorem loadWorkingCopies_quiet (s : State) : StepQuiet s (loadWorkingCopies s) := by
  have hcurves : StepQuiet s (loadCurves (loadFactory (loadImage s))) :=
    ((loadImage_quiet s).trans (loadFactory_quiet _)).trans (bindery_quiet _ _)
  exact ((hcurves.trans (bindery_quiet _ _)).trans (recomputeWear_quiet _)).trans (bindery_quiet _ _)

theorem judgeCache_quiet (s : State) : StepQuiet s (judgeCache s) := by
  simp only [judgeCache]
  split
  · exact .refl s
  · constructor <;> rfl

theorem step9_quiet (s : State) : StepQuiet s (step9 s) ∧ (step9 s).bindery.calEventDue = false := by
  have hload := (loadWorkingCopies_quiet s).trans (judgeCache_quiet _)
  simp only [step9]
  generalize judgeCache (loadWorkingCopies s) = a at hload ⊢
  have hdone := hload.trans (bindery_quiet a { a.bindery with calEventDue := false })
  generalize hb : { a with bindery := { a.bindery with calEventDue := false } } = b at hdone ⊢
  have hdue : b.bindery.calEventDue = false := hb ▸ rfl
  constructor
  · refine StepQuiet.raise ?_ _ _ _
    split <;> split
    · exact hdone.raise _ _ _
    · exact (hdone.raise _ _ _).raise _ _ _
    · exact hdone
    · exact hdone.raise _ _ _
  · split <;> split <;> simp [hdue]

theorem runStage_9 {s : State} (h : s.start.stage = 9) : ∃ t, runStage s = t ∧ s.now ≤ t.now ∧
    t.now ≤ max (s.now + 1003) (s.start.s + 19600003) ∧ StepQuiet (setStage { s with now := t.now } 10) t ∧
    t.bindery.calEventDue = false := by
  obtain ⟨k, u, hend, _, hfrom, hto, hclock⟩ := stepEnds_within (s := s) (hi := 19600) (le_max_left _ _)
  have hrun : runStage s = step9 (setStage u 10) := by simp only [runStage, h, hend]
  obtain ⟨hquiet, hdue⟩ := step9_quiet (setStage u 10)
  have hnow : (step9 (setStage u 10)).now = u.now := hquiet.now.trans rfl
  refine ⟨_, hrun, by omega, by omega, ?_, hdue⟩
  rw [hnow]
  exact (setStage_quiet (stepEnds_quiet hclock) 10).trans hquiet

/-! ### Step 10: replay and the reports after it (R132, R376, R398, R414) -/

/-- From s to t replay is done: the Hall is ready, and its journal holds the messages that it held. -/
structure Replayed (s t : State) : Prop where
  keeps : StepKeeps s t
  ready : t.hall.ready = true
  powerFail : t.hall.powerFail = s.cellar.failAt.isSome
  entries : t.hall.entries.map (fun e => (e.msg, e.no)) = s.hall.entries.map (fun e => (e.msg, e.no))

theorem Replayed.quiet {s t u : State} (r : Replayed s t) (q : StepQuiet t u) : Replayed s u where
  keeps := r.keeps.trans q.keeps
  ready := (congrArg Hall.ready q.hall).trans r.ready
  powerFail := (congrArg Hall.powerFail q.hall).trans r.powerFail
  entries := (congrArg (fun h : Hall => h.entries.map fun e => (e.msg, e.no)) q.hall).trans r.entries

theorem auditWrite_quiet (s : State) (chan cmd : Half) (seq : Word) (role : BitVec 2) (outcome result : BitVec 4)
    (rebuilt : Bool) : StepQuiet s (auditWrite s chan cmd seq role outcome result rebuilt) := by
  constructor <;> simp [auditWrite, auditAt]

/-- The audit entries that a lost power owed leave the Hall its journal, and the Cellar as it is. -/
theorem writeLost_keeps (rebuilt : Bool) (s : State) : StepKeeps s (writeLost rebuilt s) ∧
    (writeLost rebuilt s).hall.entries = s.hall.entries ∧ (writeLost rebuilt s).cellar = s.cellar := by
  have hfold : ∀ (l : List LostRecord) (t : State),
      StepQuiet t (l.foldl (fun s r => auditWrite s r.chan r.cmd r.seq r.role r.outcome r.result rebuilt) t) ∧
        (l.foldl (fun s r => auditWrite s r.chan r.cmd r.seq r.role r.outcome r.result rebuilt) t).cellar = t.cellar := by
    intro l
    induction l with
    | nil => exact fun t => ⟨.refl t, rfl⟩
    | cons r l ih =>
      intro t
      obtain ⟨hquiet, hcellar⟩ := ih (auditWrite t r.chan r.cmd r.seq r.role r.outcome r.result rebuilt)
      rw [List.foldl_cons]
      exact ⟨(auditWrite_quiet t r.chan r.cmd r.seq r.role r.outcome r.result rebuilt).trans hquiet, hcellar.trans (by simp)⟩
  obtain ⟨hquiet, hcellar⟩ := hfold (lostRecords s.hall) s
  have hentries := congrArg Hall.entries hquiet.hall
  refine ⟨hquiet.keeps.trans ?_, hentries, hcellar⟩
  constructor <;> rfl

theorem replay_replayed (s : State) : Replayed s (replay s) := by
  unfold replay
  split
  · constructor
    · constructor <;> rfl
    all_goals rfl
  · obtain ⟨hkeeps, hentries, hcellar⟩ := writeLost_keeps true s
    simp only [replayJournal]
    generalize writeLost true s = t at hkeeps hentries hcellar ⊢
    refine Replayed.quiet ?_ (raise_quiet _ _ _ _)
    constructor
    · refine hkeeps.trans ?_
      constructor <;> rfl
    · rfl
    · exact congrArg (fun c : Cellar => c.failAt.isSome) hcellar
    · simp [hentries]

theorem countCycle_quiet (s : State) : StepQuiet s (countCycle s) := by
  unfold countCycle
  split <;> constructor <;> rfl

theorem reportS4_quiet (s : State) : StepQuiet s (reportS4 s) := by
  refine StepQuiet.trans (t := { s with power := (reportS4 s).power }) ?_ (.of_reportedAs (reportS4_frame s))
  constructor <;> rfl

theorem step10_replayed (s : State) (us : Nat) : Replayed s (step10 s us) := by
  unfold step10
  exact (((replay_replayed s).quiet (countCycle_quiet _)).quiet (.of_reportedAs (reportHeld_frame _))).quiet
    ((reportS4_quiet _).raise _ _ _)

theorem runStage_10 {s : State} (h : s.start.stage = 10) : ∃ t, runStage s = t ∧ s.now ≤ t.now ∧
    t.now ≤ max (s.now + 1003) (s.start.s + 26600003) ∧ Replayed (setStage { s with now := t.now } 0) t := by
  obtain ⟨k, u, hend, _, hfrom, hto, hclock⟩ := stepEnds_within (s := s) (hi := 26600) (le_max_left _ _)
  have hrun : runStage s = noteStep (step10 (setStage u 0) k) 4 k := by simp only [runStage, h, hend]
  have hdone := (step10_replayed (setStage u 0) k).quiet (noteStep_quiet _ 4 k)
  have hu := setStage_quiet (stepEnds_quiet hclock) 0
  have hnow : (noteStep (step10 (setStage u 0) k) 4 k).now = u.now := hdone.keeps.now.trans rfl
  refine ⟨_, hrun, by omega, by omega, ?_⟩
  rw [hnow]
  exact ⟨hu.keeps.trans hdone.keeps, hdone.ready,
    hdone.powerFail.trans ((congrArg (fun x : State => x.cellar.failAt.isSome) hclock).trans rfl),
    hdone.entries.trans (congrArg (fun h : Hall => h.entries.map fun e => (e.msg, e.no)) hu.hall)⟩

/-! ### The obligation -/

/-- Settles O9: POWER_UP and STRAP_SAMPLE by their clauses, and each idle step of a start-up by the step of its stage, with what the
operations of that step keep. -/
theorem startUpRunsFromPowerAndStraps : Obligations.StartUpRunsFromPowerAndStraps := by
  unfold Obligations.StartUpRunsFromPowerAndStraps
  refine ⟨powerUp_holds, strapSample_holds, fun s hp hf => ?_⟩
  have hstep {k : Nat} (hk : k ≠ 0) (h : s.start.stage = k) : step s = .next (runStage s) :=
    step_of_stage hp hf (h ▸ hk)
  refine ⟨fun h => ?_, fun h => ?_, fun h => ?_, fun h hbad => ?_, fun h => ?_, fun h => ?_⟩
  · obtain ⟨t, hrun, ht⟩ := runStage_2 h
    exact ⟨t, hrun ▸ hstep (by decide) h, ht⟩
  · obtain ⟨t, hrun, hfrom, hto, q⟩ := runStage_4 h
    exact ⟨t, hrun ▸ hstep (by decide) h, q.stage, q.phase, q.watchdog, q.spine, hfrom, hto, q.since, q.cause, q.straps, q.hall,
      measured_of_measuredOnly q.east q.west⟩
  · have q := step5_quiet (setStage s 6)
    have hepoch := congrArg Timing.epoch q.timing
    have hminp := congrArg Timing.minp q.timing
    have htrims := congrArg Timing.trims q.timing
    exact ⟨_, runStage_5 h ▸ hstep (by decide) h, q.stage, q.running, hepoch, hminp, htrims, q.now, q.straps, q.hall,
      q.addressing⟩
  · obtain ⟨t, hrun, hfrom, hto, k⟩ := runStage_6 h hbad
    exact ⟨t, hrun ▸ hstep (by decide) h, k.stage, k.addr, k.straps, k.pin, hfrom, hto⟩
  · obtain ⟨t, hrun, hfrom, hto, q, hdue⟩ := runStage_9 h
    exact ⟨t, hrun ▸ hstep (by decide) h, q.stage, hdue, q.straps, q.hall, q.addressing, hfrom, hto⟩
  · obtain ⟨t, hrun, hfrom, hto, r⟩ := runStage_10 h
    exact ⟨t, hrun ▸ hstep (by decide) h, r.keeps.stage, r.ready, r.powerFail.trans (by simp [setStage, hf]), r.keeps.straps,
      r.entries, hfrom, hto⟩

end Sys2Proof.Machine

/-! ## The stated sizes

Seven lists of the state have a stated size (R67, R69, R101, R128, R157, R205, R376). Few functions of the model lengthen one of
them: mergeInsert, mergeCtl, splNote, commitEntry, auditAt, queueEvent and logEvent, each of which makes room or tests for it
first. Every other function keeps the lists or hands on what those answer. One lemma a function, f_sizes, in the model's order;
a function with no branch that changes none of the lists is unfolded where it is used. -/

section
open Sys2Proof Sys2Proof.Machine

theorem WithinStatedSizes.intro {t : State} (hmerge : t.spine.mergeMem.length ≤ 256) (hctl : t.spine.ctlQueue.length ≤ 4)
    (hspl : t.spine.splSeen.length ≤ 64) (hsum : t.hall.summaries.length ≤ 256) (haudit : t.arch.audit.length ≤ 1024)
    (hevents : t.larder.events.length ≤ 256) (hlog : t.arch.eventLog.length ≤ 2048) : WithinStatedSizes t :=
  ⟨hmerge, hctl, hspl, hsum, haudit, hevents, hlog⟩

/-- The seven lists within their sizes. -/
def ListsWithin (mergeMem : List MergeEntry) (ctlQueue : List (Port × Folio)) (splSeen : List Word) (summaries : List Summary)
    (audit : List AuditEntry) (events eventLog : List EventRec) : Prop :=
  mergeMem.length ≤ 256 ∧ ctlQueue.length ≤ 4 ∧ splSeen.length ≤ 64 ∧ summaries.length ≤ 256 ∧ audit.length ≤ 1024 ∧
    events.length ≤ 256 ∧ eventLog.length ≤ 2048

/-- The next state that a meaning answers is within the stated sizes. -/
def AnswersWithin (r : Result) : Prop := ∀ t, r = .next t → WithinStatedSizes t

theorem AnswersWithin.next {t : State} (ht : WithinStatedSizes t) : AnswersWithin (.next t) := by
  rintro _ ⟨⟩
  exact ht

theorem WithinStatedSizes.ite {c : Prop} [Decidable c] {a b : State} (ha : WithinStatedSizes a) (hb : WithinStatedSizes b) :
    WithinStatedSizes (if c then a else b) := by
  split <;> assumption

theorem AnswersWithin.ite {c : Prop} [Decidable c] {a b : Result} (ha : AnswersWithin a) (hb : AnswersWithin b) :
    AnswersWithin (if c then a else b) := by
  split <;> assumption

/-- A record has the sizes of the state that it takes its lists from. -/
theorem record_sizes : (∀ s : State, ListsWithin s.spine.mergeMem s.spine.ctlQueue s.spine.splSeen s.hall.summaries
      s.arch.audit s.larder.events s.arch.eventLog ↔ WithinStatedSizes s) ∧
    (∀ now start straps spine addr hall mantel larder screen bindery press prot coll back legacy cellar arch power leaf wire
        fresh pending,
      WithinStatedSizes ⟨now, start, straps, spine, addr, hall, mantel, larder, screen, bindery, press, prot, coll, back,
        legacy, cellar, arch, power, leaf, wire, fresh, pending⟩ ↔
      ListsWithin spine.mergeMem spine.ctlQueue spine.splSeen hall.summaries arch.audit larder.events arch.eventLog) :=
  ⟨fun _ => Iff.rfl, fun _ _ _ _ _ _ _ _ _ _ _ _ _ _ _ _ _ _ _ _ _ _ => Iff.rfl⟩

/-- How the sizes are read off a state or an answer as it is written: a record, a choice, an answer. -/
theorem sizes : type_of% record_sizes ∧
    (∀ (c : Prop) [Decidable c] (a b : State),
      WithinStatedSizes (if c then a else b) ↔ (c → WithinStatedSizes a) ∧ (¬ c → WithinStatedSizes b)) ∧
    (∀ (α : Type) (c : Prop) [Decidable c] (a b : State × α),
      WithinStatedSizes (if c then a else b).1 ↔ (c → WithinStatedSizes a.1) ∧ (¬ c → WithinStatedSizes b.1)) ∧
    (∀ (c : Prop) [Decidable c] (a b : Result),
      AnswersWithin (if c then a else b) ↔ (c → AnswersWithin a) ∧ (¬ c → AnswersWithin b)) ∧
    (∀ t : State, AnswersWithin (.next t) ↔ WithinStatedSizes t) ∧ (∀ p : Prop, (p → True) ↔ True) ∧
    (∀ p : Prop, (p ∧ p) ↔ p) := by
  refine ⟨record_sizes, fun c _ a b => ?_, fun α c _ a b => ?_, fun c _ a b => ?_,
    fun t => ⟨fun h => h t rfl, .next⟩, fun p => by simp, fun p => by simp⟩ <;> split <;> simp [*]

theorem foldl_sizes {α : Type} {f : State → α → State} {s : State} {l : List α}
    (hf : ∀ {t a}, WithinStatedSizes t → WithinStatedSizes (f t a)) (hs : WithinStatedSizes s) :
    WithinStatedSizes (l.foldl f s) := by
  induction l generalizing s with
  | nil => exact hs
  | cons a l ih => exact ih (hf hs)

theorem foldl_sizes_fst {α β : Type} {f : State × β → α → State × β} {x : State × β} {l : List α}
    (hf : ∀ {y a}, WithinStatedSizes y.1 → WithinStatedSizes (f y a).1) (hx : WithinStatedSizes x.1) :
    WithinStatedSizes (l.foldl f x).1 := by
  induction l generalizing x with
  | nil => exact hx
  | cons a l ih => exact ih (hf hx)

/-- A log that keeps its newest n records never holds more. -/
theorem length_drop_newest_le {α : Type} (l : List α) (a : α) (n : Nat) :
    ((l ++ [a]).drop (l.length + 1 - n)).length ≤ n := by
  simp only [List.length_drop, List.length_append, List.length_singleton]
  omega

namespace Sys2Proof.Machine

section
variable {p : Port} {x : StoredFrame} {i n v reason no residence seam ms shape id row sink k off region t1 t2 stamp offset
    stamp16 turnaround16 op ns : Nat} {code arg0 chan cmd level deadNs pid : Half} {arg1 seq epoch splSeq q action trims w1 :
    Word} {f : Folio} {payload data slots : List Byte} {c : ClassS} {pos peerPos leaf : BitVec 6} {role : BitVec 2} {outcome
    result : BitVec 4} {m : Msg} {d : Rest} {chatter transmitting beforeClass dataField cutTx cutRx east west reassign first
    twoStep corrected upstream crcOk core sd fin full rebuilt : Bool} {serial uid peerSerial : Long} {kind : BusErrorKind} {t :
    Transfer} {u : RxUnit} {w : Window} {r : RdmRequest} {l : Lock} {j errorPs o logInterval : Int} {widths : List Nat} {taken :
    Option Nat} {h : PtpHead} {addr : ReaderAddr} {block : Byte} {chip : BitVec 7} {frame : BitVec 24} {dest : BitVec 12} {e :
    EventRec} {phase : Phase}
variable {s : State} (hs : WithinStatedSizes s)
include hs

theorem advanceTo_sizes {ns : Nat} : WithinStatedSizes (advanceTo s ns) := by simp only [advanceTo, advance, ↓sizes, hs]

theorem freeValue_sizes : WithinStatedSizes (freeValue s).2 := by simp only [freeValue, ↓sizes, hs]

theorem freeBelow_sizes {bound : Nat} : WithinStatedSizes (freeBelow s bound).2 := by simp only [freeBelow, ↓sizes, hs]

theorem setPort_sizes {x : PortS} : WithinStatedSizes (setPort s p x) := by
  unfold setPort
  split <;> simp only [↓sizes, hs]

theorem countPort_sizes : WithinStatedSizes (countPort s p i) := by simp only [countPort, setPort_sizes, hs]

theorem refuseBurst_sizes : WithinStatedSizes (refuseBurst s) := by simp only [refuseBurst, ↓sizes, hs]

theorem logEvent_sizes : WithinStatedSizes (logEvent s e) := by
  obtain ⟨hmerge, hctl, hspl, hsum, haudit, hevents, hlog⟩ := id hs
  simp only [logEvent]
  refine .ite hs (.ite (.intro hmerge hctl hspl hsum haudit hevents ?_) (refuseBurst_sizes hs))
  simp only [length_drop_newest_le]

theorem queueEvent_sizes : WithinStatedSizes (queueEvent s e) := by
  unfold queueEvent
  split
  · next hroom =>
    obtain ⟨hmerge, hctl, hspl, hsum, haudit, _, hlog⟩ := hs
    refine .intro hmerge hctl hspl hsum haudit ?_ hlog
    simp only [watermark, List.length_append, List.length_singleton]
    omega
  · simp only [↓sizes, hs]

theorem raiseAt_sizes : WithinStatedSizes (raiseAt s ns code arg0 arg1) := by
  simp only [raiseAt, queueEvent_sizes, logEvent_sizes, hs]

theorem raise_sizes : WithinStatedSizes (raise s code arg0 arg1) := by simp only [raise, raiseAt_sizes, hs]

theorem raiseKept_sizes : WithinStatedSizes (raiseKept s code arg0 arg1) := by simp only [raiseKept, ↓sizes, logEvent_sizes, hs]

theorem raiseCellar_sizes : WithinStatedSizes (raiseCellar s code arg0 arg1) := by
  simp only [raiseCellar, ↓sizes, raise_sizes, raiseKept_sizes, hs]

theorem raiseHeld_sizes : WithinStatedSizes (raiseHeld s code arg0 arg1) := by simp only [raiseHeld, ↓sizes, logEvent_sizes, hs]

theorem reportHeld_sizes : WithinStatedSizes (reportHeld s) := by
  simp only [reportHeld]
  refine foldl_sizes (queueEvent_sizes) ?_
  simp only [↓sizes, hs]

theorem settle_sizes : WithinStatedSizes (settle s) := by simp only [settle, ↓sizes, setPort_sizes, hs]

theorem enterQueue_sizes {f : OwnFolio} : WithinStatedSizes (enterQueue s f) := by
  simp only [enterQueue, watermark, ↓sizes, settle_sizes, hs]

omit hs in
theorem admitWaiting_sizes {n : Nat} {s : State} (hs : WithinStatedSizes s) : WithinStatedSizes (admitWaiting n s) := by
  induction n generalizing s with
  | zero => exact hs
  | succ n ih =>
    unfold admitWaiting
    split
    · exact hs
    · exact .ite (ih (enterQueue_sizes (by simp only [↓sizes, hs]))) hs

theorem settleAdmit_sizes : WithinStatedSizes (settleAdmit s) := by
  simp only [settleAdmit, admitWaiting_sizes, settle_sizes, hs]

theorem queueOwn_sizes {f : OwnFolio} : WithinStatedSizes (queueOwn s f) := by
  simp only [queueOwn, ↓sizes, enterQueue_sizes, hs]

theorem queueReport_sizes {rtype : Half} : WithinStatedSizes (queueReport s rtype payload) := by
  simp only [queueReport, queueOwn_sizes, hs]

theorem queueSpl_sizes {stype : Half} : WithinStatedSizes (queueSpl s stype payload) := by
  simp only [queueSpl, queueOwn_sizes, hs]

theorem markDispatched_sizes : WithinStatedSizes (markDispatched s n fin) := by
  obtain ⟨hmerge, hctl, hspl, hsum, haudit, hevents, hlog⟩ := hs
  exact .intro hmerge hctl hspl ((List.length_map _).trans_le hsum) haudit hevents hlog

theorem dispatchIf_sizes {cmd : Half} {form : Msg → Bool} {f : Msg → State → State}
    (hf : ∀ {m t}, WithinStatedSizes t → WithinStatedSizes (f m t)) : AnswersWithin (dispatchIf s cmd form f) := by
  unfold dispatchIf
  split
  · exact .ite (.next (hf (markDispatched_sizes hs))) (.next hs)
  · exact .next hs

theorem dispatch_sizes {cmd : Half} {f : Msg → State → State}
    (hf : ∀ {m t}, WithinStatedSizes t → WithinStatedSizes (f m t)) : AnswersWithin (dispatch s cmd f) :=
  dispatchIf_sizes hs hf

theorem slotFor_sizes : WithinStatedSizes (slotFor s f).2 := by
  have hsupersede {i : Nat} : WithinStatedSizes (supersede s i) := by
    simp only [supersede, setSlot, countLarder, ↓sizes, hs]
  simp only [slotFor]
  (repeat' split) <;> simp only [openSlot, setSlot, ↓sizes, hsupersede, hs]

theorem countMalformed_sizes {c : Nat} : WithinStatedSizes (countMalformed s f c) := by
  simp only [countMalformed, ↓sizes, raise_sizes, hs]

theorem wake_sizes {cause : Nat} : WithinStatedSizes (wake s cause) := by simp only [wake, ↓sizes, hs]

theorem queueLeaf_sizes : WithinStatedSizes (queueLeaf s pos f) := by simp only [queueLeaf, ↓sizes, hs]

theorem copySig_sizes : WithinStatedSizes (copySig s f) := by
  unfold copySig
  split <;> simp only [↓sizes, queueLeaf_sizes, hs]

theorem copySpl_sizes : WithinStatedSizes (copySpl s f) := by simp only [copySpl, ↓sizes, queueLeaf_sizes, hs]

theorem copyCtl_sizes : WithinStatedSizes (copyCtl s f) := by
  unfold copyCtl
  split <;> simp only [queueLeaf_sizes, hs]

theorem mergeSig_sizes : WithinStatedSizes (mergeSig s p f) := by
  have hslot := slotFor_sizes (f := f) hs
  unfold mergeSig
  refine .ite (.ite hs (raise_sizes (by simp only [↓sizes, hs]))) ?_
  split
  · next heq =>
    rw [heq] at hslot
    simp only [countLate, countLarder, ↓sizes, hslot]
  · next heq =>
    rw [heq] at hslot
    simp only [writeSlot, setSlot, ↓sizes, countPort_sizes, hslot]

theorem mergeInsert_sizes : WithinStatedSizes (mergeInsert s chan seq dest) := by
  obtain ⟨_, hctl, hspl, hsum, haudit, hevents, hlog⟩ := hs
  refine .intro ?_ hctl hspl hsum haudit hevents hlog
  simp only [mergeInsert, List.length_cons, List.length_take]
  omega

theorem mergeCtl_sizes : WithinStatedSizes (mergeCtl s p f) := by
  have hcopy : WithinStatedSizes (wake (copyCtl (countPort (mergeInsert s (Folio.channel f) f.w2 (ctlKey s f)) p 5) f) 1) :=
    wake_sizes (copyCtl_sizes (countPort_sizes (mergeInsert_sizes hs)))
  refine .ite (countPort_sizes hs) ?_
  split
  · next hroom =>
    obtain ⟨hmerge, _, hspl, hsum, haudit, hevents, hlog⟩ := hcopy
    refine .intro hmerge ?_ hspl hsum haudit hevents hlog
    simp only [List.length_append, List.length_singleton]
    omega
  · simp only [countLarder, ↓sizes, hcopy]

theorem copyOnly_sizes : WithinStatedSizes (copyOnly s f) := by
  simp only [copyOnly, ↓sizes, copyCtl_sizes, mergeInsert_sizes, hs]

theorem takeSig_sizes : WithinStatedSizes (takeSig s p f) := by simp only [takeSig, ↓sizes, mergeSig_sizes, wake_sizes, hs]

theorem countCrc_sizes : WithinStatedSizes (countCrc s p) := by simp only [countCrc, setPort_sizes, countPort_sizes, hs]

theorem mergeUnit_sizes {x2 : RxUnit} : WithinStatedSizes (mergeUnit s p x2) := by
  unfold mergeUnit
  (repeat' split) <;>
    simp only [↓sizes, countPort_sizes, countCrc_sizes, countMalformed_sizes, takeSig_sizes, copySig_sizes, copySpl_sizes,
      mergeCtl_sizes, copyOnly_sizes, hs]

theorem stampRing_sizes : WithinStatedSizes (stampRing s).2 := by simp only [stampRing, freeBelow_sizes, hs]

theorem setSync_sizes {x : PortSync} : WithinStatedSizes (setSync s p x) := by
  unfold setSync
  split <;> simp only [↓sizes, hs]

theorem stampEgress_sizes {f : OwnFolio} : WithinStatedSizes (stampEgress s p f) := by
  simp only [stampEgress, ↓sizes, setSync_sizes, stampRing_sizes, hs]

theorem sendQueued_sizes : WithinStatedSizes (sendQueued s p n) := by
  unfold sendQueued
  split <;> simp only [takeCopy, send, ↓sizes, admitWaiting_sizes, stampEgress_sizes, hs]

theorem fillVacancy_sizes {v : Folio} : WithinStatedSizes (fillVacancy s p v) := by
  unfold fillVacancy
  (repeat' split) <;> simp only [takeWaiting, send, ↓sizes, sendQueued_sizes, hs]

theorem queueLink_sizes {why : Nat} : WithinStatedSizes (queueLink s why) := by simp only [queueLink, queueReport_sizes, hs]

theorem queueAck_sizes {dup : Bool} : WithinStatedSizes (queueAck s code seq dup) := by
  simp only [queueAck, queueReport_sizes, hs]

theorem queueNack_sizes : WithinStatedSizes (queueNack s code seq reason) := by simp only [queueNack, queueReport_sizes, hs]

theorem sendUp_sizes : WithinStatedSizes (sendUp s f) := by
  unfold sendUp
  split <;> simp only [send, ↓sizes, hs]

theorem sendGsp_sizes {cause : Nat} : WithinStatedSizes (sendGsp s cause) := by
  unfold sendGsp
  split <;> simp only [send, ↓sizes, sendUp_sizes, hs]

theorem auditAt_sizes {chan cmd : Half} : WithinStatedSizes (auditAt s ns chan cmd seq role outcome result rebuilt) := by
  obtain ⟨hmerge, hctl, hspl, hsum, _, hevents, hlog⟩ := hs
  simp only [auditAt, ↓record_sizes]
  exact ⟨hmerge, hctl, hspl, hsum, length_drop_newest_le _ _ _, hevents, hlog⟩

theorem auditWrite_sizes : WithinStatedSizes (auditWrite s chan cmd seq role outcome result rebuilt) := by
  simp only [auditWrite, auditAt_sizes, hs]

theorem auditRecord_sizes : WithinStatedSizes (auditRecord s chan cmd seq role outcome result no) := by
  simp only [auditRecord, ↓sizes, auditWrite_sizes, hs]

theorem discardBy_sizes {tell : State → Half → Half → Word → State} {code : Half}
    (htell : ∀ {t c a w}, WithinStatedSizes t → WithinStatedSizes (tell t c a w)) :
    WithinStatedSizes (discardBy tell s code) := by
  unfold discardBy
  split
  · exact hs
  · next c _ =>
    have hheld : WithinStatedSizes (c.held.foldl (fun s m => tell s 0x0202 m.chan m.seq) (setChannel s { c with held := [] })) :=
      foldl_sizes htell (by simp only [setChannel, ↓sizes, hs])
    exact .ite hheld (htell (by simp only [↓sizes, hheld]))

theorem discardHeld_sizes {code : Half} : WithinStatedSizes (discardHeld s code) := discardBy_sizes hs raise_sizes

theorem acceptMsg_sizes : WithinStatedSizes (acceptMsg s m) := by simp only [acceptMsg, ↓sizes, queueNack_sizes, hs]

theorem judgeSequence_sizes {c : Channel} : WithinStatedSizes (judgeSequence s c m) := by
  simp only [judgeSequence, hold, watermark, setChannel, ↓sizes, queueAck_sizes, queueNack_sizes, acceptMsg_sizes, hs]

theorem judge_sizes : WithinStatedSizes (judge s f) := by
  simp only [judge]
  split
  · exact hs
  · split
    · refine queueNack_sizes ?_
      simp only [↓sizes, hs]
    · refine .ite ?_ ?_
      · refine queueNack_sizes ?_
        simp only [↓sizes, hs]
      · refine .ite ?_ ?_
        · exact queueNack_sizes hs
        · refine .ite ?_ ?_
          · exact queueNack_sizes (auditWrite_sizes hs)
          · exact judgeSequence_sizes hs

theorem commitEntry_sizes : WithinStatedSizes (commitEntry s m) := by
  obtain ⟨hmerge, hctl, hspl, hsum, haudit, hevents, hlog⟩ := hs
  refine .intro hmerge hctl hspl ?_ haudit hevents hlog
  simp only [commitEntry, length_drop_newest_le]

theorem takeHeld_sizes : WithinStatedSizes (takeHeld s code) := by
  unfold takeHeld
  (repeat' split) <;> simp only [setChannel, ↓sizes, acceptMsg_sizes, hs]

theorem execCtlJudge_sizes : AnswersWithin (execCtlJudge s) := by
  unfold execCtlJudge
  refine .ite ?_ (.next hs)
  split
  · exact .next (takeHeld_sizes hs)
  · exact .next hs
  · next hqueue =>
    obtain ⟨hmerge, hctl, hspl, hsum, haudit, hevents, hlog⟩ := hs
    rw [hqueue] at hctl
    exact .next (judge_sizes (.intro hmerge (Nat.le_of_succ_le hctl) hspl hsum haudit hevents hlog))

theorem execJournalCommit_sizes {readBackOk : Bool} : AnswersWithin (execJournalCommit readBackOk s) := by
  unfold execJournalCommit
  split <;> simp only [↓sizes, auditRecord_sizes (queueAck_sizes (commitEntry_sizes hs)), refuseBurst_sizes (queueAck_sizes
    (commitEntry_sizes hs)), queueNack_sizes, raise_sizes, takeHeld_sizes, hs]

theorem writeCompletion_sizes {d : Done} : WithinStatedSizes (writeCompletion s d) := by
  obtain ⟨hmerge, hctl, hspl, hsum, haudit, hevents, hlog⟩ := hs
  exact .intro hmerge hctl hspl ((List.length_map _).trans_le hsum) haudit hevents hlog

theorem putKey_sizes {role : Nat} {key : Option Block} : WithinStatedSizes (putKey s role key) := by
  simp only [putKey, ↓sizes, raise_sizes, hs]

theorem raiseResult_sizes {d : Done} : WithinStatedSizes (raiseResult s d) := by
  simp only [raiseResult, ↓sizes, raise_sizes, hs]

theorem queueAnswers_sizes {as : List Answer} : WithinStatedSizes (queueAnswers s as) :=
  foldl_sizes (fun ht => queueReport_sizes ht) hs

theorem complete_sizes {d : Done} : WithinStatedSizes (complete s d) := by
  simp only [complete]
  split
  · exact queueAnswers_sizes (raiseResult_sizes hs)
  · refine queueAnswers_sizes (raiseResult_sizes (auditRecord_sizes ?_))
    split
    · exact putKey_sizes (writeCompletion_sizes hs)
    · exact writeCompletion_sizes hs

theorem execCompletionRecord_sizes : AnswersWithin (execCompletionRecord s) := by
  unfold execCompletionRecord
  split <;> simp only [↓sizes, complete_sizes, hs]

theorem writeLost_sizes : WithinStatedSizes (writeLost rebuilt s) := by
  have hlost : WithinStatedSizes ((lostRecords s.hall).foldl
      (fun s r => auditWrite s r.chan r.cmd r.seq r.role r.outcome r.result rebuilt) s) :=
    foldl_sizes (fun ht => auditWrite_sizes ht) hs
  simp only [writeLost, ↓sizes, hlost]

theorem catchUpAudit_sizes : WithinStatedSizes (catchUpAudit s) := by simp only [catchUpAudit, ↓sizes, writeLost_sizes, hs]

theorem replay_sizes : WithinStatedSizes (replay s) := by
  simp only [replay, replayJournal, ↓sizes, raise_sizes, writeLost_sizes, hs]

theorem loseJournal_sizes : WithinStatedSizes (loseJournal s) := by
  obtain ⟨hmerge, hctl, hspl, _, haudit, hevents, hlog⟩ := hs
  exact .intro hmerge hctl hspl (Nat.zero_le _) haudit hevents hlog

theorem execStateQuery_sizes : AnswersWithin (execStateQuery s) := by
  simp only [execStateQuery]
  refine dispatch_sizes hs fun ht => ?_
  simp only [stateQuery, answerWith, reportDone, ↓sizes, ht]

theorem rebase_sizes {base : Word} : WithinStatedSizes (rebase s code base) := by
  simp only [rebase, setChannel, ↓sizes, discardHeld_sizes, hs]

theorem leaveGroup_sizes : WithinStatedSizes (leaveGroup s code) := by simp only [leaveGroup, ↓sizes, discardHeld_sizes, hs]

theorem applyGroupEntry_sizes {e : Half × Nat × Word} : WithinStatedSizes (applyGroupEntry s e).1 := by
  unfold applyGroupEntry
  split
  · exact leaveGroup_sizes hs
  · exact rebase_sizes hs
  · split
    · exact rebase_sizes hs
    · exact hs

omit hs in
theorem applyGroupEntries_sizes {es : List (Half × Nat × Word)} {s : State} (hs : WithinStatedSizes s) :
    WithinStatedSizes (applyGroupEntries s es).1 := by
  induction es generalizing s with
  | nil => exact hs
  | cons e es ih => exact ih (applyGroupEntry_sizes hs)

theorem groupSet_sizes : WithinStatedSizes (groupSet m s) := by
  simp only [groupSet, doneWith, reportDone, ↓sizes, applyGroupEntries_sizes hs]

theorem execGroupSet_sizes : AnswersWithin (execGroupSet s) := dispatch_sizes hs groupSet_sizes

theorem execAddressPin_sizes : AnswersWithin (execAddressPin s) := by
  simp only [execAddressPin]
  refine dispatchIf_sizes hs fun ht => ?_
  simp only [doneWith, reportDone, ↓sizes, ht]

theorem execAddressPinClear_sizes : AnswersWithin (execAddressPinClear s) := by
  simp only [execAddressPinClear]
  refine dispatchIf_sizes hs fun ht => ?_
  simp only [doneWith, reportDone, ↓sizes, ht]

theorem keyEnrol_sizes : WithinStatedSizes (keyEnrol m s) := by
  unfold keyEnrol
  (repeat' split) <;> simp only [doneWith, keyDone, reportDone, ↓sizes, hs]

theorem execKeyEnrol_sizes : AnswersWithin (execKeyEnrol s) := dispatchIf_sizes hs keyEnrol_sizes

theorem execKeyRevoke_sizes : AnswersWithin (execKeyRevoke s) := by
  simp only [execKeyRevoke]
  refine dispatchIf_sizes hs fun ht => ?_
  simp only [keyDone, doneWith, reportDone, ↓sizes, ht]

theorem execAuditRead_sizes : AnswersWithin (execAuditRead s) := by
  simp only [execAuditRead]
  refine dispatch_sizes hs fun ht => ?_
  simp only [answerWith, reportDone, ↓sizes, ht]

theorem porterStart_sizes : WithinStatedSizes (porterStart s) := by simp only [porterStart, ↓sizes, hs]

theorem porterStop_sizes : WithinStatedSizes (porterStop s) := by
  unfold porterStop
  split <;> simp only [↓sizes, hs]

theorem execPorterStop_sizes : AnswersWithin (execPorterStop s) := by simp only [execPorterStop, ↓sizes, porterStop_sizes, hs]

theorem execBusIntegrated_sizes : AnswersWithin (execBusIntegrated s) := by simp only [execBusIntegrated, ↓sizes, hs]

theorem setClass_sizes : WithinStatedSizes (setClass s chatter c) := by simp only [setClass, ↓sizes, hs]

theorem putClass_sizes : WithinStatedSizes (putClass s chatter c) := by
  simp only [putClass, countBack, ↓sizes, setClass_sizes, raise_sizes, hs]

theorem leaveLone_sizes : WithinStatedSizes (leaveLone s) := by simp only [leaveLone, ↓sizes, raise_sizes, hs]

theorem creditReceive_sizes : WithinStatedSizes (creditReceive s chatter) := by
  simp only [creditReceive, ↓sizes, putClass_sizes, freeBelow_sizes, hs]

theorem execCorrelationStrobe_sizes {crossing : Word} : AnswersWithin (execCorrelationStrobe crossing s) := by
  simp only [execCorrelationStrobe, advanceToMantel, advanceToUnits, advance, ↓sizes, hs]

theorem loadAlarm_sizes : WithinStatedSizes (loadAlarm s) := by
  unfold loadAlarm
  split <;> simp only [↓sizes, hs]

theorem queueAlarm_sizes {cause : Nat} {input : Nat} : WithinStatedSizes (queueAlarm s cause input) := by
  simp only [queueAlarm, countBack, ↓sizes, raise_sizes, loadAlarm_sizes, hs]

theorem replaceBuffer_sizes {f : TxFrame} : WithinStatedSizes (replaceBuffer s i f) := by
  simp only [replaceBuffer, countBack, ↓sizes, hs]

theorem endOffer_sizes : WithinStatedSizes (endOffer s) := by simp only [endOffer, countBack, ↓sizes, hs]

theorem waitSuspend_sizes : WithinStatedSizes (waitSuspend s) := by simp only [waitSuspend, advanceTo, advance, ↓sizes, hs]

theorem execServiceBusIdle_sizes : AnswersWithin (execServiceBusIdle s) := by
  simp only [execServiceBusIdle, ↓sizes, endOffer_sizes, waitSuspend_sizes, hs]

theorem clearBuffer_sizes : WithinStatedSizes (clearBuffer s i) := by
  unfold clearBuffer
  (repeat' split) <;> simp only [↓sizes, hs]

theorem frameSent_sizes {f : TxFrame} : WithinStatedSizes (frameSent s i f) := by
  have hclass {t : State} {b : Bool} {c : ClassS} (ht : WithinStatedSizes t) : WithinStatedSizes (leaveLone (putClass t b c)) :=
    leaveLone_sizes (putClass_sizes ht)
  have hcancelled {t : State} {b : Backstair} (ht : WithinStatedSizes t) :
      WithinStatedSizes (if t.back.cancelled then countBack { t with back := b } 6 else t) := by
    simp only [countBack, ↓sizes, ht]
  have hannounce {t : State} {b : Backstair} (ht : WithinStatedSizes t) :
      WithinStatedSizes (if i = 2 then { t with back := b } else t) := by simp only [↓sizes, ht]
  have hload {t : State} (ht : WithinStatedSizes t) : WithinStatedSizes (loadAlarm (clearBuffer t i)) :=
    loadAlarm_sizes (clearBuffer_sizes ht)
  have hsent {b : Backstair} : WithinStatedSizes { countBack (send s (.service f.id f.data (sendsFd s))) 3 with back := b } := by
    simp only [countBack, send, ↓sizes, hs]
  simp only [frameSent]
  refine .ite ?_ ?_ <;> simp only [↓record_sizes] <;> exact hload (hannounce (hcancelled (hclass hsent)))

theorem execServiceFrameSent_sizes : AnswersWithin (execServiceFrameSent s) := by
  unfold execServiceFrameSent
  split <;> simp only [↓sizes, frameSent_sizes, hs]

theorem execPeerStatusSend_sizes : AnswersWithin (execPeerStatusSend s) := by
  simp only [execPeerStatusSend, advanceTo, advance, ↓sizes, replaceBuffer_sizes, hs]

theorem execAnnounceSend_sizes : AnswersWithin (execAnnounceSend s) := by
  unfold execAnnounceSend
  split <;> simp only [advanceTo, advance, ↓sizes, replaceBuffer_sizes, hs]

theorem prunePeers_sizes : WithinStatedSizes (prunePeers s) := by simp only [prunePeers, ↓sizes, hs]

theorem takeStation_sizes {n : Byte} : WithinStatedSizes (takeStation s n) := by
  simp only [takeStation]
  refine .ite ?_ ?_
  · exact hs
  · refine raise_sizes ?_
    refine .ite ?_ ?_
    · split
      · refine .ite ?_ ?_
        · simp only [↓sizes, hs]
        · refine replaceBuffer_sizes ?_
          simp only [↓sizes, hs]
      · simp only [↓sizes, hs]
    · simp only [restationAlarms, ↓record_sizes]
      split
      · refine .ite ?_ ?_
        · simp only [↓sizes, hs]
        · refine replaceBuffer_sizes ?_
          simp only [↓sizes, hs]
      · simp only [↓sizes, hs]

theorem execStationChoose_sizes : AnswersWithin (execStationChoose s) := by
  unfold execStationChoose
  split <;> simp only [advanceTo, advance, ↓sizes, prunePeers_sizes, takeStation_sizes, hs]

theorem received_sizes : WithinStatedSizes (received s chatter) := by
  simp only [received]
  refine creditReceive_sizes ?_
  simp only [countBack, send, ↓sizes, leaveLone_sizes, hs]

theorem reportAlarm_sizes {dropped : Bool} : WithinStatedSizes (reportAlarm s x dropped) := by
  simp only [reportAlarm, ↓sizes, raiseAt_sizes, hs]

theorem takeTemp_sizes : WithinStatedSizes (takeTemp s x) := by simp only [takeTemp, countBack, ↓sizes, hs]

theorem hearPeer_sizes : WithinStatedSizes (hearPeer s serial) := by simp only [hearPeer, ↓sizes, prunePeers_sizes, hs]

theorem porterTake_sizes : WithinStatedSizes (porterTake s x) := by
  unfold porterTake
  (repeat' split) <;> simp only [countBack, ↓sizes, reportAlarm_sizes, takeTemp_sizes, hearPeer_sizes, hs]

theorem popPriority_sizes : WithinStatedSizes (popPriority s) := by
  unfold popPriority
  split <;> simp only [↓sizes, porterTake_sizes, hs]

theorem popFifo_sizes : WithinStatedSizes (popFifo s) := by
  unfold popFifo
  split <;> simp only [↓sizes, porterTake_sizes, hs]

theorem popsNow_sizes : WithinStatedSizes (popsNow s full).2 := by
  unfold popsNow
  split <;> simp only [freeBelow, ↓sizes, hs]

theorem pushPriority_sizes : WithinStatedSizes (pushPriority s x) := by
  simp only [pushPriority, countBack, ↓sizes, popPriority_sizes (popsNow_sizes hs), reportAlarm_sizes, popsNow_sizes, hs]

theorem pushFifo_sizes : WithinStatedSizes (pushFifo s x) := by
  simp only [pushFifo, countBack, ↓sizes, popFifo_sizes, popsNow_sizes, hs]

theorem porterServe_sizes : WithinStatedSizes (porterServe s) := by
  simp only [porterServe]
  refine foldl_sizes (porterTake_sizes) ?_
  simp only [↓record_sizes]
  refine foldl_sizes (porterTake_sizes) ?_
  simp only [↓sizes, hs]

theorem storeFrame_sizes : WithinStatedSizes (storeFrame s x) := by
  unfold storeFrame
  split <;> simp only [countBack, ↓sizes, pushPriority_sizes, pushFifo_sizes, hs]

theorem receiveFrame_sizes {kind : BitVec 4} {f : ServiceFrame} : AnswersWithin (receiveFrame s kind f) := by
  simp only [receiveFrame]
  refine .ite ?_ ?_
  · refine .next ?_
    exact hs
  · refine .ite ?_ ?_
    · refine .next ?_
      simp only [protocolException, countBack, ↓sizes, hs]
    · refine .next ?_
      refine porterServe_sizes (storeFrame_sizes ?_)
      refine .ite ?_ ?_
      · exact received_sizes hs
      · simp only [countBack, ↓sizes, received_sizes, hs]

theorem execPsuFault_sizes {f : ServiceFrame} : AnswersWithin (execPsuFault f s) := by
  simp only [execPsuFault, receiveFrame_sizes, hs]

theorem execOvertemp_sizes {f : ServiceFrame} : AnswersWithin (execOvertemp f s) := by
  simp only [execOvertemp, receiveFrame_sizes, hs]

theorem execFanFault_sizes {f : ServiceFrame} : AnswersWithin (execFanFault f s) := by
  simp only [execFanFault, receiveFrame_sizes, hs]

theorem execPeerFault_sizes {f : ServiceFrame} : AnswersWithin (execPeerFault f s) := by
  simp only [execPeerFault, receiveFrame_sizes, hs]

theorem execTemp_sizes {f : ServiceFrame} : AnswersWithin (execTemp f s) := by simp only [execTemp, receiveFrame_sizes, hs]

theorem execPsuStatus_sizes {f : ServiceFrame} : AnswersWithin (execPsuStatus f s) := by
  simp only [execPsuStatus, receiveFrame_sizes, hs]

theorem execFanStatus_sizes {f : ServiceFrame} : AnswersWithin (execFanStatus f s) := by
  simp only [execFanStatus, receiveFrame_sizes, hs]

theorem execPeerStatus_sizes {f : ServiceFrame} : AnswersWithin (execPeerStatus f s) := by
  simp only [execPeerStatus, receiveFrame_sizes, hs]

theorem execAnnounce_sizes {idLow : BitVec 24} {f : ServiceFrame} : AnswersWithin (execAnnounce idLow f s) := by
  simp only [execAnnounce, receiveFrame_sizes, hs]

theorem execReservedKindFrame_sizes {f : OddFrame} : AnswersWithin (execReservedKindFrame f s) := by
  simp only [execReservedKindFrame, protocolException, countBack, ↓sizes, received_sizes, receiveFrame_sizes, hs]

theorem increment_sizes : WithinStatedSizes (increment transmitting chatter s n) := by
  simp only [increment, ↓sizes, putClass_sizes, hs]

theorem charge_sizes {after : AfterFlag} : WithinStatedSizes (charge s kind after transmitting chatter) := by
  simp only [charge]
  refine foldl_sizes (increment_sizes) ?_
  exact hs

theorem sendFlag_sizes : WithinStatedSizes (sendFlag s beforeClass chatter) := by
  unfold sendFlag
  split <;> simp only [send, ↓sizes, hs]

theorem ackFailure_sizes : WithinStatedSizes (ackFailure s) := by simp only [ackFailure, countBack, ↓sizes, raise_sizes, hs]

theorem noteAnnounce_sizes : WithinStatedSizes (noteAnnounce s kind dataField) := by
  simp only [noteAnnounce, announceError, ↓sizes, raise_sizes, takeStation_sizes, hs]

theorem frameFailed_sizes {passive : Bool} : WithinStatedSizes (frameFailed s passive) := by simp only [frameFailed, ↓sizes, hs]

theorem execServiceBusError_sizes {e : BusError} : AnswersWithin (execServiceBusError e beforeClass chatter transmitting
    dataField s) := by
  simp only [execServiceBusError]
  refine .ite ?_ ?_
  · refine .next ?_
    exact hs
  · refine .ite ?_ ?_
    · refine .next ?_
      simp only [protocolException, countBack, ↓sizes, hs]
    · refine .ite ?_ ?_
      · refine .next ?_
        exact charge_sizes hs
      · refine .next ?_
        refine .ite ?_ ?_
        · refine frameFailed_sizes (noteAnnounce_sizes ?_)
          refine .ite ?_ ?_
          · refine ackFailure_sizes ?_
            refine .ite ?_ ?_
            · refine charge_sizes (charge_sizes (sendFlag_sizes ?_))
              simp only [countBack, ↓sizes, hs]
            · refine charge_sizes (sendFlag_sizes ?_)
              simp only [countBack, ↓sizes, hs]
          · simp only [countBack, ↓record_sizes]
            refine .ite ?_ ?_
            · refine charge_sizes (charge_sizes (sendFlag_sizes ?_))
              simp only [↓sizes, hs]
            · refine charge_sizes (sendFlag_sizes ?_)
              simp only [↓sizes, hs]
        · refine .ite ?_ ?_
          · refine ackFailure_sizes ?_
            refine .ite ?_ ?_
            · refine charge_sizes (charge_sizes (sendFlag_sizes ?_))
              simp only [countBack, ↓sizes, hs]
            · refine charge_sizes (sendFlag_sizes ?_)
              simp only [countBack, ↓sizes, hs]
          · simp only [countBack, ↓record_sizes]
            refine .ite ?_ ?_
            · refine charge_sizes (charge_sizes (sendFlag_sizes ?_))
              simp only [↓sizes, hs]
            · refine charge_sizes (sendFlag_sizes ?_)
              simp only [↓sizes, hs]

theorem recoverClass_sizes : WithinStatedSizes (recoverClass s chatter) := by
  simp only [recoverClass, raise_sizes, setClass_sizes, hs]

theorem execBusOffRecovery_sizes : AnswersWithin (execBusOffRecovery chatter s) := by
  simp only [execBusOffRecovery]
  refine .ite ?_ ?_
  · refine .ite ?_ ?_
    · refine .next ?_
      exact recoverClass_sizes hs
    · refine .next ?_
      refine foldl_sizes (fun ht => ?_) ?_
      · simp only [reportDone, ↓sizes, ht]
      · simp only [↓sizes, recoverClass_sizes, hs]
  · refine .next ?_
    exact hs

theorem execBusResume_sizes : AnswersWithin (execBusResume s) := by
  simp only [execBusResume]
  refine dispatch_sizes hs fun ht => ?_
  refine .ite ?_ ?_
  · simp only [↓sizes, ht]
  · simp only [doneWith, reportDone, ↓sizes, ht]

theorem execBusResumeTimeout_sizes : AnswersWithin (execBusResumeTimeout s) := by
  unfold execBusResumeTimeout
  split <;> simp only [reportDone, ↓sizes, advanceTo_sizes, hs]

theorem execDieTempMeasure_sizes {temp16 : Int} : AnswersWithin (execDieTempMeasure temp16 s) := by
  unfold execDieTempMeasure
  split <;> simp only [advanceTo, advance, ↓sizes, queueAlarm_sizes, hs]

theorem cutWear_sizes {cut : Nat → Bool} : WithinStatedSizes (cutWear s cut) := by
  unfold cutWear
  split <;> simp only [↓sizes, hs]

theorem rowCutOff_sizes : WithinStatedSizes (rowCutOff s) := by simp only [rowCutOff, ↓sizes, cutWear_sizes, hs]

theorem healObject_sizes : WithinStatedSizes (healObject s t) := by
  unfold healObject
  split <;> simp only [heal, ↓sizes, hs]

theorem objBegin_sizes : WithinStatedSizes (objBegin m s) := by
  unfold objBegin
  split <;> simp only [heal, doneWith, reportDone, ↓sizes, raise_sizes, hs]

theorem execObjBegin_sizes : AnswersWithin (execObjBegin s) := dispatch_sizes hs objBegin_sizes

theorem objData_sizes : WithinStatedSizes (objData m s) := by
  unfold objData
  split <;> simp only [doneWith, reportDone, ↓sizes, hs]

theorem execObjData_sizes : AnswersWithin (execObjData s) := dispatch_sizes hs objData_sizes

theorem beginCopy_sizes : WithinStatedSizes (beginCopy s) := by
  unfold beginCopy
  split <;> simp only [invalidateCache, ↓sizes, hs]

theorem startCopy_sizes : WithinStatedSizes (startCopy s t m) := by simp only [startCopy, ↓sizes, beginCopy_sizes, hs]

theorem refusedContent_sizes {t : Transfer} {u : State} (hu : refusedContent s t = some u) : WithinStatedSizes u := by
  unfold refusedContent at hu
  grind [raise_sizes]

theorem objCommit_sizes : WithinStatedSizes (objCommit m s) := by
  unfold objCommit
  split
  · simp only [doneWith, reportDone, ↓sizes, hs]
  · refine .ite (by simp only [doneWith, reportDone, ↓sizes, hs]) (.ite (by simp only [doneWith, reportDone, ↓sizes, hs]) ?_)
    split
    · next hrefused =>
      simp only [doneWith, reportDone, ↓sizes, refusedContent_sizes (by simp only [↓sizes, hs]) hrefused]
    · exact startCopy_sizes hs

theorem execObjCommit_sizes : AnswersWithin (execObjCommit s) := dispatch_sizes hs objCommit_sizes

theorem clearMap_sizes : WithinStatedSizes (clearMap s) := by simp only [clearMap, ↓sizes, raise_sizes, hs]

theorem placeObject_sizes : WithinStatedSizes (placeObject s t) := by
  unfold placeObject
  split <;> simp only [countShow, askLoad, ↓sizes, healObject_sizes, clearMap_sizes, hs]

theorem execObjCommitCopyEnd_sizes : AnswersWithin (execObjCommitCopyEnd s) := by
  unfold execObjCommitCopyEnd
  split <;> simp only [reportDone, ↓sizes, placeObject_sizes, beginCopy_sizes, hs]

theorem recomputeWear_sizes : WithinStatedSizes (recomputeWear s) := by
  simp only [recomputeWear, countBindery, ↓sizes, raise_sizes, hs]

theorem execWearGainRecompute_sizes : AnswersWithin (execWearGainRecompute s) := by
  simp only [execWearGainRecompute, ↓sizes, recomputeWear_sizes, hs]

theorem formEstimate_sizes : WithinStatedSizes (formEstimate s) := by
  simp only [formEstimate, countBindery, ↓sizes, raise_sizes, freeValue_sizes, hs]

theorem loadImage_sizes : WithinStatedSizes (loadImage s) := by
  unfold loadImage
  split <;> simp only [↓sizes, hs]

theorem loadFactory_sizes : WithinStatedSizes (loadFactory s) := by
  unfold loadFactory
  split <;> simp only [↓sizes, hs]

theorem enterPort_sizes {x : PortS} {st : PortState} : WithinStatedSizes (enterPort s p x st) := by
  simp only [enterPort, queueLink_sizes, setPort_sizes, hs]

theorem portDown_sizes : WithinStatedSizes (portDown s p) := by
  simp only [portDown, ↓sizes, settleAdmit_sizes, enterPort_sizes, hs]

theorem execPortSignalDetect_sizes : AnswersWithin (execPortSignalDetect p s) := by
  simp only [execPortSignalDetect, ↓sizes, enterPort_sizes, hs]

theorem execPortAcquired_sizes : AnswersWithin (execPortAcquired p s) := by
  simp only [execPortAcquired, ↓sizes, enterPort_sizes, hs]

theorem execFastAcquireFallback_sizes : AnswersWithin (execFastAcquireFallback p s) := by
  simp only [execFastAcquireFallback, advanceTo, advance, ↓sizes, setPort_sizes, hs]

theorem execBlockLock_sizes : AnswersWithin (execBlockLock p s) := by simp only [execBlockLock, ↓sizes, enterPort_sizes, hs]

theorem execDeskew_sizes {d : LaneDelays} : AnswersWithin (execDeskew p d s) := by
  simp only [execDeskew, ↓sizes, enterPort_sizes, setSync_sizes, hs]

theorem reportS4_sizes : WithinStatedSizes (reportS4 s) := by
  simp only [reportS4, countPower, ↓sizes, reportHeld_sizes, raiseKept_sizes, hs]

theorem noteSplice_sizes : WithinStatedSizes (noteSplice s) := by simp only [noteSplice, ↓sizes, hs]

theorem execConfirm_sizes {peerTwoLanes : Bool} {peerLow : BitVec 16} : AnswersWithin (execConfirm p peerTwoLanes peerLow s) := by
  simp only [execConfirm, ↓sizes, raise_sizes (reportS4_sizes (noteSplice_sizes (enterPort_sizes hs))), reportS4_sizes
    (noteSplice_sizes (enterPort_sizes hs)), hs]

theorem countCut_sizes : WithinStatedSizes (countCut s p cutTx) := by simp only [countCut, ↓sizes, countPort_sizes, hs]

theorem endReception_sizes : WithinStatedSizes (endReception s p cutRx) := by
  simp only [endReception, send, ↓sizes, countPort_sizes, hs]

theorem execPortLoss_sizes : AnswersWithin (execPortLoss p cutRx cutTx s) := by
  simp only [execPortLoss, ↓sizes, portDown_sizes (countCut_sizes (endReception_sizes hs)), portDown_sizes, hs]

theorem execRateSuspectTimeout_sizes : AnswersWithin (execRateSuspectTimeout p s) := by
  simp only [execRateSuspectTimeout, advanceTo, advance, ↓sizes, raise_sizes, setPort_sizes, hs]

theorem execIdentSend_sizes : AnswersWithin (execIdentSend p s) := by
  simp only [execIdentSend, advanceTo, send, advance, ↓sizes, setPort_sizes, hs]

theorem execIdentReceive_sizes : AnswersWithin (execIdentReceive p serial s) := by
  simp only [execIdentReceive, ↓sizes, setPort_sizes, hs]

theorem execLeaveReceive_sizes : AnswersWithin (execLeaveReceive p s) := by
  simp only [execLeaveReceive, ↓sizes, setPort_sizes, hs]

theorem execFastAcquireEnd_sizes : AnswersWithin (execFastAcquireEnd p s) := by
  simp only [execFastAcquireEnd, advanceTo, advance, ↓sizes, setPort_sizes, hs]

theorem execFolioForward_sizes : AnswersWithin (execFolioForward p u residence s) := by
  simp only [execFolioForward, send, ↓sizes, countPort_sizes, hs]

theorem mergeFrom_sizes : WithinStatedSizes (mergeFrom s p u) := by simp only [mergeFrom, ↓sizes, mergeUnit_sizes, hs]

theorem execMerge_sizes {c : Arrival} : AnswersWithin (execMerge p c s) := by
  unfold execMerge
  (repeat' split) <;> simp only [↓sizes, mergeUnit_sizes, mergeFrom_sizes, hs]

theorem execMergeEntryExpire_sizes : AnswersWithin (execMergeEntryExpire s) := by
  have hexpired {t : State} (ht : WithinStatedSizes t) :
      WithinStatedSizes { t with spine := { t.spine with mergeMem := t.spine.mergeMem.dropLast } } := by
    obtain ⟨hmerge, hctl, hspl, hsum, haudit, hevents, hlog⟩ := ht
    exact .intro ((List.dropLast_sublist _).length_le.trans hmerge) hctl hspl hsum haudit hevents hlog
  unfold execMergeEntryExpire
  split
  · exact .next hs
  · exact .next (hexpired (advanceTo_sizes hs))

theorem execVacancyFill_sizes {vacancy : Folio} : AnswersWithin (execVacancyFill p vacancy s) := by
  simp only [execVacancyFill, ↓sizes, fillVacancy_sizes, hs]

theorem setByp_sizes {high : Bool} : WithinStatedSizes (setByp s high) := by simp only [setByp, ↓sizes, portDown_sizes, hs]

theorem releaseByp_sizes : WithinStatedSizes (releaseByp s) := by simp only [releaseByp, ↓sizes, setByp_sizes, hs]

theorem raiseUncoordinated_sizes {lenNs : Nat} : WithinStatedSizes (raiseUncoordinated s lenNs) := by
  simp only [raiseUncoordinated, ↓sizes, raise_sizes, hs]

theorem tryInsert_sizes : WithinStatedSizes (tryInsert s) := by
  simp only [tryInsert, reportS4Return, ↓sizes, setByp_sizes, raiseUncoordinated_sizes, hs]

theorem execBypassInsert_sizes : AnswersWithin (execBypassInsert s) := by
  simp only [execBypassInsert, ↓sizes, tryInsert_sizes, hs]

theorem execBypassRelease_sizes : AnswersWithin (execBypassRelease s) := by
  simp only [execBypassRelease, sendLeave, send, ↓sizes, setByp_sizes, hs]

theorem switchFault_sizes {outcome : Nat} : WithinStatedSizes (switchFault s outcome) := by
  simp only [switchFault, ↓sizes, raise_sizes, hs]

theorem judgeSense_sizes : WithinStatedSizes (judgeSense s east west) := by
  simp only [judgeSense, ↓sizes, switchFault_sizes, releaseByp_sizes, hs]

theorem execBypSenseSample_sizes : AnswersWithin (execBypSenseSample east west s) := by
  simp only [execBypSenseSample, advanceTo, advance, ↓sizes, judgeSense_sizes, hs]

theorem execBypassRetry_sizes : AnswersWithin (execBypassRetry s) := by
  unfold execBypassRetry
  split <;> simp only [advanceTo, advance, ↓sizes, tryInsert_sizes, hs]

theorem execRingPllLoss_sizes : AnswersWithin (execRingPllLoss s) := by
  simp only [execRingPllLoss, ↓sizes, releaseByp_sizes, hs]

theorem execSelfTest_sizes {port : Byte} {lane : Byte} {crcFailures : Nat} {eastPs : Nat} {westPs : Nat} : AnswersWithin
    (execSelfTest port lane crcFailures eastPs westPs s) := by
  simp only [execSelfTest, keepLoopback, raiseUntold, ↓sizes, tryInsert_sizes, logEvent_sizes, hs]

theorem execSelfTestRetry_sizes : AnswersWithin (execSelfTestRetry s) := by
  unfold execSelfTestRetry
  split <;> simp only [advanceTo, advance, ↓sizes, hs]

theorem splNote_sizes {q : Word} : WithinStatedSizes (splNote s q) := by
  obtain ⟨hmerge, hctl, _, hsum, haudit, hevents, hlog⟩ := hs
  exact .intro hmerge hctl (List.length_take_le _ _) hsum haudit hevents hlog

theorem actOnce_sizes {q : Word} {f : State → State} (hf : ∀ {t}, WithinStatedSizes t → WithinStatedSizes (f t)) :
    AnswersWithin (actOnce s q f) :=
  .ite (.next (hf (splNote_sizes hs))) (.next hs)

theorem enumStart_sizes : WithinStatedSizes (enumStart s epoch reassign) := by simp only [enumStart, ↓sizes, queueSpl_sizes, hs]

theorem execEnumStart_sizes : AnswersWithin (execEnumStart splSeq epoch reassign s) := actOnce_sizes hs enumStart_sizes

theorem phaseDelayReq_sizes : WithinStatedSizes (phaseDelayReq s) := by simp only [phaseDelayReq, ↓sizes, freeBelow_sizes, hs]

theorem queueJoin_sizes : WithinStatedSizes (queueJoin s) := by
  simp only [queueJoin]
  refine foldl_sizes (queueEvent_sizes) ?_
  simp only [↓sizes, queueReport_sizes, hs]

theorem takeEntry_sizes {e : AssignEntry} : WithinStatedSizes (takeEntry s e) := by
  simp only [takeEntry, ↓sizes, settleAdmit_sizes, phaseDelayReq_sizes, queueJoin_sizes, hs]

theorem execAddressAssign_sizes {entries : List AssignEntry} : AnswersWithin (execAddressAssign splSeq epoch entries s) := by
  simp only [execAddressAssign]
  refine .ite ?_ ?_
  · refine actOnce_sizes hs fun ht => ?_
    split
    · refine takeEntry_sizes ?_
      simp only [↓sizes, ht]
    · simp only [↓sizes, ht]
  · refine .next ?_
    exact hs

theorem execRingMap_sizes {size : Nat} {inserted : List Bool} : AnswersWithin (execRingMap splSeq epoch size inserted s) := by
  simp only [execRingMap]
  refine .ite ?_ ?_
  · refine actOnce_sizes hs fun ht => ?_
    simp only [↓sizes, ht]
  · refine .next ?_
    exact hs

theorem queueAnswer_sizes {stype : Word} {result : Nat} : WithinStatedSizes (queueAnswer s q stype result) := by
  simp only [queueAnswer, queueSpl_sizes, hs]

theorem raiseRun_sizes : WithinStatedSizes (raiseRun s) := by
  unfold raiseRun
  split <;> simp only [raise_sizes, hs]

theorem reportRun_sizes : WithinStatedSizes (reportRun s) := by
  unfold reportRun
  split <;> simp only [↓sizes, raise_sizes, hs]

theorem ownWindow_sizes : WithinStatedSizes (ownWindow s q action w) := by
  simp only [ownWindow]
  split
  · refine queueAnswer_sizes ?_
    refine .ite ?_ ?_
    · exact raiseRun_sizes hs
    · exact hs
  · refine queueAnswer_sizes ?_
    refine .ite ?_ ?_
    · simp only [↓sizes, hs]
    · simp only [↓sizes, hs]

theorem execSpliceWindow_sizes {target : Long} {pos : BitVec 16} {tw : Nat} {wUs : Word} : AnswersWithin (execSpliceWindow
    splSeq target pos action tw wUs s) := by
  simp only [execSpliceWindow]
  refine .ite ?_ ?_
  · refine actOnce_sizes hs fun ht => ?_
    refine .ite ?_ ?_
    · exact ownWindow_sizes ht
    · refine .ite ?_ ?_
      · exact ht
      · simp only [↓sizes, ht]
  · refine .next ?_
    exact hs

theorem holdWindow_sizes {w : Half × Window} : WithinStatedSizes (holdWindow s w) := by
  unfold holdWindow
  split <;> simp only [setPort_sizes, hs]

theorem leaveRing_sizes : WithinStatedSizes (leaveRing s) := by
  simp only [leaveRing]
  split
  · simp only [sendLeave, send, ↓record_sizes]
    refine releaseByp_sizes ?_
    simp only [↓sizes, sendGsp_sizes (reportRun_sizes hs)]
  · simp only [sendLeave, send, ↓record_sizes]
    refine releaseByp_sizes ?_
    simp only [↓sizes, sendGsp_sizes (reportRun_sizes hs)]

theorem execSpliceWindowStart_sizes : AnswersWithin (execSpliceWindowStart s) := by
  unfold execSpliceWindowStart
  split
  · exact .next hs
  · next tw _ =>
    have hheld {ws : List (Half × Window)} {watched : List (Half × Window)} : WithinStatedSizes (ws.foldl holdWindow
        { advanceToMantel s tw with spine := { (advanceToMantel s tw).spine with watched := watched } }) :=
      foldl_sizes (fun ht => holdWindow_sizes ht) (by simp only [advanceToMantel, advanceToUnits, advance, ↓sizes, hs])
    dsimp only
    split
    · exact .next hs
    · split
      · exact .ite (.next (leaveRing_sizes hheld)) (.next hheld)
      · exact .next hheld

theorem returnRing_sizes : WithinStatedSizes (returnRing s w) := by
  simp only [returnRing, ↓sizes, setByp_sizes, raiseUncoordinated_sizes, hs]

theorem execSpliceReturn_sizes : AnswersWithin (execSpliceReturn s) := by
  unfold execSpliceReturn
  (repeat' split) <;>
    simp only [advanceToMantel, advanceToUnits, advance, ↓sizes, advanceTo_sizes, returnRing_sizes, setByp_sizes, hs]

theorem endWindow_sizes : WithinStatedSizes (endWindow s p) := by
  simp only [endWindow]
  split
  · exact hs
  · refine .ite ?_ ?_
    · exact hs
    · refine .ite ?_ ?_
      · exact setPort_sizes hs
      · exact queueLink_sizes (setPort_sizes hs)

theorem execSpliceWindowEnd_sizes : AnswersWithin (execSpliceWindowEnd s) := by
  unfold execSpliceWindowEnd
  split <;> simp only [advanceToMantel, advanceToUnits, advance, ↓sizes, endWindow_sizes, hs]

theorem levelTo_sizes : WithinStatedSizes (levelTo s seam) := by
  unfold levelTo
  split <;> simp only [↓sizes, hs]

theorem startLevel_sizes {mode : Nat} {target : Nat} : WithinStatedSizes (startLevel s seam mode target ms shape) := by
  simp only [startLevel, countShow, ↓sizes, levelTo_sizes, hs]

theorem endLevel_sizes : WithinStatedSizes (endLevel s) := by
  unfold endLevel
  split <;> simp only [↓sizes, hs]

theorem sourceTo_sizes : WithinStatedSizes (sourceTo s seam) := by
  unfold sourceTo
  split <;> simp only [↓sizes, hs]

theorem cutSource_sizes {cause : Nat} : WithinStatedSizes (cutSource s cause) := by
  unfold cutSource
  split <;> simp only [countShow, ↓sizes, raise_sizes, hs]

theorem setProgramme_sizes {p : Source} : WithinStatedSizes (setProgramme s p seam) := by simp only [setProgramme, ↓sizes, hs]

theorem fireProgramme_sizes {b : List Byte} : WithinStatedSizes (fireProgramme s b seam) := by
  unfold fireProgramme
  split <;> simp only [setProgramme_sizes, hs]

omit hs in
theorem fireCue_sizes {a : State × Fired} {c : ArmedCue} (ha : WithinStatedSizes a.1) :
    WithinStatedSizes (fireCue seam a c).1 := by
  unfold fireCue
  dsimp only
  split
  · exact ha
  · simp only [countShow, ↓sizes, complete_sizes, raise_sizes, fireProgramme_sizes, ha]

theorem fireCues_sizes : WithinStatedSizes (fireCues s seam first).1 := by
  have hfired : WithinStatedSizes ((dueCues s seam first).foldl (fireCue seam)
      ({ s with mantel := { s.mantel with cues := s.mantel.cues.filter fun c => !(dueCues s seam first).contains c } },
        Fired.nothing)).1 := foldl_sizes_fst fireCue_sizes (by simp only [↓sizes, hs])
  unfold fireCues
  dsimp only
  split
  · exact hfired
  · simp only [↓sizes, hfired]

theorem restoreShow_sizes : WithinStatedSizes (restoreShow s seam) := by
  simp only [restoreShow, countShow, ↓sizes, raise_sizes, setProgramme_sizes, hs]

theorem daliTo_sizes : WithinStatedSizes (daliTo s seam) := by simp only [daliTo, ↓sizes, hs]

theorem legacyProgramme_sizes {p : Source} : WithinStatedSizes (legacyProgramme s p seam) := by
  simp only [legacyProgramme, ↓sizes, raise_sizes, setProgramme_sizes, hs]

theorem refuseSelect_sizes : WithinStatedSizes (refuseSelect s n) := by
  simp only [refuseSelect, countShow, ↓sizes, raise_sizes, freeValue_sizes, hs]

theorem dmxProgramme_sizes : WithinStatedSizes (dmxProgramme s seam).1 := by
  unfold dmxProgramme
  dsimp only
  split
  · exact refuseSelect_sizes hs
  · exact legacyProgramme_sizes (by simp only [↓sizes, hs])

theorem applyDmx_sizes : WithinStatedSizes (applyDmx s seam first).1 := by
  unfold applyDmx
  dsimp only
  simp only [setLevel, ↓sizes, dmxProgramme_sizes, hs]

theorem applyDali_sizes : WithinStatedSizes (applyDali s seam first) := by
  simp only [applyDali, ↓sizes, legacyProgramme_sizes, hs]

theorem applyLegacy_sizes : WithinStatedSizes (applyLegacy s seam first).1 := by
  have hdali : WithinStatedSizes (daliTo s seam) := daliTo_sizes hs
  unfold applyLegacy
  dsimp only
  split
  · split
    · exact applyDmx_sizes hdali
    · exact applyDmx_sizes hdali
    · exact applyDali_sizes hdali
    · exact hdali
  · exact hdali

theorem overlayEvents_sizes {overlay : Nat} : WithinStatedSizes (overlayEvents s overlay) := by
  simp only [overlayEvents, ↓sizes, raise_sizes, hs]

theorem startSource_sizes {target : Source} : WithinStatedSizes (startSource s target seam ms shape) := by
  simp only [startSource, countShow, ↓sizes, hs]

theorem chooseTarget_sizes {rendered : Bool} {src : Option (Nat × Nat)} : WithinStatedSizes (chooseTarget s seam rendered src)
    := by
  unfold chooseTarget
  split <;> simp only [countShow, ↓sizes, overlayEvents_sizes, startSource_sizes, cutSource_sizes, hs]

theorem judgeCache_sizes : WithinStatedSizes (judgeCache s) := by simp only [judgeCache, ↓sizes, hs]

theorem countLane_sizes {x1 : LaneSrc} : WithinStatedSizes (countLane s x1) := by
  unfold countLane
  split <;> simp only [countBindery, countShow, ↓sizes, hs]

theorem execSlateCacheFill_sizes {entry : Bool} : AnswersWithin (execSlateCacheFill entry s) := by
  simp only [execSlateCacheFill, countShow, ↓sizes, hs]

theorem armCue_sizes : WithinStatedSizes (armCue m s) := by
  simp only [armCue, ↓sizes, judgeCache_sizes, markDispatched_sizes, hs]

theorem execCue_sizes : AnswersWithin (execCue s) := dispatch_sizes hs armCue_sizes

theorem forceDark_sizes {cause : Nat} : WithinStatedSizes (forceDark s cause) := by
  simp only [forceDark, countPress, countCellar, ↓sizes, rowCutOff_sizes, queueAlarm_sizes, raiseCellar_sizes, hs]

theorem releaseDark_sizes {cause : Nat} : WithinStatedSizes (releaseDark s cause) := by
  simp only [releaseDark, ↓sizes, raiseCellar_sizes, hs]

theorem noteLit_sizes {lit : Bool} : WithinStatedSizes (noteLit s lit) := by
  simp only [noteLit]
  split
  · simp only [↓sizes, hs]
  · simp only [↓sizes, hs]
  · exact hs

theorem beginPersist_sizes : WithinStatedSizes (beginPersist s) := by
  simp only [beginPersist, updateHours, ↓sizes, freeBelow_sizes, hs]

theorem cutPersist_sizes : WithinStatedSizes (cutPersist s) := by simp only [cutPersist, ↓sizes, freeBelow_sizes, hs]

theorem persistWear_sizes {cause : Nat} : WithinStatedSizes (persistWear s cause) := by
  simp only [persistWear, ↓sizes, raise_sizes, beginPersist_sizes, hs]

theorem finishWrite_sizes : WithinStatedSizes (finishWrite s) := by
  unfold finishWrite
  split <;> simp only [commitEntry_sizes, hs]

theorem orderedStop_sizes : WithinStatedSizes (orderedStop s) := by
  unfold orderedStop
  simp only [stopHall, sendLeave, send, ↓sizes, setByp_sizes, finishWrite_sizes, hs]

theorem resetBlock_sizes : WithinStatedSizes (resetBlock s cause phase) := by
  obtain ⟨_, _, _, hsum, haudit, _, hlog⟩ := cutPersist_sizes hs
  exact .intro (Nat.zero_le _) (Nat.zero_le _) (Nat.zero_le _) hsum haudit (Nat.zero_le _) hlog

theorem driveOff_sizes : WithinStatedSizes (driveOff s) := by simp only [driveOff, ↓sizes, rowCutOff_sizes, hs]

theorem raiseBlocked_sizes : WithinStatedSizes (raiseBlocked d s reason) := by
  simp only [raiseBlocked, noteMinute, ↓sizes, raise_sizes, hs]

theorem refuseS4_sizes {r : Nat} : WithinStatedSizes (refuseS4 s r) := by
  simp only [refuseS4]
  refine .ite ?_ ?_
  · refine queueAnswer_sizes ?_
    refine .ite ?_ ?_
    · refine raiseRun_sizes (freeValue_sizes ?_)
      simp only [noteMinute, ↓sizes, hs]
    · refine freeValue_sizes ?_
      simp only [noteMinute, ↓sizes, hs]
  · exact hs

theorem reportBlocked_sizes : WithinStatedSizes (reportBlocked s seam d) := by
  simp only [reportBlocked]
  refine .ite ?_ ?_
  · refine .ite ?_ ?_
    · refine foldl_sizes (raiseBlocked_sizes) ?_
      exact hs
    · refine .ite ?_ ?_
      · split
        · exact refuseS4_sizes hs
        · exact hs
      · exact hs
  · exact hs

theorem wakeS1_sizes {cause : Nat} : WithinStatedSizes (wakeS1 s cause) := by simp only [wakeS1, ↓sizes, wake_sizes, hs]

theorem wakeForced_sizes : WithinStatedSizes (wakeForced s) := by simp only [wakeForced, ↓sizes, wakeS1_sizes, hs]

theorem choosePower_sizes : WithinStatedSizes (choosePower s seam) := by
  simp only [choosePower, ↓sizes, wakeS1_sizes, reportBlocked_sizes, hs]

theorem closeRest_sizes : WithinStatedSizes (closeRest s) := by
  unfold closeRest
  split <;> simp only [↓sizes, hs]

theorem restoreByp_sizes : WithinStatedSizes (restoreByp s) := by simp only [restoreByp, setByp_sizes, hs]

theorem leaveInstrBy_sizes {report : State → Half → Half → Word → State}
    (hreport : ∀ {t c a w}, WithinStatedSizes t → WithinStatedSizes (report t c a w)) :
    WithinStatedSizes (leaveInstrBy report s) := by
  simp only [leaveInstrBy, ↓sizes, hreport, hs]

theorem endInstrBy_sizes {report : State → Half → Half → Word → State}
    (hreport : ∀ {t c a w}, WithinStatedSizes t → WithinStatedSizes (report t c a w)) :
    WithinStatedSizes (endInstrBy report s) :=
  .ite (restoreByp_sizes (leaveInstrBy_sizes hs hreport)) (leaveInstrBy_sizes hs hreport)

theorem endInstr_sizes : WithinStatedSizes (endInstr s) := endInstrBy_sizes hs raise_sizes

theorem endJtagBy_sizes {report : State → Half → Half → Word → State} {cause : Nat}
    (hreport : ∀ {t c a w}, WithinStatedSizes t → WithinStatedSizes (report t c a w)) :
    WithinStatedSizes (endJtagBy report s cause) :=
  .ite (hreport (endInstrBy_sizes (by simp only [↓sizes, hs]) hreport)) hs

theorem endJtag_sizes {cause : Nat} : WithinStatedSizes (endJtag s cause) := endJtagBy_sizes hs raise_sizes

theorem noteFlush_sizes {queue : Nat} : WithinStatedSizes (noteFlush s queue n) := by
  simp only [noteFlush, ↓sizes, raiseHeld_sizes, hs]

theorem flushQueues_sizes : WithinStatedSizes (flushQueues s) := by
  obtain ⟨hmerge, hctl, hspl, hsum, haudit, _, hlog⟩ := hs
  have hflushed : WithinStatedSizes { s with larder := { s.larder with reports := [], waiting := [], events := [] } } :=
    .intro hmerge hctl hspl hsum haudit (Nat.zero_le _) hlog
  exact noteFlush_sizes (noteFlush_sizes hflushed)

theorem discardAllHeld_sizes : WithinStatedSizes (discardAllHeld s) :=
  foldl_sizes (fun ht => discardBy_sizes ht raiseHeld_sizes) hs

theorem stopCore_sizes : WithinStatedSizes (stopCore s) := by
  simp only [stopCore]
  simp only [advanceToSeam, advanceToUnits, advance, ↓record_sizes]
  refine porterStop_sizes (driveOff_sizes (noteLit_sizes ?_))
  refine .ite ?_ ?_
  · simp only [↓sizes, hs]
  · exact hs

theorem enterS2_sizes : WithinStatedSizes (enterS2 s) := by
  simp only [enterS2, enterRest, countPower, ↓sizes, stopCore_sizes, hs]

theorem enterS3_sizes : WithinStatedSizes (enterS3 s) := by
  simp only [enterS3]
  simp only [enterRest, countPower, ↓record_sizes]
  refine stopCore_sizes (flushQueues_sizes ?_)
  refine endJtagBy_sizes ?_ raiseHeld_sizes
  exact hs

theorem checkReturn_sizes : WithinStatedSizes (checkReturn s) := by
  unfold checkReturn
  split <;> simp only [↓sizes, queueAnswer_sizes, hs]

theorem enterS4_sizes : WithinStatedSizes (enterS4 s) := by
  have hstop {t : State} (ht : WithinStatedSizes t) : WithinStatedSizes (enterRest (stopCore t) .s4) := by
    simp only [enterRest, countPower, ↓sizes, stopCore_sizes ht]
  have hleave : WithinStatedSizes (setByp (sendLeave (sendGsp (endJtagBy raiseHeld s 2) 5)) false) :=
    setByp_sizes (by simp only [sendLeave, send, ↓sizes, sendGsp_sizes (endJtagBy_sizes hs raiseHeld_sizes)])
  simp only [enterS4, ↓sizes, hstop, hleave]

theorem persistEntry_sizes {cause : Nat} : WithinStatedSizes (persistEntry s cause) := by
  simp only [persistEntry, ↓sizes, persistWear_sizes, hs]

theorem beginEntry_sizes : WithinStatedSizes (beginEntry s d) := by
  have hraised : WithinStatedSizes (if d == .s4 then raiseKept s 0x0C01 (stateChange s.power.st d) (stateArg s 0)
      else raise s 0x0C01 (stateChange s.power.st d) (stateArg s 0)) := .ite (raiseKept_sizes hs) (raise_sizes hs)
  have hanchor {t : State} (ht : WithinStatedSizes t) : WithinStatedSizes (handAnchor t d) := by
    simp only [handAnchor, ↓sizes, ht]
  have hbegun {t : State} {x : Power} (ht : WithinStatedSizes t) : WithinStatedSizes { t with power := x } := by
    simp only [↓sizes, ht]
  unfold beginEntry
  dsimp only
  split
  · exact hbegun (checkReturn_sizes (persistEntry_sizes (reportRun_sizes hraised)))
  · exact hbegun (hanchor (discardAllHeld_sizes (persistEntry_sizes hraised)))
  · exact hbegun (hanchor hraised)

theorem entryDone_sizes : WithinStatedSizes (entryDone s seam) := by
  simp only [entryDone, advanceTo, advance, ↓sizes, freeBelow_sizes, hs]

theorem startEntry_sizes : WithinStatedSizes (startEntry s d seam) := by
  unfold startEntry
  (repeat' split) <;> simp only [enterS3Instead, ↓sizes, refuseS4_sizes, beginEntry_sizes, hs]

theorem execStateEntry_sizes : AnswersWithin (execStateEntry s) := by
  simp only [execStateEntry]
  split
  · refine .next ?_
    exact hs
  · refine .ite ?_ ?_
    · refine .next ?_
      exact hs
    · split
      · refine .next ?_
        simp only [advanceToSeam, advanceToUnits, advance, ↓sizes, hs]
      · refine .next ?_
        refine wakeForced_sizes ?_
        simp only [advanceToSeam, enterRest, advanceToUnits, countPower, advance, ↓record_sizes]
        refine driveOff_sizes (noteLit_sizes (raise_sizes ?_))
        simp only [↓sizes, hs]
      · refine .ite ?_ ?_
        · split
          · refine .next ?_
            refine enterS2_sizes (closeRest_sizes (entryDone_sizes ?_))
            simp only [advanceToSeam, advanceToUnits, advance, ↓sizes, hs]
          · refine .next ?_
            refine enterS3_sizes (closeRest_sizes (entryDone_sizes ?_))
            simp only [advanceToSeam, advanceToUnits, advance, ↓sizes, hs]
          · refine .next ?_
            refine enterS4_sizes (closeRest_sizes (entryDone_sizes ?_))
            simp only [advanceToSeam, advanceToUnits, advance, ↓sizes, hs]
        · refine .next ?_
          refine startEntry_sizes ?_
          simp only [advanceToSeam, advanceToUnits, advance, ↓sizes, hs]

theorem execStateEntryDrop_sizes : AnswersWithin (execStateEntryDrop s) := by
  unfold execStateEntryDrop
  split <;> simp only [advanceToMantel, countPower, advanceToUnits, advance, ↓sizes, raiseBlocked_sizes, hs]

theorem execWakeAlarm_sizes : AnswersWithin (execWakeAlarm s) := by
  unfold execWakeAlarm
  (repeat' split) <;> simp only [advanceToMantel, advanceToUnits, advance, ↓sizes, wake_sizes, hs]

theorem execSbRxWake_sizes : AnswersWithin (execSbRxWake s) := by simp only [execSbRxWake, ↓sizes, wake_sizes, hs]

theorem setLock_sizes {offsetPs : Int} : WithinStatedSizes (setLock s l offsetPs) := by
  simp only [setLock, ↓sizes, raise_sizes, hs]

theorem enterHoldover_sizes : WithinStatedSizes (enterHoldover s) := by simp only [enterHoldover, ↓sizes, setLock_sizes, hs]

theorem wakeMantel_sizes : WithinStatedSizes (wakeMantel s) := by simp only [wakeMantel, ↓sizes, enterHoldover_sizes, hs]

theorem cutOutputs_sizes {d : Darkens} : WithinStatedSizes (cutOutputs s d) := by
  simp only [cutOutputs, ↓sizes, rowCutOff_sizes, cutWear_sizes, hs]

theorem tripEffect_sizes : WithinStatedSizes (tripEffect s id) := by
  unfold tripEffect
  split <;> simp only [countPress, ↓sizes, cutOutputs_sizes, queueAlarm_sizes, raise_sizes, hs]

theorem judgePins_sizes {latchedKept : Bool} : WithinStatedSizes (judgePins s latchedKept) := by
  simp only [judgePins]
  refine foldl_sizes (fun ht => ?_) ?_
  · split
    · refine .ite ?_ ?_
      · exact tripEffect_sizes ht
      · exact ht
    · exact ht
  · simp only [↓sizes, hs]

theorem lockTrims_sizes : WithinStatedSizes (lockTrims s) := by simp only [lockTrims, ↓sizes, freeValue_sizes, hs]

theorem lockLines_sizes : WithinStatedSizes (lockLines s) := by
  simp only [lockLines, ↓sizes, freeBelow_sizes, lockTrims_sizes, hs]

theorem wakePress_sizes : WithinStatedSizes (wakePress s) := by simp only [wakePress, ↓sizes, lockTrims_sizes, hs]

theorem loadWorkingCopies_sizes : WithinStatedSizes (loadWorkingCopies s) := by
  simp only [loadWorkingCopies, loadCurves, ↓sizes, loadFactory_sizes (loadImage_sizes hs), recomputeWear_sizes ]

theorem rebuildS3_sizes : WithinStatedSizes (rebuildS3 s) := by
  unfold rebuildS3
  refine judgeCache_sizes (reportHeld_sizes (replay_sizes (loadWorkingCopies_sizes ?_)))
  obtain ⟨hmerge, hctl, hspl, hsum, haudit, hevents, hlog⟩ := hs
  exact .intro hmerge hctl hspl hsum haudit hevents hlog

theorem reportWake_sizes {old : Rest} {cause : Nat} : WithinStatedSizes (reportWake s old cause) := by
  simp only [reportWake, countPower, ↓sizes, raise_sizes, hs]

theorem wakeDone_sizes : WithinStatedSizes (wakeDone s d) := by
  simp only [wakeDone, advanceTo, advance, ↓sizes, freeBelow_sizes, hs]

theorem execWakeReady_sizes : AnswersWithin (execWakeReady s) := by
  simp only [execWakeReady]
  split
  · refine .next ?_
    exact hs
  · refine .next ?_
    refine reportWake_sizes ?_
    split
    · refine .ite ?_ ?_
      · simp only [driveOn, ↓record_sizes]
        refine .ite ?_ ?_
        · refine reportHeld_sizes ?_
          simp only [↓sizes, closeRest_sizes (wakeDone_sizes hs)]
        · simp only [↓sizes, closeRest_sizes (wakeDone_sizes hs)]
      · refine .ite ?_ ?_
        · refine reportHeld_sizes ?_
          simp only [↓sizes, closeRest_sizes (wakeDone_sizes hs)]
        · simp only [↓sizes, closeRest_sizes (wakeDone_sizes hs)]
    · refine catchUpAudit_sizes (reportHeld_sizes (porterStart_sizes (judgePins_sizes (wakePress_sizes (wakeMantel_sizes ?_)))))
      simp only [driveOn, armWatchdog, ↓record_sizes]
      refine .ite ?_ ?_
      · simp only [↓record_sizes]
        refine .ite ?_ ?_
        · refine reportHeld_sizes ?_
          simp only [↓sizes, closeRest_sizes (wakeDone_sizes hs)]
        · simp only [↓sizes, closeRest_sizes (wakeDone_sizes hs)]
      · refine .ite ?_ ?_
        · refine reportHeld_sizes ?_
          simp only [↓sizes, closeRest_sizes (wakeDone_sizes hs)]
        · simp only [↓sizes, closeRest_sizes (wakeDone_sizes hs)]
    · refine porterStart_sizes (rebuildS3_sizes (judgePins_sizes (wakePress_sizes (wakeMantel_sizes ?_))))
      simp only [driveOn, armWatchdog, ↓record_sizes]
      refine .ite ?_ ?_
      · simp only [↓record_sizes]
        refine .ite ?_ ?_
        · refine reportHeld_sizes ?_
          simp only [↓sizes, closeRest_sizes (wakeDone_sizes hs)]
        · simp only [↓sizes, closeRest_sizes (wakeDone_sizes hs)]
      · refine .ite ?_ ?_
        · refine reportHeld_sizes ?_
          simp only [↓sizes, closeRest_sizes (wakeDone_sizes hs)]
        · simp only [↓sizes, closeRest_sizes (wakeDone_sizes hs)]
    · refine .ite ?_ ?_
      · refine reportHeld_sizes ?_
        simp only [↓sizes, closeRest_sizes (wakeDone_sizes hs)]
      · simp only [↓sizes, closeRest_sizes (wakeDone_sizes hs)]

theorem execMaintenanceWake_sizes : AnswersWithin (execMaintenanceWake s) := by
  unfold execMaintenanceWake
  split <;> simp only [advanceToMantel, countPower, advanceToUnits, advance, ↓sizes, beginPersist_sizes, hs]

theorem execPowerTolerance_sizes : AnswersWithin (execPowerTolerance s) := by
  simp only [execPowerTolerance]
  refine dispatch_sizes hs fun ht => ?_
  refine .ite ?_ ?_
  · refine wakeS1_sizes ?_
    simp only [doneWith, reportDone, ↓sizes, ht]
  · simp only [doneWith, reportDone, ↓sizes, ht]

theorem notePair_sizes {k : Nat} {kind : DefKind} {v : PinVerdict} : WithinStatedSizes (notePair s k kind v) := by
  simp only [notePair]
  cases v <;> simp only [↓sizes, raise_sizes, hs]

theorem judgeKind_sizes {kind : DefKind} {tested : List Nat} {readings : List Reading} :
    WithinStatedSizes (judgeKind s kind tested readings).1 := by
  refine foldl_sizes_fst (fun {a k} ha => ?_) hs
  have hpair : WithinStatedSizes (if paired s then notePair a.1 k kind (verdict s kind readings k) else a.1) :=
    .ite (notePair_sizes ha) ha
  dsimp only
  split <;> exact hpair

theorem noteDiscard_sizes {kind : DefKind} : WithinStatedSizes (noteDiscard s kind row) := by
  unfold noteDiscard
  split <;> simp only [countColl, ↓sizes, hs]

theorem testSlot_sizes {j : Nat} {widths : List Nat} {openR shortR : List Reading} :
    WithinStatedSizes (testSlot s j widths openR shortR) := by
  unfold testSlot
  simp only [↓record_sizes]
  refine .ite (noteDiscard_sizes (.ite (noteDiscard_sizes ?_) ?_)) (.ite (noteDiscard_sizes ?_) ?_) <;>
    simp only [countColl, ↓sizes, judgeKind_sizes (judgeKind_sizes hs)]

theorem wearRow_sizes {j : Nat} : WithinStatedSizes (wearRow s j widths) := by simp only [wearRow, ↓sizes, hs]

theorem declare_sizes {kind : Nat} {mv : Nat} : WithinStatedSizes (declare s kind row sink mv) := by
  unfold declare
  split <;> simp only [disable, gather, countColl, ↓sizes, raise_sizes, hs]

theorem takeDetection_sizes {x1 : Detection} : WithinStatedSizes (takeDetection s x1) := by
  simp only [takeDetection]
  split
  · refine .ite ?_ ?_
    · refine declare_sizes ?_
      simp only [↓sizes, hs]
    · simp only [↓sizes, hs]
  · split
    · exact hs
    · refine .ite ?_ ?_
      · refine .ite ?_ ?_
        · simp only [recover, gather, countColl, ↓sizes, hs]
        · simp only [↓sizes, hs]
      · simp only [↓sizes, hs]
  · refine .ite ?_ ?_
    · refine declare_sizes ?_
      simp only [takeBack, uncount, ↓sizes, hs]
    · simp only [takeBack, uncount, ↓sizes, hs]
  · split
    · exact hs
    · refine .ite ?_ ?_
      · refine .ite ?_ ?_
        · simp only [recover, gather, countColl, ↓sizes, hs]
        · simp only [↓sizes, hs]
      · exact hs
  · refine .ite ?_ ?_
    · refine declare_sizes ?_
      simp only [↓sizes, hs]
    · simp only [↓sizes, hs]
  · split
    · refine .ite ?_ ?_
      · simp only [↓sizes, hs]
      · exact hs
    · exact hs

theorem execCollatorDetection_sizes : AnswersWithin (execCollatorDetection s) := by
  unfold execCollatorDetection
  split <;> simp only [↓sizes, takeDetection_sizes, refuseBurst_sizes, hs]

theorem execDefectReportSend_sizes : AnswersWithin (execDefectReportSend s) := by
  simp only [execDefectReportSend, ↓sizes, queueReport_sizes, hs]

theorem execCollatorExclusionEnd_sizes : AnswersWithin (execCollatorExclusionEnd s) := by
  simp only [execCollatorExclusionEnd, advanceTo, advance, ↓sizes, hs]

theorem freeBound_sizes {keep : Option Nat} : WithinStatedSizes (freeBound s keep) := by
  simp only [freeBound]
  refine foldl_sizes (fun ht => ?_) ?_
  · refine .ite ?_ ?_
    · simp only [supersede, countLarder, setSlot, ↓sizes, ht]
    · exact ht
  · exact hs

theorem beginPass_sizes {p : Pass} : WithinStatedSizes (beginPass s p) := by
  simp only [beginPass]
  refine .ite ?_ ?_
  · refine raise_sizes ?_
    simp only [countBindery, ↓record_sizes]
    refine freeBound_sizes ?_
    simp only [↓record_sizes]
    refine countLane_sizes (countLane_sizes ?_)
    simp only [↓sizes, beginCopy_sizes, hs]
  · refine freeBound_sizes ?_
    simp only [countBindery, ↓record_sizes]
    refine countLane_sizes (countLane_sizes ?_)
    simp only [↓sizes, beginCopy_sizes, hs]

theorem startPass_sizes {w : PassDue} : WithinStatedSizes (startPass s w) := by
  unfold startPass
  split
  · simp only [↓sizes, hs]
  · split
    · exact beginPass_sizes hs
    · exact beginPass_sizes hs
    · exact hs

theorem startReRender_sizes : WithinStatedSizes (startReRender s) := by simp only [startReRender, ↓sizes, startPass_sizes, hs]

theorem takeReRender_sizes : WithinStatedSizes (takeReRender s) := by simp only [takeReRender, ↓sizes, startReRender_sizes, hs]

theorem afterPass_sizes {p : Pass} : WithinStatedSizes (afterPass s p) := by
  simp only [afterPass, ↓sizes, takeReRender_sizes, hs]

theorem endPass_sizes {p : Pass} : WithinStatedSizes (endPass s p) := by
  simp only [endPass, countBindery, ↓sizes, afterPass_sizes, beginCopy_sizes, hs]

theorem dropRendered_sizes {p : Pass} : WithinStatedSizes (dropRendered s p) := by
  unfold dropRendered
  split <;> simp only [countLarder, setSlot, ↓sizes, hs]

theorem abandonPass_sizes {p : Pass} {why : Half} : WithinStatedSizes (abandonPass s p why) := by
  simp only [abandonPass]
  refine .ite ?_ ?_
  · refine dropRendered_sizes (raise_sizes (beginCopy_sizes ?_))
    simp only [countBindery, ↓sizes, hs]
  · refine raise_sizes (beginCopy_sizes ?_)
    simp only [countBindery, ↓sizes, hs]

theorem execPassEnd_sizes : AnswersWithin (execPassEnd s) := by
  simp only [execPassEnd]
  split
  · refine .next ?_
    exact hs
  · refine .ite ?_ ?_
    · refine .next ?_
      exact hs
    · refine .ite ?_ ?_
      · refine .next ?_
        refine afterPass_sizes (abandonPass_sizes ?_)
        simp only [advanceTo, advance, ↓sizes, freeBelow_sizes, hs]
      · refine .next ?_
        refine endPass_sizes ?_
        simp only [advanceTo, advance, ↓sizes, freeBelow_sizes, hs]

theorem execPassAbandon_sizes : AnswersWithin (execPassAbandon s) := by
  unfold execPassAbandon
  split <;> simp only [advanceToMantel, advanceToUnits, advance, ↓sizes, afterPass_sizes, abandonPass_sizes, hs]

theorem startWaiting_sizes : WithinStatedSizes (startWaiting s seam) := by
  unfold startWaiting
  (repeat' split) <;> simp only [↓sizes, abandonPass_sizes, startPass_sizes, takeReRender_sizes, hs]

theorem execWorkingCopyLoad_sizes : AnswersWithin (execWorkingCopyLoad s) := by
  unfold execWorkingCopyLoad
  split <;> simp only [beginLoad, advanceTo, advance, ↓sizes, hs]

theorem readLoad_sizes {l : LoadSource} {f : State → State} (hf : ∀ {t}, WithinStatedSizes t → WithinStatedSizes (f t)) :
    WithinStatedSizes (readLoad s l f) := by
  have hread := hf (t := { s with arch := { s.arch with
    calibration := l.calibration, factory := l.factory, curves := l.curves } }) (by simp only [↓sizes, hs])
  obtain ⟨_, _, _, _, haudit, _, hlog⟩ := hs
  obtain ⟨hmerge, hctl, hspl, hsum, _, hevents, _⟩ := hread
  exact .intro hmerge hctl hspl hsum haudit hevents hlog

theorem takeLoad_sizes : WithinStatedSizes (takeLoad s) := by
  have himage : WithinStatedSizes (if s.bindery.loadFrom.cal then
      { readLoad s s.bindery.loadFrom loadImage with
        bindery := { (readLoad s s.bindery.loadFrom loadImage).bindery with calEventDue := true } } else s) := by
    simp only [↓sizes, readLoad_sizes hs loadImage_sizes, hs]
  have hcurves {t : State} (ht : WithinStatedSizes t) : WithinStatedSizes
      (if s.bindery.loadFrom.tables then readLoad t s.bindery.loadFrom loadCurves else t) :=
    .ite (readLoad_sizes ht fun h => by simp only [loadCurves, ↓sizes, h]) ht
  exact .ite (recomputeWear_sizes (readLoad_sizes (hcurves himage) loadFactory_sizes)) (hcurves himage)

theorem endLoad_sizes : WithinStatedSizes (endLoad s) := by
  simp only [endLoad]
  refine takeReRender_sizes ?_
  refine .ite ?_ ?_
  · refine raise_sizes ?_
    simp only [countBindery, ↓sizes, takeLoad_sizes, hs]
  · simp only [countBindery, ↓sizes, takeLoad_sizes, hs]

theorem execWorkingCopyLoadEnd_sizes : AnswersWithin (execWorkingCopyLoadEnd s) := by
  unfold execWorkingCopyLoadEnd
  split <;> simp only [advanceTo, advance, ↓sizes, endLoad_sizes, freeBelow_sizes, hs]

theorem endOverdueLoad_sizes : WithinStatedSizes (endOverdueLoad s) := by
  unfold endOverdueLoad
  split <;> simp only [↓sizes, endLoad_sizes, hs]

theorem overDue_sizes {keep : Option Nat} {f : Nat → State → State}
    (hf : ∀ {i t}, WithinStatedSizes t → WithinStatedSizes (f i t)) : WithinStatedSizes (overDue s seam keep f) :=
  foldl_sizes (fun ht => .ite (hf ht) ht) hs

theorem takeDue_sizes : WithinStatedSizes (takeDue s seam).1 := by
  have hdrop : WithinStatedSizes { s with
      larder := { s.larder with dropped := s.larder.dropped.filter fun d => decide (seam < d.2) } } := by
    simp only [↓sizes, hs]
  have hover {keep : Option Nat} : WithinStatedSizes (overDue { s with
      larder := { s.larder with dropped := s.larder.dropped.filter fun d => decide (seam < d.2) } } seam keep
      fun i a => supersede a i) := overDue_sizes hdrop fun hu => by simp only [supersede, setSlot, countLarder, ↓sizes, hu]
  have hempty {keep : Option Nat} : WithinStatedSizes (overDue { s with
      larder := { s.larder with dropped := s.larder.dropped.filter fun d => decide (seam < d.2) } } seam keep
      fun i a => setSlot a i Slot.empty) := overDue_sizes hdrop fun hu => by simp only [setSlot, ↓sizes, hu]
  unfold takeDue
  dsimp only
  split
  · simp only [setSlot, ↓sizes, freeBound_sizes, hover]
  · simp only [countHold, countLarder, ↓sizes, hempty, hdrop]

theorem dropLate_sizes : WithinStatedSizes (dropLate s seam) :=
  overDue_sizes hs fun ht => by simp only [countLate, countLarder, setSlot, ↓sizes, ht]

theorem clearPass_sizes : WithinStatedSizes (clearPass s) := by
  simp only [clearPass]
  split
  · simp only [↓record_sizes]
    split
    · exact abandonPass_sizes hs
    · exact hs
  · refine .ite ?_ ?_
    · refine abandonPass_sizes ?_
      simp only [↓record_sizes]
      split
      · exact abandonPass_sizes hs
      · exact hs
    · simp only [countBindery, ↓record_sizes]
      split
      · exact abandonPass_sizes hs
      · exact hs

theorem renderPass_sizes : WithinStatedSizes (renderPass s seam taken first) := by
  simp only [renderPass]
  refine .ite ?_ ?_
  · refine .ite ?_ ?_
    · refine .ite ?_ ?_
      · simp only [countHold, countBindery, countLarder, ↓sizes, hs]
      · simp only [countHold, countLarder, ↓sizes, hs]
    · exact hs
  · refine .ite ?_ ?_
    · exact startPass_sizes (clearPass_sizes hs)
    · exact hs

theorem applyFzLevel_sizes : WithinStatedSizes (applyFzLevel s) := by
  unfold applyFzLevel
  split <;> simp only [setLevel, ↓sizes, hs]

theorem fireAt_sizes : WithinStatedSizes (fireAt s seam first).1 := by
  unfold fireAt
  split
  · exact fireCues_sizes hs
  · exact hs

theorem renderShow_sizes {fired : Fired} : WithinStatedSizes (renderShow s seam taken fired first) := by
  simp only [renderShow]
  simp only [↓record_sizes]
  refine judgeCache_sizes (chooseTarget_sizes (applyLegacy_sizes (applyFzLevel_sizes ?_)))
  split
  · exact startLevel_sizes (levelTo_sizes (sourceTo_sizes (formEstimate_sizes hs)))
  · exact levelTo_sizes (sourceTo_sizes (formEstimate_sizes hs))

theorem renderPoint_sizes : WithinStatedSizes (renderPoint s seam) := by
  have htaken {t : State} (ht : WithinStatedSizes t) : WithinStatedSizes
      (if s.screen.firstSeam.isNone || regionsBusy t then (t, none) else takeDue t seam).1 := by
    split
    · exact ht
    · exact takeDue_sizes ht
  unfold renderPoint
  refine noteLit_sizes (choosePower_sizes (renderPass_sizes (renderShow_sizes (htaken (fireAt_sizes ?_)))))
  refine .ite (dropLate_sizes ?_) (.ite (restoreShow_sizes ?_) ?_) <;> simp only [↓sizes, hs]

theorem execFirstLight_sizes : AnswersWithin (execFirstLight s) := by
  unfold execFirstLight
  split <;> simp only [advanceToSeam, advanceToUnits, advance, ↓sizes, raise_sizes, hs]

theorem moveTrims_sizes : WithinStatedSizes (moveTrims s widths) := by simp only [moveTrims, ↓sizes, freeValue_sizes, hs]

theorem takeTiming_sizes {p : PendingSet} : WithinStatedSizes (takeTiming s p) := by
  simp only [takeTiming, ↓sizes, startReRender_sizes, hs]

theorem execTimingSet_sizes : AnswersWithin (execTimingSet s) := dispatch_sizes hs fun ht => takeTiming_sizes ht

theorem dropOlder_sizes : WithinStatedSizes (dropOlder s) := by
  simp only [dropOlder]
  refine foldl_sizes (fun ht => ?_) ?_
  · simp only [countDrop, countPress, ↓sizes, ht]
  · simp only [↓sizes, hs]

theorem raiseTrims_sizes {trims : List Nat} : WithinStatedSizes (raiseTrims s trims) := by
  simp only [raiseTrims]
  refine foldl_sizes (fun ht => ?_) ?_
  · refine .ite ?_ ?_
    · refine raise_sizes ?_
      simp only [countPress, ↓sizes, ht]
    · exact ht
  · exact hs

theorem applyTiming_sizes {p : PendingSet} : WithinStatedSizes (applyTiming s p) := by
  simp only [applyTiming]
  refine .ite ?_ ?_
  · refine raise_sizes (dropOlder_sizes ?_)
    simp only [countPress, ↓sizes, raiseTrims_sizes, hs]
  · simp only [countPress, reportDone, ↓record_sizes]
    refine raise_sizes (dropOlder_sizes ?_)
    simp only [↓sizes, raiseTrims_sizes, hs]

theorem execTimingSetApply_sizes : AnswersWithin (execTimingSetApply s) := by
  unfold execTimingSetApply
  split <;> simp only [advanceToSeam, advanceToMantel, advanceToUnits, advance, ↓sizes, applyTiming_sizes, hs]

theorem arrive_sizes {h : Handle} : WithinStatedSizes (arrive s h) := by
  simp only [arrive]
  refine .ite ?_ ?_
  · simp only [countDrop, countPress, ↓sizes, hs]
  · split
    · refine .ite ?_ ?_
      · simp only [countDrop, countPress, ↓sizes, hs]
      · simp only [countPress, ↓sizes, hs]
    · refine .ite ?_ ?_
      · exact hs
      · simp only [countPress, ↓sizes, hs]

theorem execHandleArrive_sizes : AnswersWithin (execHandleArrive s) := by
  unfold execHandleArrive
  (repeat' split) <;> simp only [withdraw, ↓sizes, arrive_sizes, hs]

theorem cutoff_sizes : WithinStatedSizes (cutoff s seam) := by
  simp only [cutoff]
  refine foldl_sizes (fun ht => ?_) ?_
  · simp only [countDrop, countPress, ↓sizes, ht]
  · simp only [↓record_sizes]
    refine dropOlder_sizes ?_
    split
    · refine .ite ?_ ?_
      · simp only [↓sizes, hs]
      · exact hs
    · exact hs

theorem execPlateCutoff_sizes : AnswersWithin (execPlateCutoff s) := by
  simp only [execPlateCutoff, advanceToMantel, advanceToUnits, advance, ↓sizes, cutoff_sizes, hs]

theorem quireOnLight_sizes : WithinStatedSizes (quireOnLight s q) := by
  simp only [quireOnLight, countLarder, ↓sizes, raise_sizes, judgeCache_sizes, hs]

theorem presentSlot_sizes : WithinStatedSizes (presentSlot s k) := by simp only [presentSlot, ↓sizes, hs]

theorem putOnLight_sizes {h : Handle} : WithinStatedSizes (putOnLight s h) := by
  unfold putOnLight
  (repeat' split) <;> simp only [countPress, ↓sizes, quireOnLight_sizes, presentSlot_sizes, hs]

theorem markSync_sizes : WithinStatedSizes (markSync s) := by simp only [markSync, send, ↓sizes, hs]

theorem noteSeamError_sizes : WithinStatedSizes (noteSeamError s errorPs) := by
  unfold noteSeamError
  split <;> simp only [trackPll, countPress, ↓sizes, raise_sizes, hs]

theorem startRefresh_sizes : WithinStatedSizes (startRefresh s seam errorPs) := by
  simp only [startRefresh]
  refine startWaiting_sizes ?_
  split
  · refine markSync_sizes ?_
    simp only [endTests, seamReleases, countPress, ↓record_sizes]
    refine noteSeamError_sizes ?_
    simp only [↓record_sizes]
    split
    · refine putOnLight_sizes ?_
      simp only [↓sizes, cutoff_sizes, hs]
    · simp only [↓sizes, cutoff_sizes, hs]
  · simp only [endTests, seamReleases, countPress, ↓record_sizes]
    refine noteSeamError_sizes ?_
    simp only [↓record_sizes]
    split
    · refine putOnLight_sizes ?_
      simp only [↓sizes, cutoff_sizes, hs]
    · simp only [↓sizes, cutoff_sizes, hs]

theorem endHold_sizes : WithinStatedSizes (endHold s) := by simp only [endHold, ↓sizes, raise_sizes, hs]

theorem endPassedHold_sizes : WithinStatedSizes (endPassedHold s) := by simp only [endPassedHold, ↓sizes, endHold_sizes, hs]

theorem execRefreshSeam_sizes : AnswersWithin (execRefreshSeam errorPs s) := by
  simp only [execRefreshSeam, advanceToSeam, advanceToUnits, advance, ↓sizes, startRefresh_sizes, endPassedHold_sizes, hs]

theorem runSlot_sizes {j : Nat} {openR shortR : List Reading} : WithinStatedSizes (runSlot s j openR shortR) := by
  simp only [runSlot, countColl, ↓sizes, wearRow_sizes, moveTrims_sizes, testSlot_sizes, hs]

theorem execRowSlot_sizes {readings : SlotReadings} {irefOpen : BitVec 4} : AnswersWithin (execRowSlot readings irefOpen s) := by
  unfold execRowSlot
  simp only [noteIref, advanceToMantel, advanceToUnits, advance, ↓sizes, runSlot_sizes, hs]

theorem execDelayLineUnlock_sizes {atTop : Bool} : AnswersWithin (execDelayLineUnlock sink atTop s) := by
  simp only [execDelayLineUnlock, countPress, ↓sizes, raise_sizes, hs]

theorem execDelayLineRelock_sizes : AnswersWithin (execDelayLineRelock sink s) := by
  simp only [execDelayLineRelock, ↓sizes, raise_sizes, freeBelow_sizes, hs]

theorem execPclkLoss_sizes : AnswersWithin (execPclkLoss s) := by
  simp only [execPclkLoss, haltPress, countPress, ↓sizes, forceDark_sizes, rowCutOff_sizes, hs]

theorem execPclkRestore_sizes : AnswersWithin (execPclkRestore s) := by
  simp only [execPclkRestore, ↓sizes, releaseDark_sizes, lockLines_sizes, hs]

theorem execFeedLossPolicy_sizes : AnswersWithin (execFeedLossPolicy s) := by
  simp only [execFeedLossPolicy]
  refine dispatch_sizes hs fun ht => ?_
  simp only [doneWith, reportDone, ↓sizes, judgeCache_sizes, ht]

theorem execFeedLossExpiry_sizes : AnswersWithin (execFeedLossExpiry s) := by
  unfold execFeedLossExpiry
  split <;> simp only [loseFeed, countLarder, ↓sizes, advanceTo_sizes, raise_sizes, hs]

theorem execFeedLossHoldEnd_sizes : AnswersWithin (execFeedLossHoldEnd s) := by
  simp only [execFeedLossHoldEnd, ↓sizes, advanceTo_sizes, hs]

theorem execPresentationDelay_sizes : AnswersWithin (execPresentationDelay s) := by
  simp only [execPresentationDelay]
  refine dispatch_sizes hs fun ht => ?_
  simp only [doneWith, reportDone, ↓sizes, ht]

theorem spoilPass_sizes {hit : Pass → Bool} : WithinStatedSizes (spoilPass s hit) := by
  unfold spoilPass
  split <;> simp only [↓sizes, abandonPass_sizes, hs]

theorem spoilWaiting_sizes : WithinStatedSizes (spoilWaiting s k) := by
  unfold spoilWaiting
  split <;> simp only [countHold, countLarder, ↓sizes, hs]

theorem dropSlot_sizes : WithinStatedSizes (dropSlot s k) := by
  simp only [dropSlot, setSlot, ↓sizes, spoilWaiting_sizes, spoilPass_sizes, hs]

theorem reloadRegion_sizes : WithinStatedSizes (reloadRegion s) := by
  simp only [reloadRegion, ↓sizes, freeBelow_sizes, spoilPass_sizes, hs]

theorem freeIndex_sizes : WithinStatedSizes (freeIndex s n).2 := freeBelow_sizes hs

theorem spoilBank_sizes : WithinStatedSizes (spoilBank s) := by simp only [spoilBank, ↓sizes, freeIndex_sizes, hs]

theorem spoilCache_sizes : WithinStatedSizes (spoilCache s off) := by
  simp only [spoilCache, countBindery, ↓sizes, freeIndex_sizes, hs]

theorem dropHeld_sizes : WithinStatedSizes (dropHeld s m) := by
  unfold dropHeld
  split <;> simp only [setChannel, ↓sizes, raise_sizes, hs]

theorem spoilCell_sizes : WithinStatedSizes (spoilCell s) := by
  simp only [spoilCell]
  split
  · exact dropHeld_sizes (freeIndex_sizes hs)
  · exact freeIndex_sizes hs

theorem spoilReport_sizes : WithinStatedSizes (spoilReport s) := by
  simp only [spoilReport, ↓sizes, admitWaiting_sizes, freeIndex_sizes, hs]

theorem spoilEvent_sizes : WithinStatedSizes (spoilEvent s) := by
  obtain ⟨hmerge, hctl, hspl, hsum, haudit, hevents, hlog⟩ := hs
  exact .intro hmerge hctl hspl hsum haudit ((List.length_eraseIdx_le _ _).trans hevents) hlog

theorem spoilRegion_sizes : WithinStatedSizes (spoilRegion s region off) := by
  unfold spoilRegion
  split <;> simp only [darkenPlate, restoreWear, ↓sizes, dropSlot_sizes, reloadRegion_sizes, spoilBank_sizes,
    spoilCache_sizes, spoilCell_sizes, spoilReport_sizes, hs]

theorem noteError_sizes {off : Word} : WithinStatedSizes (noteError s region off) := by
  simp only [noteError, countLarder, ↓sizes, raise_sizes, spoilEvent_sizes, hs]

theorem execWatermarkReport_sizes {queue : BitVec 2} : AnswersWithin (execWatermarkReport queue s) := by
  unfold execWatermarkReport
  (repeat' split) <;> simp only [reportWatermark, ↓sizes, advanceTo_sizes, raise_sizes, hs]

theorem execEventReportForm_sizes : AnswersWithin (execEventReportForm s) := by
  have hdrop : WithinStatedSizes { s with larder := { s.larder with events := s.larder.events.drop 63 } } := by
    obtain ⟨hmerge, hctl, hspl, hsum, haudit, hevents, hlog⟩ := hs
    exact .intro hmerge hctl hspl hsum haudit ((List.drop_sublist _ _).length_le.trans hevents) hlog
  exact .ite (.next (queueReport_sizes hdrop)) (.next hs)

theorem summarise_sizes {role : Nat} {outcome : Nat} : WithinStatedSizes (summarise s role n outcome reason) := by
  simp only [summarise, ↓sizes, refuseBurst_sizes, raise_sizes, auditWrite_sizes, hs]

theorem auditSummaries_sizes : WithinStatedSizes (auditSummaries s) := by
  simp only [auditSummaries]
  refine .ite ?_ ?_
  · exact hs
  · simp only [↓record_sizes]
    refine foldl_sizes (fun ht => ?_) ?_
    · exact summarise_sizes (summarise_sizes ht)
    · exact hs

theorem lossSummary_sizes : WithinStatedSizes (lossSummary s) := by simp only [lossSummary, ↓sizes, raise_sizes, hs]

theorem plateSummary_sizes : WithinStatedSizes (plateSummary s) := by simp only [plateSummary, ↓sizes, raise_sizes, hs]

theorem discardSummary_sizes : WithinStatedSizes (discardSummary s) := by simp only [discardSummary, ↓sizes, raise_sizes, hs]

theorem despiteSummary_sizes : WithinStatedSizes (despiteSummary s) := by simp only [despiteSummary, ↓sizes, raise_sizes, hs]

theorem leafSummary_sizes : WithinStatedSizes (leafSummary s) := by simp only [leafSummary, ↓sizes, raise_sizes, hs]

theorem portSummary_sizes : WithinStatedSizes (portSummary s) := by
  simp only [portSummary, ↓sizes, queueLink_sizes (setPort_sizes (setPort_sizes hs)), setPort_sizes (setPort_sizes hs) ]

theorem endSecond_sizes : WithinStatedSizes (endSecond s) := by
  simp only [endSecond, ↓sizes, portSummary_sizes (leafSummary_sizes (despiteSummary_sizes (discardSummary_sizes
    (plateSummary_sizes (lossSummary_sizes (auditSummaries_sizes hs)))))) ]

theorem execReportSecondEnd_sizes : AnswersWithin (execReportSecondEnd s) := by
  simp only [execReportSecondEnd, advanceTo, advance, ↓sizes, endSecond_sizes, hs]

theorem execAsymmetrySet_sizes : AnswersWithin (execAsymmetrySet s) := by
  simp only [execAsymmetrySet]
  refine dispatch_sizes hs fun ht => ?_
  refine .ite ?_ ?_
  · simp only [doneWith, reportDone, ↓sizes, ht]
  · refine .ite ?_ ?_
    · simp only [doneWith, reportDone, ↓sizes, ht]
    · simp only [doneWith, reportDone, ↓sizes, ht]

theorem takeLock_sizes : WithinStatedSizes (takeLock s l) := by simp only [takeLock, ↓sizes, setLock_sizes, hs]

theorem toAcquiring_sizes : WithinStatedSizes (toAcquiring s) := by simp only [toAcquiring, ↓sizes, takeLock_sizes, hs]

theorem nameSource_sizes {x : TimeSource} : WithinStatedSizes (nameSource s x) := by
  simp only [nameSource, ↓sizes, toAcquiring_sizes, hs]

theorem execTimeSourceRingMaster_sizes : AnswersWithin (execTimeSourceRingMaster s) := by
  simp only [execTimeSourceRingMaster]
  refine dispatchIf_sizes hs fun ht => ?_
  simp only [doneWith, reportDone, ↓sizes, nameSource_sizes, ht]

theorem execTimeSourceSyncIn_sizes : AnswersWithin (execTimeSourceSyncIn s) := by
  simp only [execTimeSourceSyncIn]
  refine dispatchIf_sizes hs fun ht => ?_
  refine .ite ?_ ?_
  · simp only [doneWith, reportDone, ↓sizes, nameSource_sizes, ht]
  · simp only [doneWith, reportDone, ↓sizes, ht]

theorem execTimeSourceFreeRun_sizes : AnswersWithin (execTimeSourceFreeRun s) := by
  simp only [execTimeSourceFreeRun]
  refine dispatchIf_sizes hs fun ht => ?_
  simp only [doneWith, toFree, reportDone, ↓sizes, takeLock_sizes, ht]

theorem servoRate_sizes : WithinStatedSizes (servoRate s).2 := by
  unfold servoRate
  split <;> simp only [freeBelow, ↓sizes, hs]

theorem slewFor_sizes : WithinStatedSizes (slewFor s o).2 := by simp only [slewFor, freeBelow_sizes, hs]

theorem servo_sizes : WithinStatedSizes (servo s o) := by simp only [servo, ↓sizes, slewFor_sizes, servoRate_sizes, hs]

theorem countLock_sizes : WithinStatedSizes (countLock s o) := by simp only [countLock, ↓sizes, takeLock_sizes, hs]

theorem steer_sizes : WithinStatedSizes (steer s o) := by
  simp only [steer]
  refine .ite ?_ ?_
  · exact hs
  · refine .ite ?_ ?_
    · split
      · refine toAcquiring_sizes ?_
        simp only [↓sizes, hs]
      · refine takeLock_sizes ?_
        simp only [↓sizes, hs]
      · simp only [↓sizes, hs]
    · refine .ite ?_ ?_
      · simp only [askStep, ↓record_sizes]
        split
        · refine toAcquiring_sizes ?_
          simp only [↓sizes, hs]
        · refine takeLock_sizes ?_
          simp only [↓sizes, hs]
        · simp only [↓sizes, hs]
      · refine .ite ?_ ?_
        · refine .ite ?_ ?_
          · simp only [askStep, ↓record_sizes]
            split
            · refine toAcquiring_sizes ?_
              simp only [↓sizes, hs]
            · refine takeLock_sizes ?_
              simp only [↓sizes, hs]
            · simp only [↓sizes, hs]
          · simp only [↓record_sizes]
            split
            · refine toAcquiring_sizes ?_
              simp only [↓sizes, hs]
            · refine takeLock_sizes ?_
              simp only [↓sizes, hs]
            · simp only [↓sizes, hs]
        · refine countLock_sizes (servo_sizes ?_)
          simp only [↓record_sizes]
          split
          · refine toAcquiring_sizes ?_
            simp only [↓sizes, hs]
          · refine takeLock_sizes ?_
            simp only [↓sizes, hs]
          · simp only [↓sizes, hs]

theorem moveTo_sizes {missed : Nat} : WithinStatedSizes (moveTo s p missed) := by
  simp only [moveTo, countMantel, ↓sizes, raise_sizes, hs]

theorem judgeDirection_sizes {before : Nat} : WithinStatedSizes (judgeDirection s p before) := by
  simp only [judgeDirection, ↓sizes, moveTo_sizes, hs]

theorem judgeDifference_sizes : WithinStatedSizes (judgeDifference s) := by simp only [judgeDifference, ↓sizes, raise_sizes, hs]

theorem measure_sizes {ms : Int} : WithinStatedSizes (measure s p ms) := by
  simp only [measure]
  refine .ite ?_ ?_
  · refine steer_sizes (judgeDirection_sizes (judgeDifference_sizes ?_))
    simp only [countMantel, ↓sizes, setSync_sizes, hs]
  · refine judgeDirection_sizes (judgeDifference_sizes ?_)
    simp only [countMantel, ↓sizes, setSync_sizes, hs]

theorem completeSync_sizes {t1 : Int} {t2 : Int} {ingress : Int} {c : Int} : WithinStatedSizes (completeSync s p t1 t2 ingress
    c) := by
  simp only [completeSync, ↓sizes, setSync_sizes, measure_sizes, hs]

theorem strangeMaster_sizes : WithinStatedSizes (strangeMaster s h) := by
  unfold strangeMaster
  simp only [countMantel, ↓sizes, raise_sizes, hs]

theorem takeSync_sizes : WithinStatedSizes (takeSync s p h logInterval twoStep t1 t2) := by
  simp only [takeSync, countMantel, ↓sizes, setSync_sizes, completeSync_sizes, hs]

theorem execSync_sizes : AnswersWithin (execSync p h logInterval twoStep t1 t2 s) := by
  unfold execSync
  split <;> simp only [countMantel, ↓sizes, strangeMaster_sizes, takeSync_sizes, hs]

theorem execFollowUp_sizes : AnswersWithin (execFollowUp p h t1 s) := by
  unfold execFollowUp
  split <;> simp only [↓sizes, completeSync_sizes, hs]

theorem execDelayResp_sizes {reqIdentity : Long} {reqPort : BitVec 16} {t4 : Nat} : AnswersWithin (execDelayResp p h reqIdentity
    reqPort t4 s) := by
  simp only [execDelayResp]
  split
  · refine .ite ?_ ?_
    · refine .next ?_
      exact measure_sizes (setSync_sizes hs)
    · refine .next ?_
      exact hs
  · refine .next ?_
    exact hs

theorem execDelayReqSend_sizes : AnswersWithin (execDelayReqSend p s) := by
  simp only [execDelayReqSend, advanceTo, advance, ↓sizes, queueOwn_sizes, setSync_sizes, hs]

theorem takeEdge_sizes {rate : Nat} : WithinStatedSizes (takeEdge s stamp rate) := by
  simp only [takeEdge, countMantel, ↓sizes, steer_sizes, hs]

theorem execSyncInEdge_sizes : AnswersWithin (execSyncInEdge stamp s) := by
  unfold execSyncInEdge
  split <;> simp only [↓sizes, takeEdge_sizes, hs]

theorem execMasterLossTimeout_sizes : AnswersWithin (execMasterLossTimeout s) := by
  unfold execMasterLossTimeout
  split <;> simp only [advanceTo, advance, ↓sizes, enterHoldover_sizes, hs]

theorem discardQuires_sizes {far : Bool} : WithinStatedSizes (discardQuires s far) := by
  simp only [discardQuires]
  refine foldl_sizes (fun ht => ?_) ?_
  · refine .ite ?_ ?_
    · simp only [supersede, dropPlate, countLarder, setSlot, ↓sizes, ht]
    · exact ht
  · exact hs

theorem stepBack_sizes : WithinStatedSizes (stepBack s j) := by
  simp only [stepBack]
  refine .ite ?_ ?_
  · refine .ite ?_ ?_
    · simp only [↓sizes, hs]
    · refine raise_sizes ?_
      simp only [countMantel, ↓sizes, hs]
  · refine judgeCache_sizes (endLevel_sizes (cutSource_sizes ?_))
    simp only [countMantel, ↓record_sizes]
    refine discardQuires_sizes (raise_sizes ?_)
    simp only [↓sizes, endHold_sizes, hs]

theorem stepForward_sizes : WithinStatedSizes (stepForward s j) := by
  simp only [stepForward]
  refine discardQuires_sizes (raise_sizes ?_)
  simp only [↓sizes, endHold_sizes, hs]

theorem applyStep_sizes : WithinStatedSizes (applyStep s j) := by
  simp only [applyStep, openGap, countMantel, countPress, ↓sizes, stepForward_sizes, stepBack_sizes, hs]

theorem applySetAt_sizes {was : State} : WithinStatedSizes (applySetAt s was seam) := by
  unfold applySetAt
  split <;> simp only [↓sizes, applyTiming_sizes, hs]

theorem execHoldEnd_sizes : AnswersWithin (execHoldEnd s) := by simp only [execHoldEnd, advance, ↓sizes, endHold_sizes, hs]

theorem execRtcSet_sizes : AnswersWithin (execRtcSet s) := by simp only [execRtcSet, ↓sizes, advanceTo_sizes, hs]

theorem censusRefused_sizes {id : Word} : WithinStatedSizes (censusRefused s chan seq no id reason) := by
  simp only [censusRefused, reportDone, countMantel, ↓sizes, raise_sizes, hs]

theorem armCensus_sizes : WithinStatedSizes (armCensus m s) := by
  simp only [armCensus, doneWith, reportDone, ↓sizes, censusRefused_sizes, markDispatched_sizes, hs]

theorem execCensusAt_sizes : AnswersWithin (execCensusAt s) := dispatch_sizes hs armCensus_sizes

theorem ageBank_sizes : WithinStatedSizes (ageBank s) := by
  unfold ageBank
  split <;> simp only [↓sizes, raise_sizes, hs]

theorem ageIfDue_sizes : WithinStatedSizes (ageIfDue s) := by
  unfold ageIfDue
  split <;> simp only [↓sizes, ageBank_sizes, hs]

theorem judgeCensus_sizes {c : ArmedCensus} : WithinStatedSizes (judgeCensus s c) := by
  simp only [judgeCensus, latchBank, ↓sizes, censusRefused_sizes, ageIfDue_sizes, hs]

theorem takeCensus_sizes {c : ArmedCensus} : WithinStatedSizes (takeCensus s c) := by
  simp only [takeCensus, ↓sizes, judgeCensus_sizes, hs]

theorem execCensusLatch_sizes : AnswersWithin (execCensusLatch s) := by
  unfold execCensusLatch
  split <;> simp only [advanceToMantel, advanceToUnits, advance, ↓sizes, takeCensus_sizes, hs]

theorem execCensusCopyDone_sizes : AnswersWithin (execCensusCopyDone s) := by
  unfold execCensusCopyDone
  (repeat' split) <;> simp only [reportDone, ↓sizes, hs]

theorem execCensusAge_sizes : AnswersWithin (execCensusAge s) := by
  unfold execCensusAge
  split <;> simp only [advanceTo, advance, ↓sizes, ageBank_sizes, hs]

theorem censusRead_sizes : WithinStatedSizes (censusRead m s) := by
  simp only [censusRead]
  split
  · simp only [answerWith, reportDone, ↓sizes, hs]
  · refine .ite ?_ ?_
    · simp only [answerWith, reportDone, ↓sizes, hs]
    · split
      · simp only [answerWith, reportDone, ↓sizes, hs]
      · simp only [answerWith, reportDone, ↓sizes, hs]

theorem execCensusRead_sizes : AnswersWithin (execCensusRead s) := dispatch_sizes hs censusRead_sizes

theorem execTripInputAssert_sizes {inWindow : Bool} {returned : Bool} : AnswersWithin (execTripInputAssert id inWindow returned
    s) := by
  unfold execTripInputAssert
  split <;> simp only [countPress, setInput, ↓sizes, tripEffect_sizes, hs]

theorem execTripInputDeassert_sizes : AnswersWithin (execTripInputDeassert id s) := by
  simp only [execTripInputDeassert, setInput, ↓sizes, hs]

theorem endEpisode_sizes : WithinStatedSizes (endEpisode s id) := by simp only [endEpisode, setInput, ↓sizes, raise_sizes, hs]

theorem execTripEpisodeEnd_sizes : AnswersWithin (execTripEpisodeEnd id s) := by
  simp only [execTripEpisodeEnd, advanceTo, advance, ↓sizes, endEpisode_sizes, hs]

theorem execTripClear_sizes : AnswersWithin (execTripClear s) := by
  simp only [execTripClear]
  refine dispatch_sizes hs fun ht => ?_
  refine .ite ?_ ?_
  · simp only [doneWith, reportDone, ↓sizes, ht]
  · simp only [↓sizes, ht]

omit hs in
theorem clearInput_sizes {a : State × Bool} {id : Nat} (ha : WithinStatedSizes a.1) : WithinStatedSizes (clearInput a id).1 := by
  unfold clearInput
  dsimp only
  split
  · split
    · simp only [countPress, ↓sizes, ha]
    · exact endEpisode_sizes (by simp only [countPress, setInput, ↓sizes, ha])
  · exact ha

theorem execTripClearRelease_sizes : AnswersWithin (execTripClearRelease s) := by
  unfold execTripClearRelease
  split
  · exact .next hs
  · next c rest _ =>
    have hclear : WithinStatedSizes (((List.range 8).filter fun id => c.mask.getLsbD id).foldl clearInput
        (atSeam { s with prot := { s.prot with clears := rest } } c.due, false)).1 :=
      foldl_sizes_fst clearInput_sizes (by simp only [atSeam, advanceToSeam, advanceToUnits, advance, ↓sizes, hs])
    simp only [reportDone, ↓sizes, hclear, hs]

theorem execForceOutput_sizes : AnswersWithin (execForceOutput s) := by
  simp only [execForceOutput]
  refine dispatchIf_sizes hs fun ht => ?_
  refine .ite ?_ ?_
  · refine wakeS1_sizes ?_
    simp only [waitForce, ↓sizes, ht]
  · simp only [waitForce, ↓sizes, ht]

theorem execForceOutputRelease_sizes : AnswersWithin (execForceOutputRelease s) := by
  simp only [execForceOutputRelease]
  refine dispatchIf_sizes hs fun ht => ?_
  simp only [waitForce, ↓sizes, ht]

theorem execForceSetApply_sizes : AnswersWithin (execForceSetApply s) := by
  unfold execForceSetApply
  split <;>
    simp only [atSeam, countPress, reportDone, advanceToSeam, advanceToUnits, advance, ↓sizes, wakeForced_sizes, raise_sizes,
      hs]

theorem execForceLimitExpire_sizes : AnswersWithin (execForceLimitExpire s) := by
  unfold execForceLimitExpire
  split <;> simp only [countPress, atSeam, advanceToSeam, advanceToUnits, advance, ↓sizes, raise_sizes, hs]

theorem execJtagEnable_sizes : AnswersWithin (execJtagEnable s) := by
  simp only [execJtagEnable]
  refine dispatchIf_sizes hs fun ht => ?_
  simp only [doneWith, reportDone, ↓sizes, raise_sizes, ht]

theorem execJtagDisable_sizes : AnswersWithin (execJtagDisable s) := by
  simp only [execJtagDisable]
  refine dispatchIf_sizes hs fun ht => ?_
  simp only [doneWith, reportDone, ↓sizes, endJtag_sizes, ht]

theorem execJtagEnableExpire_sizes : AnswersWithin (execJtagEnableExpire s) := by
  unfold execJtagEnableExpire
  split <;> simp only [advanceTo, advance, ↓sizes, endJtag_sizes, hs]

theorem freezePress_sizes {blank : Bool} : WithinStatedSizes (freezePress s blank) := by
  simp only [freezePress, ↓sizes, rowCutOff_sizes, hs]

theorem driveByp_sizes : WithinStatedSizes (driveByp s) := by simp only [driveByp, setByp_sizes, hs]

theorem enterInstr_sizes {x1 : TapInstr} : WithinStatedSizes (enterInstr s x1) := by
  unfold enterInstr
  split <;> simp only [countPress, ↓sizes, driveByp_sizes, freezePress_sizes, setByp_sizes, raise_sizes, hs]

theorem loadCode_sizes {code : BitVec 5} : AnswersWithin (loadCode code s) := by
  simp only [loadCode]
  refine .ite ?_ ?_
  · refine .next ?_
    exact hs
  · refine .ite ?_ ?_
    · refine .next ?_
      exact endInstr_sizes hs
    · refine .next ?_
      refine enterInstr_sizes ?_
      simp only [↓record_sizes]
      refine .ite ?_ ?_
      · refine leaveInstrBy_sizes ?_ raise_sizes
        exact hs
      · exact endInstr_sizes hs

theorem execExtest_sizes : AnswersWithin (execExtest s) := by simp only [execExtest, loadCode_sizes, hs]

theorem execSamplePreload_sizes : AnswersWithin (execSamplePreload s) := by simp only [execSamplePreload, loadCode_sizes, hs]

theorem execHighz_sizes : AnswersWithin (execHighz s) := by simp only [execHighz, loadCode_sizes, hs]

theorem execFreeze_sizes : AnswersWithin (execFreeze s) := by simp only [execFreeze, loadCode_sizes, hs]

theorem execBypass_sizes : AnswersWithin (execBypass s) := by simp only [execBypass, loadCode_sizes, hs]

theorem execTapReset_sizes : AnswersWithin (execTapReset s) := by simp only [execTapReset, ↓sizes, endInstr_sizes, hs]

theorem execUpdateDr_sizes {cells : BitVec 294} : AnswersWithin (execUpdateDr cells s) := by
  simp only [execUpdateDr, ↓sizes, driveByp_sizes, hs]

theorem execCaptureDr_sizes {pins : BitVec 294} : AnswersWithin (execCaptureDr pins s) := by
  simp only [execCaptureDr, ↓sizes, hs]

theorem effectiveBits_sizes : WithinStatedSizes (effectiveBits s).2 := by
  unfold effectiveBits
  dsimp only
  split <;> simp only [freeBelow, ↓sizes, hs]

theorem pressItem_sizes : WithinStatedSizes (pressItem s).2 := by simp only [pressItem, effectiveBits_sizes, hs]

theorem queryItem_sizes {item : Nat} {arg : Word} : WithinStatedSizes (queryItem s item arg).2 := by
  unfold queryItem
  split
  case h_10 => exact pressItem_sizes hs
  case h_13 => exact freeValue_sizes hs
  case h_8 | h_14 => split <;> exact hs
  all_goals exact hs

theorem queryAt_sizes : WithinStatedSizes (queryAt m s) := by
  simp only [queryAt, answerWith, reportDone, ↓sizes, queryItem_sizes, hs]

theorem execQuery_sizes : AnswersWithin (execQuery s) := dispatch_sizes hs queryAt_sizes

theorem execWatchdogKick_sizes : AnswersWithin (execWatchdogKick s) := by simp only [execWatchdogKick, ↓sizes, hs]

theorem execWatchdogWarning_sizes : AnswersWithin (execWatchdogWarning s) := by
  simp only [execWatchdogWarning, countCellar, ↓sizes, raise_sizes, advanceTo_sizes, hs]

theorem execTamperSample_sizes {isOpen : Bool} : AnswersWithin (execTamperSample isOpen s) := by
  unfold execTamperSample
  split <;> simp only [advanceTo, tamperEvent, advance, countCellar, ↓sizes, raiseCellar_sizes, hs]

theorem moveCell_sizes {new : CellState} : WithinStatedSizes (moveCell s new) := by
  simp only [moveCell, ↓sizes, raiseCellar_sizes, hs]

theorem execCellStateChange_sizes {vcellMv : Nat} {tempC : Int} {chargeNa : Nat} : AnswersWithin (execCellStateChange vcellMv
    tempC chargeNa s) := by
  simp only [execCellStateChange, ↓sizes, moveCell_sizes, hs]

theorem cellFollows_sizes : WithinStatedSizes (cellFollows s) := by simp only [cellFollows, moveCell_sizes, hs]

theorem formatAudit_sizes : WithinStatedSizes (formatAudit s) := by
  simp only [formatAudit]
  refine auditAt_sizes ?_
  obtain ⟨hmerge, hctl, hspl, hsum, _, hevents, hlog⟩ := hs
  simp only [↓record_sizes]
  exact ⟨hmerge, hctl, hspl, hsum, Nat.zero_le _, hevents, hlog⟩

theorem formatMap_sizes : WithinStatedSizes (formatMap s) := by simp only [formatMap, ↓sizes, raiseCellar_sizes, hs]

theorem skipRecord_sizes : WithinStatedSizes (skipRecord s) := by
  obtain ⟨hmerge, hctl, hspl, hsum, haudit, hevents, hlog⟩ := hs
  exact .intro hmerge hctl hspl hsum haudit hevents ((List.length_eraseIdx_le _ _).trans hlog)

theorem archiveWordLost_sizes : WithinStatedSizes (archiveWordLost s offset) := by
  unfold archiveWordLost
  split <;> simp only [formatCasePage, dropWear, ↓sizes, formatAudit_sizes, formatMap_sizes, skipRecord_sizes, hs]

theorem execArchiveEccError_sizes {w : BadWord} : AnswersWithin (execArchiveEccError w corrected s) := by
  simp only [execArchiveEccError, countCellar, ↓sizes, archiveWordLost_sizes, raiseCellar_sizes, hs]

theorem execWearPersist_sizes : AnswersWithin (execWearPersist s) := by
  simp only [execWearPersist, advanceToMantel, advanceToUnits, advance, ↓sizes, persistWear_sizes, hs]

theorem execReaderFieldPresent_sizes {reservoirPj : Nat} : AnswersWithin (execReaderFieldPresent reservoirPj s) := by
  simp only [execReaderFieldPresent, countCellar, ↓sizes, hs]

theorem execReaderFieldLoss_sizes : AnswersWithin (execReaderFieldLoss s) := by simp only [execReaderFieldLoss, ↓sizes, hs]

theorem execChallengeExpire_sizes : AnswersWithin (execChallengeExpire s) := by
  unfold execChallengeExpire
  split <;> simp only [advanceTo, advance, ↓sizes, hs]

theorem onReach_sizes {addr : ReaderAddr} {f : State → State} (hf : ∀ {t}, WithinStatedSizes t → WithinStatedSizes (f t)) :
    AnswersWithin (onReach s addr f) :=
  .next (.ite (hf hs) hs)

theorem execInventory_sizes {slots16 : Bool} {afi : Option Byte} {maskLen : Nat} {mask : Long} : AnswersWithin (execInventory
    slots16 afi maskLen mask s) := by
  simp only [execInventory]
  refine onReach_sizes hs fun ht => ?_
  refine .ite ?_ ?_
  · simp only [send, ↓sizes, ht]
  · exact ht

theorem execStayQuiet_sizes : AnswersWithin (execStayQuiet uid s) := by
  simp only [execStayQuiet]
  refine onReach_sizes hs fun ht => ?_
  simp only [↓sizes, ht]

theorem execSelect_sizes : AnswersWithin (execSelect uid s) := by simp only [execSelect, answerReader, send, ↓sizes, hs]

theorem execResetToReady_sizes : AnswersWithin (execResetToReady addr s) := by
  simp only [execResetToReady]
  refine onReach_sizes hs fun ht => ?_
  simp only [answerReader, send, ↓sizes, ht]

theorem execGetSystemInformation_sizes : AnswersWithin (execGetSystemInformation addr s) := by
  simp only [execGetSystemInformation]
  refine onReach_sizes hs fun ht => ?_
  simp only [answerReader, send, ↓sizes, ht]

theorem execReaderCommandNotSupported_sizes : AnswersWithin (execReaderCommandNotSupported s) := by
  simp only [execReaderCommandNotSupported, errorReader, send, ↓sizes, hs]

theorem spendReader_sizes {words : Nat} : WithinStatedSizes (spendReader s words) := by simp only [spendReader, ↓sizes, hs]

theorem issueChallenge_sizes {u : State} (hu : issueChallenge s = some u) : WithinStatedSizes u := by
  unfold issueChallenge at hu
  split at hu
  · obtain rfl := Option.some.inj hu
    simp only [↓sizes, spendReader_sizes hs]
  · cases hu

theorem readBlock_sizes {acc data : List Byte} {b : Nat} {u : State} (hu : readBlock s acc b = some (data, u)) :
    WithinStatedSizes u := by
  unfold readBlock at hu
  split at hu
  · cases hu
  · next t hread =>
    cases hu
    have ht : WithinStatedSizes t := by
      split at hread
      · exact issueChallenge_sizes hs hread
      · exact Option.some.inj hread ▸ hs
    simp only [countCellar, ↓sizes, ht]

omit hs in
theorem readBlocks_sizes {n b : Nat} {acc data : List Byte} {s u : State} (hs : WithinStatedSizes s)
    (hu : readBlocks n b s acc = some (data, u)) : WithinStatedSizes u := by
  induction n generalizing b s acc with
  | zero => cases hu; exact hs
  | succ n ih =>
    unfold readBlocks at hu
    split at hu
    · cases hu
    · next hread => exact ih (readBlock_sizes hs hread) hu

theorem readCase_sizes {first count : Nat} : WithinStatedSizes (readCase s first count) := by
  unfold readCase
  refine .ite (by simp only [errorReader, send, ↓sizes, hs]) (.ite (by simp only [busyReader, errorReader, countCellar, send,
    ↓sizes, hs]) ?_)
  split
  · simp only [busyReader, errorReader, countCellar, send, ↓sizes, hs]
  · next hread => simp only [answerReader, send, ↓sizes, readBlocks_sizes hs hread]

theorem execReadSingleBlock_sizes : AnswersWithin (execReadSingleBlock addr block s) :=
  onReach_sizes hs fun ht => readCase_sizes ht

theorem execReadMultipleBlocks_sizes {first : Byte} {count : Nat} : AnswersWithin (execReadMultipleBlocks addr first count s) :=
  onReach_sizes hs fun ht => readCase_sizes ht

theorem noteWrite_sizes {w : Word} {counter : Word} {outcome : Nat} : WithinStatedSizes (noteWrite s w counter outcome) := by
  simp only [noteWrite, raiseCellar_sizes, auditAt_sizes, hs]

theorem refuseWrite_sizes {w counter : Word} {code : Byte} : WithinStatedSizes (refuseWrite s w counter code) := by
  have hcount : WithinStatedSizes (countCellar s 9) := by simp only [countCellar, ↓sizes, hs]
  simp only [refuseWrite, errorReader, send, ↓sizes, noteWrite_sizes (spendReader_sizes hcount), hcount]

theorem applyWrite_sizes : WithinStatedSizes (applyWrite s data) := by
  simp only [applyWrite]
  split
  · simp only [↓sizes, hs]
  · simp only [↓sizes, hs]
  · simp only [↓sizes, hs]

theorem judgeWrite_sizes : WithinStatedSizes (judgeWrite s data) := by
  simp only [judgeWrite]
  split
  · exact refuseWrite_sizes hs
  · refine .ite ?_ ?_
    · refine refuseWrite_sizes ?_
      simp only [dropChallenge, ↓sizes, hs]
    · split
      · refine refuseWrite_sizes ?_
        simp only [dropChallenge, ↓sizes, hs]
      · refine .ite ?_ ?_
        · refine refuseWrite_sizes ?_
          simp only [dropChallenge, ↓sizes, hs]
        · refine .ite ?_ ?_
          · simp only [busyReader, countCellar, errorReader, send, ↓sizes, hs]
          · simp only [dropChallenge, countCellar, answerReader, send, ↓record_sizes]
            refine noteWrite_sizes ?_
            simp only [↓sizes, applyWrite_sizes, spendReader_sizes, hs]

theorem execWriteSingleBlock_sizes {optionFlag : Bool} : AnswersWithin (execWriteSingleBlock addr block optionFlag data s) := by
  simp only [execWriteSingleBlock]
  refine onReach_sizes hs fun ht => ?_
  refine .ite ?_ ?_
  · simp only [errorReader, send, ↓sizes, ht]
  · refine .ite ?_ ?_
    · simp only [errorReader, send, ↓sizes, ht]
    · refine .ite ?_ ?_
      · simp only [errorReader, busyReader, send, countCellar, ↓sizes, ht]
      · exact judgeWrite_sizes ht

theorem takePosition_sizes {up : BitVec 6} : WithinStatedSizes (takePosition s up) := by
  simp only [takePosition, ↓sizes, raise_sizes, hs]

theorem raiseHop_sizes {up : Bool} : WithinStatedSizes (raiseHop s up pos) := by simp only [raiseHop, raise_sizes, hs]

theorem helloPosition_sizes : WithinStatedSizes (helloPosition s).2 := by
  unfold helloPosition
  split
  · exact hs
  · split <;> simp only [freeBelow, ↓sizes, hs]

theorem trainHop_sizes {down : Bool} : WithinStatedSizes (trainHop s down) := by
  simp only [trainHop]
  refine .ite ?_ ?_
  · exact hs
  · refine foldl_sizes (fun ht => ?_) ?_
    · simp only [send, ↓sizes, ht]
    · exact helloPosition_sizes hs

theorem upstreamUp_sizes : WithinStatedSizes (upstreamUp s peerPos peerSerial) := by
  simp only [upstreamUp]
  refine raiseHop_sizes (trainHop_sizes ?_)
  refine .ite ?_ ?_
  · refine takePosition_sizes ?_
    simp only [↓sizes, hs]
  · simp only [↓sizes, hs]

theorem downstreamUp_sizes : WithinStatedSizes (downstreamUp s peerPos peerSerial) := by
  simp only [downstreamUp, setLeaf, ↓sizes, raiseHop_sizes, trainHop_sizes, hs]

theorem execLeafHopUp_sizes : AnswersWithin (execLeafHopUp upstream peerPos peerSerial s) := by
  simp only [execLeafHopUp, ↓sizes, upstreamUp_sizes, downstreamUp_sizes, hs]

theorem execLeafHopDown_sizes : AnswersWithin (execLeafHopDown upstream s) := by
  simp only [execLeafHopDown, ↓sizes, raiseHop_sizes, hs]

theorem hearHello_sizes : WithinStatedSizes (hearHello s pos serial) := by
  unfold hearHello
  split <;> simp only [setLeaf, ↓sizes, takePosition_sizes, hs]

theorem execLeafHello_sizes {sending : Bool} : AnswersWithin (execLeafHello sending pos serial s) := by
  simp only [execLeafHello, advanceTo, send, advance, ↓sizes, hearHello_sizes, hs]

theorem sendDown_sizes {type : BitVec 4} : WithinStatedSizes (sendDown s type leaf w1 payload) := by
  simp only [sendDown, send, ↓sizes, hs]

theorem carryDown_sizes : WithinStatedSizes (carryDown s leaf f) := by
  simp only [carryDown, ↓sizes, mergeUnit_sizes, sendDown_sizes, hs]

theorem execCarryDown_sizes : AnswersWithin (execCarryDown leaf u crcOk s) := by
  unfold execCarryDown
  (repeat' split) <;> simp only [send, countFz, dropPacket, ↓sizes, carryDown_sizes, hs]

theorem sendOwnUp_sizes : WithinStatedSizes (sendOwnUp s) := by
  unfold sendOwnUp
  split <;> simp only [↓sizes, admitWaiting_sizes, sendUp_sizes, hs]

theorem learnLeaf_sizes : WithinStatedSizes (learnLeaf s pos f) := by simp only [learnLeaf, setLeaf, ↓sizes, hs]

theorem execCarryUp_sizes : AnswersWithin (execCarryUp leaf f crcOk s) := by
  unfold execCarryUp
  (repeat' split) <;> simp only [dropPacket, send, countFz, ↓sizes, queueOwn_sizes, learnLeaf_sizes, sendOwnUp_sizes, hs]

theorem execLeafQueueSend_sizes : AnswersWithin (execLeafQueueSend s) := by
  unfold execLeafQueueSend
  (repeat' split) <;> simp only [send, ↓sizes, sendOwnUp_sizes, hs]

theorem execLeafTimeSend_sizes : AnswersWithin (execLeafTimeSend s) := by
  simp only [execLeafTimeSend, advanceTo, advance, ↓sizes, sendDown_sizes, hs]

theorem execTime_sizes {correction : Nat} {mantel16 : Nat} {lock : BitVec 4} : AnswersWithin (execTime correction mantel16 lock
    stamp16 residence s) := by
  simp only [execTime, takeTime, countMantel, ↓sizes, steer_sizes, sendDown_sizes, hs]

theorem execLeafTimeTimeout_sizes : AnswersWithin (execLeafTimeTimeout s) := by
  simp only [execLeafTimeTimeout, advanceTo, advance, ↓sizes, enterHoldover_sizes, hs]

theorem execPdelayReq_sizes : AnswersWithin (execPdelayReq pos stamp16 turnaround16 s) := by
  simp only [execPdelayReq, ↓sizes, sendDown_sizes, hs]

theorem execPdelayReqSend_sizes : AnswersWithin (execPdelayReqSend s) := by
  simp only [execPdelayReqSend, advanceTo, send, advance, ↓sizes, stampRing_sizes, hs]

theorem execPdelayResp_sizes {arrival16 : Nat} : AnswersWithin (execPdelayResp pos turnaround16 arrival16 s) := by
  unfold execPdelayResp
  split <;> simp only [↓sizes, hs]

theorem fzForward_sizes {type : BitVec 4} : WithinStatedSizes (fzForward s type chip w1 payload) := by
  simp only [fzForward, send, ↓sizes, hs]

theorem fzPass_sizes {type : BitVec 4} : WithinStatedSizes (fzPass s type chip w1 payload) := by
  simp only [fzPass, countFz, ↓sizes, fzForward_sizes, hs]

theorem fzShare_sizes {type : BitVec 4} : WithinStatedSizes (fzShare s type chip w1 payload) := by
  simp only [fzShare, ↓sizes, fzForward_sizes, hs]

theorem fzSlot_sizes : WithinStatedSizes (fzSlot s).2 := by
  unfold fzSlot
  dsimp only
  (repeat' split) <;> simp only [openSlot, supersede, setSlot, countLarder, ↓sizes, hs]

theorem writePixels_sizes : WithinStatedSizes (writePixels s i offset data) := by
  simp only [writePixels, setSlot, ↓sizes, countPort_sizes, hs]

theorem execPixels_sizes {chip : BitVec 7} {offset : Nat} {data : List Byte} : AnswersWithin (execPixels chip offset data s) := by
  have hshare : WithinStatedSizes (fzShare s 1 chip (BitVec.ofNat 32 offset) data) := fzShare_sizes hs
  have hslot := fzSlot_sizes hshare
  unfold execPixels
  refine .ite (.next hs) (.ite (.next (fzPass_sizes hs)) (.ite (.next (by simp only [countFz, ↓sizes, hshare])) ?_))
  split
  · next heq =>
    rw [heq] at hslot
    exact .next (writePixels_sizes hslot)
  · next heq =>
    rw [heq] at hslot
    exact .next hslot

theorem closeFrame_sizes {edge16 : Int} : WithinStatedSizes (closeFrame s edge16) := by
  simp only [closeFrame]
  split
  · simp only [↓sizes, hs]
  · refine .ite ?_ ?_
    · simp only [countLate, setSlot, countLarder, ↓sizes, hs]
    · simp only [setSlot, ↓sizes, hs]

theorem execLatch_sizes {rate : Byte} : AnswersWithin (execLatch rate frame stamp s) := by
  simp only [execLatch]
  refine .ite ?_ ?_
  · refine .next ?_
    exact hs
  · split
    · refine .next ?_
      simp only [countFz, ↓sizes, fzForward_sizes, hs]
    · refine .ite ?_ ?_
      · refine .next ?_
        refine closeFrame_sizes (takeEdge_sizes ?_)
        simp only [↓sizes, fzForward_sizes, hs]
      · refine .next ?_
        simp only [countFz, ↓sizes, fzForward_sizes, hs]

theorem takeGain_sizes : WithinStatedSizes (takeGain s level trims deadNs) := by
  simp only [takeGain, countFz, ↓sizes, takeTiming_sizes, hs]

theorem execGain_sizes : AnswersWithin (execGain chip level trims deadNs s) := by
  simp only [execGain, ↓sizes, fzPass_sizes, takeGain_sizes, fzShare_sizes, hs]

theorem execCount_sizes {n : Byte} : AnswersWithin (execCount n s) := by
  simp only [execCount, ↓sizes, fzForward_sizes, raise_sizes, hs]

theorem execStatusReq_sizes : AnswersWithin (execStatusReq chip s) := by
  simp only [execStatusReq, send, ↓sizes, fzPass_sizes, fzShare_sizes, hs]

theorem execLegacyBlockWrite_sizes : AnswersWithin (execLegacyBlockWrite s) := by
  unfold execLegacyBlockWrite
  split <;> simp only [countCellar, advanceTo, writeBlock, advance, heal, countLegacy, ↓sizes, freeBelow_sizes, hs]

theorem execLegacyHouse_sizes : AnswersWithin (execLegacyHouse s) := by
  simp only [execLegacyHouse]
  refine dispatch_sizes hs fun ht => ?_
  simp only [doneWith, writeBlock, reportDone, heal, countLegacy, ↓sizes, ht]

theorem takePacket_sizes {r : ReadAs} : WithinStatedSizes (takePacket s r slots) := by
  simp only [takePacket]
  refine .ite ?_ ?_
  · refine raise_sizes ?_
    simp only [countLegacy, ↓sizes, hs]
  · refine .ite ?_ ?_
    · simp only [countLegacy, ↓sizes, hs]
    · refine .ite ?_ ?_
      · simp only [countLegacy, ↓sizes, hs]
      · simp only [countLegacy, ↓sizes, hs]

theorem execDmxPacket_sizes {breakUs : Nat} {mabUs : Nat} {startCode : Byte} {framingErrorAt : Option Nat} : AnswersWithin
    (execDmxPacket breakUs mabUs startCode slots framingErrorAt s) := by
  simp only [execDmxPacket, countLegacy, ↓sizes, takePacket_sizes, hs]

theorem loseLegacy_sizes {which : Half} : WithinStatedSizes (loseLegacy s which) := by
  simp only [loseLegacy, countLegacy, ↓sizes, raise_sizes, hs]

theorem execDmxLoss_sizes : AnswersWithin (execDmxLoss s) := by
  simp only [execDmxLoss, advanceTo, advance, ↓sizes, loseLegacy_sizes, hs]

theorem rdmSend_sizes {ack : Bool} {reason : Half} : WithinStatedSizes (rdmSend s pid ack reason data) := by
  simp only [rdmSend, countLegacy, send, ↓sizes, freeBelow_sizes, hs]

theorem rdmAnswer_sizes {dest : BitVec 48} : WithinStatedSizes (rdmAnswer s dest pid data) := by
  simp only [rdmAnswer, ↓sizes, rdmSend_sizes, hs]

theorem rdmNack_sizes {dest : BitVec 48} {reason : Half} : WithinStatedSizes (rdmNack s dest pid reason) := by
  simp only [rdmNack, countLegacy, ↓sizes, rdmSend_sizes, hs]

theorem rdmGet_sizes : AnswersWithin (rdmGet s r pid data) := by simp only [rdmGet, ↓sizes, rdmAnswer_sizes, hs]

theorem rdmSet_sizes {r : RdmRequest} {pid : Half} {ok : Bool} {f : State → State}
    (hf : ∀ {t}, WithinStatedSizes t → WithinStatedSizes (f t)) : AnswersWithin (rdmSet s r pid ok f) :=
  .next (.ite (.ite (rdmAnswer_sizes (hf hs)) (rdmNack_sizes hs)) hs)

theorem execDiscUniqueBranch_sizes {lower : BitVec 48} {upper : BitVec 48} : AnswersWithin (execDiscUniqueBranch lower upper s)
    := by
  simp only [execDiscUniqueBranch, ↓sizes, rdmSend_sizes, hs]

theorem setMute_sizes {m : Bool} : AnswersWithin (setMute s r pid m) := by simp only [setMute, ↓sizes, rdmAnswer_sizes, hs]

theorem execDiscMute_sizes : AnswersWithin (execDiscMute r s) := by simp only [execDiscMute, setMute_sizes, hs]

theorem execDiscUnMute_sizes : AnswersWithin (execDiscUnMute r s) := by simp only [execDiscUnMute, setMute_sizes, hs]

theorem execSupportedParameters_sizes : AnswersWithin (execSupportedParameters r s) := by
  simp only [execSupportedParameters, rdmGet_sizes, hs]

theorem execDeviceInfo_sizes : AnswersWithin (execDeviceInfo r s) := by simp only [execDeviceInfo, rdmGet_sizes, hs]

theorem execDeviceModelDescription_sizes : AnswersWithin (execDeviceModelDescription r s) := by
  simp only [execDeviceModelDescription, rdmGet_sizes, hs]

theorem execManufacturerLabel_sizes : AnswersWithin (execManufacturerLabel r s) := by
  simp only [execManufacturerLabel, rdmGet_sizes, hs]

theorem execDeviceLabelGet_sizes : AnswersWithin (execDeviceLabelGet r s) := by simp only [execDeviceLabelGet, rdmGet_sizes, hs]

theorem execSoftwareVersionLabel_sizes : AnswersWithin (execSoftwareVersionLabel r s) := by
  simp only [execSoftwareVersionLabel, rdmGet_sizes, hs]

theorem execDmxPersonalityGet_sizes : AnswersWithin (execDmxPersonalityGet r s) := by
  simp only [execDmxPersonalityGet, rdmGet_sizes, hs]

theorem execDmxPersonalityDescription_sizes : AnswersWithin (execDmxPersonalityDescription r s) := by
  simp only [execDmxPersonalityDescription, ↓sizes, rdmGet_sizes, rdmNack_sizes, hs]

theorem execDmxStartAddressGet_sizes : AnswersWithin (execDmxStartAddressGet r s) := by
  simp only [execDmxStartAddressGet, rdmGet_sizes, hs]

theorem execDeviceHours_sizes : AnswersWithin (execDeviceHours r s) := by simp only [execDeviceHours, rdmGet_sizes, hs]

theorem execIdentifyDeviceGet_sizes : AnswersWithin (execIdentifyDeviceGet r s) := by
  simp only [execIdentifyDeviceGet, rdmGet_sizes, hs]

theorem execUnknownPid_sizes : AnswersWithin (execUnknownPid r pid s) := by
  simp only [execUnknownPid, ↓sizes, rdmNack_sizes, hs]

theorem execDeviceLabelSet_sizes : AnswersWithin (execDeviceLabelSet r s) := by
  simp only [execDeviceLabelSet]
  refine rdmSet_sizes hs fun ht => ?_
  refine raise_sizes (freeValue_sizes ?_)
  simp only [setBlock, ↓sizes, ht]

theorem execDmxPersonalitySet_sizes : AnswersWithin (execDmxPersonalitySet r s) := by
  simp only [execDmxPersonalitySet]
  refine rdmSet_sizes hs fun ht => ?_
  refine raise_sizes ?_
  simp only [setFootprint, setBlock, ↓sizes, ht]

theorem execDmxStartAddressSet_sizes : AnswersWithin (execDmxStartAddressSet r s) := by
  simp only [execDmxStartAddressSet]
  refine rdmSet_sizes hs fun ht => ?_
  refine raise_sizes ?_
  simp only [setFootprint, setBlock, ↓sizes, ht]

theorem setIdentify_sizes {on : Bool} : WithinStatedSizes (setIdentify s on) := by
  simp only [setIdentify]
  refine .ite ?_ ?_
  · refine .ite ?_ ?_
    · refine raise_sizes ?_
      simp only [countLegacy, ↓sizes, hs]
    · simp only [countLegacy, ↓sizes, hs]
  · refine raise_sizes ?_
    refine .ite ?_ ?_
    · refine raise_sizes ?_
      simp only [countLegacy, ↓sizes, hs]
    · simp only [countLegacy, ↓sizes, hs]

theorem execIdentifyDeviceSet_sizes : AnswersWithin (execIdentifyDeviceSet r s) := by
  unfold execIdentifyDeviceSet
  exact rdmSet_sizes hs fun ht => setIdentify_sizes ht

theorem execIdentifyToggle_sizes : AnswersWithin (execIdentifyToggle s) := by
  simp only [execIdentifyToggle, advanceTo, advance, ↓sizes, hs]

theorem daliRelative_sizes {f : Nat → Nat} : WithinStatedSizes (daliRelative s ms f) := by
  simp only [daliRelative, daliGo, ↓sizes, hs]

theorem daliCommand_sizes : WithinStatedSizes (daliCommand s op) := by
  unfold daliCommand
  split <;> simp only [daliLevel, daliGo, ↓sizes, daliRelative_sizes, hs]

theorem daliAddressed_sizes {f : LegacyBlock → LegacyBlock} : WithinStatedSizes (daliAddressed s f) := by
  unfold daliAddressed
  simp only [daliSet, setBlock, ↓sizes, raise_sizes, hs]

theorem daliReset_sizes : WithinStatedSizes (daliReset s) := by
  simp only [daliReset, daliLevel, daliGo, ↓sizes, daliAddressed_sizes, hs]

theorem daliConfigure_sizes : WithinStatedSizes (daliConfigure s op) := by
  simp only [daliConfigure]
  split
  · exact daliReset_sizes hs
  · simp only [↓sizes, hs]
  · simp only [daliSet, setBlock, ↓sizes, hs]
  · simp only [daliSet, setBlock, ↓sizes, hs]
  · simp only [daliSet, setBlock, ↓sizes, hs]
  · simp only [daliSet, setBlock, ↓sizes, hs]
  · simp only [daliSet, setBlock, ↓sizes, hs]
  · simp only [daliSet, setBlock, ↓sizes, hs]
  · simp only [daliSet, setBlock, ↓sizes, hs]
  · split
    · exact daliAddressed_sizes hs
    · exact hs
  · split
    · simp only [daliSet, setBlock, ↓sizes, hs]
    · simp only [daliSet, setBlock, ↓sizes, hs]
    · exact daliAddressed_sizes hs
    · exact daliAddressed_sizes hs
    · exact hs

theorem daliReply_sizes {b : Byte} : WithinStatedSizes (daliReply s b) := by
  simp only [daliReply, countLegacy, send, ↓sizes, freeBelow_sizes, hs]

theorem daliYes_sizes {yes : Bool} : WithinStatedSizes (daliYes s yes) := by simp only [daliYes, ↓sizes, daliReply_sizes, hs]

theorem daliByte_sizes : WithinStatedSizes (daliByte s n) := by simp only [daliByte, daliReply_sizes, hs]

theorem daliFree_sizes : WithinStatedSizes (daliFree s) := by simp only [daliFree, daliByte_sizes, freeValue_sizes, hs]

theorem readMemory_sizes : WithinStatedSizes (readMemory s) := by
  simp only [readMemory]
  refine .ite ?_ ?_
  · exact hs
  · split
    · simp only [↓sizes, hs]
    · refine daliReply_sizes ?_
      simp only [↓sizes, hs]
    · refine daliFree_sizes ?_
      simp only [↓sizes, hs]

theorem daliQuery_sizes : WithinStatedSizes (daliQuery s op) := by
  unfold daliQuery
  split <;> simp only [↓sizes, daliByte_sizes, daliYes_sizes, readMemory_sizes, hs]

theorem daliExtended_sizes : WithinStatedSizes (daliExtended s op) := by
  unfold daliExtended
  split <;> simp only [daliByte_sizes, daliYes_sizes, daliFree_sizes, hs]

theorem daliSpecial_sizes {addr : Nat} : WithinStatedSizes (daliSpecial s addr v) := by
  unfold daliSpecial
  (repeat' split) <;> simp only [↓sizes, daliYes_sizes, daliAddressed_sizes, daliByte_sizes, hs]

theorem daliTwice_sizes {addr : Nat} : WithinStatedSizes (daliTwice s addr v) := by
  simp only [daliTwice, randomise, daliSet, setBlock, ↓sizes, hs]

theorem daliAddressedTo_sizes {addr : Nat} {type6 : Bool} : WithinStatedSizes (daliAddressedTo s addr v type6) := by
  simp only [daliAddressedTo, daliDapc, daliGo, daliLevel, ↓sizes, daliCommand_sizes, daliConfigure_sizes, daliQuery_sizes,
    daliExtended_sizes, hs]

theorem daliAct_sizes {addr : Nat} : WithinStatedSizes (daliAct s addr v) := by
  simp only [daliAct, ↓sizes, daliTwice_sizes, daliSpecial_sizes, daliAddressedTo_sizes, hs]

theorem daliFrame_sizes {f : BitVec 16} : WithinStatedSizes (daliFrame s f) := by
  simp only [daliFrame, ↓sizes, daliAct_sizes, hs]

theorem execDaliForwardFrame_sizes {nbits : Nat} : AnswersWithin (execDaliForwardFrame nbits frame s) := by
  simp only [execDaliForwardFrame, countLegacy, ↓sizes, daliFrame_sizes, hs]

theorem execDaliSystemFailure_sizes : AnswersWithin (execDaliSystemFailure s) := by
  simp only [execDaliSystemFailure, daliLevel, daliGo, ↓sizes, loseLegacy_sizes, hs]

theorem execDaliBusReturn_sizes : AnswersWithin (execDaliBusReturn s) := by
  simp only [execDaliBusReturn, ↓sizes, raise_sizes, hs]

omit hs in
theorem strapWords_sizes {m : Mode} {cs : List (Nat × Nat × Nat × Nat)} {i : Nat} {codes : List (List Nat)} {s : State}
    (hs : WithinStatedSizes s) : WithinStatedSizes (strapWords m cs i codes s).2 := by
  induction codes generalizing i s with
  | nil => exact hs
  | cons c r ih => exact ih (freeBelow_sizes (bound := 1) hs)

theorem readStraps_sizes {codes : List (List Nat)} {irefPa : List Nat} : WithinStatedSizes (readStraps s codes irefPa) := by
  simp only [readStraps, ↓sizes, strapWords_sizes hs]

theorem noteRegion_sizes {bad : Bool} {arg : Nat} : WithinStatedSizes (noteRegion s bad region arg) := by
  simp only [noteRegion, ↓sizes, raise_sizes, hs]

theorem checkColophon_sizes : WithinStatedSizes (checkColophon s) := by
  simp only [checkColophon, ↓sizes, noteRegion_sizes (noteRegion_sizes hs), raise_sizes (noteRegion_sizes (noteRegion_sizes
    hs)), raise_sizes]

theorem checkShadow_sizes : WithinStatedSizes (checkShadow s) := by simp only [checkShadow, ↓sizes, noteRegion_sizes, hs]

theorem loadLegacy_sizes : WithinStatedSizes (loadLegacy s) := by
  simp only [loadLegacy, countLegacy, ↓sizes, raise_sizes, noteRegion_sizes, hs]

theorem checkLogs_sizes : WithinStatedSizes (checkLogs s) := by
  simp only [checkLogs]
  refine foldl_sizes (skipRecord_sizes) ?_
  refine .ite ?_ ?_
  · simp only [formatCasePage, ↓record_sizes]
    refine .ite ?_ ?_
    · refine formatMap_sizes ?_
      refine .ite ?_ ?_
      · exact formatAudit_sizes (noteRegion_sizes hs)
      · exact noteRegion_sizes hs
    · refine .ite ?_ ?_
      · exact formatAudit_sizes (noteRegion_sizes hs)
      · exact noteRegion_sizes hs
  · refine .ite ?_ ?_
    · refine formatMap_sizes ?_
      refine .ite ?_ ?_
      · exact formatAudit_sizes (noteRegion_sizes hs)
      · exact noteRegion_sizes hs
    · refine .ite ?_ ?_
      · exact formatAudit_sizes (noteRegion_sizes hs)
      · exact noteRegion_sizes hs

theorem checkWear_sizes : WithinStatedSizes (checkWear s) := by
  simp only [checkWear]
  refine foldl_sizes (fun ht => ?_) ?_
  · simp only [dropWear, ↓sizes, raise_sizes, ht]
  · exact noteRegion_sizes hs

theorem checkArchive_sizes : WithinStatedSizes (checkArchive s) := by
  simp only [checkArchive]
  simp only [checkObjects, ↓record_sizes]
  refine loadLegacy_sizes (checkShadow_sizes (noteRegion_sizes (checkWear_sizes (noteRegion_sizes (checkLogs_sizes
      (checkColophon_sizes ?_))))))
  refine .ite ?_ ?_
  · refine loseJournal_sizes (noteRegion_sizes (noteRegion_sizes (noteRegion_sizes (noteRegion_sizes ?_))))
    simp only [↓sizes, hs]
  · refine noteRegion_sizes (noteRegion_sizes (noteRegion_sizes (noteRegion_sizes ?_)))
    simp only [↓sizes, hs]

theorem stepEnds_sizes {lo : Nat} {hi : Nat} : WithinStatedSizes (stepEnds s lo hi).2 := by
  simp only [stepEnds, advanceTo, advance, ↓sizes, freeBelow_sizes, hs]

theorem loadPatch_sizes : WithinStatedSizes (loadPatch s) := by
  unfold loadPatch
  split <;> simp only [runPatch, ↓sizes, raise_sizes, hs]

theorem startMantel_sizes : WithinStatedSizes (startMantel s) := by simp only [startMantel, ↓sizes, takeLock_sizes, hs]

theorem step4_sizes : WithinStatedSizes (step4 s) := by
  simp only [step4]
  refine porterStart_sizes (loadPatch_sizes (startMantel_sizes ?_))
  simp only [↓sizes, hs]

theorem step5_sizes : WithinStatedSizes (step5 s) := by simp only [step5, driveOn, ↓sizes, judgePins_sizes, lockLines_sizes, hs]

theorem powerOnLevel_sizes : WithinStatedSizes (powerOnLevel s) := by simp only [powerOnLevel, daliLevel, daliGo, ↓sizes, hs]

theorem answerEnum_sizes : WithinStatedSizes (answerEnum s) := by
  simp only [answerEnum]
  refine .ite ?_ ?_
  · refine queueJoin_sizes ?_
    split
    · refine queueSpl_sizes ?_
      simp only [↓sizes, hs]
    · simp only [↓sizes, hs]
  · split
    · refine queueSpl_sizes ?_
      simp only [↓sizes, hs]
    · simp only [↓sizes, hs]

theorem step6_sizes : WithinStatedSizes (step6 s) := by
  simp only [step6]
  refine answerEnum_sizes ?_
  refine .ite ?_ ?_
  · refine takeLock_sizes ?_
    refine .ite ?_ ?_
    · refine phaseDelayReq_sizes (powerOnLevel_sizes ?_)
      simp only [↓sizes, checkArchive_sizes, hs]
    · refine raise_sizes (phaseDelayReq_sizes (powerOnLevel_sizes ?_))
      simp only [↓sizes, checkArchive_sizes, hs]
  · refine .ite ?_ ?_
    · refine phaseDelayReq_sizes (powerOnLevel_sizes ?_)
      simp only [↓sizes, checkArchive_sizes, hs]
    · refine raise_sizes (phaseDelayReq_sizes (powerOnLevel_sizes ?_))
      simp only [↓sizes, checkArchive_sizes, hs]

theorem step9_sizes : WithinStatedSizes (step9 s) := by
  simp only [step9, ↓sizes, judgeCache_sizes (loadWorkingCopies_sizes hs), raise_sizes ]

theorem countCycle_sizes : WithinStatedSizes (countCycle s) := by
  unfold countCycle
  split <;> simp only [↓sizes, hs]

theorem step10_sizes {us : Nat} : WithinStatedSizes (step10 s us) := by
  simp only [step10, raise_sizes (reportS4_sizes (reportHeld_sizes (countCycle_sizes (replay_sizes hs)))) ]

theorem startSteps_sizes {t3 : Nat} : WithinStatedSizes (startSteps s t3) := by
  unfold startSteps
  simp only [noteStep, setStage, clocksLock, ↓sizes, hs]

theorem runStage_sizes : WithinStatedSizes (runStage s) := by
  simp only [runStage]
  split
  · simp only [clocksLock, setStage, ↓sizes, stepEnds_sizes, hs]
  · simp only [noteStep, setStage, ↓sizes, step4_sizes, stepEnds_sizes, hs]
  · refine step5_sizes ?_
    simp only [setStage, ↓sizes, hs]
  · simp only [noteStep, setStage, ↓sizes, step6_sizes, stepEnds_sizes, hs]
  · refine step9_sizes ?_
    simp only [setStage, ↓sizes, stepEnds_sizes, hs]
  · simp only [noteStep, setStage, ↓sizes, step10_sizes, stepEnds_sizes, hs]

theorem idle_sizes : WithinStatedSizes (idle s) := by simp only [idle, advance, ↓sizes, runStage_sizes, hs]

theorem startFrom_sizes {cause : ResetCause} : WithinStatedSizes (startFrom s cause) := by
  unfold startFrom
  split <;> simp only [svcLost, ↓sizes, startSteps_sizes, hs]

theorem suppliesGood_sizes : WithinStatedSizes (suppliesGood s) := by simp only [suppliesGood, ↓sizes, cellFollows_sizes, hs]

theorem execPowerUp_sizes {ioFell : Bool} : AnswersWithin (execPowerUp ioFell s) := by
  simp only [execPowerUp]
  split
  · refine .next ?_
    refine startFrom_sizes (suppliesGood_sizes ?_)
    refine .ite ?_ ?_
    · simp only [svcLost, ↓sizes, resetBlock_sizes, hs]
    · refine .ite ?_ ?_
      · exact resetBlock_sizes hs
      · exact hs
  · refine .next ?_
    refine startFrom_sizes (suppliesGood_sizes ?_)
    refine .ite ?_ ?_
    · simp only [svcLost, ↓sizes, resetBlock_sizes, hs]
    · refine .ite ?_ ?_
      · exact resetBlock_sizes hs
      · exact hs
  · refine .next ?_
    refine .ite ?_ ?_
    · simp only [svcLost, ↓sizes, resetBlock_sizes, hs]
    · refine .ite ?_ ?_
      · exact resetBlock_sizes hs
      · exact hs

theorem strapsEnd_sizes : WithinStatedSizes (strapsEnd s) := by
  simp only [strapsEnd, advanceTo, advance, ↓sizes, freeBelow_sizes, hs]

theorem execStrapSample_sizes {codes : List (List Nat)} {irefPa : List Nat} : AnswersWithin (execStrapSample codes irefPa s) := by
  simp only [execStrapSample, ↓sizes, startSteps_sizes (readStraps_sizes (strapsEnd_sizes hs)), readStraps_sizes
    (strapsEnd_sizes hs), hs]

theorem dropTo_sizes {cause : ResetCause} : WithinStatedSizes (dropTo s cause phase) := by
  simp only [dropTo, stopAndReset, ↓sizes, resetBlock_sizes, orderedStop_sizes, hs]

theorem execResetN_sizes : AnswersWithin (execResetN s) := by simp only [execResetN, svcLost, ↓sizes, dropTo_sizes, hs]

theorem execVddIoBrownout_sizes : AnswersWithin (execVddIoBrownout s) := by
  simp only [execVddIoBrownout, svcLost, ↓sizes, dropTo_sizes, hs]

theorem execS4ReturnAlarm_sizes : AnswersWithin (execS4ReturnAlarm s) := by
  have hreset {ns : Nat} : WithinStatedSizes (resetBlock (advanceTo s ns) .s4Wake .awaitStraps) :=
    resetBlock_sizes (advanceTo_sizes hs)
  unfold execS4ReturnAlarm
  split
  · exact .next hs
  · refine .ite (.next (startFrom_sizes ?_)) (.next hs)
    simp only [svcLost, ↓sizes, hreset]

theorem lastActs_sizes : WithinStatedSizes (lastActs s core sd) := by
  unfold lastActs
  split <;> simp only [stopHall, ↓sizes, sendGsp_sizes, forceDark_sizes, hs]

theorem closeBypass_sizes : WithinStatedSizes (closeBypass s) := by
  simp only [closeBypass, sendLeave, send, ↓sizes, setByp_sizes, hs]

theorem execPowerFailDetect_sizes : AnswersWithin (execPowerFailDetect core sd s) := by
  unfold execPowerFailDetect
  split <;> simp only [countCellar, ↓sizes, freeValue_sizes (cutPersist_sizes hs), lastActs_sizes, resetBlock_sizes, hs]

theorem execArchiveIsolate_sizes : AnswersWithin (execArchiveIsolate s) := by
  unfold execArchiveIsolate
  split <;> simp only [advanceTo, advance, ↓sizes, resetBlock_sizes, closeBypass_sizes, hs]

theorem setSupply_sizes {x : Supply} {good : Bool} (at' : Option Nat) : WithinStatedSizes (setSupply s x good at') := by
  unfold setSupply
  split <;> simp only [↓sizes, cellFollows_sizes, hs]

theorem execSupplyBrownout_sizes {supply : Supply} {mv : BitVec 16} : AnswersWithin (execSupplyBrownout supply mv s) := by
  have hcount {t : Option Nat} : WithinStatedSizes (countPower (setSupply s supply false t) (17 + supplyCode supply)) := by
    simp only [countPower, ↓sizes, setSupply_sizes hs]
  simp only [execSupplyBrownout]
  refine .ite (.next hs) (.ite (.next (setSupply_sizes hs _)) (.next (raiseCellar_sizes ?_)))
  cases supply
  · exact driveOff_sizes hcount
  · exact hcount

theorem driveBack_sizes {supply : Supply} : WithinStatedSizes (driveBack s supply) := by
  unfold driveBack
  split <;> simp only [driveOn, ↓sizes, catchUpAudit_sizes, hs]

theorem execSupplyRestored_sizes {supply : Supply} : AnswersWithin (execSupplyRestored supply s) := by
  have hadvance {ns : Nat} : WithinStatedSizes (advanceTo s ns) := by simp only [advanceTo, advance, ↓sizes, hs]
  have hback {ns : Nat} : WithinStatedSizes (driveBack (countPower (setSupply (advanceTo s ns) supply true none) 11) supply) :=
    driveBack_sizes (by simp only [countPower, ↓sizes, setSupply_sizes hadvance])
  simp only [execSupplyRestored]
  split <;> simp only [↓sizes, raiseCellar_sizes, setSupply_sizes, hback, hs]

theorem execWatchdogExpiry_sizes : AnswersWithin (execWatchdogExpiry s) := by
  have hadvance {ns : Nat} : WithinStatedSizes (advanceTo s ns) := by simp only [advanceTo, advance, ↓sizes, hs]
  have hdark {t : State} (ht : WithinStatedSizes t) :
      WithinStatedSizes (setByp (forceDark
        (countCellar { t with cellar := { t.cellar with cause := some .watchdog } } 3) 2) false) :=
    setByp_sizes (forceDark_sizes (by simp only [countCellar, ↓sizes, ht]))
  have hreset {t : State} (ht : WithinStatedSizes t) : WithinStatedSizes
      (resetBlock (if ringMode t || mode t == .leaf then sendGsp t 4 else t) .watchdog .cellarHold) :=
    resetBlock_sizes (.ite (sendGsp_sizes ht) ht)
  unfold execWatchdogExpiry
  refine .ite (.next ?_) (.next hs)
  simp only [↓record_sizes]
  exact hreset (hdark hadvance)

theorem execCellarResetHoldEnd_sizes : AnswersWithin (execCellarResetHoldEnd s) := by
  simp only [execCellarResetHoldEnd, advanceTo, advance, ↓sizes, startFrom_sizes, hs]

theorem execLarderEccError_sizes {w : BadWord} : AnswersWithin (execLarderEccError w corrected s) := by
  simp only [execLarderEccError, countLarder, ↓sizes, startFrom_sizes (dropTo_sizes (noteError_sizes hs)), spoilRegion_sizes
    (noteError_sizes hs), hs]

omit hs in
theorem takeDueCensuses_sizes {n : Nat} {s : State} (hs : WithinStatedSizes s) : WithinStatedSizes (takeDueCensuses n s) := by
  induction n generalizing s with
  | zero => exact hs
  | succ n ih =>
    unfold takeDueCensuses
    split
    · exact hs
    · exact .ite (ih (takeCensus_sizes hs)) hs

theorem stepAtSeam_sizes : WithinStatedSizes (stepAtSeam s j) := by
  simp only [stepAtSeam]
  refine applyStep_sizes ?_
  refine .ite ?_ ?_
  · refine takeDueCensuses_sizes (applySetAt_sizes ?_)
    simp only [advanceToSeam, advanceToUnits, advance, ↓sizes, hs]
  · refine applySetAt_sizes ?_
    simp only [advanceToSeam, advanceToUnits, advance, ↓sizes, hs]

theorem execMantelStep_sizes : AnswersWithin (execMantelStep s) := by
  unfold execMantelStep
  split <;> simp only [↓sizes, stepAtSeam_sizes, hs]

theorem stepBefore_sizes {render : Nat} : WithinStatedSizes (stepBefore s render) := by
  unfold stepBefore
  split <;> simp only [↓sizes, stepAtSeam_sizes, hs]

theorem execRenderPoint_sizes : AnswersWithin (execRenderPoint s) := by
  simp only [execRenderPoint]
  refine .ite ?_ ?_
  · refine .ite ?_ ?_
    · refine .next ?_
      refine renderPoint_sizes (endOverdueLoad_sizes ?_)
      simp only [advanceToMantel, advanceToUnits, advance, ↓sizes, stepBefore_sizes, hs]
    · refine .next ?_
      exact stepBefore_sizes hs
  · refine .next ?_
    exact hs

/-- Every command keeps the sizes, whatever it answers. -/
theorem exec_sizes : ∀ i : Instr, AnswersWithin (exec i s)
  | .powerUp .. => execPowerUp_sizes hs
  | .firstLight => execFirstLight_sizes hs
  | .strapSample .. => execStrapSample_sizes hs
  | .resetN => execResetN_sizes hs
  | .vddIoBrownout => execVddIoBrownout_sizes hs
  | .powerFailDetect .. => execPowerFailDetect_sizes hs
  | .archiveIsolate => execArchiveIsolate_sizes hs
  | .supplyBrownout .. => execSupplyBrownout_sizes hs
  | .supplyRestored .. => execSupplyRestored_sizes hs
  | .portSignalDetect .. => execPortSignalDetect_sizes hs
  | .portAcquired .. => execPortAcquired_sizes hs
  | .fastAcquireFallback .. => execFastAcquireFallback_sizes hs
  | .blockLock .. => execBlockLock_sizes hs
  | .deskew .. => execDeskew_sizes hs
  | .confirm .. => execConfirm_sizes hs
  | .portLoss .. => execPortLoss_sizes hs
  | .rateSuspectTimeout .. => execRateSuspectTimeout_sizes hs
  | .identSend .. => execIdentSend_sizes hs
  | .identReceive .. => execIdentReceive_sizes hs
  | .leaveReceive .. => execLeaveReceive_sizes hs
  | .fastAcquireEnd .. => execFastAcquireEnd_sizes hs
  | .folioForward .. => execFolioForward_sizes hs
  | .merge .. => execMerge_sizes hs
  | .mergeEntryExpire => execMergeEntryExpire_sizes hs
  | .vacancyFill .. => execVacancyFill_sizes hs
  | .ctlJudge => execCtlJudge_sizes hs
  | .journalCommit .. => execJournalCommit_sizes hs
  | .completionRecord => execCompletionRecord_sizes hs
  | .stateQuery => execStateQuery_sizes hs
  | .query => execQuery_sizes hs
  | .groupSet => execGroupSet_sizes hs
  | .addressPin => execAddressPin_sizes hs
  | .addressPinClear => execAddressPinClear_sizes hs
  | .cue => execCue_sizes hs
  | .powerTolerance => execPowerTolerance_sizes hs
  | .censusAt => execCensusAt_sizes hs
  | .censusRead => execCensusRead_sizes hs
  | .feedLossPolicy => execFeedLossPolicy_sizes hs
  | .presentationDelay => execPresentationDelay_sizes hs
  | .objBegin => execObjBegin_sizes hs
  | .objData => execObjData_sizes hs
  | .objCommit => execObjCommit_sizes hs
  | .objCommitCopyEnd => execObjCommitCopyEnd_sizes hs
  | .timingSet => execTimingSet_sizes hs
  | .timingSetApply => execTimingSetApply_sizes hs
  | .forceOutput => execForceOutput_sizes hs
  | .forceOutputRelease => execForceOutputRelease_sizes hs
  | .forceSetApply => execForceSetApply_sizes hs
  | .forceLimitExpire => execForceLimitExpire_sizes hs
  | .tripClear => execTripClear_sizes hs
  | .tripClearRelease => execTripClearRelease_sizes hs
  | .timeSourceRingMaster => execTimeSourceRingMaster_sizes hs
  | .timeSourceSyncIn => execTimeSourceSyncIn_sizes hs
  | .timeSourceFreeRun => execTimeSourceFreeRun_sizes hs
  | .asymmetrySet => execAsymmetrySet_sizes hs
  | .keyEnrol => execKeyEnrol_sizes hs
  | .keyRevoke => execKeyRevoke_sizes hs
  | .auditRead => execAuditRead_sizes hs
  | .busResume => execBusResume_sizes hs
  | .busResumeTimeout => execBusResumeTimeout_sizes hs
  | .legacyHouse => execLegacyHouse_sizes hs
  | .jtagEnable => execJtagEnable_sizes hs
  | .jtagDisable => execJtagDisable_sizes hs
  | .jtagEnableExpire => execJtagEnableExpire_sizes hs
  | .extest => execExtest_sizes hs
  | .samplePreload => execSamplePreload_sizes hs
  | .highz => execHighz_sizes hs
  | .freeze => execFreeze_sizes hs
  | .bypass => execBypass_sizes hs
  | .tapReset => execTapReset_sizes hs
  | .updateDr .. => execUpdateDr_sizes hs
  | .captureDr .. => execCaptureDr_sizes hs
  | .enumStart .. => execEnumStart_sizes hs
  | .addressAssign .. => execAddressAssign_sizes hs
  | .ringMap .. => execRingMap_sizes hs
  | .spliceWindow .. => execSpliceWindow_sizes hs
  | .spliceWindowStart => execSpliceWindowStart_sizes hs
  | .spliceReturn => execSpliceReturn_sizes hs
  | .spliceWindowEnd => execSpliceWindowEnd_sizes hs
  | .bypassInsert => execBypassInsert_sizes hs
  | .bypassRelease => execBypassRelease_sizes hs
  | .bypSenseSample .. => execBypSenseSample_sizes hs
  | .bypassRetry => execBypassRetry_sizes hs
  | .selfTest .. => execSelfTest_sizes hs
  | .selfTestRetry => execSelfTestRetry_sizes hs
  | .sync .. => execSync_sizes hs
  | .followUp .. => execFollowUp_sizes hs
  | .delayResp .. => execDelayResp_sizes hs
  | .delayReqSend .. => execDelayReqSend_sizes hs
  | .masterLossTimeout => execMasterLossTimeout_sizes hs
  | .syncInEdge .. => execSyncInEdge_sizes hs
  | .mantelStep => execMantelStep_sizes hs
  | .holdEnd => execHoldEnd_sizes hs
  | .rtcSet => execRtcSet_sizes hs
  | .refreshSeam .. => execRefreshSeam_sizes hs
  | .rowSlot .. => execRowSlot_sizes hs
  | .plateCutoff => execPlateCutoff_sizes hs
  | .handleArrive => execHandleArrive_sizes hs
  | .renderPoint => execRenderPoint_sizes hs
  | .passEnd => execPassEnd_sizes hs
  | .passAbandon => execPassAbandon_sizes hs
  | .workingCopyLoad => execWorkingCopyLoad_sizes hs
  | .workingCopyLoadEnd => execWorkingCopyLoadEnd_sizes hs
  | .wearGainRecompute => execWearGainRecompute_sizes hs
  | .slateCacheFill .. => execSlateCacheFill_sizes hs
  | .feedLossExpiry => execFeedLossExpiry_sizes hs
  | .feedLossHoldEnd => execFeedLossHoldEnd_sizes hs
  | .larderEccError .. => execLarderEccError_sizes hs
  | .reportSecondEnd => execReportSecondEnd_sizes hs
  | .watermarkReport .. => execWatermarkReport_sizes hs
  | .eventReportForm => execEventReportForm_sizes hs
  | .censusLatch => execCensusLatch_sizes hs
  | .censusCopyDone => execCensusCopyDone_sizes hs
  | .censusAge => execCensusAge_sizes hs
  | .tripInputAssert .. => execTripInputAssert_sizes hs
  | .tripInputDeassert .. => execTripInputDeassert_sizes hs
  | .tripEpisodeEnd .. => execTripEpisodeEnd_sizes hs
  | .delayLineUnlock .. => execDelayLineUnlock_sizes hs
  | .delayLineRelock .. => execDelayLineRelock_sizes hs
  | .pclkLoss => execPclkLoss_sizes hs
  | .pclkRestore => execPclkRestore_sizes hs
  | .collatorDetection => execCollatorDetection_sizes hs
  | .defectReportSend => execDefectReportSend_sizes hs
  | .collatorExclusionEnd => execCollatorExclusionEnd_sizes hs
  | .wearPersist => execWearPersist_sizes hs
  | .watchdogKick => execWatchdogKick_sizes hs
  | .watchdogWarning => execWatchdogWarning_sizes hs
  | .watchdogExpiry => execWatchdogExpiry_sizes hs
  | .tamperSample .. => execTamperSample_sizes hs
  | .cellStateChange .. => execCellStateChange_sizes hs
  | .archiveEccError .. => execArchiveEccError_sizes hs
  | .readerFieldPresent .. => execReaderFieldPresent_sizes hs
  | .readerFieldLoss => execReaderFieldLoss_sizes hs
  | .inventory .. => execInventory_sizes hs
  | .stayQuiet .. => execStayQuiet_sizes hs
  | .select .. => execSelect_sizes hs
  | .resetToReady .. => execResetToReady_sizes hs
  | .readSingleBlock .. => execReadSingleBlock_sizes hs
  | .readMultipleBlocks .. => execReadMultipleBlocks_sizes hs
  | .getSystemInformation .. => execGetSystemInformation_sizes hs
  | .writeSingleBlock .. => execWriteSingleBlock_sizes hs
  | .challengeExpire => execChallengeExpire_sizes hs
  | .stateEntry => execStateEntry_sizes hs
  | .stateEntryDrop => execStateEntryDrop_sizes hs
  | .wakeAlarm => execWakeAlarm_sizes hs
  | .sbRxWake => execSbRxWake_sizes hs
  | .s4ReturnAlarm => execS4ReturnAlarm_sizes hs
  | .wakeReady => execWakeReady_sizes hs
  | .maintenanceWake => execMaintenanceWake_sizes hs
  | .dieTempMeasure .. => execDieTempMeasure_sizes hs
  | .correlationStrobe .. => execCorrelationStrobe_sizes hs
  | .busIntegrated => execBusIntegrated_sizes hs
  | .porterStop => execPorterStop_sizes hs
  | .serviceBusIdle => execServiceBusIdle_sizes hs
  | .serviceFrameSent => execServiceFrameSent_sizes hs
  | .serviceBusError .. => execServiceBusError_sizes hs
  | .busOffRecovery .. => execBusOffRecovery_sizes hs
  | .psuFault .. => execPsuFault_sizes hs
  | .overtemp .. => execOvertemp_sizes hs
  | .fanFault .. => execFanFault_sizes hs
  | .peerFault .. => execPeerFault_sizes hs
  | .announce .. => execAnnounce_sizes hs
  | .temp .. => execTemp_sizes hs
  | .psuStatus .. => execPsuStatus_sizes hs
  | .fanStatus .. => execFanStatus_sizes hs
  | .peerStatus .. => execPeerStatus_sizes hs
  | .peerStatusSend => execPeerStatusSend_sizes hs
  | .announceSend => execAnnounceSend_sizes hs
  | .stationChoose => execStationChoose_sizes hs
  | .dmxPacket .. => execDmxPacket_sizes hs
  | .dmxLoss => execDmxLoss_sizes hs
  | .discUniqueBranch .. => execDiscUniqueBranch_sizes hs
  | .discMute .. => execDiscMute_sizes hs
  | .discUnMute .. => execDiscUnMute_sizes hs
  | .supportedParameters .. => execSupportedParameters_sizes hs
  | .deviceInfo .. => execDeviceInfo_sizes hs
  | .deviceModelDescription .. => execDeviceModelDescription_sizes hs
  | .manufacturerLabel .. => execManufacturerLabel_sizes hs
  | .deviceLabelGet .. => execDeviceLabelGet_sizes hs
  | .deviceLabelSet .. => execDeviceLabelSet_sizes hs
  | .softwareVersionLabel .. => execSoftwareVersionLabel_sizes hs
  | .dmxPersonalityGet .. => execDmxPersonalityGet_sizes hs
  | .dmxPersonalitySet .. => execDmxPersonalitySet_sizes hs
  | .dmxPersonalityDescription .. => execDmxPersonalityDescription_sizes hs
  | .dmxStartAddressGet .. => execDmxStartAddressGet_sizes hs
  | .dmxStartAddressSet .. => execDmxStartAddressSet_sizes hs
  | .deviceHours .. => execDeviceHours_sizes hs
  | .identifyDeviceGet .. => execIdentifyDeviceGet_sizes hs
  | .identifyDeviceSet .. => execIdentifyDeviceSet_sizes hs
  | .unknownPid .. => execUnknownPid_sizes hs
  | .identifyToggle => execIdentifyToggle_sizes hs
  | .legacyBlockWrite => execLegacyBlockWrite_sizes hs
  | .daliForwardFrame .. => execDaliForwardFrame_sizes hs
  | .daliSystemFailure => execDaliSystemFailure_sizes hs
  | .leafHopUp .. => execLeafHopUp_sizes hs
  | .leafHopDown .. => execLeafHopDown_sizes hs
  | .leafHello .. => execLeafHello_sizes hs
  | .carryDown .. => execCarryDown_sizes hs
  | .carryUp .. => execCarryUp_sizes hs
  | .leafQueueSend => execLeafQueueSend_sizes hs
  | .time .. => execTime_sizes hs
  | .leafTimeSend => execLeafTimeSend_sizes hs
  | .leafTimeTimeout => execLeafTimeTimeout_sizes hs
  | .pdelayReq .. => execPdelayReq_sizes hs
  | .pdelayReqSend => execPdelayReqSend_sizes hs
  | .pdelayResp .. => execPdelayResp_sizes hs
  | .pixels .. => execPixels_sizes hs
  | .latch .. => execLatch_sizes hs
  | .gain .. => execGain_sizes hs
  | .count .. => execCount_sizes hs
  | .statusReq .. => execStatusReq_sizes hs
  | .ringPllLoss => execRingPllLoss_sizes hs
  | .cellarResetHoldEnd => execCellarResetHoldEnd_sizes hs
  | .daliBusReturn => execDaliBusReturn_sizes hs
  | .readerCommandNotSupported => execReaderCommandNotSupported_sizes hs
  | .reservedKindFrame .. => execReservedKindFrame_sizes hs

end

/-- Settles O7: each command keeps the seven sizes, whatever waits behind it in the queue, and so does the idle step. -/
theorem everyStepKeepsTheStatedSizes : Obligations.EveryStepKeepsTheStatedSizes := by
  intro s t hs hstep
  unfold step at hstep
  split at hstep
  · cases hstep
    exact idle_sizes hs
  · next c rest _ =>
    have hpopped : WithinStatedSizes { s with pending := rest } := by simp only [↓sizes, hs]
    exact exec_sizes hpopped c t hstep

end Sys2Proof.Machine
end

/-! ## Power fail

The settlement of O11. The layers: the state as the fail is dated; what the last acts leave; the isolation, a reset with the
bypass closed. -/

namespace Sys2Proof.Machine

open Sys2Proof

/-! ### The fail is dated (R411) -/

/-- s with the fail of its rails dated, its pass stopped, and a persist under way cut. -/
def failDated (s : State) (core sd : Bool) : State :=
  let (n, s) := freeValue (cutPersist s)
  countCellar { s with
    start := { s.start with coreGood := s.start.coreGood && !core, sdGood := s.start.sdGood && !sd }
    cellar := { s.cellar with
      failAt := some s.now, cause := some .mainPowerLoss, coreUntil := if s.start.auxGood then s.now + n else s.now }
    bindery := { s.bindery with pass := none, waiting := none } } 0

theorem failDated_eq (s : State) (core sd : Bool) : ∃ coreUntil saved persistEnd fresh, failDated s core sd = { s with
    start := { s.start with coreGood := s.start.coreGood && !core, sdGood := s.start.sdGood && !sd }
    cellar := { s.cellar with
      failAt := some s.now, cause := some .mainPowerLoss, coreUntil := coreUntil, counts := bump s.cellar.counts 0 }
    bindery := { s.bindery with pass := none, waiting := none }
    arch := { s.arch with wearSaved := saved, persistEnd := persistEnd }, fresh := fresh } ∧
    (s.start.auxGood = false → coreUntil = s.now) := by
  obtain ⟨saved, persistEnd, fresh, hcut⟩ := cutPersist_eq s
  refine ⟨if s.start.auxGood then s.now + Config.freeNat fresh else s.now, saved, persistEnd, fresh + 1, ?_, fun haux => ?_⟩
  · rw [failDated, hcut]
    rfl
  · simp [haux]

theorem exec_powerFailDetect {s : State} {core sd : Bool} (hrun : running s = true) (hf : s.cellar.failAt = none)
    (hrail : (core || sd) = true) :
    exec (.powerFailDetect core sd) s = .next (lastActs (failDated s core sd) core sd) := by
  have hphase : s.start.phase = .running := by simpa [running] using hrun
  have hmet : ¬ (s.start.phase == .off || s.cellar.failAt.isSome || !(core || sd)) = true := by simp [hphase, hf, hrail]
  have hon : (running (failDated s core sd) || clocksUp (failDated s core sd)) = true := by
    simp [running, failDated, hphase, countCellar]
  have hexec : exec (.powerFailDetect core sd) s = execPowerFailDetect core sd s := rfl
  rw [hexec, execPowerFailDetect, if_neg hmet]
  exact congrArg Host.Outcome.next (if_pos hon)

/-! ### The last acts (R113, R385, R386) -/

theorem lastActs_of_s4 {s : State} {core sd : Bool} (h : s.power.st = .s4) : lastActs s core sd = s := by simp [lastActs, h]

/-- s with the report sequence, the Cellar's counts and the wire of t: all that GSP touches. -/
def gspSentAs (t s : State) : State :=
  { s with
    addr := { s.addr with reportSeq := t.addr.reportSeq }, cellar := { s.cellar with counts := t.cellar.counts }
    wire := t.wire }

theorem sendGsp_frame (s : State) (cause : Nat) : sendGsp s cause = gspSentAs (sendGsp s cause) s := by
  unfold sendGsp sendUp
  dsimp only
  (repeat' split) <;> rfl

/-- s with its Hall stopped and dark forced for power fail. -/
def failDark (s : State) : State := forceDark (stopHall s) 3

theorem failDark_straps (s : State) : (failDark s).straps = s.straps := by simp [failDark, stopHall]

theorem failDark_gspPayload (s : State) : gspPayload (failDark s) = gspPayload s := by
  obtain ⟨v, h⟩ : ∃ v, failDark s = darkenedAs v (stopHall s) 3 := ⟨_, forceDark_frame _ 3⟩
  rw [h]
  rfl

theorem ringOn_failDark {s : State} (hrun : running s = true) (h : s.power.st ≠ .s4) : ringOn (failDark s) = true :=
  ringOn_of_running (by simpa [running, failDark, stopHall] using hrun) (by simpa [failDark, stopHall] using h)

theorem lastActs_eq {s : State} (core sd : Bool) (h : s.power.st ≠ .s4) : lastActs s core sd =
    if ringOn (failDark s) && (ringMode (failDark s) || mode (failDark s) == .leaf) then
      sendGsp (failDark s) (bit core + 2 * bit sd)
    else failDark s := by
  rw [lastActs, if_neg (by simpa using h)]
  rfl

theorem lastActs_frame {s : State} (core sd : Bool) (h : s.power.st ≠ .s4) :
    lastActs s core sd = gspSentAs (lastActs s core sd) (failDark s) := by
  rw [lastActs_eq core sd h]
  split
  · exact sendGsp_frame _ _
  · rfl

/-- In the ring modes the last act of a running node is GSP with its failing rails. -/
theorem lastActs_of_ring {s : State} (core sd : Bool) (hrun : running s = true) (h : s.power.st ≠ .s4)
    (hring : ringMode s = true) : lastActs s core sd = sendGsp (failDark s) (bit core + 2 * bit sd) := by
  have hmode : ringMode (failDark s) = true := by simpa [ringMode, mode, strap, failDark_straps] using hring
  rw [lastActs_eq core sd h, ringOn_failDark hrun h, hmode]
  rfl

/-- Of a row that is not on, nothing is taken back (R382). -/
theorem rowCutOff_wear {s : State} (h : ∀ r, s.press.rowOn ≠ some r) : (rowCutOff s).arch.wear = s.arch.wear := by
  unfold rowCutOff cutWear
  split
  · rfl
  · next r hr => exact absurd hr (h r)

theorem forceDark_wear {s : State} (cause : Nat) (h : ∀ r, s.press.rowOn ≠ some r) :
    (forceDark s cause).arch.wear = s.arch.wear := by
  have hforced (cellar press : Counters) : (forcedWith s cause cellar press).arch.wear = s.arch.wear :=
    rowCutOff_wear (s := { s with cellar := setDark s.cellar cause true }) h
  cases hdark : cellarDark s with
  | true => rw [forceDark_of_dark cause hdark, hforced]
  | false =>
    rw [forceDark_of_lit cause hdark]
    exact ((congrArg (fun x : State => x.arch.wear) (queueAlarm_frame _ _ _)).trans
      ((congrArg (fun x : State => x.arch.wear) (raiseCellar_frame _ _ _ _)).trans rfl)).trans
      (hforced (bump s.cellar.counts 4) (bump s.press.counts 30))

theorem lastActs_wear {s : State} (core sd : Bool) (h4 : s.power.st ≠ .s4) (h : ∀ r, s.press.rowOn ≠ some r) :
    (lastActs s core sd).arch.wear = s.arch.wear := by
  rw [lastActs_frame core sd h4]
  exact forceDark_wear 3 h

theorem failDated_running {s : State} (core sd : Bool) (h : running s = true) : running (failDated s core sd) = true := by
  simpa [running, failDated, countCellar] using h

theorem failDated_gspPayload (s : State) (core sd : Bool) : gspPayload (failDated s core sd) = gspPayload s := by
  simp [gspPayload, failDated, countCellar, nodeChannel, channel]

/-- GSP leaves both ports with the failing rails as its cause. -/
theorem failGsp_sent {s : State} (core sd : Bool) (hrun : running s = true) (h4 : s.power.st ≠ .s4) (hring : ringMode s = true) :
    (lastActs (failDated s core sd) core sd).addr.reportSeq = s.addr.reportSeq + 1 ∧
      (lastActs (failDated s core sd) core sd).wire =
        .folio .west (mkFolio 6 0 s.addr.addr.toNat (bit core + 2 * bit sd) s.addr.reportSeq 0 (gspPayload s)) ::
          .folio .east (mkFolio 6 0 s.addr.addr.toNat (bit core + 2 * bit sd) s.addr.reportSeq 0 (gspPayload s)) :: s.wire := by
  have hst : (failDated s core sd).power.st ≠ .s4 := by simpa [failDated, countCellar] using h4
  have hmode : ringMode (failDated s core sd) = true := by simpa [ringMode, mode, strap, failDated, countCellar] using hring
  have haddr : (failDark (failDated s core sd)).addr = s.addr := by simp [failDark, stopHall, failDated, countCellar]
  have hwire : (failDark (failDated s core sd)).wire = s.wire := by simp [failDark, stopHall, failDated, countCellar]
  have hdark : ringMode (failDark (failDated s core sd)) = true := by
    simpa [ringMode, mode, strap, failDark_straps] using hmode
  rw [lastActs_of_ring core sd (failDated_running core sd hrun) hst hmode, sendGsp_of_ring _ hdark, haddr, hwire,
    failDark_gspPayload, failDated_gspPayload]
  exact ⟨rfl, rfl⟩

/-! ### The isolation (R412) -/

/-- LEAVE and BYP_HOLD touch only what the ordered stop touches. -/
theorem closeBypass_frame (s : State) : closeBypass s = stoppedAs (closeBypass s) s := by
  unfold closeBypass
  split
  · exact stoppedAs_trans (t := sendLeave s) rfl (stoppedAs_of_switchedAs (setByp_frame _ false))
  · rfl

theorem closeBypass_journal (s : State) : (closeBypass s).hall = { s.hall with lastQueued := (closeBypass s).hall.lastQueued } := by
  unfold closeBypass
  split
  · exact (congrArg State.hall (setByp_frame (sendLeave s) false)).trans rfl
  · rfl

theorem noDefect_closeBypass {s : State} (h : NoDefect s) : NoDefect (closeBypass s) := by
  unfold closeBypass
  split
  · exact noDefect_setByp false (noDefect_of_larder h (by simp [sendLeave]))
  · exact h

theorem leftByReset_closeBypass (s : State) (cause : ResetCause) (phase : Phase) :
    LeftByReset s (resetBlock (closeBypass s) cause phase) cause := by
  refine leftByReset_resetBlock cause phase (closeBypass_frame s) ?_ noDefect_closeBypass fun _ => ?_
  · rw [closeBypass_journal]
  · rw [closeBypass_journal]
    rfl

/-- What a reset leaves of a state whose clocks have run on. -/
theorem leftByReset_of_advanceTo {s t : State} {n : Nat} {cause : ResetCause} (h : LeftByReset (advanceTo s n) t cause) :
    LeftByReset s t cause := by
  obtain ⟨v, hv⟩ : ∃ v, advanceTo s n = clockedAs v s := ⟨_, advanceTo_frame s n⟩
  rw [hv] at h
  exact h

theorem closedReset_keeps (s : State) (cause : ResetCause) (phase : Phase) :
    (resetBlock (closeBypass s) cause phase).start.phase = phase ∧ (resetBlock (closeBypass s) cause phase).straps = s.straps ∧
      (resetBlock (closeBypass s) cause phase).now = s.now := by
  obtain ⟨hnow, hphase, _, hstraps, _⟩ := resetBlock_keeps (closeBypass s) cause phase
  have hframe := closeBypass_frame s
  exact ⟨hphase, hstraps.trans ((congrArg State.straps hframe).trans rfl),
    hnow.trans ((congrArg State.now hframe).trans rfl)⟩

/-- s as the Archive is isolated, d the instant of the detect. -/
def isolatedReset (s : State) (d : Nat) : State :=
  resetBlock (closeBypass (advanceTo s (d + 1500 * usNs))) .mainPowerLoss .off

theorem isolatedReset_leaves (s : State) (d : Nat) : LeftByReset s (isolatedReset s d) .mainPowerLoss ∧
    (isolatedReset s d).start.phase = .off ∧ (isolatedReset s d).straps = s.straps ∧ d + 1500000 ≤ (isolatedReset s d).now := by
  have hreach := (advanceTo_reaches s (d + 1500 * usNs)).1
  obtain ⟨hphase, hstraps, hnow⟩ := closedReset_keeps (advanceTo s (d + 1500 * usNs)) .mainPowerLoss .off
  refine ⟨leftByReset_of_advanceTo (leftByReset_closeBypass _ _ _), hphase, hstraps.trans (advanceTo_straps s _), ?_⟩
  rw [isolatedReset, hnow]
  refine le_trans ?_ hreach
  norm_num [usNs]

theorem exec_archiveIsolate {s : State} {d : Nat} (h : s.cellar.failAt = some d) : exec .archiveIsolate s =
    .next { isolatedReset s d with cellar := { (isolatedReset s d).cellar with isolated := true } } := by
  have hexec : exec .archiveIsolate s = execArchiveIsolate s := rfl
  rw [hexec, execArchiveIsolate, h]
  rfl

theorem leftByReset_isolated {s t : State} {cause : ResetCause} (h : LeftByReset s t cause) :
    LeftByReset s { t with cellar := { t.cellar with isolated := true } } cause := by
  obtain ⟨hframe, hrest⟩ := h
  exact ⟨congrArg (fun x : State => { x with cellar := { x.cellar with isolated := true } }) hframe, hrest⟩

/-- Settles O11: the dating of the fail and the last acts by their frames; the isolation as a reset with the bypass closed. -/
theorem powerFailStopsAndIsolates : Obligations.PowerFailStopsAndIsolates := by
  unfold Obligations.PowerFailStopsAndIsolates
  refine ⟨fun s core sd hrun hf hrail => ⟨_, exec_powerFailDetect hrun hf hrail, ?_⟩, fun s d hd => ?_⟩
  · have hsent := failGsp_sent core sd hrun (s := s)
    obtain ⟨coreUntil, saved, persistEnd, fresh, hdated, haux⟩ := failDated_eq s core sd
    by_cases h4 : s.power.st = .s4
    · have hsame : lastActs (failDated s core sd) core sd = failDated s core sd :=
        lastActs_of_s4 (by rw [hdated]; exact h4)
      rw [hsame, hdated]
      simpa [h4, reportedAs] using haux
    · have hframe := lastActs_frame core sd (s := failDated s core sd) (by rw [hdated]; exact h4)
      obtain ⟨v, hdark⟩ : ∃ v, failDark (failDated s core sd) = darkenedAs v (stopHall (failDated s core sd)) 3 :=
        ⟨_, forceDark_frame _ 3⟩
      have hwear := lastActs_wear core sd (s := failDated s core sd) (by rw [hdated]; exact h4)
      generalize lastActs (failDated s core sd) core sd = t at hframe hsent hwear ⊢
      rw [hdark, hdated] at hframe
      rw [hdated] at hwear
      refine ⟨?_, ?_, ?_, ?_, fun _ => ⟨?_, ?_, ?_⟩, fun _ hmode => hsent h4 (by simpa [ringMode] using hmode),
        fun h => absurd h h4, fun h => ?_, hwear, ?_⟩
      case refine_8 => rw [hframe]; exact haux h
      all_goals rw [hframe]; rfl
  · obtain ⟨hleft, hphase, hstraps, hnow⟩ := isolatedReset_leaves s d
    exact ⟨_, exec_archiveIsolate hd, leftByReset_isolated hleft, hphase, rfl, hnow, hstraps⟩

end Sys2Proof.Machine

/-! ## Port loss and the port timers

The settlement of O17. The layers: what a second settling of queue 0x01 finds; a port's counts but for word 5; a port that goes
DOWN; a reception and a transmission cut; the timers and IDENT. -/

namespace Sys2Proof.Machine

open Sys2Proof

/-! ### Queue 0x01 settled twice (R63, R205) -/

theorem dropDown_settle (s : State) (f : OwnFolio) : dropDown (settle s) f = dropDown s f := by
  simp [dropDown, leafRole, mayLeave, assigned, portUp]

theorem dropDown_dropDown (s : State) (f : OwnFolio) : dropDown s (dropDown s f) = dropDown s f := by
  unfold dropDown
  (repeat' split) <;> simp_all [mayLeave]

theorem settle_reports_settle (s : State) : (settle (settle s)).larder.reports = (settle s).larder.reports := by
  have hdue : ∀ f ∈ (settle s).larder.reports, dropDown (settle s) f = f ∧ (f.dueEast || f.dueWest) = true := by
    intro f hf
    obtain ⟨hmap, hkeep⟩ := List.mem_filter.mp hf
    obtain ⟨g, _, rfl⟩ := List.mem_map.mp hmap
    exact ⟨(dropDown_settle s _).trans (dropDown_dropDown s g), hkeep⟩
  have hmap : (settle s).larder.reports.map (dropDown (settle s)) = (settle s).larder.reports :=
    (List.map_congr_left fun f hf => (hdue f hf).1).trans (List.map_id _)
  calc (settle (settle s)).larder.reports
      = ((settle s).larder.reports.map (dropDown (settle s))).filter fun f => f.dueEast || f.dueWest := rfl
    _ = (settle s).larder.reports := by rw [hmap, List.filter_eq_self.mpr fun f hf => (hdue f hf).2]

theorem settleAdmit_of_none {s : State} (h : s.larder.waiting = []) : settleAdmit s = settle s := by
  rw [settleAdmit, h]
  rfl

/-- With nothing waiting and room below the 8 units kept for ACK and NACK, an own folio is queued at once. -/
theorem queueOwn_of_room {s : State} {f : OwnFolio} (hwait : s.larder.waiting = [])
    (hroom : reportLevel s + foliosUnits f.payload.length ≤ 248) : queueOwn s f = enterQueue s f := by
  have hfree : reportLevel s + foliosUnits f.payload.length ≤ 256 := by omega
  rw [queueOwn, if_pos]
  simp only [roomFor, hwait, List.all_nil, Bool.and_true, decide_eq_true_eq]
  split <;> assumption

/-- LINK queued stays queued as the queue settles again. -/
theorem linkQueued_settleAdmit (s : State) : linkQueued s (settleAdmit (queueLink s 2)) := by
  intro hwait hroom hup
  have hlink : queueLink s 2 = enterQueue s _ := queueOwn_of_room hwait hroom
  have hnone : (queueLink s 2).larder.waiting = [] := by rw [hlink]; simpa [enterQueue] using hwait
  rw [settleAdmit_of_none hnone] at hup ⊢
  have hreports : (settle (queueLink s 2)).larder.reports = (queueLink s 2).larder.reports := by
    rw [hlink]
    exact settle_reports_settle _
  rw [hreports]
  exact linkQueued_queueLink s hwait hroom (by simpa [portUp] using hup)

/-- What is said of LINK is said of an earlier state with the same queues, report sequence and counted words. -/
theorem linkQueued_of_source {s u t : State} (h : linkQueued u t) (hl : u.larder = s.larder) (ha : u.addr = s.addr)
    (hlen : (linkPayload u 2).length = (linkPayload s 2).length) : linkQueued s t := by
  rw [linkQueued, hlen] at h
  exact reportQueued_of_source h hl ha

/-! ### A port's counts but for word 5 (R110) -/

/-- Word i + 1 of a port's block. -/
def portCount (s : State) (p : Port) (i : Nat) : Option Word := (getPort s p).counts[i]?

theorem getElem?_bumpBy_of_ne (a : Counters) {i j : Nat} (n : Nat) (h : j ≠ i) : (bumpBy a i n)[j]? = a[j]? := by
  simp [bumpBy, h.symm]

theorem getElem?_bump_of_ne (a : Counters) {i j : Nat} (h : j ≠ i) : (bump a i)[j]? = a[j]? := by simp [bump, h.symm]

theorem getElem?_bump_congr {a b : Counters} {i : Nat} (h : a[i]? = b[i]?) : (bump a i)[i]? = (bump b i)[i]? := by
  simp [bump, h]

theorem portCount_settle (s : State) (p : Port) {i : Nat} (h : i ≠ 4) : portCount (settle s) p i = portCount s p i := by
  cases p <;> exact getElem?_bumpBy_of_ne _ _ h

theorem portCount_enterQueue (s : State) (f : OwnFolio) (p : Port) {i : Nat} (h : i ≠ 4) :
    portCount (enterQueue s f) p i = portCount s p i := by
  unfold enterQueue
  rw [portCount_settle _ p h]
  cases p <;> simp [portCount, getPort]

theorem portCount_queueOwn (s : State) (f : OwnFolio) (p : Port) {i : Nat} (h : i ≠ 4) :
    portCount (queueOwn s f) p i = portCount s p i := by
  unfold queueOwn
  split
  · exact portCount_enterQueue s f p h
  · cases p <;> rfl

theorem portCount_admitWaiting (n : Nat) (s : State) (p : Port) {i : Nat} (h : i ≠ 4) :
    portCount (admitWaiting n s) p i = portCount s p i := by
  induction n generalizing s with
  | zero => rfl
  | succ n ih =>
    rw [admitWaiting]
    split
    · rfl
    · split
      · rw [ih, portCount_enterQueue _ _ p h]
        cases p <;> rfl
      · rfl

theorem portCount_settleAdmit (s : State) (p : Port) {i : Nat} (h : i ≠ 4) :
    portCount (settleAdmit s) p i = portCount s p i := by
  rw [settleAdmit, portCount_admitWaiting _ _ p h, portCount_settle _ p h]

/-! ### A port that goes DOWN (R57, R62) -/

/-- The port x as it goes DOWN. -/
def lostPort (s : State) (x : PortS) : PortS :=
  { x with
    counts := if x.st == .up then bump x.counts 7 else x.counts
    downAt := if x.st == .up then s.now else x.downAt
    inWindow := x.st == .up && x.windowEnd.isSome
    degraded := false, rateSuspected := false, nbrSerial := none }

theorem portDown_of_st {s : State} {p : Port} (h : (getPort s p).st ≠ .down) :
    portDown s p = settleAdmit (enterPort s p (lostPort s (getPort s p)) .down) := by
  rw [portDown, if_neg (by simpa using h)]
  rfl

/-- s with the port p DOWN, before queue 0x01 takes LINK. -/
def wentDown (s : State) (p : Port) : State :=
  setPort s p { lostPort s (getPort s p) with st := .down, since := s.now }

theorem portDown_eq {s : State} {p : Port} (h : (getPort s p).st ≠ .down) :
    portDown s p = settleAdmit (queueLink (wentDown s p) 2) := portDown_of_st h

theorem portDown_queuedAs {s : State} {p : Port} (h : (getPort s p).st ≠ .down) :
    portDown s p = queuedAs (portDown s p) (wentDown s p) := by
  rw [portDown_eq h]
  exact queuedAs_trans (queueReport_frame _ _ _) (settleAdmit_frame _)

theorem getPort_portDown {s : State} {p : Port} (h : (getPort s p).st ≠ .down) : getPort (portDown s p) p =
    { lostPort s (getPort s p) with st := .down, since := s.now, counts := (getPort (portDown s p) p).counts } :=
  getPort_of_queuedAs_setPort (portDown_queuedAs h)

theorem portCount_portDown {s : State} {p : Port} (h : (getPort s p).st ≠ .down) {i : Nat} (hi : i ≠ 4) :
    portCount (portDown s p) p i = (lostPort s (getPort s p)).counts[i]? := by
  rw [portDown_eq h, portCount_settleAdmit _ _ hi, queueLink, queueReport, portCount_queueOwn _ _ _ hi]
  cases p <;> rfl

theorem bump_length (c : Counters) (i : Nat) : (bump c i).length = c.length := List.length_modify _ _ _

/-- A port that keeps the number of its counts leaves the length of LINK as it is. -/
theorem linkPayload_length_setPort (s : State) (p : Port) (x : PortS) (why : Nat)
    (hc : x.counts.length = (getPort s p).counts.length) :
    (linkPayload (setPort s p x) why).length = (linkPayload s why).length := by
  cases p <;> simp only [linkPayload_length, setPort, getPort] at hc ⊢ <;> rw [hc]

theorem linkQueued_portDown {s : State} {p : Port} (h : (getPort s p).st ≠ .down) : linkQueued s (portDown s p) := by
  rw [portDown_eq h]
  refine linkQueued_of_source (linkQueued_settleAdmit _) (setPort_larder _ _ _) (setPort_addr _ _ _)
    (linkPayload_length_setPort s p _ 2 ?_)
  simp only [lostPort]
  split
  · exact bump_length _ _
  · rfl

/-! ### A reception and a transmission cut (R62, R110) -/

theorem countPort_length (s : State) (p : Port) (i why : Nat) :
    (linkPayload (countPort s p i) why).length = (linkPayload s why).length :=
  linkPayload_length_setPort s p _ why (bump_length _ _)

/-- s with its cut reception and transmission counted, the forwarded copy ended. -/
def bothCut (s : State) (p : Port) (rx tx : Bool) : State := countCut (endReception s p rx) p tx

/-- s with the counts of its ports and the wire of t: all that the cuts touch. -/
def cutAs (t s : State) : State :=
  { s with
    spine := { s.spine with
      east := { s.spine.east with counts := t.spine.east.counts }, west := { s.spine.west with counts := t.spine.west.counts } }
    wire := t.wire }

theorem cutAs_trans {s t u : State} (hst : t = cutAs t s) (htu : u = cutAs u t) : u = cutAs u s :=
  htu.trans ((congrArg (cutAs u) hst).trans rfl)

theorem countPort_cutAs (s : State) (p : Port) (i : Nat) : countPort s p i = cutAs (countPort s p i) s := by
  cases p <;> rfl

theorem endReception_cutAs (s : State) (p : Port) (rx : Bool) : endReception s p rx = cutAs (endReception s p rx) s := by
  unfold endReception
  split
  · rfl
  · split
    · exact cutAs_trans (countPort_cutAs s p 2) rfl
    · exact cutAs_trans (countPort_cutAs s p 2) (countPort_cutAs _ _ 4)

theorem bothCut_cutAs (s : State) (p : Port) (rx tx : Bool) : bothCut s p rx tx = cutAs (bothCut s p rx tx) s := by
  unfold bothCut countCut
  split
  · exact cutAs_trans (endReception_cutAs s p rx) (countPort_cutAs _ _ 4)
  · exact endReception_cutAs s p rx

theorem getPort_of_cutAs {s t : State} (p : Port) (h : t = cutAs t s) :
    getPort t p = { getPort s p with counts := (getPort t p).counts } := by
  conv_lhs => rw [h]
  cases p <;> rfl

theorem portCount_countPort (s : State) (p : Port) (i : Nat) :
    portCount (countPort s p i) p i = (bump (getPort s p).counts i)[i]? := by
  cases p <;> rfl

theorem portCount_countPort_of_ne (s : State) (p : Port) {i j : Nat} (h : j ≠ i) :
    portCount (countPort s p i) p j = portCount s p j := by
  cases p <;> exact getElem?_bump_of_ne _ h

theorem portCount_countPort_other (s : State) (p : Port) (i j : Nat) :
    portCount (countPort s (otherPort p) i) p j = portCount s p j := by
  cases p <;> rfl

theorem portCount_endReception (s : State) (p : Port) (rx : Bool) :
    portCount (endReception s p rx) p 7 = portCount s p 7 ∧
      (rx = true → portCount (endReception s p rx) p 2 = (bump (getPort s p).counts 2)[2]?) := by
  have hseven : portCount (countPort s p 2) p 7 = portCount s p 7 := portCount_countPort_of_ne s p (by decide)
  unfold endReception
  split
  · next h => exact ⟨rfl, fun hrx => by simp [hrx] at h⟩
  · split
    · exact ⟨hseven, fun _ => portCount_countPort s p 2⟩
    · exact ⟨(portCount_countPort_other _ p 4 7).trans hseven,
        fun _ => (portCount_countPort_other _ p 4 2).trans (portCount_countPort s p 2)⟩

theorem portCount_countCut (s : State) (p : Port) (tx : Bool) {j : Nat} (h : j ≠ 4) :
    portCount (countCut s p tx) p j = portCount s p j := by
  unfold countCut
  split
  · exact portCount_countPort_of_ne s p h
  · rfl

theorem endReception_wire (s : State) (p : Port) (rx : Bool) : (endReception s p rx).wire =
    if rx = true ∧ (getPort s (otherPort p)).st = .up then .errorEnded (otherPort p) :: s.wire else s.wire := by
  cases rx
  · simp [endReception]
  · by_cases hup : (getPort s (otherPort p)).st = .up <;> simp [endReception, portUp, hup]

theorem bothCut_wire (s : State) (p : Port) (rx tx : Bool) : (bothCut s p rx tx).wire =
    if rx = true ∧ (getPort s (otherPort p)).st = .up then .errorEnded (otherPort p) :: s.wire else s.wire := by
  rw [← endReception_wire, bothCut, countCut]
  split <;> simp

theorem bothCut_linkPayload_length (s : State) (p : Port) (rx tx : Bool) :
    (linkPayload (bothCut s p rx tx) 2).length = (linkPayload s 2).length := by
  have hrx : (linkPayload (endReception s p rx) 2).length = (linkPayload s 2).length := by
    unfold endReception
    split
    · rfl
    · split
      · exact countPort_length s p 2 2
      · exact (countPort_length _ _ 4 2).trans (countPort_length s p 2 2)
  unfold bothCut countCut
  split
  · exact (countPort_length _ p 4 2).trans hrx
  · exact hrx

/-! ### The loss of a port (R57, R62, R106) -/

theorem exec_portLoss_of_up {s : State} {p : Port} (rx tx : Bool) (ht : portsTrain s = true) (hst : (getPort s p).st = .up) :
    exec (.portLoss p rx tx) s = .next (portDown (bothCut s p rx tx) p) := by
  have hexec : exec (.portLoss p rx tx) s = execPortLoss p rx tx s := rfl
  simp [hexec, execPortLoss, portUp, ht, hst, bothCut]

theorem exec_portLoss_of_training {s : State} {p : Port} (rx tx : Bool) (ht : portsTrain s = true)
    (hst : (getPort s p).st ≠ .up) : exec (.portLoss p rx tx) s = .next (portDown s p) := by
  have hexec : exec (.portLoss p rx tx) s = execPortLoss p rx tx s := rfl
  simp [hexec, execPortLoss, portUp, ht, hst]

/-- What a port that goes DOWN leaves of a state that differs from s in counts and the wire only. -/
theorem portDown_frame_of_cutAs {s u : State} {p : Port} (h : u = cutAs u s) (hst : (getPort u p).st ≠ .down) :
    portDown u p = queuedAs (portDown u p) { setPort s p { getPort s p with
      st := .down, since := s.now, downAt := (getPort (portDown u p) p).downAt, inWindow := (getPort (portDown u p) p).inWindow
      degraded := false, rateSuspected := false, nbrSerial := none } with wire := u.wire } := by
  have hport := getPort_portDown hst
  have hdown : (getPort (portDown u p) p).downAt = (lostPort u (getPort u p)).downAt :=
    (congrArg PortS.downAt hport).trans rfl
  have hwindow : (getPort (portDown u p) p).inWindow = (lostPort u (getPort u p)).inWindow :=
    (congrArg PortS.inWindow hport).trans rfl
  refine (portDown_queuedAs hst).trans ?_
  rw [hdown, hwindow]
  generalize portDown u p = t
  rw [h]
  cases p <;> rfl

theorem getPort_portLost {u : State} {p : Port} (hst : (getPort u p).st ≠ .down) :
    (getPort (portDown u p) p).st = .down ∧ (getPort (portDown u p) p).since = u.now := by
  rw [getPort_portDown hst]
  exact ⟨rfl, rfl⟩

/-! ### The timers of a port (R57, R58, R75) -/

theorem exec_fastAcquireFallback {s : State} {p : Port} (ht : portsTrain s = true) (hst : (getPort s p).st = .acquire)
    (hfast : (getPort s p).fastNow = true) : exec (.fastAcquireFallback p) s =
      .next (setPort (advanceTo s ((getPort s p).since + 200 * usNs)) p { getPort s p with fastNow := false }) := by
  have hexec : exec (.fastAcquireFallback p) s = execFastAcquireFallback p s := rfl
  simp [hexec, execFastAcquireFallback, ht, hst, hfast]

theorem exec_rateSuspectTimeout {s : State} {p : Port} (ht : portsTrain s = true) (hst : (getPort s p).st = .acquire)
    (hrate : (getPort s p).rateSuspected = false) : exec (.rateSuspectTimeout p) s =
      .next (raise (setPort (advanceTo s ((getPort s p).since + 10 * second)) p { getPort s p with rateSuspected := true })
        0x0104 (BitVec.ofNat 16 (portCode p)) 0) := by
  have hexec : exec (.rateSuspectTimeout p) s = execRateSuspectTimeout p s := rfl
  simp [hexec, execRateSuspectTimeout, ht, hst, hrate]

/-- Whether fast-acquire goes on past the end of its hold. -/
def heldOn (s : State) (x : PortS) : Bool :=
  x.fastNow && fastHeld (advanceTo s x.fastUntil) { x with fastUntil := 0 }

theorem heldOn_of_no_window {s : State} {x : PortS} (h : x.windowEnd = none) : heldOn s x = false := by
  simp [heldOn, fastHeld, h]

theorem exec_fastAcquireEnd {s : State} {p : Port} (ht : portsTrain s = true) (hhold : (getPort s p).fastUntil ≠ 0) :
    exec (.fastAcquireEnd p) s = .next (setPort (advanceTo s (getPort s p).fastUntil) p
      { getPort s p with fastUntil := 0, fastNow := heldOn s (getPort s p) }) := by
  have hexec : exec (.fastAcquireEnd p) s = execFastAcquireEnd p s := rfl
  simp [hexec, execFastAcquireEnd, ht, hhold, heldOn]

theorem exec_leaveReceive {s : State} {p : Port} (ht : portsTrain s = true) : exec (.leaveReceive p) s =
    .next (setPort s p { getPort s p with
      fastUntil := max (getPort s p).fastUntil (s.now + 10000000)
      fastNow := (getPort s p).fastNow || (getPort s p).st == .acquire }) := by
  have hexec : exec (.leaveReceive p) s = execLeaveReceive p s := rfl
  simp [hexec, execLeaveReceive, ht, msNs]

/-- A port set as the clocks run on. -/
theorem setPort_advanceTo_frame (s : State) (n : Nat) (p : Port) (x : PortS) :
    setPort (advanceTo s n) p x = clockedAs (setPort (advanceTo s n) p x) (setPort s p x) :=
  setPort_of_clockedAs (advanceTo_frame s n)

theorem setPort_advanceTo_reaches (s : State) (n : Nat) (p : Port) (x : PortS) : n ≤ (setPort (advanceTo s n) p x).now := by
  rw [setPort_now]
  exact (advanceTo_reaches s n).1

theorem reported_after_clocked {s t u : State} (hst : t = clockedAs t s) (htu : u = reportedAs u t) :
    u = clockedAs u (reportedAs u s) :=
  (congrArg (clockedAs u) (htu.trans (congrArg (reportedAs u) hst))).trans rfl

/-! ### IDENT (R101) -/

theorem exec_identSend {s : State} {p : Port} (ht : portsTrain s = true) (hst : (getPort s p).st = .up) :
    exec (.identSend p) s = .next (send (setPort (advanceTo s (getPort s p).nextIdent) p { getPort s p with
      nextIdent := max s.now (getPort s p).nextIdent + second }) (.ident p Config.serialFuses)) := by
  have hexec : exec (.identSend p) s = execIdentSend p s := rfl
  simp [hexec, execIdentSend, ht, hst]

theorem exec_identReceive {s : State} {p : Port} (serial : Long) (ht : portsTrain s = true) (hst : (getPort s p).st = .up) :
    exec (.identReceive p serial) s = .next (setPort s p { getPort s p with nbrSerial := some serial }) := by
  have hexec : exec (.identReceive p serial) s = execIdentReceive p serial s := rfl
  simp [hexec, execIdentReceive, ht, hst]

theorem linkQueued_portLost {s u : State} {p : Port} (h : u = cutAs u s) (hst : (getPort u p).st ≠ .down)
    (hlen : (linkPayload u 2).length = (linkPayload s 2).length) : linkQueued s (portDown u p) :=
  linkQueued_of_source (linkQueued_portDown hst) ((congrArg State.larder h).trans rfl) ((congrArg State.addr h).trans rfl) hlen

/-- What a cut leaves of the port's state. -/
theorem getPort_st_bothCut (s : State) (p : Port) (rx tx : Bool) : (getPort (bothCut s p rx tx) p).st = (getPort s p).st := by
  rw [getPort_of_cutAs p (bothCut_cutAs s p rx tx)]

/-- The words of a port that a loss from UP counts (R62). -/
theorem portCount_lost {s : State} {p : Port} {rx tx : Bool} (hup : (getPort s p).st = .up) :
    portCount (portDown (bothCut s p rx tx) p) p 7 = (bump (getPort s p).counts 7)[7]? ∧
      (rx = true → portCount (portDown (bothCut s p rx tx) p) p 2 = (bump (getPort s p).counts 2)[2]?) := by
  have hst : (getPort (bothCut s p rx tx) p).st = .up := (getPort_st_bothCut s p rx tx).trans hup
  have hdown : (getPort (bothCut s p rx tx) p).st ≠ .down := by rw [hst]; decide
  have hlost : (lostPort (bothCut s p rx tx) (getPort (bothCut s p rx tx) p)).counts =
      bump (getPort (bothCut s p rx tx) p).counts 7 := by simp [lostPort, hst]
  obtain ⟨hseven, htwo⟩ := portCount_endReception s p rx
  have hkeeps : ∀ j ≠ 4, (getPort (bothCut s p rx tx) p).counts[j]? = portCount (endReception s p rx) p j :=
    fun j hj => portCount_countCut _ p tx hj
  rw [portCount_portDown hdown (by decide), portCount_portDown hdown (by decide), hlost]
  refine ⟨getElem?_bump_congr ((hkeeps 7 (by decide)).trans hseven), fun hrx => ?_⟩
  rw [getElem?_bump_of_ne _ (by decide), hkeeps 2 (by decide), htwo hrx]

theorem getD_of_portCount {s : State} {p : Port} {i : Nat} {a : Counters} (h : portCount s p i = a[i]?) :
    (getPort s p).counts.getD i 0 = a.getD i 0 := by
  rw [List.getD_eq_getElem?_getD, List.getD_eq_getElem?_getD, ← h]
  rfl

theorem portLoss_up {s : State} {p : Port} (rx tx : Bool) (hup : (getPort s p).st = .up) :
    (getPort (portDown (bothCut s p rx tx) p) p).st = .down ∧ (getPort (portDown (bothCut s p rx tx) p) p).since = s.now ∧
      (getPort (portDown (bothCut s p rx tx) p) p).downAt = s.now ∧ linkQueued s (portDown (bothCut s p rx tx) p) := by
  have hcut := bothCut_cutAs s p rx tx
  have hdown : (getPort (bothCut s p rx tx) p).st ≠ .down := by rw [getPort_st_bothCut, hup]; decide
  have hnow : (bothCut s p rx tx).now = s.now := (congrArg State.now hcut).trans rfl
  have hqueued := linkQueued_portLost hcut hdown (bothCut_linkPayload_length s p rx tx)
  rw [getPort_portDown hdown]
  exact ⟨rfl, hnow, by simp [lostPort, getPort_st_bothCut, hup, hnow], hqueued⟩

/-! ### The timers, each by what it leaves (R57, R58, R75) -/

theorem fastAcquireFallback_leaves {s : State} {p : Port} (ht : portsTrain s = true) (hst : (getPort s p).st = .acquire)
    (hfast : (getPort s p).fastNow = true) :
    ∃ t, exec (.fastAcquireFallback p) s = .next t ∧ (getPort s p).since + 200000 ≤ t.now ∧
      t = clockedAs t (setPort s p { getPort s p with fastNow := false }) := by
  refine ⟨_, exec_fastAcquireFallback ht hst hfast, le_trans ?_ (setPort_advanceTo_reaches _ _ _ _),
    setPort_advanceTo_frame _ _ _ _⟩
  norm_num [usNs]

theorem rateSuspectTimeout_leaves {s : State} {p : Port} (ht : portsTrain s = true) (hst : (getPort s p).st = .acquire)
    (hrate : (getPort s p).rateSuspected = false) :
    ∃ t, exec (.rateSuspectTimeout p) s = .next t ∧ eventRaised s t 0x0104 ∧ (getPort s p).since + 10000000000 ≤ t.now ∧
      t = clockedAs t (reportedAs t (setPort s p { getPort s p with rateSuspected := true })) := by
  have hraise := raise_frame (setPort (advanceTo s ((getPort s p).since + 10 * second)) p
    { getPort s p with rateSuspected := true }) 0x0104 (BitVec.ofNat 16 (portCode p)) 0
  refine ⟨_, exec_rateSuspectTimeout ht hst hrate, eventRaised_of_larder (eventRaised_raise _ _ _ _) ?_, ?_,
    reported_after_clocked (setPort_advanceTo_frame _ _ _ _) hraise⟩
  · rw [setPort_larder, advanceTo_larder]
  · rw [raise_now]
    refine le_trans ?_ (setPort_advanceTo_reaches _ _ _ _)
    norm_num [second]

theorem fastAcquireEnd_leaves {s : State} {p : Port} (ht : portsTrain s = true) (hhold : (getPort s p).fastUntil ≠ 0) :
    ∃ t, exec (.fastAcquireEnd p) s = .next t ∧ (getPort s p).fastUntil ≤ t.now ∧
      ((getPort s p).windowEnd = none → (getPort t p).fastNow = false) ∧
      t = clockedAs t (setPort s p { getPort s p with fastUntil := 0, fastNow := (getPort t p).fastNow }) := by
  refine ⟨_, exec_fastAcquireEnd ht hhold, setPort_advanceTo_reaches _ _ _ _, fun hw => ?_, ?_⟩
  · rw [getPort_setPort]
    exact heldOn_of_no_window hw
  · rw [getPort_setPort]
    exact setPort_advanceTo_frame _ _ _ _

/-- IDENT sent as the clocks run on. -/
theorem send_of_clockedAs {s t : State} (x : Sent) (h : t = clockedAs t s) :
    send t x = clockedAs (send t x) { s with wire := x :: s.wire } := by
  have hwire : t.wire = s.wire := (congrArg State.wire h).trans rfl
  rw [send, hwire]
  exact congrArg (fun u : State => { u with wire := x :: s.wire }) h

theorem identSend_leaves {s : State} {p : Port} (ht : portsTrain s = true) (hst : (getPort s p).st = .up) :
    ∃ t, exec (.identSend p) s = .next t ∧ (getPort s p).nextIdent ≤ t.now ∧
      t = clockedAs t { setPort s p { getPort s p with nextIdent := max s.now (getPort s p).nextIdent + 1000000000 } with
        wire := .ident p Config.serialFuses :: s.wire } := by
  have hframe := send_of_clockedAs (.ident p Config.serialFuses) (setPort_advanceTo_frame s (getPort s p).nextIdent p
    { getPort s p with nextIdent := max s.now (getPort s p).nextIdent + second })
  rw [setPort_wire, second] at hframe
  refine ⟨_, exec_identSend ht hst, setPort_advanceTo_reaches _ _ _ _, ?_⟩
  rw [second]
  exact hframe

/-- Settles O17: the loss by the frames of the cuts and of the port's fall; the timers and IDENT by their equations. -/
theorem portLossTimersAndIdent : Obligations.PortLossTimersAndIdent := by
  unfold Obligations.PortLossTimersAndIdent
  refine ⟨fun s p rx tx x ht hx hst => ?_, fun s p x ht hx => ?_, fun s p ht hst => ⟨identSend_leaves ht hst, fun serial =>
    exec_identReceive serial ht hst⟩⟩
  · subst hx
    by_cases hup : (getPort s p).st = .up
    · have hdown : (getPort (bothCut s p rx tx) p).st ≠ .down := by rw [getPort_st_bothCut]; exact hst
      obtain ⟨hgone, hsince, hat, hqueued⟩ := portLoss_up rx tx hup
      obtain ⟨hseven, htwo⟩ := portCount_lost (rx := rx) (tx := tx) hup
      refine ⟨_, exec_portLoss_of_up rx tx ht hup, hgone, hsince, hqueued,
        fun _ => ⟨hat, getD_of_portCount hseven, fun hrx => getD_of_portCount (htwo hrx), ?_⟩, fun hnot => absurd hup hnot, ?_⟩
      · rw [portDown_wire, bothCut_wire]
      · rw [portDown_wire]
        exact portDown_frame_of_cutAs (bothCut_cutAs s p rx tx) hdown
    · obtain ⟨hgone, hsince⟩ := getPort_portLost hst
      refine ⟨_, exec_portLoss_of_training rx tx ht hup, hgone, hsince, linkQueued_portDown hst, fun h => absurd h hup,
        fun _ => portDown_wire _ p, ?_⟩
      rw [portDown_wire]
      exact portDown_frame_of_cutAs rfl hst
  · subst hx
    exact ⟨fastAcquireFallback_leaves ht, rateSuspectTimeout_leaves ht, fastAcquireEnd_leaves ht, exec_leaveReceive ht⟩

end Sys2Proof.Machine

/-! ## The merge and the vacancies

The settlement of O19. The layers: what any unit merged leaves of the ports' states; a CTL copy at a native node; two units of one
cycle; the oldest entry; what a vacancy takes. -/

namespace Sys2Proof.Machine

open Sys2Proof

/-! ### A unit merged leaves the node's mode and its ports' states (R57, R70) -/

/-- t trains its ports as s does, and each is in the state that it has in s. -/
def SamePorts (s t : State) : Prop :=
  t.start = s.start ∧ t.straps = s.straps ∧ t.power.st = s.power.st ∧ ∀ p, (getPort t p).st = (getPort s p).st

theorem SamePorts.refl (s : State) : SamePorts s s := ⟨rfl, rfl, rfl, fun _ => rfl⟩

theorem SamePorts.trans {s t u : State} (hst : SamePorts s t) (htu : SamePorts t u) : SamePorts s u := by
  obtain ⟨hstart, hstraps, hpower, hports⟩ := hst
  obtain ⟨hstart', hstraps', hpower', hports'⟩ := htu
  exact ⟨hstart'.trans hstart, hstraps'.trans hstraps, hpower'.trans hpower, fun p => (hports' p).trans (hports p)⟩

theorem SamePorts.portUp {s t : State} (h : SamePorts s t) (p : Port) : portUp t p = portUp s p := by
  simp only [Machine.portUp, h.2.2.2 p]

theorem SamePorts.portsTrain {s t : State} (h : SamePorts s t) : portsTrain t = portsTrain s := by
  obtain ⟨hstart, hstraps, hpower, _⟩ := h
  simp only [Machine.portsTrain, ringOn, running, clocksUp, ringMode, mode, strap, hstart, hstraps, hpower]

theorem samePorts_setPort {s : State} {p : Port} {x : PortS} (h : x.st = (getPort s p).st) : SamePorts s (setPort s p x) := by
  refine ⟨setPort_start _ _ _, setPort_straps _ _ _, congrArg Power.st (setPort_power _ _ _), fun q => ?_⟩
  match p, q with
  | .east, .east | .west, .west => exact h
  | .east, .west | .west, .east => rfl

theorem samePorts_countPort (s : State) (p : Port) (i : Nat) : SamePorts s (countPort s p i) := samePorts_setPort rfl

theorem samePorts_countCrc (s : State) (p : Port) : SamePorts s (countCrc s p) :=
  (samePorts_countPort s p 0).trans (samePorts_setPort rfl)

theorem samePorts_raise (s : State) (code arg0 : Half) (arg1 : Word) : SamePorts s (raise s code arg0 arg1) :=
  ⟨raise_start _ _ _ _, raise_straps _ _ _ _, congrArg Power.st (raise_power _ _ _ _), fun p => by simp⟩

/-- What is not a port's changes no port's state. -/
theorem samePorts_spine {s : State} {x : Spine} (he : x.east = s.spine.east) (hw : x.west = s.spine.west) :
    SamePorts s { s with spine := x } := by
  refine ⟨rfl, rfl, rfl, fun p => ?_⟩
  cases p
  · exact congrArg PortS.st he
  · exact congrArg PortS.st hw

theorem samePorts_countMalformed (s : State) (f : Folio) (c : Nat) : SamePorts s (countMalformed s f c) := by
  unfold countMalformed
  dsimp only
  split
  · exact (samePorts_spine (s := s) rfl rfl).trans (samePorts_raise _ _ _ _)
  · exact samePorts_spine rfl rfl

theorem samePorts_queueLeaf (s : State) (pos : BitVec 6) (f : Folio) : SamePorts s (queueLeaf s pos f) := by
  unfold queueLeaf
  split <;> exact SamePorts.refl s

theorem samePorts_copySig (s : State) (f : Folio) : SamePorts s (copySig s f) := by
  unfold copySig
  split
  · exact SamePorts.refl s
  · split
    · exact SamePorts.refl s
    · split
      · exact (samePorts_spine (s := s) rfl rfl).trans (samePorts_queueLeaf _ _ _)
      · exact samePorts_queueLeaf _ _ _

theorem samePorts_copySpl (s : State) (f : Folio) : SamePorts s (copySpl s f) := by
  unfold copySpl
  split
  · exact (SamePorts.refl s).trans (samePorts_queueLeaf _ _ _)
  · exact SamePorts.refl s

theorem samePorts_copyCtl (s : State) (f : Folio) : SamePorts s (copyCtl s f) := by
  unfold copyCtl
  split
  · exact SamePorts.refl s
  · exact samePorts_queueLeaf _ _ _

theorem samePorts_mergeInsert (s : State) (chan : Half) (seq : Word) (dest : BitVec 12) :
    SamePorts s (mergeInsert s chan seq dest) := samePorts_spine rfl rfl

theorem samePorts_copyOnly (s : State) (f : Folio) : SamePorts s (copyOnly s f) := by
  unfold copyOnly
  split
  · exact SamePorts.refl s
  · exact (samePorts_mergeInsert _ _ _ _).trans (samePorts_copyCtl _ _)

theorem samePorts_wake (s : State) (cause : Nat) : SamePorts s (wake s cause) := by
  unfold wake
  (repeat' split) <;> exact SamePorts.refl s

theorem samePorts_mergeCtl (s : State) (p : Port) (f : Folio) : SamePorts s (mergeCtl s p f) := by
  have hcopy := ((samePorts_mergeInsert s (Folio.channel f) f.w2 (ctlKey s f)).trans (samePorts_countPort _ p 5)).trans
    ((samePorts_copyCtl _ f).trans (samePorts_wake _ 1))
  unfold mergeCtl
  dsimp only
  split
  · exact samePorts_countPort s p 6
  · split
    · exact hcopy.trans (samePorts_spine rfl rfl)
    · exact hcopy

/-- A change of the slots alone changes no port. -/
theorem samePorts_larder (s : State) (x : Larder) : SamePorts s { s with larder := x } := SamePorts.refl s

/-- The presentation of a quire that no slot holds (R196, R200). -/
def freshPresentation (s : State) (f : Folio) : Nat := extendQtime s f.w3 + delayFor s f.w2 * usNs

/-- A folio whose quire no slot holds is past P, at or before the seam on light, or older than a quire held (R196). -/
def comesLate (s : State) (f : Folio) : Bool :=
  decide (freshPresentation s f * 2 ^ 32 ≤ s.mantel.p) ||
    (match s.larder.seamOnLight with
      | some x => decide (frameSeam s (freshPresentation s f) ≤ x)
      | none => false) ||
    s.larder.slots.any fun x => slotHolds x && !seqBelow x.quire f.w2

/-- The slot that such a folio opens: a free one, and else the oldest that receives, and else the oldest that is ready. -/
def slotOpened (s : State) (f : Folio) : Option Nat × State :=
  match s.larder.slots.findIdx? fun x => x.st == .free with
  | some i => (some i, openSlot s i (openedSlot f (freshPresentation s f)))
  | none =>
    match oldestSlot s.larder.slots .receiving with
    | some i => (some i, openSlot (supersede s i) i (openedSlot f (freshPresentation s f)))
    | none =>
      match oldestSlot s.larder.slots .ready with
      | some i => (some i, openSlot (supersede s i) i (openedSlot f (freshPresentation s f)))
      | none => (none, s)

theorem slotFor_of_some {s : State} {f : Folio} {i : Nat} (h : slotOf s f.w2 = some i) : slotFor s f = (some i, s) := by
  rw [slotFor, h]

theorem slotFor_of_none {s : State} {f : Folio} (h : slotOf s f.w2 = none) :
    slotFor s f = if comesLate s f then (none, s) else slotOpened s f := by
  rw [slotFor, h]
  rfl

theorem openSlot_larder (s : State) (i : Nat) (x : Slot) : openSlot s i x = { s with larder := (openSlot s i x).larder } := rfl

theorem openSlot_supersede_larder (s : State) (i : Nat) (x : Slot) :
    openSlot (supersede s i) i x = { s with larder := (openSlot (supersede s i) i x).larder } := rfl

theorem slotOpened_larder (s : State) (f : Folio) : (slotOpened s f).2 = { s with larder := (slotOpened s f).2.larder } := by
  unfold slotOpened
  split
  · exact openSlot_larder s _ _
  · split
    · exact openSlot_supersede_larder s _ _
    · split
      · exact openSlot_supersede_larder s _ _
      · rfl

/-- The slot for a signature folio is found or opened in the Larder alone. -/
theorem slotFor_larder (s : State) (f : Folio) : (slotFor s f).2 = { s with larder := (slotFor s f).2.larder } := by
  cases h : slotOf s f.w2 with
  | some i => rw [slotFor_of_some h]
  | none =>
    rw [slotFor_of_none h]
    split
    · rfl
    · exact slotOpened_larder s f

theorem samePorts_slotFor (s : State) (f : Folio) : SamePorts s (slotFor s f).2 := by
  rw [slotFor_larder]
  exact samePorts_larder s _

theorem samePorts_mergeSig (s : State) (p : Port) (f : Folio) : SamePorts s (mergeSig s p f) := by
  have hslot := samePorts_slotFor s f
  unfold mergeSig
  split
  · split
    · exact SamePorts.refl s
    · exact (samePorts_spine (s := s) rfl rfl).trans (samePorts_raise _ _ _ _)
  · split
    · next heq => rw [heq] at hslot; exact hslot.trans (samePorts_larder _ _)
    · next heq =>
      rw [heq] at hslot
      dsimp only
      split
      · exact hslot.trans (samePorts_countPort _ _ _)
      · exact hslot.trans ((samePorts_larder _ _).trans (samePorts_countPort _ _ _))

theorem samePorts_takeSig (s : State) (p : Port) (f : Folio) : SamePorts s (takeSig s p f) := by
  unfold takeSig
  split
  · exact samePorts_mergeSig s p f
  · split
    · exact samePorts_wake s 2
    · exact SamePorts.refl s

/-- s with a folio that a leaf is due copied to it. -/
def leafCopied (s : State) (f : Folio) : State :=
  if Folio.kind f == 1 then copySig s f else if Folio.kind f == 5 then copySpl s f else s

/-- What a node does with a folio that is neither stamped nor malformed, its leaf copy made. -/
def folioUsed (s : State) (p : Port) (f : Folio) : State :=
  if wouldUse s f then
    match Folio.kind f with
    | 1 => takeSig s p f
    | 2 => mergeCtl s p f
    | _ => s
  else if Folio.kind f == 2 then copyOnly s f
  else s

theorem mergeUnit_whole (s : State) (p : Port) (f : Folio) : mergeUnit s p (.whole f) =
    if Folio.stamped f then countPort s p 1
    else if !Folio.crcOk f then countCrc s p
    else
      match malformed s f with
      | some c => countMalformed s f c
      | none => folioUsed (leafCopied s f) p f := rfl

theorem samePorts_leafCopied (s : State) (f : Folio) : SamePorts s (leafCopied s f) := by
  unfold leafCopied
  split
  · exact samePorts_copySig s f
  · split
    · exact samePorts_copySpl s f
    · exact SamePorts.refl s

theorem samePorts_folioUsed (s : State) (p : Port) (f : Folio) : SamePorts s (folioUsed s p f) := by
  unfold folioUsed
  split
  · split
    · exact samePorts_takeSig s p f
    · exact samePorts_mergeCtl s p f
    · exact SamePorts.refl s
  · split
    · exact samePorts_copyOnly s f
    · exact SamePorts.refl s

theorem samePorts_mergeUnit (s : State) (p : Port) (u : RxUnit) : SamePorts s (mergeUnit s p u) := by
  cases u with
  | errorEnded => exact samePorts_countPort s p 3
  | cut => exact SamePorts.refl s
  | short => exact samePorts_countCrc s p
  | whole f =>
    rw [mergeUnit_whole]
    split
    · exact samePorts_countPort s p 1
    · split
      · exact samePorts_countCrc s p
      · split
        · exact samePorts_countMalformed s f _
        · exact (samePorts_leafCopied s f).trans (samePorts_folioUsed _ p f)

/-! ### Two units of one cycle (R70) -/

theorem mergeFrom_of_up {s : State} {p : Port} (u : RxUnit) (h : (getPort s p).st = .up) : mergeFrom s p u = mergeUnit s p u := by
  simp [mergeFrom, Machine.portUp, h]

theorem exec_merge_both {s : State} (u v : RxUnit) (he : (getPort s .east).st = .up) (hw : (getPort s .west).st = .up)
    (ht : portsTrain s = true) :
    exec (.merge .east ⟨u, some v⟩) s = .next (mergeUnit (mergeUnit s .east u) .west v) ∧
      exec (.merge .west ⟨v, some u⟩) s = .next (mergeUnit (mergeUnit s .east u) .west v) := by
  have heast : exec (.merge .east ⟨u, some v⟩) s = execMerge .east ⟨u, some v⟩ s := rfl
  have hwest : exec (.merge .west ⟨v, some u⟩) s = execMerge .west ⟨v, some u⟩ s := rfl
  have hstay : (getPort (mergeUnit s .east u) .west).st = .up := ((samePorts_mergeUnit s .east u).2.2.2 .west).trans hw
  rw [heast, hwest]
  constructor
  · simp [execMerge, ht, Machine.portUp, he, mergeFrom_of_up v hstay]
  · simp [execMerge, ht, Machine.portUp, hw, mergeFrom_of_up u he]

theorem exec_merge_one {s : State} {p : Port} (u : RxUnit) (ht : portsTrain s = true) (h : (getPort s p).st = .up) :
    exec (.merge p ⟨u, none⟩) s = .next (mergeUnit s p u) := by
  have hexec : exec (.merge p ⟨u, none⟩) s = execMerge p ⟨u, none⟩ s := rfl
  rw [hexec]
  cases p <;> simp [execMerge, ht, Machine.portUp, h]

theorem exec_merge_idle {s : State} (p : Port) (c : Arrival) (ht : portsTrain s = false) : exec (.merge p c) s = .next s := by
  have hexec : exec (.merge p c) s = execMerge p c s := rfl
  simp [hexec, execMerge, ht]

/-! ### A CTL copy at a native node (R67, R69, R402, R403) -/

theorem leafTarget_of_native {s : State} (f : Folio) (h : mode s = .native) : leafTarget s f = none := by
  simp [leafTarget, h]

theorem copyCtl_of_native {s : State} (f : Folio) (h : mode s = .native) : copyCtl s f = s := by
  simp [copyCtl, leafTarget_of_native f h]

theorem ctlKey_of_native {s : State} (f : Folio) (h : mode s = .native) : ctlKey s f = 0 := by
  simp [ctlKey, leafTarget_of_native f h]

/-- A good CTL folio for the node reaches the merge memory. -/
theorem mergeUnit_of_ctl {s : State} {f : Folio} (p : Port) (hstamp : Folio.stamped f = false) (hcrc : Folio.crcOk f = true)
    (hform : malformed s f = none) (huse : wouldUse s f = true) (hkind : Folio.kind f = 2) :
    mergeUnit s p (.whole f) = mergeCtl s p f := by
  simp [mergeUnit_whole, hstamp, hcrc, hform, leafCopied, folioUsed, hkind, huse]

/-- s with a first copy remembered and counted at its port. -/
def copyRemembered (s : State) (p : Port) (f : Folio) : State := countPort (mergeInsert s (Folio.channel f) f.w2 0) p 5

theorem mergeCtl_of_first {s : State} {p : Port} {f : Folio} (hmode : mode s = .native)
    (hnew : mergeHolds s (Folio.channel f) f.w2 0 = false) (hroom : s.spine.ctlQueue.length < 4) :
    mergeCtl s p f = { wake (copyRemembered s p f) 1 with
      spine := { (copyRemembered s p f).spine with ctlQueue := s.spine.ctlQueue ++ [(p, f)] } } := by
  have hnative : mode (copyRemembered s p f) = .native := by cases p <;> exact hmode
  have hspine : (wake (copyRemembered s p f) 1).spine = (copyRemembered s p f).spine := by
    unfold wake
    (repeat' split) <;> rfl
  have hqueue : (copyRemembered s p f).spine.ctlQueue = s.spine.ctlQueue := by cases p <;> rfl
  have hcopied : copyCtl (countPort (mergeInsert s (Folio.channel f) f.w2 0) p 5) f = copyRemembered s p f :=
    copyCtl_of_native f hnative
  unfold mergeCtl
  simp only [ctlKey_of_native f hmode, hnew, Bool.false_eq_true, if_false, hcopied, hspine, hqueue, hroom, if_true]

theorem mergeCtl_of_twin {s : State} {p : Port} {f : Folio} (hmode : mode s = .native)
    (hheld : mergeHolds s (Folio.channel f) f.w2 0 = true) : mergeCtl s p f = countPort s p 6 := by
  simp only [mergeCtl, ctlKey_of_native f hmode, hheld, if_true]

/-- What is remembered now is held. -/
theorem mergeHolds_of_head {t : State} {m : MergeEntry} {l : List MergeEntry} (h : t.spine.mergeMem = m :: l)
    (hnow : m.time = t.now) : mergeHolds t m.chan m.seq m.dest = true := by
  simp [mergeHolds, h, mergeLive, hnow]

/-- What a wake of cause 1 makes of the power state in S0 or S1 (R402, R403). -/
theorem wake_power (s : State) (h : s.power.st = .s0 ∨ s.power.st = .s1) :
    (s.power.waking = none → (wake s 1).power = if s.power.entryBegun = true then
      { s.power with waking := some 1, wakeAt := s.now, counts := bump s.power.counts 16 } else s.power) ∧
    (s.power.waking ≠ none → s.power.waking ≠ some 3 → (wake s 1).power = s.power) := by
  have hrest : (s.power.st == .s2 || s.power.st == .s3) = false := by rcases h with h | h <;> simp [h]
  constructor
  · intro hnone
    unfold wake
    rw [if_neg (by simp [hnone])]
    split
    · rfl
    · rw [hrest]
      rfl
  · intro hsome hthree
    obtain ⟨k, hk⟩ := Option.ne_none_iff_exists'.mp hsome
    have hk3 : k ≠ 3 := fun h3 => hthree (by rw [hk, h3])
    simp [wake, hk, hk3]

theorem wake_frame (s : State) (cause : Nat) : wake s cause = { s with power := (wake s cause).power } := by
  unfold wake
  (repeat' split) <;> rfl

/-! ### The oldest entry (R67) -/

/-- s with its oldest entry of the merge memory gone. -/
def oldestExpired (s : State) : State := { s with spine := { s.spine with mergeMem := s.spine.mergeMem.dropLast } }

theorem oldestExpired_of_clockedAs {s t : State} {l : List MergeEntry} {m : MergeEntry} (h : t = clockedAs t s)
    (hmem : s.spine.mergeMem = l ++ [m]) :
    oldestExpired t = clockedAs (oldestExpired t) { s with spine := { s.spine with mergeMem := l } } := by
  have hspine : t.spine = s.spine := (congrArg State.spine h).trans rfl
  rw [oldestExpired, hspine, hmem, List.dropLast_concat]
  exact congrArg (fun u : State => { u with spine := { s.spine with mergeMem := l } }) h

theorem exec_mergeEntryExpire {s : State} {l : List MergeEntry} {m : MergeEntry} (h : s.spine.mergeMem = l ++ [m]) :
    exec .mergeEntryExpire s = .next (oldestExpired (advanceTo s (m.time + msNs))) := by
  have hexec : exec .mergeEntryExpire s = execMergeEntryExpire s := rfl
  have hlast : s.spine.mergeMem.getLast? = some m := by rw [h, List.getLast?_concat]
  rw [hexec, execMergeEntryExpire, hlast]
  rfl

/-! ### A vacancy (R63, R131, R205) -/

theorem exec_vacancyFill {s : State} (p : Port) (v : Folio) (ht : portsTrain s = true) :
    exec (.vacancyFill p v) s = .next (fillVacancy s p v) := by
  have hexec : exec (.vacancyFill p v) s = execVacancyFill p v s := rfl
  rw [hexec, execVacancyFill, if_pos ht]

theorem fillVacancy_of_fitting {s : State} {p : Port} {v : Folio} (hup : (getPort s p).st = .up)
    (hfills : fillsVacancies s = true) (hv : fillable s v = true) (hgsp : gspWaiting s p v.payload.length = none) :
    fillVacancy s p v = sendQueued s p v.payload.length := by
  simp [fillVacancy, Machine.portUp, hup, hfills, hv, hgsp]

/-- With no GSP that fits, the ACK at the head of queue 0x01 is chosen. -/
theorem vacancyChoice_of_ack {s : State} {p : Port} {n : Nat} {f : OwnFolio} {rest : List OwnFolio}
    (h : s.larder.reports = f :: rest) (hack : isAck f = true) (hfits : fitsVacancy s p n f = true)
    (hgsp : ∀ g ∈ rest, g.kind ≠ 6) : vacancyChoice s p n = some 0 := by
  have hkind : f.kind = 3 := by
    simp only [isAck, Bool.and_eq_true, beq_iff_eq] at hack
    exact hack.1
  have hnone : s.larder.reports.findIdx? (fun g => g.kind == 6 && fitsVacancy s p n g) = none := by
    rw [List.findIdx?_eq_none_iff, h]
    intro g hg
    rcases List.mem_cons.mp hg with rfl | hg
    · simp [hkind]
    · have hother : (g.kind == 6) = false := beq_eq_false_iff_ne.mpr (hgsp g hg)
      rw [hother, Bool.false_and]
  have hfirst : s.larder.reports.findIdx? (fun g => isAck g && fitsVacancy s p n g) = some 0 := by
    simp [h, hack, hfits, List.findIdx?_cons]
  rw [vacancyChoice, hnone, hfirst]

theorem vacancyChoice_of_none {s : State} {p : Port} {n : Nat} (h : ∀ g ∈ s.larder.reports, fitsVacancy s p n g = false) :
    vacancyChoice s p n = none := by
  have hnone (q : OwnFolio → Bool) : s.larder.reports.findIdx? (fun g => q g && fitsVacancy s p n g) = none := by
    rw [List.findIdx?_eq_none_iff]
    intro g hg
    simp [h g hg]
  have hall : s.larder.reports.findIdx? (fitsVacancy s p n) = none := List.findIdx?_eq_none_iff.mpr h
  rw [vacancyChoice, hnone, hnone, hall]

/-- The copy that leaves was the last one due: it gives up its units (R205). -/
theorem takeCopy_of_head {s : State} {p : Port} {f : OwnFolio} {rest : List OwnFolio} (h : s.larder.reports = f :: rest)
    (hother : dueOn f (otherPort p) = false) (hrest : ∀ g ∈ rest, (g.dueEast || g.dueWest) = true)
    (hwait : s.larder.waiting = []) : takeCopy s p 0 = { s with larder := { s.larder with reports := rest } } := by
  have hgone : ((clearDue f p).dueEast || (clearDue f p).dueWest) = false := by
    cases p <;> simpa [clearDue, dueOn, otherPort] using hother
  have hleft : (s.larder.reports.modify 0 (clearDue · p)).filter (fun g => g.dueEast || g.dueWest) = rest := by
    rw [h, List.modify_zero_cons, List.filter_cons_of_neg (by simpa using hgone), List.filter_eq_self.mpr hrest]
  rw [takeCopy, hleft]
  simp [hwait, admitWaiting]

theorem sendQueued_of_ack {s : State} {p : Port} {n : Nat} {f : OwnFolio} {rest : List OwnFolio}
    (h : s.larder.reports = f :: rest) (hack : isAck f = true) (hfits : fitsVacancy s p n f = true)
    (hother : dueOn f (otherPort p) = false) (hgsp : ∀ g ∈ rest, g.kind ≠ 6)
    (hrest : ∀ g ∈ rest, (g.dueEast || g.dueWest) = true) (hwait : s.larder.waiting = []) :
    sendQueued s p n = { s with wire := .folio p (ownFolio s f) :: s.wire, larder := { s.larder with reports := rest } } := by
  have hkind : f.kind = 3 := by
    simp only [isAck, Bool.and_eq_true, beq_iff_eq] at hack
    exact hack.1
  have hplain : stampEgress (send s (.folio p (ownFolio s f))) p f = send s (.folio p (ownFolio s f)) := by
    simp [stampEgress, hkind]
  have hhead : s.larder.reports.getD 0 default = f := by simp [h]
  simp only [sendQueued, vacancyChoice_of_ack h hack hfits hgsp, hhead, hplain]
  exact takeCopy_of_head (s := send s _) h hother hrest hwait

theorem fillsVacancies_of_portsTrain {s : State} (ht : portsTrain s = true)
    (hcore : s.cellar.failAt = none ∨ coreWorks s = true) : fillsVacancies s = true := by
  have hon : ringOn s = true := by
    simp only [Machine.portsTrain, Bool.and_eq_true] at ht
    exact ht.1.1
  rcases hcore with hcore | hcore <;> simp [fillsVacancies, hon, hcore]

theorem gspWaiting_of_none {s : State} {p : Port} {n : Nat}
    (h : ∀ g ∈ s.larder.waiting, g.kind = 6 → fitsVacancy s p n g = false) : gspWaiting s p n = none := by
  rw [gspWaiting, List.findIdx?_eq_none_iff]
  intro g hg
  by_cases hk : g.kind = 6
  · rw [h g hg hk, Bool.and_false]
  · rw [beq_eq_false_iff_ne.mpr hk, Bool.false_and]

theorem fillVacancy_of_none {s : State} {p : Port} {v : Folio}
    (h : ∀ g ∈ s.larder.reports, fitsVacancy s p v.payload.length g = false)
    (hgsp : ∀ g ∈ s.larder.waiting, g.kind = 6 → fitsVacancy s p v.payload.length g = false) : fillVacancy s p v = s := by
  unfold fillVacancy
  split
  · rw [gspWaiting_of_none hgsp]
    simp only [sendQueued, vacancyChoice_of_none h]
  · rfl

theorem fillVacancy_of_failed {s : State} (p : Port) (v : Folio) (hfail : s.cellar.failAt ≠ none)
    (hcore : coreWorks s = false) : fillVacancy s p v = s := by
  obtain ⟨d, hd⟩ := Option.ne_none_iff_exists'.mp hfail
  have hnot : fillsVacancies s = false := by simp [fillsVacancies, hd, hcore]
  simp [fillVacancy, hnot]

/-- Settles O19: the copy by the merge's equations, the crossing by what a merge leaves of the ports, and the vacancy by its
choice. -/
theorem mergeDropsTwinsAndVacanciesTakeAcks : Obligations.MergeDropsTwinsAndVacanciesTakeAcks := by
  unfold Obligations.MergeDropsTwinsAndVacanciesTakeAcks
  refine ⟨⟨fun s p f ht hup hstamp hcrc hform huse hkind hmode hst => ⟨fun hnew hroom => ?_, fun hheld => ?_⟩,
    fun s u v he hw => ?_⟩, fun s l m hmem => ?_, fun s p v ht hup hv => ⟨?_, fun hnone hgsp => ?_, fun hfail hcore => ?_⟩⟩
  · have hpower : (copyRemembered s p f).power = s.power := by cases p <;> rfl
    have hnow : (copyRemembered s p f).now = s.now := by cases p <;> rfl
    obtain ⟨hwakes, hstays⟩ := wake_power (copyRemembered s p f) (by rw [hpower]; exact hst)
    rw [hpower, hnow] at hwakes
    rw [hpower] at hstays
    refine ⟨_, exec_merge_one _ ht hup, ?_⟩
    rw [mergeUnit_of_ctl p hstamp hcrc hform huse hkind, mergeCtl_of_first hmode hnew hroom]
    refine ⟨?_, hwakes, hstays, ?_⟩
    · have hmem : (copyRemembered s p f).spine.mergeMem = (mergeInsert s (Folio.channel f) f.w2 0).spine.mergeMem := by
        cases p <;> rfl
      refine mergeHolds_of_head (m := ⟨Folio.channel f, f.w2, 0, s.now⟩) hmem ?_
      rw [wake_frame, hnow]
    · rw [wake_frame]
      cases p <;> rfl
  · rw [exec_merge_one _ ht hup, mergeUnit_of_ctl p hstamp hcrc hform huse hkind, mergeCtl_of_twin hmode hheld]
    rfl
  · cases ht : portsTrain s with
    | false =>
      simp only [exec_merge_idle _ _ ht, true_and]
      rintro t ⟨⟩ _
      exact (exec_merge_idle _ _ ht).symm
    | true =>
      obtain ⟨heast, hwest⟩ := exec_merge_both u v he hw ht
      refine ⟨heast.trans hwest.symm, fun t ht' hup => ?_⟩
      rw [exec_merge_one u ht he] at ht'
      cases ht'
      have hports := samePorts_mergeUnit s .east u
      rw [heast, exec_merge_one v (hports.portsTrain.trans ht) hup]
  · have hexpired := oldestExpired_of_clockedAs (advanceTo_frame s (m.time + msNs)) hmem
    refine ⟨_, exec_mergeEntryExpire hmem, le_trans ?_ (advanceTo_reaches s (m.time + msNs)).1, hexpired⟩
    norm_num [msNs]
  · intro f rest hreports hack hdue hother hleave hlen hgsp hrest hwait hcore
    have hfits : fitsVacancy s p v.payload.length f = true := by simp [fitsVacancy, hdue, hleave, hlen]
    have hnone : gspWaiting s p v.payload.length = none := gspWaiting_of_none (by simp [hwait])
    refine ⟨_, exec_vacancyFill p v ht, ?_⟩
    rw [fillVacancy_of_fitting hup (fillsVacancies_of_portsTrain ht hcore) hv hnone,
      sendQueued_of_ack hreports hack hfits hother hgsp hrest hwait]
    exact ⟨rfl, rfl, rfl⟩
  · rw [exec_vacancyFill p v ht, fillVacancy_of_none hnone hgsp]
  · rw [exec_vacancyFill p v ht, fillVacancy_of_failed p v hfail hcore]

end Sys2Proof.Machine

/-! ## A signature folio at the merge

The settlement of O30. The layers: the bytes that a write leaves; the folio written in its slot; the slot that a new quire opens;
the three ways that a folio goes by. -/

namespace Sys2Proof.Machine

open Sys2Proof

/-! ### Bytes written and bytes left (R195) -/

theorem Memory.read_writeBytes_outside (m : Memory) (a x : Nat) (bs : List Byte) (h : x < a ∨ a + bs.length ≤ x) :
    Memory.read (Memory.writeBytes m a bs) x = Memory.read m x := by
  induction bs generalizing m a with
  | nil => rfl
  | cons b bs ih =>
    rw [List.length_cons] at h
    rw [Memory.writeBytes, ih (Memory.write m a b) (a + 1) (by omega), Memory.read_write_other m a x b (by omega)]

theorem Memory.read_writeBytes_inside (m : Memory) (a k : Nat) (bs : List Byte) (hm : Memory.wf m = true)
    (h : k < bs.length) : Memory.read (Memory.writeBytes m a bs) (a + k) = bs.getD k 0 := by
  induction bs generalizing m a k with
  | nil => exact absurd h (Nat.not_lt_zero k)
  | cons b bs ih =>
    cases k with
    | zero =>
      rw [Memory.writeBytes, Memory.read_writeBytes_outside _ _ _ _ (by omega)]
      exact Memory.read_write_same m a b hm
    | succ k =>
      have hrest := ih (Memory.write m a b) (a + 1) k (Memory.write_wf m a b hm) (Nat.lt_of_succ_lt_succ h)
      rw [Nat.add_right_comm] at hrest
      exact hrest

/-! ### A good folio of a signature reaches its slot (R66, R94) -/

theorem copySig_of_native {s : State} (f : Folio) (h : mode s = .native) : copySig s f = s := by
  simp [copySig, leafTarget_of_native f h]

theorem mergeUnit_of_sig {s : State} {f : Folio} (p : Port) (hmode : mode s = .native) (hstamp : Folio.stamped f = false)
    (hcrc : Folio.crcOk f = true) (hform : malformed s f = none) (huse : wouldUse s f = true) (hkind : Folio.kind f = 1) :
    mergeUnit s p (.whole f) = takeSig s p f := by
  simp [mergeUnit_whole, hstamp, hcrc, hform, leafCopied, copySig_of_native f hmode, folioUsed, hkind, huse]

theorem takeSig_of_awake {s : State} (p : Port) (f : Folio) (hst : s.power.st = .s0 ∨ s.power.st = .s1)
    (hentry : s.power.entryBegun = false) : takeSig s p f = mergeSig s p f := by
  rcases hst with hst | hst <;> simp [takeSig, hst, hentry]

/-- A folio for the node or a group reverses an entry as wake cause 2 while the feed is lost (R402, R403). -/
theorem takeSig_of_entry {s : State} {f : Folio} (p : Port) (hentry : s.power.entryBegun = true)
    (hwaking : s.power.waking = none) (hprog : s.screen.programme = .stream) (hlost : s.larder.fstate = .lost)
    (hdest : Folio.dgrp f = true ∨ Folio.dest f ≠ 0xFFF) : takeSig s p f = { s with
      power := { s.power with waking := some 2, wakeAt := s.now, counts := bump s.power.counts 16 } } := by
  have hclass : (addressClass f != 2) = true := by
    unfold addressClass
    rcases hdest with hdest | hdest
    · simp [hdest]
    · split
      · decide
      · simp [hdest]
  have hwakes : (s.screen.programme == .stream && s.larder.fstate == .lost && addressClass f != 2) = true := by
    rw [hprog, hlost, hclass]
    rfl
  unfold takeSig
  rw [if_neg (by simp [hentry]), if_pos hwakes]
  simp [wake, hwaking, hentry]

/-! ### The slot written (R66, R195) -/

/-- The slot x with a folio's payload and granules in it. -/
def writtenSlot (s : State) (x : Slot) (f : Folio) : Slot :=
  let covered := x.covered ++ (sigGranules f).filter fun g => !x.covered.contains g
  { x with
    data := Memory.writeBytes x.data (sigOff f * 64) f.payload, covered := covered
    st := if (sigSize s x.cfmt x.depth + 63) / 64 ≤ covered.length then .ready else .receiving }

theorem mem_writtenSlot_covered (s : State) (x : Slot) (f : Folio) (g : Nat) :
    g ∈ (writtenSlot s x f).covered ↔ g ∈ x.covered ∨ g ∈ sigGranules f := by
  simp only [writtenSlot, List.mem_append, List.mem_filter, Bool.not_eq_true', List.contains_eq_mem, decide_eq_false_iff_not]
  tauto

theorem writtenSlot_inside (s : State) (x : Slot) (f : Folio) (hm : Memory.wf x.data = true) (k : Nat)
    (hk : k < f.payload.length) : Memory.read (writtenSlot s x f).data (sigOff f * 64 + k) = f.payload.getD k 0 :=
  Memory.read_writeBytes_inside _ _ _ _ hm hk

theorem writtenSlot_outside (s : State) (x : Slot) (f : Folio) (a : Nat)
    (ha : a < sigOff f * 64 ∨ sigOff f * 64 + f.payload.length ≤ a) :
    Memory.read (writtenSlot s x f).data a = Memory.read x.data a :=
  Memory.read_writeBytes_outside _ _ _ _ ha

theorem writeSlot_eq {s : State} {i : Nat} {x : Slot} (f : Folio) (hx : s.larder.slots.getD i Slot.empty = x)
    (hst : x.st = .receiving) : writeSlot s i f = setSlot s i (writtenSlot s x f) := by
  subst hx
  simp only [writeSlot, slotComplete, writtenSlot, hst, BEq.rfl, Bool.true_and, decide_eq_true_eq]
  congr 1
  split <;> rfl

/-! ### Early, late and stored (R95, R196) -/

theorem mergeSig_of_early {s : State} {f : Folio} (p : Port) (h : mNs s + 1000000000 < presentation s f) : mergeSig s p f =
    if f.w2 ∈ s.spine.earlyQuires then s
    else raise { s with spine := { s.spine with earlyQuires := f.w2 :: s.spine.earlyQuires } } 0x0102 0 f.w2 := by
  have hearly : mNs s + second < presentation s f := by rwa [second]
  unfold mergeSig
  rw [if_pos (decide_eq_true hearly)]
  simp only [List.contains_eq_mem, decide_eq_true_eq]

theorem mergeSig_of_slot {s u : State} {f : Folio} {i : Nat} {x : Slot} (p : Port)
    (h : presentation s f ≤ mNs s + 1000000000) (hslot : slotFor s f = (some i, u))
    (hx : u.larder.slots.getD i Slot.empty = x) (hst : x.st = .receiving) (hnew : ∃ g ∈ sigGranules f, g ∉ x.covered) :
    mergeSig s p f = countPort (setSlot u i (writtenSlot u x f)) p 5 := by
  have hnot : ¬ mNs s + second < presentation s f := by rw [second]; omega
  have hsome : ¬ (sigGranules f).all x.covered.contains = true := by
    obtain ⟨g, hg, hgx⟩ := hnew
    simp only [List.all_eq_true, List.contains_eq_mem, decide_eq_true_eq, not_forall]
    exact ⟨g, hg, hgx⟩
  unfold mergeSig
  rw [if_neg (by simpa using hnot), hslot]
  dsimp only
  rw [hx, if_neg hsome, writeSlot_eq f hx hst]

theorem mergeSig_of_late {s : State} {f : Folio} (p : Port) (h : presentation s f ≤ mNs s + 1000000000)
    (hslot : slotFor s f = (none, s)) : mergeSig s p f = { s with
      larder := { s.larder with counts := bump s.larder.counts 2, secLate := s.larder.secLate + 1 } } := by
  have hnot : ¬ mNs s + second < presentation s f := by rw [second]; omega
  unfold mergeSig
  rw [if_neg (by simpa using hnot), hslot]
  rfl

theorem presentation_of_some {s : State} {f : Folio} {i : Nat} {x : Slot} (h : slotOf s f.w2 = some i)
    (hx : s.larder.slots[i]? = some x) : presentation s f = x.pres := by
  simp [presentation, h, hx]

theorem presentation_of_none {s : State} {f : Folio} (h : slotOf s f.w2 = none) : presentation s f = newPresentation s f := by
  simp [presentation, h, newPresentation, usNs]

theorem freshPresentation_eq (s : State) (f : Folio) : freshPresentation s f = newPresentation s f := by
  simp [freshPresentation, newPresentation, usNs]

/-! ### The slot that a new quire opens (R196) -/

theorem comesLate_iff (s : State) (f : Folio) : comesLate s f = true ↔
    newPresentation s f * 2 ^ 32 ≤ s.mantel.p ∨ (∃ x, s.larder.seamOnLight = some x ∧ frameSeam s (newPresentation s f) ≤ x) ∨
      ∃ x ∈ s.larder.slots, x.st ≠ .free ∧ seqBelow x.quire f.w2 = false := by
  rw [comesLate, freshPresentation_eq]
  cases s.larder.seamOnLight <;> simp [slotHolds, or_assoc]

theorem slotOpened_of_none {s : State} (f : Folio) (h : ∀ i n, ¬ opensSlot s i n) : slotOpened s f = (none, s) := by
  unfold slotOpened
  split
  · next i hi => exact absurd (.inl ⟨hi, rfl⟩) (h i 0)
  · next hfree =>
    split
    · next i hi => exact absurd (.inr ⟨hfree, rfl, .inl hi⟩) (h i 1)
    · next hrec =>
      split
      · next i hi => exact absurd (.inr ⟨hfree, rfl, .inr ⟨hrec, hi⟩⟩) (h i 1)
      · rfl

theorem slotOpened_of_opens {s : State} {i n : Nat} (f : Folio) (h : opensSlot s i n) : slotOpened s f =
    (some i, openSlot (if n = 0 then s else supersede s i) i (openedSlot f (newPresentation s f))) := by
  rw [← freshPresentation_eq]
  unfold slotOpened
  rcases h with ⟨hfree, rfl⟩ | ⟨hfree, rfl, hrec | ⟨hrec, hready⟩⟩
  · rw [hfree]; rfl
  · rw [hfree, hrec]; rfl
  · rw [hfree, hrec, hready]; rfl

theorem opensSlot_lt {s : State} {i n : Nat} (h : opensSlot s i n) : i < s.larder.slots.length := by
  rcases h with ⟨hfree, _⟩ | ⟨_, _, hrec | ⟨_, hready⟩⟩
  · exact (List.findIdx?_eq_some_iff_getElem.mp hfree).1
  · exact (List.findIdx?_eq_some_iff_getElem.mp hrec).1
  · exact (List.findIdx?_eq_some_iff_getElem.mp hready).1

/-- s with a slot opened for a new quire, where n says whether that superseded one, and its first folio written. -/
def openedWith (s : State) (i n : Nat) (f : Folio) : State :=
  setSlot (openSlot (if n = 0 then s else supersede s i) i (openedSlot f (newPresentation s f))) i
    (writtenSlot s (openedSlot f (newPresentation s f)) f)

theorem openedWith_frame {s : State} {i n : Nat} (f : Folio) (hn : n = 0 ∨ n = 1) : openedWith s i n f = { s with
    larder := { s.larder with
      slots := s.larder.slots.set i (writtenSlot s (openedSlot f (newPresentation s f)) f)
      dropped := s.larder.dropped.filter fun d => d.1 != f.w2
      counts := if n = 0 then s.larder.counts else bump s.larder.counts 3
      secSuperseded := s.larder.secSuperseded + n } } := by
  rcases hn with rfl | rfl <;>
    simp [openedWith, openSlot, supersede, countLarder, setSlot, List.set_set, openedSlot]

theorem mergeSig_opens {s : State} {f : Folio} {i n : Nat} (p : Port) (hnone : slotOf s f.w2 = none)
    (h : newPresentation s f ≤ mNs s + 1000000000) (hlate : comesLate s f = false) (hopen : opensSlot s i n)
    (hgran : sigGranules f ≠ []) : mergeSig s p f = countPort (openedWith s i n f) p 5 := by
  have hslot := (slotFor_of_none hnone).trans ((if_neg (Bool.eq_false_iff.mp hlate)).trans (slotOpened_of_opens f hopen))
  have hlt := opensSlot_lt hopen
  have hx : (openSlot (if n = 0 then s else supersede s i) i (openedSlot f (newPresentation s f))).larder.slots.getD i
      Slot.empty = openedSlot f (newPresentation s f) := by
    split <;> simp [openSlot, supersede, countLarder, setSlot, hlt]
  obtain ⟨g, hg⟩ := List.exists_mem_of_ne_nil _ hgran
  rw [mergeSig_of_slot p ((presentation_of_none hnone).trans_le h) hslot hx rfl ⟨g, hg, List.not_mem_nil⟩]
  congr 2
  split <;> rfl

theorem countPort_slots (s : State) (p : Port) (l : Larder) : countPort { s with larder := l } p 5 =
    { setPort s p { getPort s p with counts := (getPort s p).counts.modify 5 (· + 1) } with larder := l } := by
  cases p <;> rfl

/-- Settles O30: a folio by whether a slot holds its quire, and a new quire by when it comes. -/
theorem mergeStoresTheSignatureInItsSlot : Obligations.MergeStoresTheSignatureInItsSlot := by
  unfold Obligations.MergeStoresTheSignatureInItsSlot
  refine ⟨⟨fun s p f ht hup hmode hstamp hcrc hform huse hkind hentry hwaking hprog hlost hdest => ?_,
    fun s p f i x ht hup hmode hstamp hcrc hform huse hkind hst hentry hslot hx hrec hpres hwf hnew => ?_⟩,
    fun s p f ht hup hmode hstamp hcrc hform huse hkind hst hentry hslot => ?_⟩
  · rw [exec_merge_one _ ht hup, mergeUnit_of_sig p hmode hstamp hcrc hform huse hkind,
      takeSig_of_entry p hentry hwaking hprog hlost hdest]
  · have hgetD : s.larder.slots.getD i Slot.empty = x := by simp [hx]
    refine ⟨_, writtenSlot s x f, exec_merge_one _ ht hup, writtenSlot_inside s x f hwf, writtenSlot_outside s x f,
      mem_writtenSlot_covered s x f, rfl, ?_⟩
    rw [mergeUnit_of_sig p hmode hstamp hcrc hform huse hkind, takeSig_of_awake p f hst hentry,
      mergeSig_of_slot p ((presentation_of_some hslot hx).trans_le hpres) (slotFor_of_some hslot) hgetD hrec hnew]
    exact countPort_slots s p _
  · have hmerge : exec (.merge p ⟨.whole f, none⟩) s = .next (mergeSig s p f) := by
      rw [exec_merge_one _ ht hup, mergeUnit_of_sig p hmode hstamp hcrc hform huse hkind, takeSig_of_awake p f hst hentry]
    have hpres := presentation_of_none hslot
    rw [hmerge]
    refine ⟨fun hearly => ?_, fun hdue => ⟨fun hlate => ?_, fun i n hp hseam hnewest hopen hgran => ?_⟩⟩
    · rw [mergeSig_of_early p (hearly.trans_eq hpres.symm)]
      refine ⟨fun hin => by rw [if_pos hin], fun hout => ⟨_, rfl, ?_⟩⟩
      rw [if_neg hout]
      exact ⟨eventRaised_of_larder (eventRaised_raise _ _ _ _) rfl, raise_frame _ _ _ _⟩
    · have hnone : slotFor s f = (none, s) := by
        rw [slotFor_of_none hslot]
        split
        · rfl
        · next hnot =>
          rw [comesLate_iff] at hnot
          rcases hlate with hpast | hshown | hold | hnone
          · exact absurd (.inl hpast) hnot
          · exact absurd (.inr (.inl hshown)) hnot
          · exact absurd (.inr (.inr hold)) hnot
          · exact slotOpened_of_none f hnone
      rw [mergeSig_of_late p (hpres.trans_le hdue) hnone]
    · have hlate : comesLate s f = false := by
        rw [Bool.eq_false_iff, Ne, comesLate_iff]
        rintro (h | ⟨x, hx, h⟩ | ⟨x, hx, hst, h⟩)
        · omega
        · exact absurd (hseam x hx) (Nat.not_lt.mpr h)
        · rw [hnewest x hx hst] at h
          cases h
      have hn : n = 0 ∨ n = 1 := by
        rcases hopen with ⟨_, hn⟩ | ⟨_, hn, _⟩
        · exact .inl hn
        · exact .inr hn
      rw [mergeSig_opens p hslot hdue hlate hopen hgran, openedWith_frame f hn, countPort_slots]
      refine ⟨_, writtenSlot s (openedSlot f (newPresentation s f)) f, rfl, writtenSlot_inside s _ f rfl,
        writtenSlot_outside s _ f, rfl, rfl, rfl, rfl, rfl, ?_, ?_, rfl, rfl⟩
      · simp [writtenSlot, openedSlot]
      · simp [writtenSlot, openedSlot]

end Sys2Proof.Machine

/-! ## The report second

The settlement of O32. The layers: how far EVENT records have grown; the audit log as entries join it; the summaries of a second,
each by its frame and its growth; the ports' second; the EVENT report and the watermark notice. -/

namespace Sys2Proof.Machine

open Sys2Proof

/-! ### EVENT records that join queue 0x02 (R205) -/

/-- From s to t queue 0x02 has grown by at most k records. -/
def EventsGrow (s t : State) (k : Nat) : Prop :=
  s.larder.events <+: t.larder.events ∧ t.larder.events.length ≤ s.larder.events.length + k

theorem EventsGrow.refl (s : State) : EventsGrow s s 0 := ⟨List.prefix_refl _, le_refl _⟩

theorem EventsGrow.of_events {s t : State} (h : t.larder.events = s.larder.events) : EventsGrow s t 0 := by
  unfold EventsGrow
  rw [h]
  exact ⟨List.prefix_refl _, le_refl _⟩

theorem EventsGrow.trans {s t u : State} {j k : Nat} (hst : EventsGrow s t j) (htu : EventsGrow t u k) :
    EventsGrow s u (j + k) := by
  obtain ⟨hp, hl⟩ := hst
  obtain ⟨hp', hl'⟩ := htu
  exact ⟨hp.trans hp', by omega⟩

theorem EventsGrow.mono {s t : State} {j k : Nat} (h : EventsGrow s t j) (hjk : j ≤ k) : EventsGrow s t k := by
  obtain ⟨hp, hl⟩ := h
  exact ⟨hp, by omega⟩

theorem eventsGrow_raise (s : State) (code arg0 : Half) (arg1 : Word) : EventsGrow s (raise s code arg0 arg1) 1 := by
  refine ⟨events_prefix_raise s code arg0 arg1, ?_⟩
  simp only [raise, raiseAt, queueEvent, logEvent_larder]
  split <;> simp

/-- After at most k records more, an EVENT raised is still a new record, with room for it. -/
theorem mem_events_of_raise {s t u : State} {k : Nat} {code arg0 : Half} {arg1 : Word} (hgrow : EventsGrow s t k)
    (hroom : s.larder.events.length + k < 256) (hafter : (raise t code arg0 arg1).larder.events <+: u.larder.events) :
    ∃ e ∈ u.larder.events.drop s.larder.events.length, e.code = code := by
  obtain ⟨hp, hl⟩ := hgrow
  have hlt : t.larder.events.length < 256 := by omega
  obtain ⟨e, hlast, hcode⟩ : ∃ e, (raise t code arg0 arg1).larder.events = t.larder.events ++ [e] ∧ e.code = code := by
    simp [raise, raiseAt, queueEvent, hlt]
  refine ⟨e, (hafter.drop _).subset ?_, hcode⟩
  rw [hlast, List.drop_append_of_le_length hp.length_le]
  exact List.mem_append_right _ List.mem_cons_self

/-! ### Entries that join the audit log (R157) -/

/-- From s to t the entries have joined the audit log, and are its newest. -/
def AuditEnds (s t : State) (entries : List AuditEntry) : Prop :=
  entries <:+ t.arch.audit ∧ t.arch.auditNext = s.arch.auditNext + BitVec.ofNat 32 entries.length

theorem AuditEnds.refl (s : State) : AuditEnds s s [] := ⟨List.nil_suffix, by simp⟩

theorem AuditEnds.of_arch {s t u : State} {entries : List AuditEntry} (h : AuditEnds s t entries)
    (ha : u.arch.audit = t.arch.audit) (hn : u.arch.auditNext = t.arch.auditNext) : AuditEnds s u entries := by
  unfold AuditEnds
  rwa [ha, hn]

/-- A log that keeps its newest 1,024 records keeps what it ends with, as one more joins. -/
theorem suffix_of_newest {l entries : List AuditEntry} {e : AuditEntry} (h : entries <:+ l) (hfew : entries.length < 1024) :
    entries ++ [e] <:+ (l ++ [e]).drop (l.length + 1 - 1024) := by
  obtain ⟨old, rfl⟩ := h
  have hle : (old ++ entries).length + 1 - 1024 ≤ old.length := by
    rw [List.length_append]
    omega
  rw [List.append_assoc, List.drop_append_of_le_length hle]
  exact List.suffix_append _ _

/-- One summary in the audit log: the role's tally of wrong tags or keyless attempts (R155, R160). -/
def IsSummary (e : AuditEntry) (role n outcome : Nat) : Prop :=
  e.chan = 0xFFFF ∧ e.role = BitVec.ofNat 2 role ∧ e.outcome = BitVec.ofNat 4 outcome ∧ e.seq = BitVec.ofNat 32 n

/-- The entry of a summary. -/
def summaryEntry (s : State) (role n outcome : Nat) : AuditEntry :=
  { serial := s.arch.auditNext, chan := 0xFFFF, cmd := 0, seq := BitVec.ofNat 32 n, tsec := tsecOf (mNs s)
    tns := tnsOf (mNs s), role := BitVec.ofNat 2 role, outcome := BitVec.ofNat 4 outcome, result := 0, rebuilt := false }

theorem isSummary_summaryEntry (s : State) (role n outcome : Nat) :
    IsSummary (summaryEntry s role n outcome) role n outcome := ⟨rfl, rfl, rfl, rfl⟩

/-- s with the entry of a summary in the audit log. -/
def summaryWritten (s : State) (role n outcome : Nat) : State :=
  auditWrite s 0xFFFF 0 (BitVec.ofNat 32 n) (BitVec.ofNat 2 role) (BitVec.ofNat 4 outcome) 0 false

theorem summaryWritten_audit (s : State) (role n outcome : Nat) : (summaryWritten s role n outcome).arch.audit =
    (s.arch.audit ++ [summaryEntry s role n outcome]).drop (s.arch.audit.length + 1 - 1024) := by
  simp only [summaryWritten, auditWrite, auditAt, summaryEntry]

theorem auditEnds_summaryWritten {s t : State} {entries : List AuditEntry} (role n outcome : Nat) (h : AuditEnds s t entries)
    (hfew : entries.length < 1024) :
    AuditEnds s (summaryWritten t role n outcome) (entries ++ [summaryEntry t role n outcome]) := by
  obtain ⟨hends, hnext⟩ := h
  refine ⟨?_, ?_⟩
  · rw [summaryWritten_audit]
    exact suffix_of_newest hends hfew
  · simp [summaryWritten, auditWrite, auditAt, hnext, BitVec.ofNat_add, BitVec.add_assoc]

/-! ### The tallies of a second (R155, R160, R384) -/

/-- s with the audit log of t and its EVENT records: all that a summary of the audit log touches. -/
def auditedAs (t s : State) : State :=
  reportedAs t { s with arch := { s.arch with audit := t.arch.audit, auditNext := t.arch.auditNext } }

theorem auditedAs_self (s : State) : s = auditedAs s s := reportedAs_self s

theorem auditedAs_trans {s t u : State} (hst : t = auditedAs t s) (htu : u = auditedAs u t) : u = auditedAs u s := by
  refine htu.trans ((congrArg (auditedAs u) hst).trans ?_)
  cases h : s.cellar.failAt <;> simp [auditedAs, reportedAs, h]

theorem auditedAs_of_reportedAs {s t : State} (h : t = reportedAs t s) : t = auditedAs t s := by
  refine (auditedAs_self t).trans ((congrArg (auditedAs t) h).trans ?_)
  cases hf : s.cellar.failAt <;> simp [auditedAs, reportedAs, hf]

theorem auditedAs_of_arch {s t : State}
    (h : t = { s with arch := { s.arch with audit := t.arch.audit, auditNext := t.arch.auditNext } }) : t = auditedAs t s :=
  (reportedAs_self t).trans (congrArg (reportedAs t) h)

theorem summaryWritten_frame (s : State) (role n outcome : Nat) :
    summaryWritten s role n outcome = auditedAs (summaryWritten s role n outcome) s :=
  auditedAs_of_arch (by simp only [summaryWritten, auditWrite, auditAt])

theorem summarise_frame (s : State) (role n outcome reason : Nat) :
    summarise s role n outcome reason = auditedAs (summarise s role n outcome reason) s := by
  unfold summarise
  split
  · exact auditedAs_self s
  · split
    · exact auditedAs_of_reportedAs (refuseBurst_frame s)
    · exact auditedAs_trans (summaryWritten_frame s role n outcome) (auditedAs_of_reportedAs (raise_frame _ _ _ _))

/-- While no power fail is dated and the Archive is open, every burst is granted (R384). -/
theorem burstGranted_of_open {s : State} {words : Nat} (ho : archiveOpen s = true) (hf : s.cellar.failAt = none) :
    burstGranted s words = true := by
  simp [burstGranted, ho, hf]

theorem summarise_of_zero (s : State) (role outcome reason : Nat) : summarise s role 0 outcome reason = s := rfl

/-- A summary written: its audit entry, then EVENT 0x0206. -/
theorem summarise_of_some {s : State} {role n outcome reason : Nat} (hn : n ≠ 0) (ho : archiveOpen s = true)
    (hf : s.cellar.failAt = none) : summarise s role n outcome reason =
      raise (summaryWritten s role n outcome) 0x0206 (pack [(role, 8), (reason, 0)] |>.setWidth 16) (BitVec.ofNat 32 n) := by
  rw [summarise, if_neg hn, if_neg (by simp [burstGranted_of_open ho hf])]
  rfl

theorem eventsGrow_summarise (s : State) (role n outcome reason : Nat) :
    EventsGrow s (summarise s role n outcome reason) 1 := by
  have hrefused : (refuseBurst s).larder.events = s.larder.events := by
    unfold refuseBurst
    split <;> rfl
  have hwritten : (summaryWritten s role n outcome).larder.events = s.larder.events := by
    simp only [summaryWritten, auditWrite, auditAt]
  have hnone {t : State} (h : t.larder.events = s.larder.events) : EventsGrow s t 1 :=
    (EventsGrow.of_events h).mono (Nat.zero_le 1)
  unfold summarise
  split
  · exact hnone rfl
  · split
    · exact hnone hrefused
    · exact ((EventsGrow.of_events hwritten).trans (eventsGrow_raise (summaryWritten s role n outcome) _ _ _)).mono (by omega)

/-- A tally: a role, its count, the outcome and the reason that the summary gives. -/
abbrev Tally := Nat × Nat × Nat × Nat

def summariseAll (s : State) (l : List Tally) : State := l.foldl (fun s x => summarise s x.1 x.2.1 x.2.2.1 x.2.2.2) s

theorem summariseAll_frame (s : State) (l : List Tally) : summariseAll s l = auditedAs (summariseAll s l) s := by
  induction l generalizing s with
  | nil => exact auditedAs_self s
  | cons x l ih => exact auditedAs_trans (summarise_frame s _ _ _ _) (ih _)

theorem eventsGrow_summariseAll (s : State) (l : List Tally) : EventsGrow s (summariseAll s l) l.length := by
  induction l generalizing s with
  | nil => exact EventsGrow.refl s
  | cons x l ih =>
    have h := (eventsGrow_summarise s x.1 x.2.1 x.2.2.1 x.2.2.2).trans (ih _)
    rwa [Nat.add_comm] at h

/-- The tallies that are not 0 are in the audit log, one entry each. -/
theorem auditEnds_summariseAll {s t : State} {entries : List AuditEntry} (l : List Tally) (h : AuditEnds s t entries)
    (hfew : entries.length + l.length ≤ 1024) (ho : archiveOpen t = true) (hf : t.cellar.failAt = none) :
    ∃ bs, AuditEnds s (summariseAll t l) (entries ++ bs) ∧ bs.length = (l.filter fun x => x.2.1 != 0).length ∧
      ∀ x ∈ l, x.2.1 ≠ 0 → ∃ e ∈ bs, IsSummary e x.1 x.2.1 x.2.2.1 := by
  induction l generalizing t entries with
  | nil => exact ⟨[], by rw [List.append_nil]; exact h, rfl, fun x hx => absurd hx List.not_mem_nil⟩
  | cons x l ih =>
    obtain ⟨role, n, outcome, reason⟩ := x
    rw [List.length_cons] at hfew
    by_cases hn : n = 0
    · subst hn
      obtain ⟨bs, hends, hlen, hall⟩ := ih (t := summarise t role 0 outcome reason) h (by omega) ho hf
      refine ⟨bs, hends, by simpa using hlen, fun y hy hne => ?_⟩
      rcases List.mem_cons.mp hy with rfl | hy
      · exact absurd rfl hne
      · exact hall y hy hne
    · have hwritten := auditEnds_summaryWritten role n outcome h (by omega)
      have hstep := summarise_of_some (role := role) (outcome := outcome) (reason := reason) hn ho hf
      have hends : AuditEnds s (summarise t role n outcome reason) (entries ++ [summaryEntry t role n outcome]) := by
        rw [hstep]
        exact hwritten.of_arch (by simp) (by simp)
      have ho' : archiveOpen (summarise t role n outcome reason) = true := by
        rw [summarise_frame]
        exact ho
      have hf' : (summarise t role n outcome reason).cellar.failAt = none := by
        rw [summarise_frame]
        exact hf
      obtain ⟨bs, hends', hlen, hall⟩ := ih hends (by simp; omega) ho' hf'
      refine ⟨summaryEntry t role n outcome :: bs, by rw [List.append_cons]; exact hends', by simpa [hn] using hlen, fun y hy hne => ?_⟩
      rcases List.mem_cons.mp hy with rfl | hy
      · exact ⟨_, List.mem_cons_self, isSummary_summaryEntry t role n outcome⟩
      · obtain ⟨e', he', hs'⟩ := hall y hy hne
        exact ⟨e', List.mem_cons_of_mem _ he', hs'⟩

/-! ### The summaries of the audit log (R155, R156, R160, R406) -/

/-- The second's tallies, in the order in which they are summarised: outcome 4 for wrong tags, outcome 5 for keyless attempts. -/
def tallies (s : State) : List Tally :=
  [0, 1, 2].flatMap fun r => [(r, s.hall.tagFails.getD r 0, 4, 1), (r, s.hall.keyless.getD r 0, 5, 8)]

theorem mem_tallies (s : State) {r : Nat} (hr : r < 3) :
    (r, s.hall.tagFails.getD r 0, 4, 1) ∈ tallies s ∧ (r, s.hall.keyless.getD r 0, 5, 8) ∈ tallies s := by
  have hmem : r ∈ [0, 1, 2] := by
    simp only [List.mem_cons, List.not_mem_nil, or_false]
    omega
  constructor <;> exact List.mem_flatMap.mpr ⟨r, hmem, by simp⟩

theorem tallies_filter_length {s : State} (ht : s.hall.tagFails.length = 3) (hk : s.hall.keyless.length = 3) :
    ((tallies s).filter fun x => x.2.1 != 0).length =
      ((s.hall.tagFails ++ s.hall.keyless).filter fun n => n != 0).length := by
  obtain ⟨a, b, d, ht⟩ := List.length_eq_three.mp ht
  obtain ⟨a', b', d', hk⟩ := List.length_eq_three.mp hk
  simp only [tallies, ht, hk, ← List.countP_eq_length_filter, List.flatMap_cons, List.flatMap_nil, List.cons_append,
    List.nil_append, List.countP_cons, List.countP_nil]
  simp
  omega

/-- A tally of the second that is not 0 is one of those summarised. -/
theorem exists_tally {s : State} (ht : s.hall.tagFails.length = 3) (hk : s.hall.keyless.length = 3)
    (h : ∃ n ∈ s.hall.tagFails ++ s.hall.keyless, n ≠ 0) : ∃ x ∈ tallies s, x.2.1 ≠ 0 := by
  obtain ⟨n, hn, hne⟩ := h
  rcases List.mem_append.mp hn with hn | hn
  · obtain ⟨r, hr, rfl⟩ := List.getElem_of_mem hn
    exact ⟨_, (mem_tallies s (r := r) (by omega)).1, by simpa [hr] using hne⟩
  · obtain ⟨r, hr, rfl⟩ := List.getElem_of_mem hn
    exact ⟨_, (mem_tallies s (r := r) (by omega)).2, by simpa [hr] using hne⟩

/-- The first tally that is not 0 raises EVENT 0x0206 as a new record. -/
theorem eventRaised_summariseAll {s : State} (l : List Tally) (ho : archiveOpen s = true) (hf : s.cellar.failAt = none)
    (h : ∃ x ∈ l, x.2.1 ≠ 0) : eventRaised s (summariseAll s l) 0x0206 := by
  induction l with
  | nil =>
    obtain ⟨x, hx, _⟩ := h
    exact absurd hx List.not_mem_nil
  | cons x l ih =>
    obtain ⟨role, n, outcome, reason⟩ := x
    by_cases hn : n = 0
    · subst hn
      refine ih ?_
      obtain ⟨x, hx, hne⟩ := h
      rcases List.mem_cons.mp hx with rfl | hx
      · exact absurd rfl hne
      · exact ⟨x, hx, hne⟩
    · refine eventRaised_of_prefix (t := summarise s role n outcome reason) ?_ (eventsGrow_summariseAll _ l).1
      rw [summarise_of_some hn ho hf]
      refine eventRaised_of_larder (eventRaised_raise _ _ _ _) ?_
      simp only [summaryWritten, auditWrite, auditAt]

/-- s with the tallies of the second given. -/
def tallied (s : State) (tags keyless : List Nat) : State :=
  { s with hall := { s.hall with tagFails := tags, keyless := keyless } }

theorem auditSummaries_of_open {s : State} (h : archiveOpen s = true) :
    auditSummaries s = tallied (summariseAll s (tallies s)) [0, 0, 0] [0, 0, 0] := by
  rw [auditSummaries, if_neg (by simp [h])]
  rfl

theorem auditSummaries_eq (s : State) : auditSummaries s = s ∨
    auditSummaries s = tallied (summariseAll s (tallies s)) [0, 0, 0] [0, 0, 0] := by
  unfold auditSummaries
  split
  · exact .inl rfl
  · exact .inr rfl

/-- The summaries leave all but the audit log, the tallies and the EVENT records. -/
theorem auditSummaries_frame (s : State) : auditSummaries s = auditedAs (auditSummaries s)
    (tallied s (auditSummaries s).hall.tagFails (auditSummaries s).hall.keyless) := by
  rcases auditSummaries_eq s with h | h <;> rw [h]
  · exact auditedAs_self s
  · exact congrArg (fun x : State => tallied x [0, 0, 0] [0, 0, 0]) (summariseAll_frame s (tallies s))

theorem eventsGrow_auditSummaries (s : State) : EventsGrow s (auditSummaries s) 6 := by
  rcases auditSummaries_eq s with h | h <;> rw [h]
  · exact (EventsGrow.refl s).mono (Nat.zero_le 6)
  · exact eventsGrow_summariseAll s (tallies s)

/-! ### The other summaries (R209, R280, R312, R323, R343, R348, R435) -/

/-- A summary is an EVENT, or nothing where there is nothing to tell. -/
def toldUnless (c : Bool) (s : State) (code arg0 : Half) (arg1 : Word) : State := if c then s else raise s code arg0 arg1

theorem toldUnless_frame (c : Bool) (s : State) (code arg0 : Half) (arg1 : Word) :
    toldUnless c s code arg0 arg1 = reportedAs (toldUnless c s code arg0 arg1) s := by
  cases c
  · exact raise_frame s _ _ _
  · exact reportedAs_self s

theorem eventsGrow_toldUnless (c : Bool) (s : State) (code arg0 : Half) (arg1 : Word) :
    EventsGrow s (toldUnless c s code arg0 arg1) 1 := by
  cases c
  · exact eventsGrow_raise s _ _ _
  · exact (EventsGrow.refl s).mono (Nat.zero_le 1)

def lossCleared (s : State) : State := { s with larder := { s.larder with secHolds := 0, secSuperseded := 0, secLate := 0 } }

def plateCleared (s : State) : State := { s with press := { s.press with secDropped := 0, secWithdrawn := 0 } }

def discardCleared (s : State) : State := { s with coll := { s.coll with secOpens := 0, secShorts := 0 } }

def despiteCleared (s : State) : State := { s with back := { s.back with secDespite := 0, despiteMask := 0 } }

def leafCleared (s : State) : State := { s with leaf := { s.leaf with secSig := 0, secCtl := 0 } }

theorem lossSummary_eq (s : State) : ∃ a b, lossSummary s =
    toldUnless (s.larder.secHolds + s.larder.secSuperseded + s.larder.secLate == 0) (lossCleared s) 0x0405 a b := by
  simp only [lossSummary, toldUnless, beq_iff_eq]
  exact ⟨_, _, rfl⟩

theorem plateSummary_eq (s : State) : ∃ a b, plateSummary s =
    toldUnless (s.press.secDropped + s.press.secWithdrawn == 0) (plateCleared s) 0x0704 a b := by
  simp only [plateSummary, toldUnless, beq_iff_eq]
  exact ⟨_, _, rfl⟩

theorem discardSummary_eq (s : State) : ∃ a b, discardSummary s =
    toldUnless (s.coll.secOpens + s.coll.secShorts == 0) (discardCleared s) 0x0801 a b := by
  simp only [discardSummary, toldUnless, beq_iff_eq]
  exact ⟨_, _, rfl⟩

theorem despiteSummary_eq (s : State) : ∃ a b, despiteSummary s =
    toldUnless (s.back.secDespite == 0) (despiteCleared s) 0x0906 a b := by
  simp only [despiteSummary, toldUnless, beq_iff_eq]
  exact ⟨_, _, rfl⟩

theorem leafSummary_eq (s : State) : ∃ a b, leafSummary s =
    toldUnless (s.leaf.secSig + s.leaf.secCtl == 0) (leafCleared s) 0x0111 a b := by
  simp only [leafSummary, toldUnless, beq_iff_eq]
  exact ⟨_, _, rfl⟩

/-- A summary told raises its EVENT, after at most k records more and with room for it. -/
theorem mem_events_of_told {s t u : State} {k : Nat} {c : Bool} {code arg0 : Half} {arg1 : Word} (hc : c = false)
    (hgrow : EventsGrow s t k) (hroom : s.larder.events.length + k < 256)
    (hafter : (toldUnless c t code arg0 arg1).larder.events <+: u.larder.events) :
    ∃ e ∈ u.larder.events.drop s.larder.events.length, e.code = code := by
  subst hc
  exact mem_events_of_raise hgrow hroom hafter

/-- What an EVENT is raised on top of may have more changed that EVENT records leave alone. -/
theorem reported_step {F : State → State} (hF : ∀ t s, F (reportedAs t s) = reportedAs (F t) (F s)) {s t u : State}
    (hst : t = reportedAs t s) (htu : u = reportedAs u (F t)) : u = reportedAs u (F s) :=
  reportedAs_trans ((congrArg F hst).trans (hF t s)) htu

theorem lossSummary_frame (s : State) : lossSummary s = reportedAs (lossSummary s) (lossCleared s) := by
  obtain ⟨a, b, h⟩ := lossSummary_eq s
  rw [h]
  exact toldUnless_frame _ _ _ _ _

theorem plateSummary_frame (s : State) : plateSummary s = reportedAs (plateSummary s) (plateCleared s) := by
  obtain ⟨a, b, h⟩ := plateSummary_eq s
  rw [h]
  exact toldUnless_frame _ _ _ _ _

theorem discardSummary_frame (s : State) : discardSummary s = reportedAs (discardSummary s) (discardCleared s) := by
  obtain ⟨a, b, h⟩ := discardSummary_eq s
  rw [h]
  exact toldUnless_frame _ _ _ _ _

theorem despiteSummary_frame (s : State) : despiteSummary s = reportedAs (despiteSummary s) (despiteCleared s) := by
  obtain ⟨a, b, h⟩ := despiteSummary_eq s
  rw [h]
  exact toldUnless_frame _ _ _ _ _

theorem leafSummary_frame (s : State) : leafSummary s = reportedAs (leafSummary s) (leafCleared s) := by
  obtain ⟨a, b, h⟩ := leafSummary_eq s
  rw [h]
  exact toldUnless_frame _ _ _ _ _

/-- s after every summary of its second. -/
def summed (s : State) : State := leafSummary (despiteSummary (discardSummary (plateSummary (lossSummary (auditSummaries s)))))

/-- s with the tallies of the second cleared, those of the audit log apart. -/
def secondCleared (s : State) : State := leafCleared (despiteCleared (discardCleared (plateCleared (lossCleared s))))

/-- s with the audit log and the audit tallies of t. -/
def auditTaken (t s : State) : State :=
  { tallied s t.hall.tagFails t.hall.keyless with
    arch := { s.arch with audit := t.arch.audit, auditNext := t.arch.auditNext } }

theorem secondCleared_eq (s : State) : secondCleared s =
    { s with
      larder := { s.larder with secHolds := 0, secSuperseded := 0, secLate := 0 }
      press := { s.press with secDropped := 0, secWithdrawn := 0 }
      coll := { s.coll with secOpens := 0, secShorts := 0 }
      back := { s.back with secDespite := 0, despiteMask := 0 }
      leaf := { s.leaf with secSig := 0, secCtl := 0 } } := by
  simp only [secondCleared, leafCleared, despiteCleared, discardCleared, plateCleared, lossCleared]

theorem summed_frame (s : State) : summed s = reportedAs (summed s) (secondCleared (auditTaken (auditSummaries s) s)) := by
  have haudit : auditSummaries s = reportedAs (auditSummaries s) (auditTaken (auditSummaries s) s) := auditSummaries_frame s
  have hloss := reported_step (F := lossCleared) (fun _ _ => rfl) haudit (lossSummary_frame _)
  have hplate := reported_step (F := plateCleared) (fun _ _ => rfl) hloss (plateSummary_frame _)
  have hdiscard := reported_step (F := discardCleared) (fun _ _ => rfl) hplate (discardSummary_frame _)
  have hdespite := reported_step (F := despiteCleared) (fun _ _ => rfl) hdiscard (despiteSummary_frame _)
  exact reported_step (F := leafCleared) (fun _ _ => rfl) hdespite (leafSummary_frame _)

theorem eventsGrow_of_told {s t u : State} {c : Bool} {code arg0 : Half} {arg1 : Word}
    (hclear : t.larder.events = s.larder.events) (h : u = toldUnless c t code arg0 arg1) : EventsGrow s u 1 := by
  rw [h]
  have hgrow := (EventsGrow.of_events hclear).trans (eventsGrow_toldUnless c t code arg0 arg1)
  rwa [Nat.zero_add] at hgrow

theorem eventsGrow_lossSummary (s : State) : EventsGrow s (lossSummary s) 1 := by
  obtain ⟨a, b, h⟩ := lossSummary_eq s
  exact eventsGrow_of_told (t := lossCleared s) rfl h

theorem eventsGrow_plateSummary (s : State) : EventsGrow s (plateSummary s) 1 := by
  obtain ⟨a, b, h⟩ := plateSummary_eq s
  exact eventsGrow_of_told (t := plateCleared s) rfl h

theorem eventsGrow_discardSummary (s : State) : EventsGrow s (discardSummary s) 1 := by
  obtain ⟨a, b, h⟩ := discardSummary_eq s
  exact eventsGrow_of_told (t := discardCleared s) rfl h

theorem eventsGrow_despiteSummary (s : State) : EventsGrow s (despiteSummary s) 1 := by
  obtain ⟨a, b, h⟩ := despiteSummary_eq s
  exact eventsGrow_of_told (t := despiteCleared s) rfl h

theorem eventsGrow_leafSummary (s : State) : EventsGrow s (leafSummary s) 1 := by
  obtain ⟨a, b, h⟩ := leafSummary_eq s
  exact eventsGrow_of_told (t := leafCleared s) rfl h

/-- What the audit summaries leave for the others to tell. -/
theorem auditSummaries_keeps (s : State) : (auditSummaries s).larder.secHolds = s.larder.secHolds ∧
    (auditSummaries s).larder.secSuperseded = s.larder.secSuperseded ∧ (auditSummaries s).larder.secLate = s.larder.secLate ∧
    (auditSummaries s).press = s.press ∧ (auditSummaries s).coll = s.coll := by
  obtain ⟨v, tags, keyless, h⟩ : ∃ v tags keyless, auditSummaries s = auditedAs v (tallied s tags keyless) :=
    ⟨_, _, _, auditSummaries_frame s⟩
  rw [h]
  exact ⟨rfl, rfl, rfl, rfl, rfl⟩

theorem lossSummary_keeps (s : State) : (lossSummary s).press = s.press ∧ (lossSummary s).coll = s.coll := by
  obtain ⟨v, h⟩ : ∃ v, lossSummary s = reportedAs v (lossCleared s) := ⟨_, lossSummary_frame s⟩
  rw [h]
  exact ⟨rfl, rfl⟩

theorem plateSummary_coll (s : State) : (plateSummary s).coll = s.coll := by
  obtain ⟨v, h⟩ : ∃ v, plateSummary s = reportedAs v (plateCleared s) := ⟨_, plateSummary_frame s⟩
  rw [h]
  rfl

/-- s after the summaries of the audit log, of the losses, of the plates and of the discards. -/
def lossTold (s : State) : State := lossSummary (auditSummaries s)

def plateTold (s : State) : State := plateSummary (lossTold s)

def discardTold (s : State) : State := discardSummary (plateTold s)

theorem summed_eq (s : State) : summed s = leafSummary (despiteSummary (discardTold s)) := rfl

/-- How far queue 0x02 has grown before each summary's EVENT. -/
theorem eventsGrow_lossTold (s : State) : EventsGrow s (lossTold s) 7 :=
  (eventsGrow_auditSummaries s).trans (eventsGrow_lossSummary _)

theorem eventsGrow_plateTold (s : State) : EventsGrow s (plateTold s) 8 :=
  (eventsGrow_lossTold s).trans (eventsGrow_plateSummary _)

theorem events_prefix_discardTold (s : State) : (discardTold s).larder.events <+: (summed s).larder.events := by
  obtain ⟨hdespite, _⟩ := eventsGrow_despiteSummary (discardTold s)
  obtain ⟨hleaf, _⟩ := eventsGrow_leafSummary (despiteSummary (discardTold s))
  rw [summed_eq]
  exact hdespite.trans hleaf

theorem events_prefix_plateTold (s : State) : (plateTold s).larder.events <+: (summed s).larder.events :=
  (eventsGrow_discardSummary _).1.trans (events_prefix_discardTold s)

theorem events_prefix_lossTold (s : State) : (lossTold s).larder.events <+: (summed s).larder.events :=
  (eventsGrow_plateSummary _).1.trans (events_prefix_plateTold s)

/-- The EVENT of a summary, told after at most k records more, is a new record with room for it. -/
theorem mem_events_of_summary {s r t w u : State} {k : Nat} {c : Bool} {code arg0 : Half} {arg1 : Word} (hc : c = false)
    (hgrow : EventsGrow s r k) (hclear : t.larder.events = r.larder.events) (hw : w = toldUnless c t code arg0 arg1)
    (hroom : s.larder.events.length + k < 256) (hafter : w.larder.events <+: u.larder.events) :
    ∃ e ∈ u.larder.events.drop s.larder.events.length, e.code = code := by
  subst hw
  exact mem_events_of_told hc (hgrow.trans (EventsGrow.of_events hclear)) hroom hafter

/-- The losses of the second are told (R209). -/
theorem eventRaised_loss {s : State} (h : s.larder.secHolds + s.larder.secSuperseded + s.larder.secLate ≠ 0) :
    eventRaised s (summed s) 0x0405 := by
  intro hroom
  obtain ⟨a, b, hloss⟩ := lossSummary_eq (auditSummaries s)
  obtain ⟨hholds, hsuperseded, hlate, _⟩ := auditSummaries_keeps s
  refine mem_events_of_summary ?_ (eventsGrow_auditSummaries s) (t := lossCleared (auditSummaries s)) rfl hloss (by omega)
    (events_prefix_lossTold s)
  rw [hholds, hsuperseded, hlate]
  exact beq_eq_false_iff_ne.mpr h

/-- The plates dropped or withdrawn are told (R280). -/
theorem eventRaised_plate {s : State} (h : s.press.secDropped + s.press.secWithdrawn ≠ 0) :
    eventRaised s (summed s) 0x0704 := by
  intro hroom
  obtain ⟨a, b, hplate⟩ := plateSummary_eq (lossTold s)
  have hpress : (lossTold s).press = s.press := (lossSummary_keeps _).1.trans (auditSummaries_keeps s).2.2.2.1
  refine mem_events_of_summary ?_ (eventsGrow_lossTold s) (t := plateCleared (lossTold s)) rfl hplate (by omega)
    (events_prefix_plateTold s)
  rw [hpress]
  exact beq_eq_false_iff_ne.mpr h

/-- The slots discarded are told (R312, R323). -/
theorem eventRaised_discard {s : State} (h : s.coll.secOpens + s.coll.secShorts ≠ 0) (hfew : s.larder.events.length ≤ 240) :
    eventRaised s (summed s) 0x0801 := by
  intro _
  obtain ⟨a, b, hdiscard⟩ := discardSummary_eq (plateTold s)
  have hcoll : (plateTold s).coll = s.coll :=
    (plateSummary_coll _).trans ((lossSummary_keeps _).2.trans (auditSummaries_keeps s).2.2.2.2)
  refine mem_events_of_summary ?_ (eventsGrow_plateTold s) (t := discardCleared (plateTold s)) rfl hdiscard (by omega)
    (events_prefix_discardTold s)
  rw [hcoll]
  exact beq_eq_false_iff_ne.mpr h

/-- The tallies of a second stand in the audit log, one entry each, with EVENT 0x0206 (R155, R156, R160). -/
theorem auditSummaries_tell {s : State} (ho : archiveOpen s = true) (hf : s.cellar.failAt = none)
    (ht : s.hall.tagFails.length = 3) (hk : s.hall.keyless.length = 3) :
    (auditSummaries s).arch.auditNext = s.arch.auditNext +
        BitVec.ofNat 32 ((s.hall.tagFails ++ s.hall.keyless).filter fun n => n != 0).length ∧
      ((∃ n ∈ s.hall.tagFails ++ s.hall.keyless, n ≠ 0) → eventRaised s (auditSummaries s) 0x0206) ∧
      ∀ x ∈ tallies s, x.2.1 ≠ 0 → ∃ e ∈ (auditSummaries s).arch.audit, IsSummary e x.1 x.2.1 x.2.2.1 := by
  have hfew : ([] : List AuditEntry).length + (tallies s).length ≤ 1024 := by simp [tallies]
  obtain ⟨bs, ⟨hends, hnext⟩, hlen, hall⟩ := auditEnds_summariseAll (tallies s) (AuditEnds.refl s) hfew ho hf
  rw [auditSummaries_of_open ho]
  refine ⟨?_, fun hne => ?_, fun x hx hn => ?_⟩
  · rw [← tallies_filter_length ht hk, ← hlen]
    exact hnext
  · exact eventRaised_of_prefix (eventRaised_summariseAll _ ho hf (exists_tally ht hk hne)) (List.prefix_refl _)
  · obtain ⟨e, he, hsum⟩ := hall x hx hn
    exact ⟨e, hends.subset he, hsum⟩

/-- What the summaries leave of the audit log is what those of the audit log made it. -/
theorem summed_audit (s : State) : (summed s).arch.audit = (auditSummaries s).arch.audit ∧
    (summed s).arch.auditNext = (auditSummaries s).arch.auditNext ∧
    (summed s).hall.tagFails = (auditSummaries s).hall.tagFails ∧ (summed s).hall.keyless = (auditSummaries s).hall.keyless := by
  have h := summed_frame s
  generalize summed s = t at h ⊢
  rw [h]
  exact ⟨rfl, rfl, rfl, rfl⟩

theorem events_prefix_auditSummaries (s : State) : (auditSummaries s).larder.events <+: (summed s).larder.events :=
  (eventsGrow_lossSummary _).1.trans (events_prefix_lossTold s)

/-! ### The ports' second (R59, R110) -/

/-- s with the second of both ports ended. -/
def portsEnded (s : State) : State :=
  setPort (setPort s .east (endPortSecond s.spine.east)) .west (endPortSecond s.spine.west)

theorem portSummary_eq (s : State) : portSummary s =
    if decide (16 < s.spine.east.crcThisSecond) || decide (16 < s.spine.west.crcThisSecond) then queueLink (portsEnded s) 1
    else portsEnded s := rfl

theorem portSummary_frame (s : State) : portSummary s = queuedAs (portSummary s) (portsEnded s) := by
  rw [portSummary_eq]
  split
  · exact queueReport_frame _ _ _
  · exact queuedAs_self _

/-- LINK is queued at a node of any role, whatever it is queued for. -/
theorem reportQueued_queueLink (s : State) (why : Nat) : reportQueued s (queueLink s why) 0x0011 (linkPayload s why).length
    fun b => b.take 4 = wordBytes (BitVec.ofNat 32 why) := by
  intro hwait hroom hup
  obtain ⟨r, hr, hk, hs, hq, hp⟩ := queueOwn_holds (s := s)
    (f := { kind := 3, spec := 0x0011, seq := 0, payload := linkPayload s why, dueEast := true, dueWest := true
            leafSrc := none, unassignedOk := false }) ⟨rfl, (by decide : (3 : BitVec 4) ≠ 4), rfl, rfl⟩ hwait hroom
    (by simpa [portUp] using hup)
  exact ⟨r, hr, hk, hs, hq, by rw [hp]; exact linkPayload_take s why⟩

/-- What was queued stays said of an earlier state with the same folios queued and waiting, and the same report sequence. -/
theorem reportQueued_of_queues {s s' t : State} {rtype : Half} {size : Nat} {holds : List Byte → Prop}
    (h : reportQueued s' t rtype size holds) (hr : s'.larder.reports = s.larder.reports)
    (hw : s'.larder.waiting = s.larder.waiting) (ha : s'.addr = s.addr) : reportQueued s t rtype size holds := by
  unfold reportQueued reportLevel at h ⊢
  rwa [hr, hw, ha] at h

/-! ### The end of a report second (R479) -/

/-- s with one second more ended, and a collision to be reported anew. -/
def secondNoted (s : State) : State :=
  { s with
    start := { s.start with secondsEnded := s.start.secondsEnded + 1 }
    spine := { s.spine with collisionReported := false } }

theorem endSecond_eq (s : State) : endSecond s = secondNoted (portSummary (summed s)) := by
  simp only [endSecond, summed, secondNoted]

theorem endSecond_frame (s : State) : endSecond s = reportedAs (endSecond s) (queuedAs (endSecond s)
    (secondNoted (portsEnded (secondCleared (auditTaken (auditSummaries s) s))))) := by
  have hsummed := summed_frame s
  have hqueued := portSummary_frame (summed s)
  rw [endSecond_eq]
  generalize portSummary (summed s) = u at hqueued ⊢
  generalize summed s = t at hqueued hsummed
  have hnoted : secondNoted (portsEnded t) = reportedAs (secondNoted (portsEnded t))
      (secondNoted (portsEnded (secondCleared (auditTaken (auditSummaries s) s)))) :=
    (congrArg (fun x : State => secondNoted (portsEnded x)) hsummed).trans rfl
  exact reported_then_queued hnoted ((congrArg secondNoted hqueued).trans rfl)

theorem exec_reportSecondEnd {s : State} (h : running s = true) : exec .reportSecondEnd s =
    .next (endSecond (advanceTo s (s.start.s + (s.start.secondsEnded + 1) * second))) := by
  have hexec : exec .reportSecondEnd s = execReportSecondEnd s := rfl
  rw [hexec, execReportSecondEnd, if_pos h]

/-- The EVENT records and the audit log at the end of the second are those after its summaries. -/
theorem endSecond_keeps (s : State) : (endSecond s).larder.events = (summed s).larder.events ∧
    (endSecond s).arch = (summed s).arch ∧ (endSecond s).now = s.now := by
  have hqueued := portSummary_frame (summed s)
  have hsummed := summed_frame s
  rw [endSecond_eq]
  generalize portSummary (summed s) = u at hqueued ⊢
  generalize summed s = t at hqueued hsummed ⊢
  generalize auditSummaries s = v at hsummed
  refine ⟨(congrArg (fun x => x.larder.events) hqueued).trans rfl, (congrArg State.arch hqueued).trans rfl,
    ((congrArg State.now hqueued).trans rfl).trans ((congrArg State.now hsummed).trans ?_)⟩
  show (secondCleared (auditTaken v s)).now = s.now
  rw [secondCleared_eq]
  rfl

theorem endSecond_hall (s : State) : (endSecond s).hall.tagFails = (auditSummaries s).hall.tagFails ∧
    (endSecond s).hall.keyless = (auditSummaries s).hall.keyless := by
  have h := endSecond_frame s
  generalize endSecond s = t at h ⊢
  generalize auditSummaries s = v at h ⊢
  exact ⟨(congrArg (fun x => x.hall.tagFails) h).trans rfl, (congrArg (fun x => x.hall.keyless) h).trans rfl⟩

/-- A port as the end of a second leaves it, with its counts those of y. -/
def portEnded (x y : PortS) : PortS := { endPortSecond x with counts := y.counts }

theorem endSecond_ports (s : State) : (endSecond s).spine.east = portEnded s.spine.east (endSecond s).spine.east ∧
    (endSecond s).spine.west = portEnded s.spine.west (endSecond s).spine.west := by
  have h := endSecond_frame s
  generalize endSecond s = t at h ⊢
  generalize auditSummaries s = v at h
  exact ⟨(congrArg (fun x => x.spine.east) h).trans rfl, (congrArg (fun x => x.spine.west) h).trans rfl⟩

/-- s with a report second ended: its tallies cleared, and the ports, the audit log and the audit tallies as given. -/
def secondEnded (s : State) (east west : PortS) (arch : Archive) (hall : Hall) : State :=
  { s with
    start := { s.start with secondsEnded := s.start.secondsEnded + 1 }
    spine := { s.spine with collisionReported := false, east := east, west := west }
    arch := { s.arch with audit := arch.audit, auditNext := arch.auditNext }
    larder := { s.larder with secHolds := 0, secSuperseded := 0, secLate := 0 }
    press := { s.press with secDropped := 0, secWithdrawn := 0 }
    coll := { s.coll with secOpens := 0, secShorts := 0 }
    back := { s.back with secDespite := 0, despiteMask := 0 }
    leaf := { s.leaf with secSig := 0, secCtl := 0 }
    hall := { s.hall with tagFails := hall.tagFails, keyless := hall.keyless } }

/-- What the end of a second leaves as it was. -/
theorem endSecond_secondEnded (s : State) : endSecond s = reportedAs (endSecond s) (queuedAs (endSecond s)
    (secondEnded s (endSecond s).spine.east (endSecond s).spine.west (endSecond s).arch (endSecond s).hall)) := by
  have h := endSecond_frame s
  obtain ⟨heast, hwest⟩ := endSecond_ports s
  generalize endSecond s = t at h heast hwest ⊢
  generalize auditSummaries s = v at h
  have haudit : t.arch.audit = v.arch.audit := (congrArg (fun x => x.arch.audit) h).trans rfl
  have hnext : t.arch.auditNext = v.arch.auditNext := (congrArg (fun x => x.arch.auditNext) h).trans rfl
  have htags : t.hall.tagFails = v.hall.tagFails := (congrArg (fun x => x.hall.tagFails) h).trans rfl
  have hkeyless : t.hall.keyless = v.hall.keyless := (congrArg (fun x => x.hall.keyless) h).trans rfl
  have hends : queuedAs t (secondEnded s (portEnded s.spine.east t.spine.east) (portEnded s.spine.west t.spine.west) t.arch t.hall) =
      queuedAs t (secondEnded s t.spine.east t.spine.west t.arch t.hall) := by rw [← heast, ← hwest]
  refine h.trans (congrArg (reportedAs t) (Eq.trans ?_ hends))
  rw [secondEnded, haudit, hnext, htags, hkeyless, secondCleared_eq]
  rfl

/-- The summaries leave the ports and queue 0x01. -/
theorem summed_keeps (s : State) : (summed s).spine = s.spine ∧ (summed s).addr = s.addr ∧
    (summed s).larder.reports = s.larder.reports ∧ (summed s).larder.waiting = s.larder.waiting := by
  have h := summed_frame s
  rw [secondCleared_eq] at h
  generalize summed s = t at h ⊢
  generalize auditSummaries s = v at h
  rw [h]
  exact ⟨rfl, rfl, rfl, rfl⟩

theorem linkPayload_portsEnded_length (s : State) (why : Nat) :
    (linkPayload (portsEnded s) why).length = (linkPayload s why).length := by
  rw [linkPayload_length, linkPayload_length]
  rfl

/-- A degraded port is reported by LINK (R59). -/
theorem reportQueued_endSecond {s : State} (h : 16 < s.spine.east.crcThisSecond ∨ 16 < s.spine.west.crcThisSecond) :
    reportQueued s (endSecond s) 0x0011 (linkPayload s 1).length fun b => b.take 4 = wordBytes 1 := by
  obtain ⟨hspine, haddr, hreports, hwaiting⟩ := summed_keeps s
  have hlinked := portSummary_eq (summed s)
  rw [if_pos (by rw [hspine]; simpa using h)] at hlinked
  have hlen : (linkPayload (portsEnded (summed s)) 1).length = (linkPayload s 1).length := by
    rw [linkPayload_portsEnded_length, linkPayload_length, linkPayload_length, hspine]
  have hqueued : reportQueued (portsEnded (summed s)) (portSummary (summed s)) 0x0011 (linkPayload s 1).length
      fun b => b.take 4 = wordBytes 1 := by
    have hlink := reportQueued_queueLink (portsEnded (summed s)) 1
    rwa [← hlinked, hlen] at hlink
  rw [endSecond_eq]
  generalize portSummary (summed s) = u at hqueued ⊢
  generalize summed s = t at *
  exact reportQueued_of_queues (t := u) hqueued hreports hwaiting haddr

/-- The tallies of the second in the audit log, at its end (R155, R156, R160). -/
theorem endSecond_audit {s : State} (ho : archiveOpen s = true) (hf : s.cellar.failAt = none)
    (ht : s.hall.tagFails.length = 3) (hk : s.hall.keyless.length = 3) :
    (endSecond s).arch.auditNext = s.arch.auditNext +
        BitVec.ofNat 32 ((s.hall.tagFails ++ s.hall.keyless).filter fun n => n != 0).length ∧
      ((∃ n ∈ s.hall.tagFails ++ s.hall.keyless, n ≠ 0) → eventRaised s (endSecond s) 0x0206) ∧
      ∀ x ∈ tallies s, x.2.1 ≠ 0 → ∃ e ∈ (endSecond s).arch.audit, IsSummary e x.1 x.2.1 x.2.2.1 := by
  obtain ⟨hnext, hraised, hall⟩ := auditSummaries_tell ho hf ht hk
  obtain ⟨haudit, hsummed, _, _⟩ := summed_audit s
  obtain ⟨hevents, harch, _⟩ := endSecond_keeps s
  rw [harch, haudit, hsummed]
  exact ⟨hnext, fun h => eventRaised_of_prefix (hraised h) (by rw [hevents]; exact events_prefix_auditSummaries s), hall⟩

/-- An EVENT of the summaries is one at the end of the second. -/
theorem eventRaised_endSecond {s : State} {code : Half} (h : eventRaised s (summed s) code) : eventRaised s (endSecond s) code :=
  eventRaised_of_prefix h (by rw [(endSecond_keeps s).1])

theorem endSecond_tallies {s : State} (h : archiveOpen s = true) :
    (endSecond s).hall.tagFails = [0, 0, 0] ∧ (endSecond s).hall.keyless = [0, 0, 0] := by
  obtain ⟨htags, hkeyless⟩ := endSecond_hall s
  rw [htags, hkeyless, auditSummaries_of_open h]
  exact ⟨rfl, rfl⟩

/-- What the end of a second leaves as it was, the clocks having run on before it. -/
theorem secondEnded_after_clocked {s t u : State} {east west : PortS} {arch : Archive} {hall : Hall} (hst : t = clockedAs t s)
    (htu : u = reportedAs u (queuedAs u (secondEnded t east west arch hall))) :
    u = clockedAs u (reportedAs u (queuedAs u (secondEnded s east west arch hall))) := by
  have hnow : u.now = t.now := (congrArg State.now htu).trans rfl
  have hmantel : u.mantel = t.mantel := (congrArg State.mantel htu).trans rfl
  have hrtc : u.cellar.rtc = t.cellar.rtc := (congrArg (fun x => x.cellar.rtc) htu).trans rfl
  have hpart : u.cellar.rtcPart = t.cellar.rtcPart := (congrArg (fun x => x.cellar.rtcPart) htu).trans rfl
  have hclocked : t = clockedAs u s := by
    refine hst.trans ?_
    rw [clockedAs, clockedAs, hnow, hmantel, hrtc, hpart]
  refine htu.trans ?_
  rw [hclocked]
  rfl

/-- The end of a report second, the clocks having run on from s to r. -/
theorem endSecond_after_clocked {s r : State} (hclocked : r = clockedAs r s) :
    (s.press.secDropped + s.press.secWithdrawn ≠ 0 → eventRaised s (endSecond r) 0x0704) ∧
      (s.larder.secHolds + s.larder.secSuperseded + s.larder.secLate ≠ 0 → eventRaised s (endSecond r) 0x0405) ∧
      (s.coll.secOpens + s.coll.secShorts ≠ 0 → s.larder.events.length ≤ 240 → eventRaised s (endSecond r) 0x0801) ∧
      (archiveOpen s = true → (endSecond r).hall.tagFails = [0, 0, 0] ∧ (endSecond r).hall.keyless = [0, 0, 0]) ∧
      (endSecond r).spine.east = portEnded s.spine.east (endSecond r).spine.east ∧
      (endSecond r).spine.west = portEnded s.spine.west (endSecond r).spine.west ∧
      (16 < s.spine.east.crcThisSecond ∨ 16 < s.spine.west.crcThisSecond →
        reportQueued s (endSecond r) 0x0011 (linkPayload s 1).length fun b => b.take 4 = wordBytes 1) := by
  obtain ⟨heast, hwest⟩ := endSecond_ports r
  have hlarder : r.larder = s.larder := (congrArg State.larder hclocked).trans rfl
  have hspine : r.spine = s.spine := (congrArg State.spine hclocked).trans rfl
  have haddr : r.addr = s.addr := (congrArg State.addr hclocked).trans rfl
  have hpress : r.press = s.press := (congrArg State.press hclocked).trans rfl
  have hcoll : r.coll = s.coll := (congrArg State.coll hclocked).trans rfl
  have hopen : archiveOpen r = archiveOpen s := (congrArg archiveOpen hclocked).trans rfl
  have hlink : (linkPayload r 1).length = (linkPayload s 1).length := by rw [linkPayload_length, linkPayload_length, hspine]
  rw [hspine] at heast hwest
  refine ⟨fun h => ?_, fun h => ?_, fun h hfew => ?_, fun h => endSecond_tallies (hopen.trans h), heast, hwest, fun h => ?_⟩
  · exact eventRaised_of_larder (eventRaised_endSecond (eventRaised_plate (hpress.symm ▸ h))) hlarder
  · exact eventRaised_of_larder (eventRaised_endSecond (eventRaised_loss (hlarder.symm ▸ h))) hlarder
  · exact eventRaised_of_larder (eventRaised_endSecond (eventRaised_discard (hcoll.symm ▸ h) (hlarder.symm ▸ hfew))) hlarder
  · rw [← hspine] at h
    rw [← hlink]
    exact reportQueued_of_source (reportQueued_endSecond h) hlarder haddr

/-- The audit log at the end of a report second, the clocks having run on from s to r. -/
theorem endSecond_audit_after_clocked {s r : State} (hclocked : r = clockedAs r s) (ho : archiveOpen s = true)
    (hf : s.cellar.failAt = none) (ht : s.hall.tagFails.length = 3) (hk : s.hall.keyless.length = 3) :
    (endSecond r).arch.auditNext = s.arch.auditNext +
        BitVec.ofNat 32 ((s.hall.tagFails ++ s.hall.keyless).filter fun n => n != 0).length ∧
      ((∃ n ∈ s.hall.tagFails ++ s.hall.keyless, n ≠ 0) → eventRaised s (endSecond r) 0x0206) ∧
      ∀ x ∈ tallies s, x.2.1 ≠ 0 → ∃ e ∈ (endSecond r).arch.audit, IsSummary e x.1 x.2.1 x.2.2.1 := by
  have hlarder : r.larder = s.larder := (congrArg State.larder hclocked).trans rfl
  have hhall : r.hall = s.hall := (congrArg State.hall hclocked).trans rfl
  have harch : r.arch = s.arch := (congrArg State.arch hclocked).trans rfl
  have hfail : r.cellar.failAt = s.cellar.failAt := (congrArg (fun x => x.cellar.failAt) hclocked).trans rfl
  have hopen : archiveOpen r = archiveOpen s := (congrArg archiveOpen hclocked).trans rfl
  have htallies : tallies r = tallies s := by rw [tallies, tallies, hhall]
  rw [← hopen] at ho
  rw [← hfail] at hf
  rw [← hhall] at ht hk
  obtain ⟨hnext, hraised, hall⟩ := endSecond_audit ho hf ht hk
  rw [hhall, harch] at hnext
  rw [hhall] at hraised
  rw [htallies] at hall
  exact ⟨hnext, fun h => eventRaised_of_larder (hraised h) hlarder, hall⟩

/-- Each role's wrong tags and keyless attempts, from the list of the tallies. -/
theorem summaries_of_tallies {s t : State} (h : ∀ x ∈ tallies s, x.2.1 ≠ 0 → ∃ e ∈ t.arch.audit, IsSummary e x.1 x.2.1 x.2.2.1)
    {r : Nat} (hr : r < 3) :
    (s.hall.tagFails.getD r 0 ≠ 0 → ∃ e ∈ t.arch.audit, e.chan = 0xFFFF ∧ e.role = BitVec.ofNat 2 r ∧ e.outcome = 4 ∧
      e.seq = BitVec.ofNat 32 (s.hall.tagFails.getD r 0)) ∧
    (s.hall.keyless.getD r 0 ≠ 0 → ∃ e ∈ t.arch.audit, e.chan = 0xFFFF ∧ e.role = BitVec.ofNat 2 r ∧ e.outcome = 5 ∧
      e.seq = BitVec.ofNat 32 (s.hall.keyless.getD r 0)) :=
  ⟨h _ (mem_tallies s hr).1, h _ (mem_tallies s hr).2⟩

/-- The instant a report second ends (R479). -/
theorem exec_reportSecondEnd_reaches {s : State} (h : running s = true) :
    ∃ r, exec .reportSecondEnd s = .next (endSecond r) ∧ r = clockedAs r s ∧
      s.start.s + (s.start.secondsEnded + 1) * 1000000000 ≤ (endSecond r).now := by
  have hsecond : second = 1000000000 := by norm_num [second]
  refine ⟨_, exec_reportSecondEnd h, advanceTo_frame _ _, ?_⟩
  rw [(endSecond_keeps _).2.2, hsecond]
  exact (advanceTo_reaches _ _).1

/-! ### The EVENT report (R112, R205) -/

theorem eventPayload_length (es : List EventRec) : (eventPayload es).length = 4 * (1 + 4 * es.length) := by
  have hwords : (es.flatMap eventWords).length = 4 * es.length := by
    simp only [List.length_flatMap, eventWords, List.length_cons, List.length_nil, List.map_const', List.sum_replicate,
      smul_eq_mul]
    omega
  rw [eventPayload, wordsBytes_length, List.length_cons, hwords]
  omega


/-- An EVENT report of at most 63 records takes at most 17 units. -/
theorem eventPayload_units {es : List EventRec} (h : es.length ≤ 63) : foliosUnits (eventPayload es).length ≤ 17 := by
  rw [eventPayload_length, foliosUnits]
  omega

/-- s with the oldest 63 EVENT records off queue 0x02. -/
def eventsTaken (s : State) : State := { s with larder := { s.larder with events := s.larder.events.drop 63 } }

theorem exec_eventReportForm {s : State} (hcore : coreOn s = true) (hne : s.larder.events ≠ []) (hwait : s.larder.waiting = [])
    (hroom : reportLevel s + 17 ≤ 248) : exec .eventReportForm s =
      .next (queueReport (eventsTaken s) 0x0012 (eventPayload (s.larder.events.take 63))) := by
  have hexec : exec .eventReportForm s = execEventReportForm s := rfl
  have hunits : foliosUnits (eventPayload (s.larder.events.take 63)).length ≤ 17 := eventPayload_units (List.length_take_le _ _)
  have hfree : roomFor s { (default : OwnFolio) with payload := eventPayload (s.larder.events.take 63) } = true := by
    rw [roomFor, decide_eq_true_eq]
    split <;> (show reportLevel s + foliosUnits (eventPayload (s.larder.events.take 63)).length ≤ _) <;> omega
  rw [hexec, execEventReportForm, if_pos]
  · rfl
  simp [hcore, hwait, hfree, hne]

theorem eventReportForm_forms {s : State} (hcore : coreOn s = true) (hne : s.larder.events ≠ []) (hwait : s.larder.waiting = [])
    (hroom : reportLevel s + 17 ≤ 248) :
    ∃ t, exec .eventReportForm s = .next t ∧ t.larder.events = s.larder.events.drop 63 ∧
      (assigned s = true → portUp s .east = true → leafRole s = false →
        ∃ r ∈ t.larder.reports, r.kind = 3 ∧ r.spec = 0x0012 ∧ r.payload = eventPayload (s.larder.events.take 63)) ∧
      t = queuedAs t { s with larder := { s.larder with events := t.larder.events } } := by
  have hunits : foliosUnits (eventPayload (s.larder.events.take 63)).length ≤ 17 := eventPayload_units (List.length_take_le _ _)
  have hevents : (queueReport (eventsTaken s) 0x0012 (eventPayload (s.larder.events.take 63))).larder.events =
      s.larder.events.drop 63 := queueOwn_larder_events (s := eventsTaken s) _
  refine ⟨_, exec_eventReportForm hcore hne hwait hroom, hevents, fun _ hup hleaf => ?_, ?_⟩
  · have hports : portUp (queueReport (eventsTaken s) 0x0012 (eventPayload (s.larder.events.take 63))) .east = true := by
      rw [portUp, queueReport_port_st]
      exact hup
    have hlevel : reportLevel (eventsTaken s) + foliosUnits (eventPayload (s.larder.events.take 63)).length ≤ 248 := by
      show reportLevel s + _ ≤ 248
      omega
    obtain ⟨r, hr, hk, hs, _, hp⟩ := reportQueued_queueReport (eventsTaken s) 0x0012 (eventPayload (s.larder.events.take 63))
      (fun b => b = eventPayload (s.larder.events.take 63)) hleaf rfl hwait hlevel (by rw [hports]; rfl)
    exact ⟨r, hr, hk, hs, hp⟩
  · rw [hevents]
    exact queueReport_frame _ _ _

/-! ### The watermark notices (R208) -/

/-- The watermark of a queue as its notice leaves it. -/
def noticeTaken (s : State) (k : Nat) : Watermark :=
  { noticed := false, crossings := 0, peak := queueLevel s k, lastInterval := some (reportInterval s (100 * msNs)) }

/-- s with the watermark of a queue noticed. -/
def watermarkTaken (s : State) (k : Nat) : State :=
  { s with larder := { s.larder with waters := s.larder.waters.set k (noticeTaken s k) } }

theorem reportWatermark_eq (s : State) (k : Nat) (w : Watermark) :
    ∃ a b, reportWatermark s k w = raise (watermarkTaken s k) 0x0403 a b := ⟨_, _, rfl⟩

theorem reportWatermark_frame (s : State) (k : Nat) (w : Watermark) :
    reportWatermark s k w = reportedAs (reportWatermark s k w) s := by
  obtain ⟨a, b, h⟩ := reportWatermark_eq s k w
  rw [h]
  exact reportedAs_trans (by simp [reportedAs, watermarkTaken]) (raise_frame _ _ _ _)

/-- A record of queue 0x02 moves the watermark of that queue alone. -/
theorem waters_raise {s : State} {code arg0 : Half} {arg1 : Word} {k : Nat} (h : k ≠ 1) :
    (raise s code arg0 arg1).larder.waters[k]? = s.larder.waters[k]? := by
  rw [raise, raiseAt, queueEvent]
  split
  · rw [watermark, List.getElem?_modify_ne _ _ (Ne.symm h), logEvent_larder]
  · rw [logEvent_larder]

/-- s with the clocks at the end of the interval after the one of the last notice (R208). -/
def noticeDue (s : State) (w : Watermark) : State :=
  match w.lastInterval with
  | some i => advanceTo s (s.start.s + (i + 1) * (100 * msNs))
  | none => s

theorem noticeDue_frame (s : State) (w : Watermark) : noticeDue s w = clockedAs (noticeDue s w) s := by
  unfold noticeDue
  split
  · exact advanceTo_frame _ _
  · rfl

theorem noticeDue_reaches {s : State} {w : Watermark} {i : Nat} (h : w.lastInterval = some i) :
    s.start.s + (i + 1) * 100000000 ≤ (noticeDue s w).now := by
  have hms : 100 * msNs = 100000000 := by norm_num [msNs]
  have hdue : noticeDue s w = advanceTo s (s.start.s + (i + 1) * (100 * msNs)) := by simp only [noticeDue, h]
  rw [hdue, hms]
  exact (advanceTo_reaches _ _).1

theorem exec_watermarkReport {s : State} {q : BitVec 2} {w : Watermark} (hq : q ≠ 0)
    (hw : s.larder.waters[q.toNat - 1]? = some w) (hn : w.noticed = true) (hcore : coreOn s = true) :
    exec (.watermarkReport q) s = .next (reportWatermark (noticeDue s w) (q.toNat - 1) w) := by
  have hexec : exec (.watermarkReport q) s = execWatermarkReport q s := rfl
  have hidle : (q == 0 || !w.noticed || !coreOn s) = false := by
    rw [beq_eq_false_iff_ne.mpr hq, hn, hcore]
    rfl
  rw [hexec, execWatermarkReport, hw]
  simp only [hidle, Bool.false_eq_true, if_false]
  rfl

theorem reportWatermark_reports {s r : State} {k : Nat} {w w' : Watermark} (hclocked : r = clockedAs r s)
    (hw : s.larder.waters[k]? = some w') :
    eventRaised s (reportWatermark r k w) 0x0403 ∧
      (k ≠ 1 → ∃ v, (reportWatermark r k w).larder.waters[k]? = some v ∧ v.crossings = 0 ∧ v.noticed = false) := by
  have hlarder : r.larder = s.larder := (congrArg State.larder hclocked).trans rfl
  obtain ⟨a, b, h⟩ := reportWatermark_eq r k w
  have hk : k < r.larder.waters.length := by
    rw [hlarder]
    exact (List.getElem?_eq_some_iff.mp hw).1
  rw [h]
  refine ⟨fun hroom => ?_, fun hne => ⟨noticeTaken r k, ?_, rfl, rfl⟩⟩
  · have hraised := eventRaised_raise (watermarkTaken r k) 0x0403 a b
    rw [← hlarder] at hroom ⊢
    exact hraised hroom
  · rw [waters_raise hne]
    exact List.getElem?_set_self hk

theorem watermarkReport_reports {s : State} {q : BitVec 2} {w : Watermark} (hq : q ≠ 0)
    (hw : s.larder.waters[q.toNat - 1]? = some w) (hn : w.noticed = true) (hcore : coreOn s = true) :
    ∃ t, exec (.watermarkReport q) s = .next t ∧ eventRaised s t 0x0403 ∧
      (q ≠ 2 → ∃ v, t.larder.waters[q.toNat - 1]? = some v ∧ v.crossings = 0 ∧ v.noticed = false) ∧
      (∀ i, w.lastInterval = some i → s.start.s + (i + 1) * 100000000 ≤ t.now) ∧
      t = clockedAs t (reportedAs t s) := by
  obtain ⟨hraised, hwaters⟩ := reportWatermark_reports (w := w) (noticeDue_frame s w) hw
  have hframe := reported_after_clocked (noticeDue_frame s w) (reportWatermark_frame (noticeDue s w) (q.toNat - 1) w)
  refine ⟨_, exec_watermarkReport hq hw hn hcore, hraised, fun h2 => hwaters ?_, fun i hi => ?_, hframe⟩
  · have hne : q.toNat ≠ 2 := fun h => h2 (BitVec.eq_of_toNat_eq h)
    have hpos : q.toNat ≠ 0 := fun h => hq (BitVec.eq_of_toNat_eq h)
    omega
  · have hnow : (reportWatermark (noticeDue s w) (q.toNat - 1) w).now = (noticeDue s w).now :=
      (congrArg State.now (reportWatermark_frame _ _ _)).trans rfl
    rw [hnow]
    exact noticeDue_reaches hi

/-- Settles O32: the end of a report second summarises and clears its tallies and takes over the ports' CRC failures, the EVENT
report takes up to 63 records into queue 0x01, and a watermark notice is given as EVENT 0x0403. -/
theorem reportSecondEventsAndWatermarks : Obligations.ReportSecondEventsAndWatermarks := by
  unfold Obligations.ReportSecondEventsAndWatermarks
  refine ⟨fun s hr => ?_, fun s hcore hne hwait hroom => eventReportForm_forms hcore hne hwait hroom,
    fun s q w hq hw hn hcore => watermarkReport_reports hq hw hn hcore⟩
  obtain ⟨r, hexec, hclocked, hreached⟩ := exec_reportSecondEnd_reaches hr
  obtain ⟨hplate, hloss, hdiscard, htallies, heast, hwest, hlink⟩ := endSecond_after_clocked hclocked
  refine ⟨_, hexec, hreached, hplate, hloss, hdiscard, htallies, heast, hwest, hlink, fun ho hf ht hk => ?_,
    secondEnded_after_clocked hclocked (endSecond_secondEnded r)⟩
  obtain ⟨hnext, hraised, hall⟩ := endSecond_audit_after_clocked hclocked ho hf ht hk
  exact ⟨hnext, hraised, fun r hr => summaries_of_tallies hall hr⟩

end Sys2Proof.Machine

/-! ## The test access port

The settlement of O40. The frame of the TAP's instructions; how the one in force is left and how one enters; the enable; the
boundary register. -/

namespace Sys2Proof.Machine

open Sys2Proof

/-! ### The frame of the TAP's instructions -/

theorem tapped_self (s : State) : s = tapped s s := by
  unfold tapped
  exact reportedAs_self s

theorem tapped_trans {s t u : State} (hst : t = tapped t s) (htu : u = tapped u t) : u = tapped u s := by
  refine htu.trans ((congrArg (tapped u) hst).trans ?_)
  cases h : s.cellar.failAt <;> simp [tapped, reportedAs, queuedAs, h]

theorem tapped_of_reportedAs {s t : State} (h : t = reportedAs t s) : t = tapped t s := by
  refine (tapped_self t).trans ((congrArg (tapped t) h).trans ?_)
  cases hf : s.cellar.failAt <;> simp [tapped, reportedAs, queuedAs, hf]

theorem tapped_of_switchedAs {s t : State} (h : t = switchedAs t s) : t = tapped t s := by
  refine (tapped_self t).trans ((congrArg (tapped t) h).trans ?_)
  cases hf : s.cellar.failAt <;> simp [tapped, reportedAs, queuedAs, switchedAs, hf]

/-- s with an instruction in force and the Press frozen or not. -/
def tapSet (s : State) (i : TapInstr) (frozen dark : Bool) : State :=
  { s with prot := { s.prot with tap := i, frozen := frozen, frozenDark := dark } }

theorem tapped_tapSet {s t : State} (h : t = tapped t s) (i : TapInstr) (frozen dark : Bool) :
    tapSet t i frozen dark = tapped (tapSet t i frozen dark) (tapSet s i frozen dark) :=
  (congrArg (fun x => tapSet x i frozen dark) h).trans rfl

theorem restoreByp_frame (s : State) : restoreByp s = switchedAs (restoreByp s) s := setByp_frame s _

/-- s with the instruction in force left: BYPASS is in force, and a frozen Press resumes at the next refresh seam. -/
def tapLeft (s : State) : State :=
  { tapSet s .bypass false false with
    prot := { (tapSet s .bypass false false).prot with resumeAtSeam := s.prot.resumeAtSeam || s.prot.frozen } }

theorem leaveInstr_cases (s : State) :
    leaveInstrBy raise s = tapLeft s ∨ ∃ b, leaveInstrBy raise s = raise (tapLeft s) 0x070C 0 b := by
  simp only [leaveInstrBy]
  split
  · exact .inr ⟨_, rfl⟩
  · exact .inl rfl

theorem leaveInstr_frame (s : State) : leaveInstrBy raise s = tapped (leaveInstrBy raise s) (tapSet s .bypass false false) := by
  have hleft : tapLeft s = tapped (tapLeft s) (tapSet s .bypass false false) := (tapped_self _).trans rfl
  rcases leaveInstr_cases s with h | ⟨b, h⟩ <;> rw [h]
  · exact hleft
  · exact tapped_trans hleft (tapped_of_reportedAs (raise_frame _ _ _ _))

theorem leaveInstr_spine (s : State) : (leaveInstrBy raise s).spine = s.spine := by
  rcases leaveInstr_cases s with h | ⟨b, h⟩ <;> rw [h]
  · rfl
  · rw [raise_spine]
    rfl

theorem endInstr_of_released {s : State} (h : (s.prot.tap == .extest || s.prot.tap == .highz) = false) :
    endInstr s = leaveInstrBy raise s := by
  rw [endInstr, endInstrBy, h]
  rfl

theorem endInstr_frame (s : State) : endInstr s = tapped (endInstr s) (tapSet s .bypass false false) := by
  unfold endInstr endInstrBy
  split
  · exact tapped_trans (leaveInstr_frame s) (tapped_of_switchedAs (restoreByp_frame _))
  · exact leaveInstr_frame s

/-! ### Entering an instruction (R298, R301) -/

theorem freezePress_frame (s : State) (blank : Bool) :
    freezePress s blank = tapped (freezePress s blank) (tapSet s s.prot.tap true blank) := by
  unfold freezePress
  cases blank
  · exact (tapped_self _).trans rfl
  · obtain ⟨wear, rest, h⟩ := rowCutOff_eq s
    simp only [if_true, h]
    exact (tapped_self _).trans rfl

theorem freezePress_keeps (s : State) (blank : Bool) : (freezePress s blank).spine = s.spine ∧
    (freezePress s blank).larder = s.larder ∧ (freezePress s blank).prot.driven = s.prot.driven ∧
    cellarReleases (freezePress s blank) = cellarReleases s := by
  unfold freezePress
  cases blank
  · exact ⟨rfl, rfl, rfl, rfl⟩
  · simp [cellarReleases]

theorem driveByp_frame (s : State) : driveByp s = switchedAs (driveByp s) s := setByp_frame s _

/-- An instruction that enters changes what an instruction may, and freezes the Press or leaves it as it was. -/
theorem enterInstr_extest (s : State) : enterInstr s .extest = tapped (enterInstr s .extest) (tapSet s s.prot.tap true true) ∧
    (enterInstr s .extest).press.rowOn = none ∧
    (enterInstr s .extest).spine.bypHold = (s.prot.driven.getLsbD 283 && !cellarReleases s) := by
  obtain ⟨_, _, hdriven, hreleases⟩ := freezePress_keeps s true
  have henter : enterInstr s .extest = driveByp (freezePress s true) := rfl
  rw [henter]
  refine ⟨tapped_trans (freezePress_frame s true) (tapped_of_switchedAs (driveByp_frame _)), ?_, ?_⟩
  · rw [driveByp, setByp_press]
    rfl
  · rw [driveByp, setByp_bypHold, hdriven, hreleases]

theorem enterInstr_highz (s : State) : enterInstr s .highz = tapped (enterInstr s .highz) (tapSet s s.prot.tap true true) ∧
    (enterInstr s .highz).press.rowOn = none ∧ (enterInstr s .highz).spine.bypHold = false := by
  have henter : enterInstr s .highz = setByp (freezePress s true) false := rfl
  rw [henter]
  refine ⟨tapped_trans (freezePress_frame s true) (tapped_of_switchedAs (setByp_frame _ _)), ?_, setByp_bypHold (s := freezePress s true) false⟩
  rw [setByp_press]
  rfl

theorem enterInstr_freeze (s : State) :
    enterInstr s .freeze = tapped (enterInstr s .freeze) (tapSet s s.prot.tap true (freezeBlanks s)) ∧
      eventRaised s (enterInstr s .freeze) 0x070C := by
  obtain ⟨_, hlarder, _, _⟩ := freezePress_keeps s (freezeBlanks s)
  obtain ⟨b, henter⟩ : ∃ b, enterInstr s .freeze = raise (countPress (freezePress s (freezeBlanks s)) 32) 0x070C 1 b := ⟨_, rfl⟩
  have hcount : countPress (freezePress s (freezeBlanks s)) 32 =
      tapped (countPress (freezePress s (freezeBlanks s)) 32) (freezePress s (freezeBlanks s)) := (tapped_self _).trans rfl
  rw [henter]
  exact ⟨tapped_trans (tapped_trans (freezePress_frame s _) hcount) (tapped_of_reportedAs (raise_frame _ _ _ _)),
    eventRaised_of_larder (eventRaised_raise _ _ _ _) hlarder⟩

/-! ### A code at Update-IR (R298, R300, R301) -/

theorem loadCode_unenabled {s : State} {code : BitVec 5} (hr : running s = true) (hj : s.prot.jtagOn = false) :
    loadCode code s = .next (endInstr s) := by
  simp [loadCode, hr, hj]

theorem loadCode_current {s : State} {code : BitVec 5} (hj : s.prot.jtagOn = true) (h : s.prot.tap = instrOf code) :
    loadCode code s = .next s := by
  simp [loadCode, hj, h]

/-- s with the instruction in force left for i, which takes the pins of EXTEST or HIGHZ over. -/
def leftFor (s : State) (i : TapInstr) : State :=
  if i == .extest || i == .highz then leaveInstrBy raise s else endInstr s

theorem leftFor_frame (s : State) (i : TapInstr) : leftFor s i = tapped (leftFor s i) (tapSet s .bypass false false) := by
  unfold leftFor
  split
  · exact leaveInstr_frame s
  · exact endInstr_frame s

/-- s with i in force, before it acts. -/
def tapLoaded (s : State) (i : TapInstr) : State := { leftFor s i with prot := { (leftFor s i).prot with tap := i } }

theorem loadCode_other {s : State} {code : BitVec 5} (hr : running s = true) (hj : s.prot.jtagOn = true)
    (h : s.prot.tap ≠ instrOf code) : loadCode code s = .next (enterInstr (tapLoaded s (instrOf code)) (instrOf code)) := by
  have hne : (s.prot.tap == instrOf code) = false := beq_eq_false_iff_ne.mpr h
  have hidle : (!running s || (s.prot.jtagOn && s.prot.tap == instrOf code)) = false := by
    rw [hr, hne, Bool.and_false]
    rfl
  simp only [loadCode]
  rw [if_neg (by rw [hidle]; exact Bool.false_ne_true), if_neg (by rw [hj]; exact Bool.false_ne_true)]
  rfl

theorem tapLoaded_frame (s : State) (i : TapInstr) : tapLoaded s i = tapped (tapLoaded s i) (tapSet s i false false) := by
  have h := leftFor_frame s i
  unfold tapLoaded
  generalize leftFor s i = t at h ⊢
  exact (congrArg (fun x : State => { x with prot := { x.prot with tap := i } }) h).trans rfl

theorem tapLoaded_keeps (s : State) (i : TapInstr) : (tapLoaded s i).prot.tap = i ∧
    (tapLoaded s i).prot.driven = s.prot.driven ∧ cellarReleases (tapLoaded s i) = cellarReleases s ∧
    freezeBlanks (tapLoaded s i) = freezeBlanks s := by
  have h := tapLoaded_frame s i
  generalize tapLoaded s i = t at h ⊢
  exact ⟨(congrArg (fun x => x.prot.tap) h).trans rfl, (congrArg (fun x => x.prot.driven) h).trans rfl,
    (congrArg cellarReleases h).trans rfl, (congrArg freezeBlanks h).trans rfl⟩

/-- An instruction that enters, from the state with the one before it in force. -/
theorem tapped_enter {s t : State} {i : TapInstr} {frozen dark : Bool}
    (h : t = tapped t (tapSet (tapLoaded s i) (tapLoaded s i).prot.tap frozen dark)) :
    t = tapped t (tapSet s i frozen dark) := by
  rw [(tapLoaded_keeps s i).1] at h
  exact tapped_trans (tapped_tapSet (tapLoaded_frame s i) i frozen dark) h

/-- The instructions under an enable: each enters where it is not in force (R298, R301). -/
theorem exec_extest_enters {s : State} (hr : running s = true) (hj : s.prot.jtagOn = true) (h : s.prot.tap ≠ .extest) :
    ∃ t, exec .extest s = .next t ∧ t.press.rowOn = none ∧
      t.spine.bypHold = (s.prot.driven.getLsbD 283 && !cellarReleases s) ∧ t = tapped t (tapSet s .extest true true) := by
  obtain ⟨hframe, hrow, hhold⟩ := enterInstr_extest (tapLoaded s .extest)
  obtain ⟨_, hdriven, hreleases, _⟩ := tapLoaded_keeps s .extest
  refine ⟨_, loadCode_other (code := 0b00000) hr hj h, hrow, ?_, tapped_enter hframe⟩
  rw [← hdriven, ← hreleases]
  exact hhold

theorem exec_highz_enters {s : State} (hr : running s = true) (hj : s.prot.jtagOn = true) (h : s.prot.tap ≠ .highz) :
    ∃ t, exec .highz s = .next t ∧ t.press.rowOn = none ∧ t.spine.bypHold = false ∧
      t = tapped t (tapSet s .highz true true) := by
  obtain ⟨hframe, hrow, hhold⟩ := enterInstr_highz (tapLoaded s .highz)
  exact ⟨_, loadCode_other (code := 0b00111) hr hj h, hrow, hhold, tapped_enter hframe⟩

theorem exec_samplePreload_enters {s : State} (hr : running s = true) (hj : s.prot.jtagOn = true)
    (h : s.prot.tap ≠ .samplePreload) :
    ∃ t, exec .samplePreload s = .next t ∧ (s.prot.tap ≠ .extest → s.prot.tap ≠ .highz → t.spine = s.spine) ∧
      t = tapped t (tapSet s .samplePreload false false) := by
  refine ⟨_, loadCode_other (code := 0b00010) hr hj h, fun he hz => ?_, tapLoaded_frame s .samplePreload⟩
  have hreleased : (s.prot.tap == .extest || s.prot.tap == .highz) = false := by
    rw [beq_eq_false_iff_ne.mpr he, beq_eq_false_iff_ne.mpr hz]
    rfl
  have hleft : leftFor s .samplePreload = leaveInstrBy raise s := endInstr_of_released hreleased
  show (leftFor s .samplePreload).spine = s.spine
  rw [hleft, leaveInstr_spine]

theorem eventsGrow_leaveInstr (s : State) : EventsGrow s (leaveInstrBy raise s) 1 := by
  have hleft : EventsGrow s (tapLeft s) 0 := EventsGrow.of_events rfl
  rcases leaveInstr_cases s with h | ⟨b, h⟩ <;> rw [h]
  · exact hleft.mono (Nat.zero_le 1)
  · exact hleft.trans (eventsGrow_raise (tapLeft s) 0x070C 0 b)

theorem eventsGrow_endInstr (s : State) : EventsGrow s (endInstr s) 1 := by
  unfold endInstr endInstrBy
  split
  · exact (eventsGrow_leaveInstr s).trans (EventsGrow.of_events (switchedAs_events (restoreByp_frame _)))
  · exact eventsGrow_leaveInstr s

/-- An EVENT raised after at most one record more was raised from the earlier state too. -/
theorem eventRaised_of_grown {s t u : State} {code : Half} (hgrow : EventsGrow s t 1)
    (h : ∃ a b, u = raise t code a b) : eventRaised s u code := by
  obtain ⟨a, b, rfl⟩ := h
  exact fun hroom => mem_events_of_raise hgrow (by omega) (List.prefix_refl _)

theorem exec_freeze_enters {s : State} (hr : running s = true) (hj : s.prot.jtagOn = true) (h : s.prot.tap ≠ .freeze) :
    ∃ t, exec .freeze s = .next t ∧ eventRaised s t 0x070C ∧ t = tapped t (tapSet s .freeze true (freezeBlanks s)) := by
  obtain ⟨hframe, _⟩ := enterInstr_freeze (tapLoaded s .freeze)
  obtain ⟨_, _, _, hblanks⟩ := tapLoaded_keeps s .freeze
  rw [hblanks] at hframe
  refine ⟨_, loadCode_other (code := 0b01000) hr hj h, ?_, tapped_enter hframe⟩
  have hloaded : EventsGrow s (tapLoaded s .freeze) 1 := eventsGrow_endInstr s
  have hpressed : EventsGrow (tapLoaded s .freeze)
      (countPress (freezePress (tapLoaded s .freeze) (freezeBlanks (tapLoaded s .freeze))) 32) 0 :=
    EventsGrow.of_events (congrArg Larder.events (freezePress_keeps _ _).2.1)
  exact eventRaised_of_grown (hloaded.trans hpressed) ⟨_, _, rfl⟩

/-- BYPASS ends the instruction in force, and without an enable every instruction acts as BYPASS (R300, R301). -/
theorem exec_bypass_ends {s : State} (hr : running s = true) :
    ∃ t, exec .bypass s = .next t ∧
      t = tapped t (tapSet s .bypass (s.prot.frozen && s.prot.jtagOn && s.prot.tap == .bypass)
        (s.prot.frozenDark && s.prot.jtagOn && s.prot.tap == .bypass)) := by
  have hexec : exec .bypass s = loadCode 0b11111 s := rfl
  rw [hexec]
  cases hj : s.prot.jtagOn
  · rw [loadCode_unenabled hr hj]
    simp only [Bool.and_false, Bool.false_and]
    exact ⟨_, rfl, endInstr_frame s⟩
  · by_cases htap : s.prot.tap = .bypass
    · rw [loadCode_current (code := 0b11111) hj htap]
      refine ⟨s, rfl, ?_⟩
      have hkept : tapSet s .bypass s.prot.frozen s.prot.frozenDark = s := by
        rw [← htap]
        rfl
      simp only [htap, beq_self_eq_true, Bool.and_true, hkept]
      exact tapped_self s
    · rw [loadCode_other (code := 0b11111) hr hj htap, beq_eq_false_iff_ne.mpr htap]
      simp only [Bool.and_false]
      exact ⟨_, rfl, tapLoaded_frame s .bypass⟩

theorem exec_unenabled {s : State} (hr : running s = true) (hj : s.prot.jtagOn = false) :
    exec .extest s = exec .bypass s ∧ exec .samplePreload s = exec .bypass s ∧ exec .highz s = exec .bypass s ∧
      exec .freeze s = exec .bypass s := by
  have hload : ∀ code, loadCode code s = exec .bypass s := fun code =>
    (loadCode_unenabled hr hj).trans (loadCode_unenabled hr hj).symm
  exact ⟨hload _, hload _, hload _, hload _⟩

/-! ### The JTAG enable (R300, R303) -/

/-- s with no enable. -/
def jtagOff (s : State) : State := { s with prot := { s.prot with jtagOn := false, jtagUntil := none } }

theorem endJtag_eq {s : State} (h : s.prot.jtagOn = true) (cause : Nat) :
    ∃ a b, endJtag s cause = raise (endInstr (jtagOff s)) 0x070D a b := by
  rw [endJtag, endJtagBy, if_pos h]
  exact ⟨_, _, rfl⟩

theorem endJtag_ends {s : State} (h : s.prot.jtagOn = true) (cause : Nat) : eventRaised s (endJtag s cause) 0x070D ∧
    endJtag s cause = tapped (endJtag s cause) (tapSet (jtagOff s) .bypass false false) := by
  obtain ⟨a, b, heq⟩ := endJtag_eq h cause
  have hoff : EventsGrow s (jtagOff s) 0 := EventsGrow.of_events rfl
  refine ⟨eventRaised_of_grown (hoff.trans (eventsGrow_endInstr _)) ⟨a, b, heq⟩, ?_⟩
  rw [heq]
  exact tapped_trans (endInstr_frame _) (tapped_of_reportedAs (raise_frame _ _ _ _))

theorem markDispatched_eq (s : State) (m : Msg) (fin : Bool) : markDispatched s m.no fin = dispatchedTo s m fin := by
  simp [markDispatched, dispatchedTo]

/-- s with an enable of so many seconds. -/
def jtagOpened (s : State) (limit : Nat) : State :=
  { s with prot := { s.prot with jtagOn := true, jtagUntil := some (s.now + limit * 1000000000) } }

theorem exec_jtagEnable {s : State} {m : Msg} (ht : takeDispatch s 0x0070 = some m) (hop : field (wordAt m.body 0) 31 31 = 1) :
    ∃ b, exec .jtagEnable s = .next (reportedDone
      (raise (jtagOpened (dispatchedTo s m false) (field (wordAt m.body 0) 15 0)) 0x070D 1 b) (doneOf m 0)) := by
  have hexec : exec .jtagEnable s = execJtagEnable s := rfl
  have hsecond : second = 1000000000 := by norm_num [second]
  rw [hexec, execJtagEnable, dispatchIf_of_take _ _ _ _ m ht (by simp [hop]), markDispatched_eq, hsecond]
  exact ⟨_, rfl⟩

theorem exec_jtagDisable {s : State} {m : Msg} (ht : takeDispatch s 0x0070 = some m) (hop : field (wordAt m.body 0) 31 31 = 0) :
    exec .jtagDisable s = .next (reportedDone (endJtag (dispatchedTo s m false) 0) (doneOf m 0)) := by
  have hexec : exec .jtagDisable s = execJtagDisable s := rfl
  rw [hexec, execJtagDisable, dispatchIf_of_take _ _ _ _ m ht (by simp [hop]), markDispatched_eq]
  rfl

theorem exec_jtagEnableExpire {s : State} {u : Nat} (hu : s.prot.jtagUntil = some u) (hr : running s = true) :
    exec .jtagEnableExpire s = .next (endJtag (advanceTo s u) 1) := by
  have hexec : exec .jtagEnableExpire s = execJtagEnableExpire s := rfl
  simp only [hexec, execJtagEnableExpire, hu, hr, if_true]

/-- What the end of an enable may change, the clocks having run on before it. -/
theorem tapped_after_clocked {s t u : State} (hst : t = clockedAs t s)
    (htu : u = tapped u (tapSet (jtagOff t) .bypass false false)) :
    u = clockedAs u (tapped u (tapSet (jtagOff s) .bypass false false)) :=
  (congrArg (clockedAs u) (htu.trans (congrArg (fun x => tapped u (tapSet (jtagOff x) .bypass false false)) hst))).trans rfl

theorem jtagEnable_opens {s : State} {m : Msg} (ht : takeDispatch s 0x0070 = some m)
    (hop : field (wordAt m.body 0) 31 31 = 1) :
    ∃ t, exec .jtagEnable s = .next t ∧ eventRaised s t 0x070D ∧
      t = reportedAs t (finishedAs (jtagOpened s (field (wordAt m.body 0) 15 0)) m (doneOf m 0)) := by
  obtain ⟨b, hexec⟩ := exec_jtagEnable ht hop
  generalize field (wordAt m.body 0) 15 0 = limit at hexec ⊢
  have hframe := raise_frame (jtagOpened (dispatchedTo s m false) limit) 0x070D 1 b
  have hraised := eventRaised_raise (jtagOpened (dispatchedTo s m false) limit) 0x070D 1 b
  have hopened : jtagOpened (dispatchedTo s m false) limit = dispatchedTo (jtagOpened s limit) m false := rfl
  refine ⟨_, hexec, hraised, ?_⟩
  rw [hopened] at hframe ⊢
  generalize raise (dispatchedTo (jtagOpened s limit) m false) 0x070D 1 b = u at hframe
  generalize jtagOpened s limit = v at hframe ⊢
  exact (congrArg (fun x => reportedDone x (doneOf m 0)) hframe).trans rfl

theorem jtagDisable_closes {s : State} {m : Msg} (ht : takeDispatch s 0x0070 = some m)
    (hop : field (wordAt m.body 0) 31 31 = 0) (hj : s.prot.jtagOn = true) :
    ∃ t, exec .jtagDisable s = .next t ∧ eventRaised s t 0x070D ∧
      t = tapped t (finishedAs (tapSet (jtagOff s) .bypass false false) m (doneOf m 0)) := by
  obtain ⟨hraised, hframe⟩ := endJtag_ends (s := dispatchedTo s m false) hj 0
  refine ⟨_, exec_jtagDisable ht hop, hraised, ?_⟩
  generalize endJtag (dispatchedTo s m false) 0 = u at hframe ⊢
  exact (congrArg (fun x => reportedDone x (doneOf m 0)) hframe).trans rfl

theorem jtagEnableExpire_closes {s : State} {u : Nat} (hu : s.prot.jtagUntil = some u) (hr : running s = true)
    (hj : s.prot.jtagOn = true) :
    ∃ t, exec .jtagEnableExpire s = .next t ∧ eventRaised s t 0x070D ∧ u ≤ t.now ∧
      t = clockedAs t (tapped t (tapSet (jtagOff s) .bypass false false)) := by
  obtain ⟨hraised, hframe⟩ := endJtag_ends (s := advanceTo s u) hj 1
  have hnow : (endJtag (advanceTo s u) 1).now = (advanceTo s u).now := (congrArg State.now hframe).trans rfl
  refine ⟨_, exec_jtagEnableExpire hu hr, eventRaised_of_larder hraised (advanceTo_larder s u), ?_,
    tapped_after_clocked (advanceTo_frame s u) hframe⟩
  rw [hnow]
  exact (advanceTo_reaches s u).1

/-! ### The boundary register (R302) -/

/-- s with the cells loaded. -/
def cellsLoaded (s : State) (v : BitVec 294) : State := { s with prot := { s.prot with boundary := v, driven := v } }

theorem boundaryCurrent_of {s : State} (hr : running s = true) (hj : s.prot.jtagOn = true)
    (h : s.prot.tap = .samplePreload ∨ s.prot.tap = .extest) : boundaryCurrent s = true := by
  rcases h with h | h <;> rw [boundaryCurrent, hr, hj, h] <;> rfl

theorem exec_updateDr {s : State} {v : BitVec 294} (h : boundaryCurrent s = true) :
    exec (.updateDr v) s = .next (if s.prot.tap == .extest then driveByp (cellsLoaded s v) else cellsLoaded s v) := by
  have hexec : exec (.updateDr v) s = execUpdateDr v s := rfl
  rw [hexec, execUpdateDr, if_pos h]
  rfl

/-- The cells that CAPTURE_DR leaves: each takes its pin's level, but the ROW control cell the value last loaded. -/
theorem captured_getLsbD (v d : BitVec 294) {i : Nat} (hi : i < 294) :
    ((v &&& ~~~(1#294 <<< 192)) ||| (d &&& (1#294 <<< 192))).getLsbD i =
      if i = 192 then d.getLsbD 192 else v.getLsbD i := by
  have hcell : (1#294 <<< 192).getLsbD i = decide (i = 192) := by
    rw [BitVec.getLsbD_shiftLeft, BitVec.getLsbD_one]
    by_cases h : i = 192
    · simp [h]
    · have hne : i < 192 ∨ i - 192 ≠ 0 := by omega
      rcases hne with hlt | hne <;> simp [*]
  rw [BitVec.getLsbD_or, BitVec.getLsbD_and, BitVec.getLsbD_and, BitVec.getLsbD_not, hcell]
  by_cases h : i = 192 <;> simp [h, hi]

theorem exec_captureDr {s : State} {v : BitVec 294} (h : boundaryCurrent s = true) :
    ∃ t, exec (.captureDr v) s = .next t ∧
      (∀ i, i < 294 → t.prot.boundary.getLsbD i = (if i = 192 then s.prot.driven.getLsbD 192 else v.getLsbD i)) ∧
      t = { s with prot := { s.prot with boundary := t.prot.boundary } } := by
  have hexec : exec (.captureDr v) s = execCaptureDr v s := rfl
  rw [hexec, execCaptureDr, if_pos h]
  exact ⟨_, rfl, fun i hi => captured_getLsbD v _ hi, rfl⟩

/-- Settles O40: what each instruction of the TAP does follows from how it leaves the one in force and how it enters. -/
theorem tapInstructionsFollowTheEnable : Obligations.TapInstructionsFollowTheEnable := by
  unfold Obligations.TapInstructionsFollowTheEnable
  refine ⟨fun s m ht hop => jtagEnable_opens ht hop, fun s m ht hop hj => jtagDisable_closes ht hop hj,
    fun s u hu hr hj => jtagEnableExpire_closes hu hr hj, fun s hr hj => ?_, fun s hr => ?_, fun s v hr hj => ?_⟩
  · exact ⟨exec_extest_enters hr hj, exec_samplePreload_enters hr hj, exec_highz_enters hr hj, exec_freeze_enters hr hj,
      loadCode_current (code := 0b00000) hj, loadCode_current (code := 0b00010) hj, loadCode_current (code := 0b00111) hj,
      loadCode_current (code := 0b01000) hj⟩
  · exact ⟨exec_bypass_ends hr, ⟨_, if_pos hr, endInstr_frame s⟩, exec_unenabled hr⟩
  · refine ⟨fun htap => ?_, fun htap => ?_, fun htap => exec_captureDr (boundaryCurrent_of hr hj htap)⟩
    · rw [exec_updateDr (boundaryCurrent_of hr hj (.inl htap)), htap]
      exact ⟨_, rfl, rfl⟩
    · rw [exec_updateDr (boundaryCurrent_of hr hj (.inr htap)), htap]
      exact ⟨_, rfl, setByp_bypHold (s := cellsLoaded s v) _, tapped_of_switchedAs (driveByp_frame _)⟩

end Sys2Proof.Machine

/-! ## The packets of an FZ5140-format leaf

The settlement of O57. The packets passed on, COUNT and STATUS_REQ; the pixels written; LATCH, with what a SYNC_IN edge may change
of Mantel; GAIN, with what a re-render may change. -/

namespace Sys2Proof.Machine

open Sys2Proof

/-! ### Packets for this chip and for another (R433) -/

theorem fzMine_of_chip {s : State} {k : BitVec 7} (h : s.leaf.chip = some k) : fzMine s k = true := by
  rw [fzMine, h, beq_self_eq_true, Bool.true_or]

theorem fzMine_of_other {s : State} {k : BitVec 7} (h : s.leaf.chip ≠ some k) (h127 : k ≠ 127) : fzMine s k = false := by
  rw [fzMine, beq_eq_false_iff_ne.mpr h, beq_eq_false_iff_ne.mpr h127, Bool.or_false]

theorem fzShare_of_one {s : State} {k : BitVec 7} (type : BitVec 4) (w1 : Word) (payload : List Byte) (h : k ≠ 127) :
    fzShare s type k w1 payload = s := by
  rw [fzShare, beq_eq_false_iff_ne.mpr h]
  rfl

/-- s with a packet sent down the tile bus. -/
def fzSent (s : State) (type : BitVec 4) (chip : BitVec 7) (w1 : Word) (payload : List Byte) : State :=
  { s with wire := .fz true type chip w1 payload :: s.wire }

theorem fzForward_eq {s : State} (type : BitVec 4) (chip : BitVec 7) (w1 : Word) (payload : List Byte)
    (h : s.leaf.downHop = true) : fzForward s type chip w1 payload = fzSent s type chip w1 payload := by
  rw [fzForward, if_pos h]
  rfl

theorem exec_pixels_of_other {s : State} {k : BitVec 7} {off : Nat} {data : List Byte} (hears : fzHears s = true)
    (hdown : s.leaf.downHop = true) (h : s.leaf.chip ≠ some k) (h127 : k ≠ 127) :
    exec (.pixels k off data) s = .next (fzSent (countFz s) 1 k (BitVec.ofNat 32 off) data) := by
  have hexec : exec (.pixels k off data) s = execPixels k off data s := rfl
  rw [hexec, execPixels, hears, fzMine_of_other h h127]
  exact congrArg Host.Outcome.next (fzForward_eq (s := countFz s) _ _ _ _ hdown)

theorem exec_statusReq_of_other {s : State} {k : BitVec 7} (hears : fzHears s = true)
    (hdown : s.leaf.downHop = true) (h : s.leaf.chip ≠ some k) (h127 : k ≠ 127) :
    exec (.statusReq k) s = .next (fzSent (countFz s) 5 k 0 []) := by
  have hexec : exec (.statusReq k) s = execStatusReq k s := rfl
  rw [hexec, execStatusReq, hears, fzMine_of_other h h127]
  exact congrArg Host.Outcome.next (fzForward_eq (s := countFz s) _ _ _ _ hdown)

theorem exec_statusReq_of_chip {s : State} {k : BitVec 7} (hears : fzHears s = true) (h : s.leaf.chip = some k)
    (h127 : k ≠ 127) : exec (.statusReq k) s = .next { s with wire := .fz false 6 k 0 (statusPayload s) :: s.wire } := by
  have hexec : exec (.statusReq k) s = execStatusReq k s := rfl
  rw [hexec, execStatusReq, hears, fzMine_of_chip h, fzShare_of_one _ _ _ h127, h]
  rfl

/-- A packet of any other type is passed on both ways (R433). -/
theorem exec_carry_of_fz {s : State} (hears : fzHears s = true) (hdown : s.leaf.downHop = true) (leaf : BitVec 6) (f : Folio)
    (ok : Bool) :
    exec (.carryDown leaf (.whole f) ok) s = .next (send (countFz s) (fzPassed true f)) ∧
      exec (.carryUp leaf f true) s = .next (send (countFz s) (fzPassed false f)) := by
  have hexecDown : exec (.carryDown leaf (.whole f) ok) s = execCarryDown leaf (.whole f) ok s := rfl
  have hexecUp : exec (.carryUp leaf f true) s = execCarryUp leaf f true s := rfl
  obtain ⟨⟨hcore, hmode⟩, _⟩ : (coreOn s = true ∧ (mode s == .leafFz) = true) ∧ s.leaf.upHop = true := by
    simpa only [fzHears, Bool.and_eq_true] using hears
  have hlink : linkRuns s = true := by
    obtain ⟨hrun, hst⟩ : running s = true ∧ (s.power.st = .s0 ∨ s.power.st = .s1) := by
      simpa only [coreOn, Bool.and_eq_true, Bool.or_eq_true, beq_iff_eq] using hcore
    rcases hst with hst | hst <;> rw [linkRuns, hrun, hst, hmode, Bool.or_true] <;> rfl
  constructor
  · refine (hexecDown.trans (if_pos hmode)).trans ?_
    simp only [hears, hdown, Bool.not_true, Bool.false_eq_true, if_false, if_true]
  · rw [hexecUp, execCarryUp, hlink, eq_of_beq hmode]
    simp only [hears, Bool.not_true, Bool.false_eq_true, if_false, if_true]

/-! ### COUNT (R433, R435) -/

/-- s numbered by a COUNT, or left without a number by one of 64 or more. -/
def fzNumbered (s : State) (n : Byte) : State :=
  { s with leaf := { s.leaf with
    chip := if n.toNat < 64 then some (BitVec.ofNat 7 n.toNat) else none, fzOverflow := decide (64 ≤ n.toNat) } }

theorem exec_count_numbers {s : State} (hears : fzHears s = true) (hdown : s.leaf.downHop = true) (n : Byte) :
    ∃ t, exec (.count n) s = .next t ∧ (64 ≤ n.toNat → eventRaised s t 0x0112) ∧
      t = reportedAs t (fzNumbered (fzSent s 4 127 0 (wordBytes (BitVec.ofNat 32 ((n.toNat + 1) % 256)))) n) := by
  have hexec : exec (.count n) s = execCount n s := rfl
  have hnext : (n + 1).setWidth 32 = BitVec.ofNat 32 ((n.toNat + 1) % 256) := by
    apply BitVec.eq_of_toNat_eq
    simp
  rw [hexec, execCount, hears]
  simp only [Bool.not_true, Bool.false_eq_true, if_false, fzForward_eq _ _ _ _ hdown, hnext]
  have hlarder : (fzSent s 4 127 0 (wordBytes (BitVec.ofNat 32 ((n.toNat + 1) % 256)))).larder = s.larder := rfl
  generalize fzSent s 4 127 0 (wordBytes (BitVec.ofNat 32 ((n.toNat + 1) % 256))) = u at hlarder ⊢
  by_cases hn : n.toNat < 64
  · have hchip : n.setWidth 7 = BitVec.ofNat 7 n.toNat := rfl
    have hfew : fzNumbered u n = { u with leaf := { u.leaf with chip := some (n.setWidth 7), fzOverflow := false } } := by
      rw [fzNumbered, if_pos hn, decide_eq_false (by omega : ¬64 ≤ n.toNat), hchip]
    rw [if_pos hn, ← hfew]
    exact ⟨_, rfl, fun h => absurd h (by omega), reportedAs_self _⟩
  · have hmany : fzNumbered u n = { u with leaf := { u.leaf with chip := none, fzOverflow := true } } := by
      rw [fzNumbered, if_neg hn, decide_eq_true (by omega : 64 ≤ n.toNat)]
    rw [if_neg hn, ← hmany]
    exact ⟨_, rfl, fun _ => eventRaised_of_larder (eventRaised_raise (fzNumbered u n) _ _ _) hlarder, raise_frame _ _ _ _⟩

/-! ### PIXELS for this chip (R66, R433) -/

theorem pixelsFit_iff (s : State) (off n : Nat) : pixelsFit s off n = true ↔ 1 ≤ n ∧ off + n ≤ sigSize s 0 3 := by
  rw [pixelsFit, Bool.and_eq_true, decide_eq_true_iff, decide_eq_true_iff]

theorem exec_pixels_of_misfit {s : State} {k : BitVec 7} {off : Nat} {data : List Byte} (hears : fzHears s = true)
    (h : s.leaf.chip = some k) (h127 : k ≠ 127) (hmisfit : data = [] ∨ sigSize s 0 3 < off + data.length) :
    exec (.pixels k off data) s = .next (countFz s) := by
  have hexec : exec (.pixels k off data) s = execPixels k off data s := rfl
  have hfit : pixelsFit s off data.length = false := by
    rw [← Bool.not_eq_true, pixelsFit_iff]
    rintro ⟨hsome, hroom⟩
    rcases hmisfit with rfl | hlong
    · exact absurd hsome (Nat.not_succ_le_zero 0)
    · omega
  rw [hexec, execPixels, hears, fzMine_of_chip h, fzShare_of_one _ _ _ h127]
  simp only [hfit, Bool.not_true, Bool.not_false, Bool.false_eq_true, if_false, if_true]

theorem exec_pixels_of_slot {s : State} {k : BitVec 7} {off i : Nat} {data : List Byte} (hears : fzHears s = true)
    (h : s.leaf.chip = some k) (h127 : k ≠ 127) (hsome : 1 ≤ data.length) (hroom : off + data.length ≤ sigSize s 0 3)
    (hi : slotOf s (s.leaf.fzFrame + 1) = some i) : exec (.pixels k off data) s = .next (writePixels s i off data) := by
  have hexec : exec (.pixels k off data) s = execPixels k off data s := rfl
  have hslot : fzSlot s = (some i, s) := by
    rw [fzSlot, fzQuire, hi]
  have hfit : pixelsFit s off data.length = true := (pixelsFit_iff _ _ _).mpr ⟨hsome, hroom⟩
  rw [hexec, execPixels, hears, fzMine_of_chip h, fzShare_of_one _ _ _ h127]
  simp only [hfit, Bool.not_true, Bool.false_eq_true, if_false, hslot]

/-- Bytes of which every granule is covered already are a twin, counted at WEST (R66, R422). -/
theorem pixelsTwin_of_covered {x : Slot} {off n : Nat} (h : ∀ g, off / 64 ≤ g → 64 * g < off + n → g ∈ x.covered) :
    pixelsTwin x off n = true := by
  rw [pixelsTwin, List.all_eq_true]
  intro g hg
  rw [List.mem_range] at hg
  exact List.contains_iff_mem.mpr (h _ (by omega) (by omega))

theorem writePixels_of_twin {s : State} {i off : Nat} {data : List Byte} {x : Slot} (hx : s.larder.slots[i]? = some x)
    (htwin : pixelsTwin x off data.length = true) : writePixels s i off data = countPort s .west 6 := by
  have hget : s.larder.slots.getD i Slot.empty = x := by rw [List.getD_eq_getElem?_getD, hx, Option.getD_some]
  rw [writePixels, hget, if_pos htwin]

/-- The slot x with bytes of its frame written and the granules covered that the ranges written make whole (R433). -/
def pixelsSlot (s : State) (x : Slot) (off : Nat) (data : List Byte) : Slot :=
  let ranges := (off, off + data.length) :: s.leaf.fzWritten
  let new := ((List.range (data.length / 64 + 2)).map (off / 64 + ·)).filter fun g =>
    !x.covered.contains g && decide (64 * g < sigSize s 0 3) && granuleWritten ranges (sigSize s 0 3) g
  let y := { x with covered := x.covered ++ new, data := Memory.writeBytes x.data off data }
  if x.st == .receiving && slotComplete s y then { y with st := .ready } else y

theorem pixelsSlot_data (s : State) (x : Slot) (off : Nat) (data : List Byte) :
    (pixelsSlot s x off data).data = Memory.writeBytes x.data off data := by
  simp only [pixelsSlot]
  split <;> rfl

theorem writePixels_writes {s : State} {i off : Nat} {data : List Byte} {x : Slot} (hx : s.larder.slots[i]? = some x)
    (htwin : pixelsTwin x off data.length = false) : writePixels s i off data = { s with
      larder := { s.larder with slots := s.larder.slots.set i (pixelsSlot s x off data) }
      leaf := { s.leaf with fzWritten := (off, off + data.length) :: s.leaf.fzWritten } } := by
  have hget : s.larder.slots.getD i Slot.empty = x := by rw [List.getD_eq_getElem?_getD, hx, Option.getD_some]
  rw [writePixels, hget, if_neg (by rw [htwin]; exact Bool.false_ne_true)]
  rfl

/-- Pixels written: the payload at its offset, and every other byte as it was (R433). -/
theorem exec_pixels_writes {s : State} {k : BitVec 7} {off i : Nat} {data : List Byte} {x : Slot} (hears : fzHears s = true)
    (h : s.leaf.chip = some k) (h127 : k ≠ 127) (hsome : 1 ≤ data.length) (hroom : off + data.length ≤ sigSize s 0 3)
    (hi : slotOf s (s.leaf.fzFrame + 1) = some i) (hx : s.larder.slots[i]? = some x) (hwf : Memory.wf x.data = true)
    (htwin : pixelsTwin x off data.length = false) :
    ∃ t y, exec (.pixels k off data) s = .next t ∧ t.larder.slots[i]? = some y ∧
      (∀ j, j < data.length → Memory.read y.data (off + j) = data.getD j 0) ∧
      (∀ a, a < off ∨ off + data.length ≤ a → Memory.read y.data a = Memory.read x.data a) ∧
      (∀ j, j ≠ i → t.larder.slots[j]? = s.larder.slots[j]?) ∧
      t = { s with
        larder := { s.larder with slots := t.larder.slots }
        leaf := { s.leaf with fzWritten := (off, off + data.length) :: s.leaf.fzWritten } } := by
  have hlt : i < s.larder.slots.length := (List.getElem?_eq_some_iff.mp hx).1
  refine ⟨_, pixelsSlot s x off data, exec_pixels_of_slot hears h h127 hsome hroom hi, ?_⟩
  rw [writePixels_writes hx htwin, pixelsSlot_data]
  exact ⟨List.getElem?_set_self hlt, fun j hj => Memory.read_writeBytes_inside _ _ _ _ hwf hj,
    fun a ha => Memory.read_writeBytes_outside _ _ _ _ ha, fun j hj => List.getElem?_set_ne (Ne.symm hj), rfl⟩

/-! ### What a SYNC_IN edge may change (R165 to R170) -/

/-- s with the Mantel, the addend of the RING PLL, the step instants, the EVENT records and the free values of t. -/
def steeredAs (t s : State) : State :=
  reportedAs t { s with
    mantel := t.mantel, press := { s.press with pllAddend := t.press.pllAddend }
    start := { s.start with stepUs := t.start.stepUs }, fresh := t.fresh }

theorem steeredAs_self (s : State) : s = steeredAs s s := reportedAs_self s

theorem steeredAs_trans {s t u : State} (hst : t = steeredAs t s) (htu : u = steeredAs u t) : u = steeredAs u s := by
  refine htu.trans ((congrArg (steeredAs u) hst).trans ?_)
  cases h : s.cellar.failAt <;> simp [steeredAs, reportedAs, h]

theorem steeredAs_of_reportedAs {s t : State} (h : t = reportedAs t s) : t = steeredAs t s := by
  refine (steeredAs_self t).trans ((congrArg (steeredAs t) h).trans ?_)
  cases hf : s.cellar.failAt <;> simp [steeredAs, reportedAs, hf]

/-- From s to t Mantel was steered: its time, P and last edge stand, and nothing changed but what an edge may change. -/
structure Steered (s t : State) : Prop where
  frame : t = steeredAs t s
  time : t.mantel.time = s.mantel.time
  greatest : t.mantel.p = s.mantel.p
  lastEdge : t.mantel.lastEdge = s.mantel.lastEdge
  lastSync : t.mantel.lastSync = s.mantel.lastSync

theorem Steered.refl (s : State) : Steered s s := ⟨steeredAs_self s, rfl, rfl, rfl, rfl⟩

theorem Steered.trans {s t u : State} (hst : Steered s t) (htu : Steered t u) : Steered s u :=
  ⟨steeredAs_trans hst.frame htu.frame, htu.time.trans hst.time, htu.greatest.trans hst.greatest,
    htu.lastEdge.trans hst.lastEdge, htu.lastSync.trans hst.lastSync⟩

theorem steered_raise (s : State) (code arg0 : Half) (arg1 : Word) : Steered s (raise s code arg0 arg1) := by
  refine ⟨steeredAs_of_reportedAs (raise_frame _ _ _ _), ?_, ?_, ?_, ?_⟩ <;> rw [raise_mantel]

/-- A state of Mantel with the same time, P and last edge is a steer. -/
theorem steered_mantel (s : State) (m : Mantel) (htime : m.time = s.mantel.time := by rfl)
    (hp : m.p = s.mantel.p := by rfl) (hedge : m.lastEdge = s.mantel.lastEdge := by rfl)
    (hsync : m.lastSync = s.mantel.lastSync := by rfl) : Steered s { s with mantel := m } :=
  ⟨(steeredAs_self _).trans rfl, htime, hp, hedge, hsync⟩

theorem steered_setLock (s : State) (l : Lock) (o : Int) : Steered s (setLock s l o) := by
  simp only [setLock, nowValid]
  split
  · exact .refl s
  · split
    · exact (steered_mantel s _).trans (steered_raise _ _ _ _)
    · exact (steered_mantel s _).trans (steered_raise _ _ _ _)

theorem steered_stepUs (s : State) (us : List Word) : Steered s { s with start := { s.start with stepUs := us } } :=
  ⟨(steeredAs_self _).trans rfl, rfl, rfl, rfl, rfl⟩

theorem steered_takeLock (s : State) (l : Lock) : Steered s (takeLock s l) := by
  unfold takeLock
  refine Steered.trans ?_ (steered_setLock _ _ _)
  split <;> split
  · exact (steered_mantel s _).trans (steered_stepUs _ _)
  · exact steered_mantel s _
  · exact steered_stepUs _ _
  · exact .refl s

theorem steered_toAcquiring (s : State) : Steered s (toAcquiring s) :=
  ((steered_mantel s _).trans (steered_takeLock _ _)).trans (steered_mantel _ _)

theorem steered_askStep (s : State) (o : Int) : Steered s (askStep s o) := steered_mantel s _

theorem steered_fresh (s : State) (n : Nat) : Steered s { s with fresh := n } := ⟨(steeredAs_self _).trans rfl, rfl, rfl, rfl, rfl⟩

theorem steered_servoRate (s : State) : Steered s (servoRate s).2 := by
  unfold servoRate
  split
  · exact .refl s
  · exact steered_fresh s _

theorem steered_slewFor (s : State) (o : Int) : Steered s (slewFor s o).2 := steered_fresh s _

theorem steered_servo (s : State) (o : Int) : Steered s (servo s o) :=
  ((steered_servoRate s).trans (steered_slewFor _ o)).trans ⟨(steeredAs_self _).trans rfl, rfl, rfl, rfl, rfl⟩

theorem steered_countLock (s : State) (o : Int) : Steered s (countLock s o) := by
  simp only [countLock]
  generalize (if o.natAbs ≤ lockLimit then s.mantel.lockRun + 1 else 0) = n
  split
  · split
    · exact (steered_mantel s _).trans (steered_takeLock _ _)
    · exact steered_mantel s _
  · exact .refl s

/-- s with the lock that an offset finds it in. -/
def steerLock (s : State) : State :=
  match s.mantel.lock with
  | .unset => toAcquiring s
  | .holdover => takeLock s .locked
  | _ => s

/-- s with an offset acted on in the lock that it is in: a step, or the servo. -/
def steerBy (s : State) (o : Int) : State :=
  if s.mantel.stepPending.isSome then s
  else if s.mantel.lock == .acquiring && s.mantel.firstMeasure then
    askStep { s with mantel := { s.mantel with firstMeasure := false } } o
  else if stepLimit < o.natAbs && !s.mantel.noStep then
    let s := { s with mantel := { s.mantel with bigRun := s.mantel.bigRun + 1, lockRun := 0 } }
    if 3 ≤ s.mantel.bigRun then askStep s o else s
  else
    let s := { s with mantel := { s.mantel with bigRun := 0, noStep := s.mantel.noStep && decide (stepLimit < o.natAbs) } }
    countLock (servo s o) o

theorem steer_eq (s : State) (o : Int) : steer s o = if s.mantel.lock == .free then s else
    steerBy (steerLock { s with mantel := { s.mantel with lastOffset := o } }) o := rfl

theorem steered_steerLock (s : State) : Steered s (steerLock s) := by
  unfold steerLock
  split
  · exact steered_toAcquiring s
  · exact steered_takeLock s .locked
  · exact .refl s

theorem steered_steerBy (s : State) (o : Int) : Steered s (steerBy s o) := by
  simp only [steerBy]
  generalize (s.mantel.noStep && decide (stepLimit < o.natAbs)) = kept
  split
  · exact .refl s
  split
  · exact (steered_mantel s _).trans (steered_askStep _ o)
  split
  · split
    · exact (steered_mantel s _).trans (steered_askStep _ o)
    · exact steered_mantel s _
  · exact ((steered_mantel s _).trans (steered_servo _ o)).trans (steered_countLock _ o)

theorem steered_steer (s : State) (o : Int) : Steered s (steer s o) := by
  rw [steer_eq]
  split
  · exact .refl s
  · exact ((steered_mantel s _).trans (steered_steerLock _)).trans (steered_steerBy _ o)

/-- s with an edge kept as the last, and the rate of the edges. -/
def edgeKept (s : State) (stamp : Nat) (rate : Option Int) : State :=
  countMantel { s with mantel := { s.mantel with lastEdge := some stamp, lastSync := s.now, rate := rate } } 3

/-- An edge is counted alone, or is the last edge and steers (R165). -/
theorem takeEdge_cases (s : State) (stamp rate : Nat) :
    (s.mantel.lastEdge ≠ none ∧ takeEdge s stamp rate = countMantel s 2) ∨
      ∃ got o, takeEdge s stamp rate = steer (edgeKept s stamp got) o := by
  simp only [takeEdge]
  cases hlast : s.mantel.lastEdge.filter fun e => !edgeStale e stamp rate with
  | none => exact .inr ⟨_, _, rfl⟩
  | some e =>
    simp only []
    split
    · refine .inl ⟨fun hnone => ?_, rfl⟩
      rw [hnone] at hlast
      exact absurd hlast (by simp)
    · exact .inr ⟨_, _, rfl⟩

theorem takeEdge_takes (s : State) (stamp rate : Nat) : takeEdge s stamp rate = steeredAs (takeEdge s stamp rate) s ∧
    (takeEdge s stamp rate).mantel.time = s.mantel.time ∧ (takeEdge s stamp rate).mantel.p = s.mantel.p ∧
    (s.mantel.lastEdge = none → (takeEdge s stamp rate).mantel.lastEdge = some stamp ∧
      (takeEdge s stamp rate).mantel.lastSync = s.now) := by
  rcases takeEdge_cases s stamp rate with ⟨hsome, h⟩ | ⟨got, o, h⟩ <;> rw [h]
  · have hcount : Steered s (countMantel s 2) := steered_mantel s _
    exact ⟨hcount.frame, hcount.time, hcount.greatest, fun hnone => absurd hnone hsome⟩
  · have hsteer := steered_steer (edgeKept s stamp got) o
    have hframe : edgeKept s stamp got = steeredAs (edgeKept s stamp got) s := (steeredAs_self _).trans rfl
    exact ⟨steeredAs_trans hframe hsteer.frame, hsteer.time.trans rfl, hsteer.greatest.trans rfl,
      fun _ => ⟨hsteer.lastEdge.trans rfl, hsteer.lastSync.trans rfl⟩⟩

/-! ### LATCH closes the frame (R433) -/

/-- s with its frame closed, and slots and a count of late frames. -/
def frameClosed (s : State) (slots : List Slot) (late : Nat) (counts : Counters) : State :=
  { s with
    leaf := { s.leaf with fzFrame := s.leaf.fzFrame + 1 }
    larder := { s.larder with slots := slots, secLate := late, counts := counts } }

theorem closeFrame_of_none {s : State} (edge : Int) (h : slotOf s (s.leaf.fzFrame + 1) = none) :
    closeFrame s edge = frameClosed s s.larder.slots s.larder.secLate s.larder.counts := by
  simp only [closeFrame, fzQuire, h]
  rfl

theorem closeFrame_of_some {s : State} {edge : Int} {i : Nat} {x : Slot} (h : slotOf s (s.leaf.fzFrame + 1) = some i)
    (hx : s.larder.slots[i]? = some x) : closeFrame s edge =
      if frameSeam s ((edge / 65536).toNat + 500000) < mNs s + 250000 then
        frameClosed s (s.larder.slots.set i Slot.empty) (s.larder.secLate + 1) (bump s.larder.counts 2)
      else frameClosed s (s.larder.slots.set i { x with pres := (edge / 65536).toNat + 500000 }) s.larder.secLate
        s.larder.counts := by
  have hget : s.larder.slots.getD i Slot.empty = x := by rw [List.getD_eq_getElem?_getD, hx, Option.getD_some]
  simp only [closeFrame, fzQuire, h, hget, renderLead]
  generalize (edge / 65536).toNat + 500000 = pres
  generalize mNs s + 250000 = due
  split <;> rfl

theorem closeFrame_closed (s : State) (edge : Int) : ∃ slots late counts, closeFrame s edge = frameClosed s slots late counts := by
  simp only [closeFrame]
  generalize frameSeam s ((edge / 65536).toNat + 500000) = seam
  generalize mNs s + renderLead = due
  split
  · exact ⟨s.larder.slots, s.larder.secLate, s.larder.counts, rfl⟩
  · split
    · exact ⟨_, _, _, rfl⟩
    · exact ⟨_, _, _, rfl⟩

/-- s with a LATCH passed on and its rate taken. -/
def latchTaken (s : State) (rate : Byte) (frame : BitVec 24) : State :=
  { s with
    wire := .fz true 2 127 0 (wordBytes (rate ++ frame)) :: s.wire, leaf := { s.leaf with fzRate := rate.toNat } }

theorem exec_latch_of_numbered {s : State} {k : BitVec 7} {rate : Byte} (frame : BitVec 24) (stamp : Nat)
    (hears : fzHears s = true) (hdown : s.leaf.downHop = true) (h : s.leaf.chip = some k) (hpos : 1 ≤ rate.toNat)
    (hmost : rate.toNat ≤ 240) : exec (.latch rate frame stamp) s = .next
      (closeFrame (takeEdge (latchTaken s rate frame) (stamp - (k.toNat + 1) * 1280) rate.toNat)
        (mantelAt (takeEdge (latchTaken s rate frame) (stamp - (k.toNat + 1) * 1280) rate.toNat)
          (stamp - (k.toNat + 1) * 1280))) := by
  have hexec : exec (.latch rate frame stamp) s = execLatch rate frame stamp s := rfl
  have hchip : (fzSent s 2 127 0 (latchPayload rate frame)).leaf.chip = some k := h
  rw [hexec, execLatch, hears]
  simp only [Bool.not_true, Bool.false_eq_true, if_false, fzForward_eq _ _ _ _ hdown, hchip]
  rw [if_pos ⟨hpos, hmost⟩]
  rfl

/-- The frame that is closed after an edge was taken is the frame that was being received before it. -/
theorem latched_frame {s u t : State} {slots : List Slot} {late : Nat} {counts : Counters} (hsu : u = steeredAs u s)
    (hut : t = frameClosed u slots late counts) :
    t = reportedAs t { s with
      leaf := { s.leaf with fzFrame := s.leaf.fzFrame + 1 }, mantel := t.mantel
      larder := { s.larder with slots := t.larder.slots, secLate := t.larder.secLate }
      press := { s.press with pllAddend := t.press.pllAddend }
      start := { s.start with stepUs := t.start.stepUs }, fresh := t.fresh } := by
  refine (reportedAs_self t).trans ((congrArg (reportedAs t) hut).trans ?_)
  obtain ⟨v, hv⟩ : ∃ v, u = steeredAs v s := ⟨u, hsu⟩
  rw [hut, hv]
  cases h : s.cellar.failAt <;> simp [frameClosed, steeredAs, reportedAs, h]

theorem latch_slots {s u : State} {edge : Nat} (hframe : u = steeredAs u s) (htime : u.mantel.time = s.mantel.time) :
    ∃ pres, pres = (mantelAt (closeFrame u (mantelAt u edge)) edge / 65536).toNat + 500000 ∧
      (slotOf s (s.leaf.fzFrame + 1) = none → (closeFrame u (mantelAt u edge)).larder.slots = s.larder.slots ∧
        (closeFrame u (mantelAt u edge)).larder.secLate = s.larder.secLate) ∧
      ∀ i x, slotOf s (s.leaf.fzFrame + 1) = some i → s.larder.slots[i]? = some x →
        (mNs s + 250000 ≤ frameSeam s pres →
          (closeFrame u (mantelAt u edge)).larder.slots = s.larder.slots.set i { x with pres := pres } ∧
            (closeFrame u (mantelAt u edge)).larder.secLate = s.larder.secLate) ∧
        (frameSeam s pres < mNs s + 250000 →
          (closeFrame u (mantelAt u edge)).larder.slots = s.larder.slots.set i Slot.empty ∧
            (closeFrame u (mantelAt u edge)).larder.secLate = s.larder.secLate + 1) := by
  have hslots : u.larder.slots = s.larder.slots := (congrArg (fun x => x.larder.slots) hframe).trans rfl
  have hlate : u.larder.secLate = s.larder.secLate := (congrArg (fun x => x.larder.secLate) hframe).trans rfl
  have hleaf : u.leaf = s.leaf := (congrArg State.leaf hframe).trans rfl
  have hstraps : u.straps = s.straps := (congrArg State.straps hframe).trans rfl
  have hslotOf : slotOf u (u.leaf.fzFrame + 1) = slotOf s (s.leaf.fzFrame + 1) := by rw [slotOf, slotOf, hslots, hleaf]
  have hnow : mNs u = mNs s := by rw [mNs, mNs, htime]
  have hseam : ∀ n, frameSeam u n = frameSeam s n := fun n => by
    simp only [frameSeam, refreshHz, strapField, strap, hstraps]
  have hedge : mantelAt (closeFrame u (mantelAt u edge)) edge = mantelAt u edge := by
    obtain ⟨slots, late, counts, hclosed⟩ := closeFrame_closed u (mantelAt u edge)
    rw [hclosed, mantelAt, mantelAt]
    rfl
  refine ⟨_, rfl, fun hnone => ?_, fun i x hi hx => ⟨fun hsoon => ?_, fun hpast => ?_⟩⟩
  · rw [closeFrame_of_none _ (hslotOf.trans hnone), hslots, hlate]
    exact ⟨rfl, rfl⟩
  · rw [hedge] at hsoon ⊢
    rw [closeFrame_of_some (hslotOf.trans hi) (hslots ▸ hx), hseam, hnow, if_neg (Nat.not_lt.mpr hsoon), hslots, hlate]
    exact ⟨rfl, rfl⟩
  · rw [hedge] at hpast
    rw [closeFrame_of_some (hslotOf.trans hi) (hslots ▸ hx), hseam, hnow, if_pos hpast, hslots, hlate]
    exact ⟨rfl, rfl⟩

/-- LATCH at a numbered chip (R433). -/
theorem exec_latch_closes {s : State} {k : BitVec 7} {rate : Byte} (frame : BitVec 24) (stamp : Nat)
    (hears : fzHears s = true) (hdown : s.leaf.downHop = true) (h : s.leaf.chip = some k) (hpos : 1 ≤ rate.toNat)
    (hmost : rate.toNat ≤ 240) :
    ∃ t pres, exec (.latch rate frame stamp) s = .next t ∧ t.mantel.time = s.mantel.time ∧ t.mantel.p = s.mantel.p ∧
      (s.mantel.lastEdge = none →
        t.mantel.lastEdge = some (stamp - (k.toNat + 1) * 1280) ∧ t.mantel.lastSync = s.now) ∧
      pres = (mantelAt t (stamp - (k.toNat + 1) * 1280) / 65536).toNat + 500000 ∧
      (slotOf s (s.leaf.fzFrame + 1) = none → t.larder.slots = s.larder.slots ∧ t.larder.secLate = s.larder.secLate) ∧
      (∀ i x, slotOf s (s.leaf.fzFrame + 1) = some i → s.larder.slots[i]? = some x →
        (mNs s + 250000 ≤ frameSeam s pres →
          t.larder.slots = s.larder.slots.set i { x with pres := pres } ∧ t.larder.secLate = s.larder.secLate) ∧
        (frameSeam s pres < mNs s + 250000 →
          t.larder.slots = s.larder.slots.set i Slot.empty ∧ t.larder.secLate = s.larder.secLate + 1)) ∧
      t = reportedAs t { latchTaken s rate frame with
        leaf := { (latchTaken s rate frame).leaf with fzFrame := s.leaf.fzFrame + 1 }, mantel := t.mantel
        larder := { s.larder with slots := t.larder.slots, secLate := t.larder.secLate }
        press := { s.press with pllAddend := t.press.pllAddend }
        start := { s.start with stepUs := t.start.stepUs }, fresh := t.fresh } := by
  have hexec := exec_latch_of_numbered frame stamp hears hdown h hpos hmost
  generalize stamp - (k.toNat + 1) * 1280 = edge at hexec ⊢
  obtain ⟨hframe, htime, hp, hedge⟩ := takeEdge_takes (latchTaken s rate frame) edge rate.toNat
  generalize takeEdge (latchTaken s rate frame) edge rate.toNat = u at hexec hframe htime hp hedge
  obtain ⟨pres, hpres, hnone, hsome⟩ := latch_slots (edge := edge) hframe htime
  obtain ⟨slots, late, counts, hclosed⟩ := closeFrame_closed u (mantelAt u edge)
  have hmantel : (closeFrame u (mantelAt u edge)).mantel = u.mantel := by
    rw [hclosed]
    rfl
  refine ⟨_, pres, hexec, ?_, ?_, ?_, hpres, hnone, hsome, latched_frame hframe hclosed⟩
  · rw [hmantel, htime]
    rfl
  · rw [hmantel, hp]
    rfl
  · rw [hmantel]
    exact hedge

/-! ### What a re-render may change (R213, R214) -/

/-- s with what a pass that begins may change, as it is in t. -/
def renderedAs (t s : State) : State :=
  reportedAs t { s with
    press := { s.press with crossing := t.press.crossing }, bindery := t.bindery
    larder := { s.larder with slots := t.larder.slots, secSuperseded := t.larder.secSuperseded }
    screen := { s.screen with cache := t.screen.cache, counts := t.screen.counts }
    arch := { s.arch with copyBegun := t.arch.copyBegun } }

theorem renderedAs_self (s : State) : s = renderedAs s s := reportedAs_self s

theorem renderedAs_trans {s t u : State} (hst : t = renderedAs t s) (htu : u = renderedAs u t) : u = renderedAs u s := by
  refine htu.trans ((congrArg (renderedAs u) hst).trans ?_)
  cases h : s.cellar.failAt <;> simp [renderedAs, reportedAs, h]

theorem renderedAs_of_reportedAs {s t : State} (h : t = reportedAs t s) : t = renderedAs t s := by
  refine (renderedAs_self t).trans ((congrArg (renderedAs t) h).trans ?_)
  cases hf : s.cellar.failAt <;> simp [renderedAs, reportedAs, hf]

theorem beginCopy_frame (s : State) : beginCopy s = renderedAs (beginCopy s) s := by
  unfold beginCopy
  split
  · exact renderedAs_self s
  · split
    · exact renderedAs_self s
    · simp only []
      split
      · exact (renderedAs_self _).trans rfl
      · exact (renderedAs_self _).trans rfl

theorem countLane_frame (s : State) (l : LaneSrc) : countLane s l = renderedAs (countLane s l) s := by
  unfold countLane
  split
  · exact (renderedAs_self _).trans rfl
  · split
    · exact renderedAs_self s
    · exact (renderedAs_self _).trans rfl
  · exact renderedAs_self s

theorem supersede_frame (s : State) (i : Nat) : supersede s i = renderedAs (supersede s i) s := (renderedAs_self _).trans rfl

theorem freeBound_frame (s : State) (keep : Option Nat) : freeBound s keep = renderedAs (freeBound s keep) s := by
  unfold freeBound
  generalize [0, 1, 2] = is
  induction is generalizing s with
  | nil => exact renderedAs_self s
  | cons i is ih =>
    rw [List.foldl_cons]
    refine renderedAs_trans ?_ (ih _)
    split
    · exact supersede_frame s i
    · exact renderedAs_self s

theorem renderedAs_bindery (s : State) (b : Bindery) : { s with bindery := b } = renderedAs { s with bindery := b } s :=
  (renderedAs_self _).trans rfl

theorem beginPass_frame (s : State) (p : Pass) : beginPass s p = renderedAs (beginPass s p) s := by
  unfold beginPass
  extract_lets _ copied gains plate begun _ _ taken lanes counted freed _
  have hcopied : copied = renderedAs copied s := renderedAs_trans (renderedAs_bindery s _) (beginCopy_frame _)
  have htaken : taken = renderedAs taken copied := (renderedAs_self _).trans rfl
  have hlanes : lanes = renderedAs lanes taken := renderedAs_trans (countLane_frame _ _) (countLane_frame _ _)
  have hcounted : counted = renderedAs counted lanes :=
    renderedAs_trans (renderedAs_bindery _ _) (renderedAs_bindery _ _)
  have hfreed : freed = renderedAs freed s := renderedAs_trans
    (renderedAs_trans (renderedAs_trans (renderedAs_trans hcopied htaken) hlanes) hcounted) (freeBound_frame _ _)
  split
  · exact renderedAs_trans hfreed
      (renderedAs_trans (renderedAs_bindery _ _) (renderedAs_of_reportedAs (raise_frame _ _ _ _)))
  · exact hfreed

theorem startPass_frame (s : State) (w : PassDue) : startPass s w = renderedAs (startPass s w) s := by
  unfold startPass
  split
  · exact renderedAs_bindery s _
  · split
    · exact beginPass_frame s _
    · exact beginPass_frame s _
    · exact renderedAs_self s

theorem startReRender_frame (s : State) : startReRender s = renderedAs (startReRender s) s := by
  unfold startReRender
  generalize renderLead + 180 * usNs = lead
  split
  · exact renderedAs_bindery s _
  split
  · exact renderedAs_self s
  split
  · exact renderedAs_bindery s _
  split
  · exact renderedAs_bindery s _
  · exact startPass_frame s _

/-! ### GAIN (R275, R433) -/

/-- A GAIN ignores and counts a dead time that it may not set. -/
theorem gainIgnored_iff (dead : Half) : (dead != 0 && (decide (dead.toNat < 40) || decide (400 < dead.toNat))) = true ↔
    dead ≠ 0 ∧ (dead.toNat < 40 ∨ 400 < dead.toNat) := by
  simp

/-- The timing set of a GAIN. -/
def gainSet (s : State) (trims : Word) (dead : Half) : Timing :=
  { epoch := s.press.lastEpoch + 1, minp := 128
    deadNs := if 40 ≤ dead.toNat ∧ dead.toNat ≤ 400 then dead.toNat else s.press.timing.deadNs
    trims := [field trims 31 24, field trims 23 16, field trims 15 8, field trims 7 0] }

/-- s with the level of a GAIN, and its dead time counted when it is ignored. -/
def gainLeaf (s : State) (level : Half) (dead : Half) : State :=
  { s with leaf := { s.leaf with
    fzLevel := some (min level.toNat 32768)
    fzCounted := if dead ≠ 0 ∧ (dead.toNat < 40 ∨ 400 < dead.toNat) then s.leaf.fzCounted + 1 else s.leaf.fzCounted } }

/-- A GAIN takes its level and a timing set, which leaves a dead time out that it may not set. -/
theorem takeGain_eq (s : State) (level : Half) (trims : Word) (dead : Half) : ∃ kept : Half,
    takeGain s level trims dead = takeTiming (gainLeaf s level dead) (gainTiming s trims kept) ∧
      kept = if dead ≠ 0 ∧ (dead.toNat < 40 ∨ 400 < dead.toNat) then 0 else dead := by
  by_cases hbad : dead ≠ 0 ∧ (dead.toNat < 40 ∨ 400 < dead.toNat)
  · refine ⟨0, ?_, (if_pos hbad).symm⟩
    simp only [takeGain, (gainIgnored_iff dead).mpr hbad, if_true, gainLeaf, if_pos hbad]
    rfl
  · refine ⟨dead, ?_, (if_neg hbad).symm⟩
    have hkept : (dead != 0 && (decide (dead.toNat < 40) || decide (400 < dead.toNat))) = false := by
      rw [← Bool.not_eq_true, gainIgnored_iff]
      exact hbad
    simp only [takeGain, hkept, Bool.false_eq_true, if_false, gainLeaf, if_neg hbad]

theorem gainTiming_set {s : State} {dead kept : Half} (trims : Word)
    (h : kept = if dead ≠ 0 ∧ (dead.toNat < 40 ∨ 400 < dead.toNat) then 0 else dead) :
    (gainTiming s trims kept).set = gainSet s trims dead := by
  have hdead : (if kept = 0 then s.press.timing.deadNs else kept.toNat) =
      if 40 ≤ dead.toNat ∧ dead.toNat ≤ 400 then dead.toNat else s.press.timing.deadNs := by
    rw [h]
    by_cases hbad : dead ≠ 0 ∧ (dead.toNat < 40 ∨ 400 < dead.toNat)
    · rw [if_pos hbad, if_pos rfl, if_neg (by have := hbad.2; omega)]
    · rw [if_neg hbad]
      by_cases hzero : dead = 0
      · rw [if_pos hzero, if_neg (by rw [hzero]; decide)]
      · have hrange : ¬(dead.toNat < 40 ∨ 400 < dead.toNat) := fun h => hbad ⟨hzero, h⟩
        rw [if_neg hzero, if_pos (by omega)]
  simp only [gainTiming, gainSet]
  rw [hdead]

/-- What the timing set of a GAIN changes, beside the leaf (R213, R275). -/
theorem takeTiming_takes (s : State) (p : PendingSet) : (takeTiming s p).press.pendingSet = some p ∧
    takeTiming s p = renderedAs (takeTiming s p)
      { s with press := { s.press with lastEpoch := p.set.epoch, pendingSet := some p } } := by
  have h : takeTiming s p = renderedAs (takeTiming s p)
      { s with press := { s.press with lastEpoch := p.set.epoch, pendingSet := some p } } := startReRender_frame _
  exact ⟨(congrArg (fun x => x.press.pendingSet) h).trans rfl, h⟩

theorem exec_gain_takes {s : State} {k : BitVec 7} (level : Half) (trims : Word) (dead : Half) (hears : fzHears s = true)
    (h : s.leaf.chip = some k) (h127 : k ≠ 127) :
    ∃ t p, exec (.gain k level trims dead) s = .next t ∧ t.press.pendingSet = some p ∧ p.silent = true ∧ p.apply = 0 ∧
      p.due = s.now + 10000 ∧ p.set = gainSet s trims dead ∧
      t = renderedAs t { gainLeaf s level dead with
        press := { s.press with lastEpoch := s.press.lastEpoch + 1, pendingSet := some p } } := by
  have hexec : exec (.gain k level trims dead) s = execGain k level trims dead s := rfl
  have hus : 10 * usNs = 10000 := by norm_num [usNs]
  obtain ⟨kept, heq, hkept⟩ := takeGain_eq s level trims dead
  have hset := gainTiming_set (s := s) trims hkept
  have hdue : (gainTiming s trims kept).due = s.now + 10000 := congrArg (s.now + ·) hus
  have hmute : (gainTiming s trims kept).silent = true ∧ (gainTiming s trims kept).apply = 0 := ⟨rfl, rfl⟩
  have hepoch : (gainTiming s trims kept).set.epoch = s.press.lastEpoch + 1 := rfl
  rw [hexec, execGain, hears, fzMine_of_chip h, fzShare_of_one _ _ _ h127]
  simp only [Bool.not_true, Bool.false_eq_true, if_false, heq]
  generalize gainTiming s trims kept = p at hset hdue hmute hepoch
  obtain ⟨hpending, hframe⟩ := takeTiming_takes (gainLeaf s level dead) p
  rw [hepoch] at hframe
  exact ⟨_, p, rfl, hpending, hmute.1, hmute.2, hdue, hset, hframe⟩

/-- Settles O57: each packet of the tile bus at an FZ5140-format leaf, by whom it names and what it carries. -/
theorem fzLeafPackets : Obligations.FzLeafPackets := by
  unfold Obligations.FzLeafPackets
  intro s hears hdown
  refine ⟨fun k hk h127 => ⟨fun off data => exec_pixels_of_other hears hdown hk h127,
      exec_statusReq_of_other hears hdown hk h127⟩,
    fun n => exec_count_numbers hears hdown n,
    fun k off i data x hk h127 hsome hroom hi hx hwf htwin =>
      exec_pixels_writes hears hk h127 hsome hroom hi hx hwf htwin,
    fun k off i data x hk h127 hsome hroom hi hx hcovered => ?_,
    fun k off data hk h127 hmisfit => exec_pixels_of_misfit hears hk h127 hmisfit,
    fun k rate frame stamp hk hpos hmost => exec_latch_closes frame stamp hears hdown hk hpos hmost,
    fun k level trims dead hk h127 => exec_gain_takes level trims dead hears hk h127,
    fun leaf f ok => exec_carry_of_fz hears hdown leaf f ok,
    fun k hk h127 => ⟨_, exec_statusReq_of_chip hears hk h127, rfl⟩⟩
  rw [exec_pixels_of_slot hears hk h127 hsome hroom hi, writePixels_of_twin hx (pixelsTwin_of_covered hcovered)]
  exact ⟨_, rfl, rfl⟩

end Sys2Proof.Machine

/-! ## The ring map, the enumeration and the addresses

The settlement of O20. A head SPL folio acts once; ENUM_CLAIM of an enumeration; what ADDRESS_ASSIGN gives the node it names; the
JOIN that follows, with the records of failed self-tests. -/

namespace Sys2Proof.Machine

open Sys2Proof

/-! ### A head SPL folio acts once (R101) -/

theorem actOnce_of_new {s : State} {q : Word} (f : State → State) (h : splHeard s = true) (hq : q ∉ s.spine.splSeen) :
    actOnce s q f = .next (f (splNote s q)) := by
  rw [actOnce, if_pos]
  simpa [h, splTwin] using hq

theorem actOnce_of_twin {s : State} {q : Word} (f : State → State) (hq : q ∈ s.spine.splSeen) : actOnce s q f = .next s := by
  rw [actOnce, if_neg]
  simp [splTwin, hq]

/-- s with a ring map stored. -/
def ringMapStored (s : State) (epoch : Word) (size : Nat) (ins : List Bool) : State :=
  { s with spine := { s.spine with ringMap := some { epoch := epoch, size := size, inserted := ins.take size } } }

theorem exec_ringMap {s : State} {size : Nat} (q epoch : Word) (ins : List Bool) (hpos : 1 ≤ size) (hmost : size ≤ 1024) :
    exec (.ringMap q epoch size ins) s = actOnce s q fun s => ringMapStored s epoch size ins := by
  have hexec : exec (.ringMap q epoch size ins) s = execRingMap q epoch size ins s := rfl
  have hfits : (decide (1 ≤ size) && decide (size ≤ 1024)) = true := by
    rw [decide_eq_true hpos, decide_eq_true hmost]
    rfl
  rw [hexec, execRingMap, if_pos hfits]
  rfl

/-! ### ENUM_START (R102, R103, R421) -/

/-- s with the epoch of an enumeration, its address dropped or kept. -/
def epochTaken (s : State) (epoch : Word) (reassign : Bool) : State :=
  { s with addr := { s.addr with
    epoch := epoch, addr := if reassign && s.arch.pin.isNone then 0xFFF else s.addr.addr } }

theorem enumStart_of_untested {s : State} (epoch : Word) (reassign : Bool) (hmode : mode s = .native)
    (h : s.spine.selfTestPassed = false) : enumStart s epoch reassign = epochTaken s epoch reassign := by
  have hidle : (!((epochTaken s epoch reassign).spine.selfTestPassed || mode (epochTaken s epoch reassign) == .leaf)) = true := by
    show (!(s.spine.selfTestPassed || mode s == .leaf)) = true
    rw [h, hmode]
    rfl
  exact if_pos hidle

theorem enumStart_of_tested {s : State} (epoch : Word) (reassign : Bool) (h : s.spine.selfTestPassed = true) :
    enumStart s epoch reassign =
      if beforeChecks s then
        { epochTaken s epoch reassign with start := { s.start with claimDue := some epoch } }
      else queueSpl (epochTaken s epoch reassign) 2 (claimPayload (epochTaken s epoch reassign) epoch) := by
  have hbusy : ¬(!((epochTaken s epoch reassign).spine.selfTestPassed || mode (epochTaken s epoch reassign) == .leaf)) = true := by
    show ¬(!(s.spine.selfTestPassed || mode s == .leaf)) = true
    rw [h, Bool.true_or]
    exact Bool.false_ne_true
  exact if_neg hbusy

theorem longBytes_length (l : Long) : (longBytes l).length = 8 := rfl

theorem claimPayload_length (s : State) (epoch : Word) : (claimPayload s epoch).length = 36 := by
  simp [claimPayload, longBytes_length]

theorem claimPayload_take (s : State) (epoch : Word) : (claimPayload s epoch).take 4 = wordBytes epoch := by
  simp only [claimPayload, List.append_assoc]
  exact List.take_left' (wordBytes_length epoch)

/-- With room and both ports UP, ENUM_CLAIM is queued at once. -/
theorem enumClaim_queued {s : State} (epoch : Word) (hwait : s.larder.waiting = []) (hroom : reportLevel s ≤ 247)
    (hup : portUp s .east = true) :
    ∃ f ∈ (queueSpl s 2 (claimPayload s epoch)).larder.reports,
      f.kind = 5 ∧ f.spec = 2 ∧ f.payload.take 4 = wordBytes epoch ∧ f.payload.length = 36 := by
  have hunits : foliosUnits (claimPayload s epoch).length = 1 := by
    rw [claimPayload_length]
    rfl
  obtain ⟨f, hf, hk, hs, _, hp⟩ := queueOwn_holds (s := s)
    (f := { kind := 5, spec := 2, seq := 0, payload := claimPayload s epoch, dueEast := true, dueWest := true
            leafSrc := none, unassignedOk := true }) ⟨rfl, (by decide : (5 : BitVec 4) ≠ 4), rfl, rfl⟩ hwait
    (by rw [hunits]; omega) (by rw [hup]; rfl)
  exact ⟨f, hf, hk, hs, by rw [hp]; exact claimPayload_take s epoch, by rw [hp]; exact claimPayload_length s epoch⟩

theorem epochTaken_addr (s : State) (epoch : Word) (reassign : Bool) : (epochTaken s epoch reassign).addr.addr =
    if reassign = true ∧ s.arch.pin = none then 0xFFF else s.addr.addr := by
  simp [epochTaken]

/-- What ENUM_START changes (R102, R103, R421). -/
theorem enumStart_starts {s : State} (epoch : Word) (reassign : Bool) (hmode : mode s = .native) :
    (enumStart s epoch reassign).addr.epoch = epoch ∧
      (enumStart s epoch reassign).addr.addr = (if reassign = true ∧ s.arch.pin = none then 0xFFF else s.addr.addr) ∧
      (s.spine.selfTestPassed = true → s.start.stage = 6 →
        (enumStart s epoch reassign).start.claimDue = some epoch ∧ (enumStart s epoch reassign).larder = s.larder) ∧
      (s.spine.selfTestPassed = false →
        (enumStart s epoch reassign).start = s.start ∧ (enumStart s epoch reassign).larder = s.larder) ∧
      enumStart s epoch reassign = queuedAs (enumStart s epoch reassign) { s with
        addr := { s.addr with epoch := epoch, addr := (enumStart s epoch reassign).addr.addr }
        start := { s.start with claimDue := (enumStart s epoch reassign).start.claimDue } } := by
  have haddr := epochTaken_addr s epoch reassign
  cases hpassed : s.spine.selfTestPassed
  · rw [enumStart_of_untested epoch reassign hmode hpassed]
    exact ⟨rfl, haddr, nofun, fun _ => ⟨rfl, rfl⟩, rfl⟩
  · rw [enumStart_of_tested epoch reassign hpassed]
    split
    · exact ⟨rfl, haddr, fun _ _ => ⟨rfl, rfl⟩, nofun, rfl⟩
    · next hchecks =>
      have hframe := queueOwn_frame (epochTaken s epoch reassign)
        { kind := 5, spec := 2, seq := 0, payload := claimPayload (epochTaken s epoch reassign) epoch, dueEast := true
          dueWest := true, leafSrc := none, unassignedOk := true }
      have hqueued : queueSpl (epochTaken s epoch reassign) 2 (claimPayload (epochTaken s epoch reassign) epoch) =
          queuedAs (queueSpl (epochTaken s epoch reassign) 2 (claimPayload (epochTaken s epoch reassign) epoch))
            (epochTaken s epoch reassign) := hframe
      generalize queueSpl (epochTaken s epoch reassign) 2 (claimPayload (epochTaken s epoch reassign) epoch) = t at hqueued ⊢
      have hkept : t.addr.addr = (epochTaken s epoch reassign).addr.addr :=
        (congrArg (fun x => x.addr.addr) hqueued).trans rfl
      refine ⟨(congrArg (fun x => x.addr.epoch) hqueued).trans rfl, hkept.trans haddr,
        fun _ hstage => absurd (by simp [beforeChecks, hstage]) hchecks, nofun, ?_⟩
      have hstart : t.start = s.start := (congrArg State.start hqueued).trans rfl
      rw [hkept, hstart]
      exact hqueued

/-! ### ADDRESS_ASSIGN (R104) -/

theorem exec_addressAssign {s : State} {q : Word} {es : List AssignEntry} (epoch : Word) (hheard : splHeard s = true)
    (hq : q ∉ s.spine.splSeen) (hpos : 1 ≤ es.length) (hmost : es.length ≤ 63) :
    exec (.addressAssign q epoch es) s = .next
      (match es.find? fun e => e.serial == Config.serialFuses with
      | some e => takeEntry { splNote s q with addr := { s.addr with epoch := epoch } } e
      | none => { splNote s q with addr := { s.addr with epoch := epoch } }) := by
  have hexec : exec (.addressAssign q epoch es) s = execAddressAssign q epoch es s := rfl
  have hfits : (decide (1 ≤ es.length) && decide (es.length ≤ 63)) = true := by
    rw [decide_eq_true hpos, decide_eq_true hmost]
    rfl
  rw [hexec, execAddressAssign, if_pos hfits, actOnce_of_new _ hheard hq]
  rfl

/-- An address that a node may take is its own, or its pin's where the entry does not say pinconflict (R104). -/
theorem assignedAddress_of_takeable {s : State} {e : AssignEntry} (h0 : e.addr ≠ 0x000) (hF : e.addr ≠ 0xFFF) :
    assignedAddress s e = match s.arch.pin with
      | none => e.addr
      | some pin => if e.pinconflict then e.addr else pin := by
  have htake : takeable e.addr = true := by
    rw [takeable, bne_iff_ne.mpr h0, bne_iff_ne.mpr hF]
    rfl
  rw [assignedAddress, htake]
  cases s.arch.pin <;> rfl

/-- s with the entry that names it taken. -/
def entryTaken (s : State) (e : AssignEntry) : State :=
  { s with addr := { s.addr with
    addr := assignedAddress s e, pos := e.pos, pinConflict := s.arch.pin.isSome && e.pinconflict
    lastAddr := if assignedAddress s e == 0xFFF then s.addr.lastAddr else assignedAddress s e, lastPos := e.pos } }

/-- s with the next Delay_Req of its ports as in t, and its free values. -/
def phasedAs (t s : State) : State :=
  { s with
    mantel := { s.mantel with
      east := { s.mantel.east with reqDue := t.mantel.east.reqDue }
      west := { s.mantel.west with reqDue := t.mantel.west.reqDue } }
    fresh := t.fresh }

/-- s with the entry taken and the ports' Delay_Req phased, where it had no address before (R169). -/
def entryPhased (s : State) (e : AssignEntry) : State :=
  if assigned s then entryTaken s e else phaseDelayReq (entryTaken s e)

theorem entryPhased_frame (s : State) (e : AssignEntry) : entryPhased s e = phasedAs (entryPhased s e) (entryTaken s e) := by
  unfold entryPhased
  split
  · rfl
  · generalize entryTaken s e = t
    rfl

theorem takeEntry_eq {s : State} (e : AssignEntry) (hstage : s.start.stage = 0) :
    takeEntry s e = queueJoin (settleAdmit (entryPhased s e)) := by
  have hphased := entryPhased_frame s e
  have hchecks : beforeChecks (settleAdmit (entryPhased s e)) = false := by
    have hstart : (settleAdmit (entryPhased s e)).start = s.start := by
      rw [settleAdmit_start]
      exact (congrArg State.start hphased).trans rfl
    rw [beforeChecks, hstart, hstage]
    rfl
  have htake : takeEntry s e = if beforeChecks (settleAdmit (entryPhased s e)) then
      { settleAdmit (entryPhased s e) with start := { (settleAdmit (entryPhased s e)).start with joinDue := true } }
      else queueJoin (settleAdmit (entryPhased s e)) := rfl
  rw [htake, hchecks]
  rfl

/-! ### JOIN and the records of failed self-tests (R103, R105, R109, R417) -/

/-- What queue 0x01 took, and then EVENT records. -/
theorem queued_then_reported {s t u : State} (hst : t = queuedAs t s) (htu : u = reportedAs u t) :
    u = reportedAs u (queuedAs u s) := by
  obtain ⟨v, hv⟩ : ∃ v, t = queuedAs v s := ⟨t, hst⟩
  obtain ⟨w, hw⟩ : ∃ w, u = reportedAs w t := ⟨u, htu⟩
  rw [hw, hv]
  cases h : s.cellar.failAt <;> simp [reportedAs, queuedAs, h]

/-- s with its tamper flag told, and no record of a failed self-test left to tell. -/
def joinTold (s : State) : State :=
  { s with addr := { s.addr with tamperSinceJoin := false }, spine := { s.spine with untold := [] } }

theorem queueJoin_eq (s : State) : queueJoin s =
    s.spine.untold.foldl queueEvent (joinTold (queueReport s 0x0010 (joinPayload s))) := by
  have huntold : (queueReport s 0x0010 (joinPayload s)).spine.untold = s.spine.untold :=
    (congrArg (fun x => x.spine.untold) (queueReport_frame s _ _)).trans rfl
  rw [← huntold]
  rfl

/-- Records that queue 0x02 has room for join it in their order. -/
theorem events_queueEvents (es : List EventRec) (s : State) (h : s.larder.events.length + es.length ≤ 256) :
    (es.foldl queueEvent s).larder.events = s.larder.events ++ es := by
  induction es generalizing s with
  | nil => exact (List.append_nil _).symm
  | cons e es ih =>
    rw [List.length_cons] at h
    have hlt : s.larder.events.length < 256 := by omega
    have hone : (queueEvent s e).larder.events = s.larder.events ++ [e] := by simp [queueEvent, hlt]
    rw [List.foldl_cons, ih _ (by rw [hone, List.length_append, List.length_singleton]; omega), hone, List.append_assoc]
    rfl

theorem queueJoin_frame (s : State) : queueJoin s = reportedAs (queueJoin s) (queuedAs (queueJoin s) (joinTold s)) := by
  have hreport : joinTold (queueReport s 0x0010 (joinPayload s)) =
      queuedAs (joinTold (queueReport s 0x0010 (joinPayload s))) (joinTold s) :=
    (congrArg joinTold (queueReport_frame s 0x0010 (joinPayload s))).trans rfl
  rw [queueJoin_eq]
  exact queued_then_reported hreport (queueEvents_frame _ _)

theorem queueJoin_events {s : State} (h : s.larder.events.length + s.spine.untold.length ≤ 256) :
    (queueJoin s).larder.events = s.larder.events ++ s.spine.untold := by
  have hkept : (joinTold (queueReport s 0x0010 (joinPayload s))).larder.events = s.larder.events := queueOwn_larder_events s _
  rw [queueJoin_eq, events_queueEvents _ _ (by rw [hkept]; exact h), hkept]

theorem wordAt_append (as bs : List Byte) (i : Nat) : wordAt (as ++ bs) (as.length + i) = wordAt bs i := by
  have hpad : as.length + i + 4 - (as.length + bs.length) = i + 4 - bs.length := by omega
  rw [wordAt, wordAt, List.length_append, hpad, List.drop_append, List.drop_eq_nil_of_le (by omega), List.nil_append,
    Nat.add_sub_cancel_left]

theorem joinPayload_take (s : State) : (joinPayload s).take 8 = longBytes Config.serialFuses :=
  List.take_left' (longBytes_length _)

theorem wordAt_joinPayload (s : State) : wordAt (joinPayload s) 12 = pack [(s.addr.pos.toNat, 16), (s.addr.addr.toNat, 0)] := by
  rw [joinPayload]
  exact (wordAt_append _ _ 4).trans (wordAt_wordsBytes _ 1 _ rfl)

theorem joinPayload_length (s : State) : (joinPayload s).length = 36 + 4 * (readout s).length := by
  rw [joinPayload, List.length_append, longBytes_length, wordsBytes_length, List.length_append]
  simp only [List.length_cons, List.length_nil]
  omega

theorem reportQueued_queueJoin (s : State) : reportQueued s (queueJoin s) 0x0010 (joinPayload s).length fun b =>
    b.take 8 = longBytes Config.serialFuses ∧ wordAt b 12 = pack [(s.addr.pos.toNat, 16), (s.addr.addr.toNat, 0)] := by
  intro hwait hroom hup
  have hframe : queueJoin s = reportedAs (queueJoin s) (joinTold (queueReport s 0x0010 (joinPayload s))) := by
    rw [queueJoin_eq]
    exact queueEvents_frame _ _
  have hports : (portUp s .east || portUp s .west) = true := by
    rw [hframe] at hup
    have hst : ∀ p, portUp (queueReport s 0x0010 (joinPayload s)) p = portUp s p := fun p => by
      rw [portUp, queueReport_port_st, portUp]
    rw [← hst .east, ← hst .west]
    exact hup
  obtain ⟨r, hr, hk, hs, hq, hp⟩ := queueOwn_holds (s := s)
    (f := { kind := 3, spec := 0x0010, seq := 0, payload := joinPayload s, dueEast := true, dueWest := true
            leafSrc := none, unassignedOk := false }) ⟨rfl, (by decide : (3 : BitVec 4) ≠ 4), rfl, rfl⟩ hwait hroom hports
  refine ⟨r, ?_, hk, hs, hq, by rw [hp]; exact joinPayload_take s, by rw [hp]; exact wordAt_joinPayload s⟩
  rw [hframe]
  exact hr

/-! ### The node that an entry names (R104) -/

theorem dropDown_payload (s : State) (f : OwnFolio) : (dropDown s f).payload = f.payload := by
  unfold dropDown
  (repeat' split) <;> rfl

/-- Queue 0x01 takes no more room as it settles. -/
theorem reportLevel_settle (s : State) : reportLevel (settle s) ≤ reportLevel s := by
  have hkept : (settle s).larder.reports = (s.larder.reports.map (dropDown s)).filter fun f => f.dueEast || f.dueWest := rfl
  have hmap : (s.larder.reports.map (dropDown s)).map (fun r => foliosUnits r.payload.length) =
      s.larder.reports.map fun r => foliosUnits r.payload.length := by
    rw [List.map_map]
    exact List.map_congr_left fun f _ => congrArg (fun b => foliosUnits (List.length b)) (dropDown_payload s f)
  rw [reportLevel, reportLevel, hkept, ← hmap]
  exact (List.filter_sublist.map _).sum_le_sum fun _ _ => Nat.zero_le _

/-- s with queue 0x01 settled after an entry was taken. -/
def entrySettled (s : State) (e : AssignEntry) : State := settleAdmit (entryPhased s e)

theorem entrySettled_frame (s : State) (e : AssignEntry) :
    entrySettled s e = queuedAs (entrySettled s e) (phasedAs (entrySettled s e) (entryTaken s e)) := by
  have hphased := entryPhased_frame s e
  have hsettled : entrySettled s e = queuedAs (entrySettled s e) (entryPhased s e) := settleAdmit_frame _
  generalize entryPhased s e = p at hphased hsettled
  generalize entrySettled s e = u at hsettled ⊢
  obtain ⟨v, hv⟩ : ∃ v, p = phasedAs v (entryTaken s e) := ⟨p, hphased⟩
  obtain ⟨w, hw⟩ : ∃ w, u = queuedAs w p := ⟨u, hsettled⟩
  generalize entryTaken s e = r at hv ⊢
  rw [hw, hv]
  rfl

theorem entrySettled_keeps (s : State) (e : AssignEntry) :
    (entrySettled s e).straps = s.straps ∧ (entrySettled s e).larder.events = s.larder.events ∧
      (entrySettled s e).spine.untold = s.spine.untold ∧ (entrySettled s e).addr.pos = e.pos ∧
      (entrySettled s e).addr.addr = assignedAddress s e := by
  have h := entrySettled_frame s e
  generalize entrySettled s e = u at h ⊢
  rw [h]
  exact ⟨rfl, rfl, rfl, rfl, rfl⟩

/-- With nothing waiting, the queue settles with no folio more and with its report sequence. -/
theorem entrySettled_queues {s : State} (e : AssignEntry) (hwait : s.larder.waiting = []) :
    (entrySettled s e).larder.waiting = [] ∧ reportLevel (entrySettled s e) ≤ reportLevel s ∧
      (entrySettled s e).addr.reportSeq = s.addr.reportSeq := by
  have hphased := entryPhased_frame s e
  unfold entrySettled
  generalize entryPhased s e = p at hphased ⊢
  have hlarder : p.larder = s.larder := (congrArg State.larder hphased).trans rfl
  have hseq : p.addr.reportSeq = s.addr.reportSeq := (congrArg (fun x => x.addr.reportSeq) hphased).trans rfl
  have hlevel : reportLevel p = reportLevel s := by rw [reportLevel, reportLevel, hlarder]
  rw [← hlarder] at hwait
  rw [settleAdmit_of_none hwait]
  exact ⟨hwait, (reportLevel_settle p).trans (le_of_eq hlevel), by rw [settle_addr, hseq]⟩

/-- JOIN is queued of the node that an entry names, by the room there was before. -/
theorem reportQueued_takeEntry {s : State} (e : AssignEntry) :
    reportQueued s (queueJoin (entrySettled s e)) 0x0010 (joinPayload s).length fun b =>
      b.take 8 = longBytes Config.serialFuses ∧
        wordAt b 12 = pack [(e.pos.toNat, 16), ((assignedAddress s e).toNat, 0)] := by
  intro hwait hroom hup
  obtain ⟨hwaits, hlevel, hseq⟩ := entrySettled_queues e hwait
  obtain ⟨hstraps, _, _, hpos, haddr⟩ := entrySettled_keeps s e
  have hlen : (joinPayload (entrySettled s e)).length = (joinPayload s).length := by
    rw [joinPayload_length, joinPayload_length, readout, readout, hstraps]
  have hjoin := reportQueued_queueJoin (entrySettled s e)
  rw [hlen, hpos, haddr] at hjoin
  rw [← hseq]
  exact hjoin hwaits (by omega) hup

/-- s with an ADDRESS_ASSIGN of an epoch acted on. -/
def assignHeard (s : State) (q epoch : Word) : State := { splNote s q with addr := { s.addr with epoch := epoch } }

/-- What JOIN and the entry before it leave as it was. -/
theorem entryJoined_frame (s : State) (q epoch : Word) (e : AssignEntry) {t : State}
    (ht : t = queueJoin (entrySettled (assignHeard s q epoch) e)) :
    t = reportedAs t (queuedAs t { s with
      addr := { s.addr with
        addr := t.addr.addr, pos := e.pos, pinConflict := s.arch.pin.isSome && e.pinconflict, epoch := epoch
        lastAddr := t.addr.lastAddr, lastPos := e.pos, tamperSinceJoin := false }
      spine := { s.spine with splSeen := (q :: s.spine.splSeen).take 64, untold := [] }
      mantel := { s.mantel with
        east := { s.mantel.east with reqDue := t.mantel.east.reqDue }
        west := { s.mantel.west with reqDue := t.mantel.west.reqDue } }
      fresh := t.fresh }) := by
  have hjoin := queueJoin_frame (entrySettled (assignHeard s q epoch) e)
  have hsettled := entrySettled_frame (assignHeard s q epoch) e
  rw [← ht] at hjoin
  generalize entrySettled (assignHeard s q epoch) e = u at hjoin hsettled
  generalize assignedAddress (assignHeard s q epoch) e = a at hsettled
  obtain ⟨v, hv⟩ : ∃ v, u = queuedAs v (phasedAs v (entryTaken (assignHeard s q epoch) e)) := ⟨u, hsettled⟩
  have haddr : t.addr.addr = u.addr.addr := (congrArg (fun x => x.addr.addr) hjoin).trans rfl
  have hlast : t.addr.lastAddr = u.addr.lastAddr := (congrArg (fun x => x.addr.lastAddr) hjoin).trans rfl
  have hmantel : t.mantel = u.mantel := (congrArg State.mantel hjoin).trans rfl
  have hfresh : t.fresh = u.fresh := (congrArg State.fresh hjoin).trans rfl
  refine hjoin.trans ?_
  rw [haddr, hlast, hmantel, hfresh, hv]
  rfl

/-- The node that an entry names takes its address and its position, and reports JOIN. -/
theorem addressAssign_named {s : State} {q : Word} {es : List AssignEntry} {e : AssignEntry} (epoch : Word)
    (hheard : splHeard s = true) (hq : q ∉ s.spine.splSeen) (hpos : 1 ≤ es.length) (hmost : es.length ≤ 63)
    (he : es.find? (fun e => e.serial == Config.serialFuses) = some e) (h0 : e.addr ≠ 0x000) (hF : e.addr ≠ 0xFFF)
    (hstage : s.start.stage = 0) :
    ∃ t, exec (.addressAssign q epoch es) s = .next t ∧ t.addr.epoch = epoch ∧ t.addr.pos = e.pos ∧
      t.addr.addr = (match s.arch.pin with
        | none => e.addr
        | some pin => if e.pinconflict then e.addr else pin) ∧
      reportQueued s t 0x0010 (joinPayload s).length (fun b =>
        b.take 8 = longBytes Config.serialFuses ∧ wordAt b 12 = pack [(e.pos.toNat, 16), (t.addr.addr.toNat, 0)]) ∧
      (s.larder.events.length + s.spine.untold.length ≤ 256 → t.larder.events = s.larder.events ++ s.spine.untold) ∧
      t = reportedAs t (queuedAs t { s with
        addr := { s.addr with
          addr := t.addr.addr, pos := e.pos, pinConflict := s.arch.pin.isSome && e.pinconflict, epoch := epoch
          lastAddr := t.addr.lastAddr, lastPos := e.pos, tamperSinceJoin := false }
        spine := { s.spine with splSeen := (q :: s.spine.splSeen).take 64, untold := [] }
        mantel := { s.mantel with
          east := { s.mantel.east with reqDue := t.mantel.east.reqDue }
          west := { s.mantel.west with reqDue := t.mantel.west.reqDue } }
        fresh := t.fresh }) := by
  have hexec := exec_addressAssign epoch hheard hq hpos hmost
  rw [he] at hexec
  have htake : takeEntry (assignHeard s q epoch) e = queueJoin (entrySettled (assignHeard s q epoch) e) :=
    takeEntry_eq e hstage
  have hassigned : assignedAddress (assignHeard s q epoch) e = match s.arch.pin with
      | none => e.addr
      | some pin => if e.pinconflict then e.addr else pin := assignedAddress_of_takeable h0 hF
  obtain ⟨_, hevents, huntold, _, haddr⟩ := entrySettled_keeps (assignHeard s q epoch) e
  have hreported := reportQueued_takeEntry (s := assignHeard s q epoch) e
  have hframe := entryJoined_frame s q epoch e rfl
  have hjoined : (queueJoin (entrySettled (assignHeard s q epoch) e)).addr.addr =
      assignedAddress (assignHeard s q epoch) e :=
    ((congrArg (fun x => x.addr.addr) (queueJoin_frame _)).trans rfl).trans haddr
  have hgrown := queueJoin_events (s := entrySettled (assignHeard s q epoch) e)
  rw [hevents, huntold] at hgrown
  rw [← hjoined] at hreported hassigned
  generalize queueJoin (entrySettled (assignHeard s q epoch) e) = t at htake hreported hframe hassigned hgrown
  refine ⟨t, hexec.trans (congrArg Host.Outcome.next htake), (congrArg (fun x => x.addr.epoch) hframe).trans rfl,
    (congrArg (fun x => x.addr.pos) hframe).trans rfl, hassigned, hreported, hgrown, hframe⟩

/-- Settles O20: RING_MAP, ENUM_START and ADDRESS_ASSIGN each act once, on the state with their sequence noted. -/
theorem ringMapEnumerationAndAssignment : Obligations.RingMapEnumerationAndAssignment := by
  unfold Obligations.RingMapEnumerationAndAssignment
  refine ⟨fun s q epoch size ins hheard hpos hmost => ⟨fun hq => ?_, fun hq => ?_⟩,
    fun s q epoch reassign hheard hq hmode => ?_, fun s q epoch es hheard hq hpos hmost =>
      ⟨fun e he h0 hF hstage => addressAssign_named epoch hheard hq hpos hmost he h0 hF hstage, fun hnone => ?_⟩⟩
  · refine ⟨_, (exec_ringMap q epoch ins hpos hmost).trans (actOnce_of_new _ hheard hq), rfl, ?_, rfl⟩
    exact List.mem_cons_self
  · exact (exec_ringMap q epoch ins hpos hmost).trans (actOnce_of_twin _ hq)
  · have hexec : exec (.enumStart q epoch reassign) s = .next (enumStart (splNote s q) epoch reassign) :=
      actOnce_of_new (fun s => enumStart s epoch reassign) hheard hq
    obtain ⟨hepoch, haddr, hlater, huntested, hframe⟩ := enumStart_starts (s := splNote s q) epoch reassign hmode
    refine ⟨_, hexec, hepoch, haddr, fun hpassed hstage heast _ hwait hroom => ?_, hlater, huntested, hframe⟩
    have hchecks : beforeChecks (splNote s q) = false := by
      rw [beforeChecks, show (splNote s q).start.stage = 0 from hstage]
      rfl
    rw [enumStart_of_tested (s := splNote s q) epoch reassign hpassed, hchecks]
    exact enumClaim_queued (s := epochTaken (splNote s q) epoch reassign) epoch hwait hroom heast
  · have hfind : es.find? (fun e => e.serial == Config.serialFuses) = none := by
      rw [List.find?_eq_none]
      exact fun e he => by simpa using hnone e he
    have hexec := exec_addressAssign epoch hheard hq hpos hmost
    rw [hfind] at hexec
    exact ⟨_, hexec, rfl⟩

end Sys2Proof.Machine

/-! ## The bypass, its senses and the self-test

The settlement of O22. What an edge of BYP_HOLD leaves of the ports; the insertion and the release; the samples of the senses and
their retry; the loopback self-test. -/

namespace Sys2Proof.Machine

open Sys2Proof

/-! ### An edge of BYP_HOLD takes both ports DOWN (R57, R71) -/

theorem portDown_st (s : State) (p : Port) : (getPort (portDown s p) p).st = .down := by
  by_cases h : (getPort s p).st = .down
  · have hkept : portDown s p = s := by simp [portDown, h]
    rw [hkept, h]
  · obtain ⟨v, hv⟩ : ∃ v, portDown s p = queuedAs v (wentDown s p) := ⟨_, portDown_queuedAs h⟩
    rw [hv]
    cases p <;> rfl

theorem portDown_other_st (s : State) (p : Port) : (getPort (portDown s p) (otherPort p)).st = (getPort s (otherPort p)).st := by
  by_cases h : (getPort s p).st = .down
  · have hkept : portDown s p = s := by simp [portDown, h]
    rw [hkept]
  · obtain ⟨v, hv⟩ : ∃ v, portDown s p = queuedAs v (wentDown s p) := ⟨_, portDown_queuedAs h⟩
    rw [hv]
    cases p <;> rfl

theorem setByp_edge {s : State} {high : Bool} (h : s.spine.bypHold ≠ high) :
    (setByp s high).spine.east.st = .down ∧ (setByp s high).spine.west.st = .down := by
  rw [setByp, if_neg (by simpa using h)]
  have heast : (portDown (portDown s .east) .west).spine.east.st = .down :=
    (portDown_other_st (portDown s .east) .west).trans (portDown_st s .east)
  exact ⟨heast, portDown_st (portDown s .east) .west⟩

/-! ### The insertion (R71, R74, R418) -/

/-- s with what an insertion may change, as it is in t. -/
def insertedAs (t s : State) : State :=
  reportedAs t (queuedAs t { s with
    cellar := { s.cellar with rtcAlarm := t.cellar.rtcAlarm }
    spine := { s.spine with
      east := t.spine.east, west := t.spine.west, bypHold := t.spine.bypHold, senseDue := t.spine.senseDue }
    power := { s.power with uncoordinated := t.power.uncoordinated } })

theorem insertedAs_self (s : State) : s = insertedAs s s := reportedAs_self s

theorem insertedAs_trans {s t u : State} (hst : t = insertedAs t s) (htu : u = insertedAs u t) : u = insertedAs u s := by
  refine htu.trans ((congrArg (insertedAs u) hst).trans ?_)
  cases h : s.cellar.failAt <;> simp [insertedAs, reportedAs, queuedAs, h]

theorem insertedAs_of_switchedAs {s t : State} (h : t = switchedAs t s) : t = insertedAs t s := by
  refine (insertedAs_self t).trans ((congrArg (insertedAs t) h).trans ?_)
  cases hf : s.cellar.failAt <;> simp [insertedAs, reportedAs, queuedAs, switchedAs, hf]

theorem insertedAs_of_reportedAs {s t : State} (h : t = reportedAs t s) : t = insertedAs t s := by
  refine (insertedAs_self t).trans ((congrArg (insertedAs t) h).trans ?_)
  cases hf : s.cellar.failAt <;> simp [insertedAs, reportedAs, queuedAs, hf]

theorem reportS4Return_of_owed {s : State} (hcause : s.start.cause = .s4Wake) (h : s.power.uncoordinated = true) :
    reportS4Return s = alarmOver (raiseUncoordinated s s.power.returnLen) := by
  rw [reportS4Return, if_pos (by rw [hcause, h]; rfl)]
  rfl

theorem reportS4Return_of_none {s : State} (h : s.power.uncoordinated = false) : reportS4Return s = s := by
  rw [reportS4Return, if_neg (by rw [h, Bool.and_false]; exact Bool.false_ne_true)]

theorem reportS4Return_frame (s : State) : reportS4Return s = insertedAs (reportS4Return s) s := by
  unfold reportS4Return
  split
  · have hcoordinated : coordinated s = insertedAs (coordinated s) s := (insertedAs_self _).trans rfl
    have hraised := insertedAs_trans hcoordinated (insertedAs_of_reportedAs (raiseUncoordinated_frame s s.power.returnLen))
    generalize raiseUncoordinated s s.power.returnLen = u at hraised ⊢
    exact insertedAs_trans hraised ((insertedAs_self (alarmOver u)).trans rfl)
  · exact insertedAs_self s

theorem tryInsert_of_allowed {s : State} (h : insertAllowed s = true) (hr : awaitsReturn s = false)
    (hlow : s.spine.bypHold = false) : tryInsert s = setByp (reportS4Return s) true := by
  rw [tryInsert, if_pos (by rw [h, hr, hlow]; rfl)]

theorem tryInsert_of_high {s : State} (h : s.spine.bypHold = true) : tryInsert s = s := by
  rw [tryInsert, if_neg (by rw [h]; simp)]

theorem tryInsert_frame (s : State) : tryInsert s = insertedAs (tryInsert s) s := by
  unfold tryInsert
  split
  · exact insertedAs_trans (reportS4Return_frame s) (insertedAs_of_switchedAs (setByp_frame _ true))
  · exact insertedAs_self s

/-- Without an uncoordinated return an insertion leaves the alarm and the power record. -/
theorem tryInsert_of_coordinated {s : State} (h : s.power.uncoordinated = false) :
    (tryInsert s).cellar.rtcAlarm = s.cellar.rtcAlarm ∧ (tryInsert s).power.uncoordinated = false := by
  unfold tryInsert
  split
  · rw [reportS4Return_of_none h]
    exact ⟨by rw [setByp_cellar], by rw [setByp_power, h]⟩
  · exact ⟨rfl, h⟩

/-- The switch inserts once every condition of R71 holds. -/
theorem exec_bypassInsert_inserts {s : State} (h : insertAllowed s = true) (hr : awaitsReturn s = false) :
    ∃ t, exec .bypassInsert s = .next t ∧ t.spine.bypHold = true ∧
      (s.spine.bypHold = false → t.spine.east.st = .down ∧ t.spine.west.st = .down) ∧
      (s.spine.bypHold = false → s.start.cause = .s4Wake → s.power.uncoordinated = true →
        t.cellar.rtcAlarm = none ∧ t.power.uncoordinated = false ∧ eventRaised s t 0x0106) ∧
      (s.power.uncoordinated = false → t.cellar.rtcAlarm = s.cellar.rtcAlarm ∧ t.power.uncoordinated = false) ∧
      t = insertedAs t s := by
  refine ⟨tryInsert s, rfl, ?_, fun hlow => ?_, fun hlow hcause howed => ?_, tryInsert_of_coordinated, tryInsert_frame s⟩
  · cases hlow : s.spine.bypHold
    · rw [tryInsert_of_allowed h hr hlow, setByp_bypHold]
    · rw [tryInsert_of_high hlow, hlow]
  · have hkept : (reportS4Return s).spine.bypHold = s.spine.bypHold := by
      unfold reportS4Return
      split
      · show (raiseUncoordinated s s.power.returnLen).spine.bypHold = _
        exact (congrArg (fun x => x.spine.bypHold) (raiseUncoordinated_frame s _)).trans rfl
      · rfl
    rw [tryInsert_of_allowed h hr hlow]
    exact setByp_edge (by rw [hkept, hlow]; exact Bool.false_ne_true)
  · rw [tryInsert_of_allowed h hr hlow, reportS4Return_of_owed hcause howed]
    have hraised := eventRaised_raiseUncoordinated s.power.returnLen howed
    have hframe := raiseUncoordinated_frame s s.power.returnLen
    generalize raiseUncoordinated s s.power.returnLen = u at hraised hframe ⊢
    refine ⟨by rw [setByp_cellar]; rfl, ?_, eventRaised_of_prefix hraised ?_⟩
    · rw [setByp_power]
      exact (congrArg (fun x => x.power.uncoordinated) hframe).trans rfl
    · rw [switchedAs_events (setByp_frame _ true)]
      exact List.prefix_refl _

/-! ### The release (R71, R386) -/

theorem exec_bypassRelease_of_cell {s : State} (h : cellDrives s = true) : exec .bypassRelease s = .next s := by
  have hexec : exec .bypassRelease s = execBypassRelease s := rfl
  rw [hexec, execBypassRelease, if_neg (by rw [h]; simp)]

theorem exec_bypassRelease_releases {s : State} (hhigh : s.spine.bypHold = true) (h : insertAllowed s = false)
    (hcell : cellDrives s = false) :
    ∃ t, exec .bypassRelease s = .next t ∧ t.spine.bypHold = false ∧ t.spine.east.st = .down ∧ t.spine.west.st = .down ∧
      t.wire = (if s.cellar.failAt = none then s.wire else .leave .west 16 :: .leave .east 16 :: s.wire) ∧
      t = queuedAs t { s with
        spine := { s.spine with
          east := t.spine.east, west := t.spine.west, bypHold := false, senseDue := t.spine.senseDue }
        wire := t.wire } := by
  have hexec : exec .bypassRelease s = .next (setByp (if s.cellar.failAt.isSome then sendLeave s else s) false) := by
    have hrun : exec .bypassRelease s = execBypassRelease s := rfl
    rw [hrun, execBypassRelease, if_pos (by rw [hhigh, h, hcell]; rfl)]
  have hsent : (if s.cellar.failAt.isSome then sendLeave s else s) = { s with
      wire := if s.cellar.failAt = none then s.wire else .leave .west 16 :: .leave .east 16 :: s.wire } := by
    cases hf : s.cellar.failAt <;> rfl
  rw [hsent] at hexec
  generalize (if s.cellar.failAt = none then s.wire else .leave .west 16 :: .leave .east 16 :: s.wire) = wire at hexec ⊢
  have hframe := setByp_frame { s with wire := wire } false
  have hlow : (setByp { s with wire := wire } false).spine.bypHold = false := setByp_bypHold _ _
  have hwire : (setByp { s with wire := wire } false).wire = wire := setByp_wire _ _
  obtain ⟨heast, hwest⟩ := setByp_edge (s := { s with wire := wire }) (high := false) (by rw [hhigh]; simp)
  refine ⟨_, hexec, hlow, heast, hwest, hwire, ?_⟩
  generalize setByp { s with wire := wire } false = t at hframe hlow hwire ⊢
  rw [hwire, ← hlow]
  exact hframe

theorem exec_ringPllLoss_closes {s : State} (h : ringOn s = true) :
    ∃ t, exec .ringPllLoss s = .next t ∧ t.spine.pllLocked = false ∧ t.spine.bypHold = (s.spine.bypHold && cellDrives s) ∧
      t = switchedAs t { s with spine := { s.spine with pllLocked := false } } := by
  have hexec : exec .ringPllLoss s = .next (releaseByp { s with spine := { s.spine with pllLocked := false } }) := if_pos h
  have hframe := releaseByp_frame { s with spine := { s.spine with pllLocked := false } }
  exact ⟨_, hexec, (congrArg (fun x => x.spine.pllLocked) hframe).trans rfl, releaseByp_bypHold _, hframe⟩

/-! ### A sample of the senses (R72) -/

/-- s at the instant of a sample of the senses, the next one due. -/
def sampled (s : State) : State :=
  { advanceTo s s.spine.senseDue with
    spine := { s.spine with senseDue := (advanceTo s s.spine.senseDue).now + 1000000000 } }

theorem exec_bypSenseSample {s : State} (e w : Bool) (ht : portsTrain s = true) (hs : switchFitted s = true) :
    exec (.bypSenseSample e w) s = .next (judgeSense (sampled s) e w) := by
  have hexec : exec (.bypSenseSample e w) s = execBypSenseSample e w s := rfl
  have hsecond : second = 1000000000 := by norm_num [second]
  rw [hexec, execBypSenseSample, ht, hs, hsecond]
  rfl

/-- s with the next sample of the senses due a second after now. -/
def sampleDue (s : State) : State := { s with spine := { s.spine with senseDue := s.now + 1000000000 } }

/-- A sample runs the clocks on to its instant and sets the next. -/
theorem sampled_clocked (s : State) : ∃ r, r = clockedAs r s ∧ s.spine.senseDue ≤ r.now ∧ sampled s = sampleDue r := by
  refine ⟨advanceTo s s.spine.senseDue, advanceTo_frame _ _, (advanceTo_reaches _ _).1, ?_⟩
  have hspine : (advanceTo s s.spine.senseDue).spine = s.spine := by rw [advanceTo_spine]
  rw [sampleDue, hspine]
  rfl

/-- s with a switch fault seen and logged. -/
def faultSeen (s : State) : State :=
  { s with spine := { s.spine with switchFaultSeen := true, switchFaultsLogged := s.spine.switchFaultsLogged + 1 } }

theorem switchFault_eq (s : State) (outcome : Nat) : ∃ a b, switchFault s outcome = raise (faultSeen s) 0x0105 a b := ⟨_, _, rfl⟩

theorem switchFault_frame (s : State) (outcome : Nat) :
    switchFault s outcome = reportedAs (switchFault s outcome) (faultSeen s) := by
  obtain ⟨a, b, h⟩ := switchFault_eq s outcome
  rw [h]
  exact raise_frame _ _ _ _

theorem eventRaised_switchFault (s : State) (outcome : Nat) : eventRaised s (switchFault s outcome) 0x0105 := by
  obtain ⟨a, b, h⟩ := switchFault_eq s outcome
  rw [h]
  exact eventRaised_of_larder (eventRaised_raise _ _ _ _) rfl

theorem judgeSense_of_inserted {s : State} (h : s.spine.bypHold = true) :
    judgeSense s true true = { s with spine := { s.spine with switchRetries := 0 } } := by
  rw [judgeSense, if_pos h]
  rfl

/-- s with the insertion to be retried, or failed after three retries. -/
def retrySet (s : State) : State :=
  if s.spine.switchRetries < 3 then { s with spine := { s.spine with retryDue := some (s.now + 1000000000) } }
  else { s with spine := { s.spine with switchFailed := true } }

theorem judgeSense_of_fault {s : State} {e w : Bool} (h : s.spine.bypHold = true) (hlow : (e && w) = false) :
    judgeSense s e w = retrySet (switchFault (releaseByp s) 1) := by
  have hsecond : second = 1000000000 := by norm_num [second]
  rw [judgeSense, if_pos h, if_neg (by rw [hlow]; exact Bool.false_ne_true), hsecond]
  rfl

theorem judgeSense_of_stuck {s : State} {e w : Bool} (h : s.spine.bypHold = false) (hhigh : (e || w) = true) :
    judgeSense s e w = if s.spine.stuck then s
      else { switchFault s 2 with spine := { (switchFault s 2).spine with stuck := true } } := by
  rw [judgeSense, if_neg (by rw [h]; exact Bool.false_ne_true), if_pos hhigh]

theorem judgeSense_of_low {s : State} (h : s.spine.bypHold = false) :
    judgeSense s false false = { s with spine := { s.spine with stuck := false } } := by
  rw [judgeSense, if_neg (by rw [h]; exact Bool.false_ne_true)]
  rfl

/-- BYP_HOLD high and both senses high: the retries are cleared. -/
theorem bypSenseSample_inserted {s : State} (ht : portsTrain s = true) (hs : switchFitted s = true)
    (h : s.spine.bypHold = true) :
    ∃ t, exec (.bypSenseSample true true) s = .next t ∧ s.spine.senseDue ≤ t.now ∧
      t = clockedAs t { s with spine := { s.spine with switchRetries := 0, senseDue := t.now + 1000000000 } } := by
  obtain ⟨r, hclocked, hreached, hsampled⟩ := sampled_clocked s
  have hexec := exec_bypSenseSample true true ht hs
  have hhold : (sampleDue r).spine.bypHold = true := ((congrArg (fun x => x.spine.bypHold) hclocked).trans rfl).trans h
  rw [hsampled, judgeSense_of_inserted hhold] at hexec
  refine ⟨_, hexec, hreached, ?_⟩
  obtain ⟨v, hv⟩ : ∃ v, r = clockedAs v s := ⟨r, hclocked⟩
  rw [hv]
  rfl

/-- BYP_HOLD low and both senses low: the switch is not stuck. -/
theorem bypSenseSample_low {s : State} (ht : portsTrain s = true) (hs : switchFitted s = true)
    (h : s.spine.bypHold = false) :
    ∃ t, exec (.bypSenseSample false false) s = .next t ∧ s.spine.senseDue ≤ t.now ∧
      t = clockedAs t { s with spine := { s.spine with stuck := false, senseDue := t.now + 1000000000 } } := by
  obtain ⟨r, hclocked, hreached, hsampled⟩ := sampled_clocked s
  have hexec := exec_bypSenseSample false false ht hs
  have hhold : (sampleDue r).spine.bypHold = false := ((congrArg (fun x => x.spine.bypHold) hclocked).trans rfl).trans h
  rw [hsampled, judgeSense_of_low hhold] at hexec
  refine ⟨_, hexec, hreached, ?_⟩
  obtain ⟨v, hv⟩ : ∃ v, r = clockedAs v s := ⟨r, hclocked⟩
  rw [hv]
  rfl

/-- The clocks of a state are those of a later one with the same clocks. -/
theorem clockedAs_of_kept {s r t : State} (h : r = clockedAs r s) (hnow : t.now = r.now) (hmantel : t.mantel = r.mantel)
    (hrtc : t.cellar.rtc = r.cellar.rtc) (hpart : t.cellar.rtcPart = r.cellar.rtcPart) : r = clockedAs t s := by
  refine h.trans ?_
  rw [clockedAs, clockedAs, hnow, hmantel, hrtc, hpart]

/-- s with a switch fault found, BYP_HOLD released. -/
def faultFound (s : State) : State := switchFault (releaseByp s) 1

theorem faultFound_frame (s : State) :
    faultFound s = reportedAs (faultFound s) (switchedAs (faultFound s) (faultSeen s)) := by
  have hreleased := releaseByp_frame s
  have hfault : faultFound s = reportedAs (faultFound s) (faultSeen (releaseByp s)) := switchFault_frame _ 1
  generalize releaseByp s = u at hreleased hfault
  generalize faultFound s = t at hfault ⊢
  obtain ⟨v, hv⟩ : ∃ v, u = switchedAs v s := ⟨u, hreleased⟩
  obtain ⟨w, hw⟩ : ∃ w, t = reportedAs w (faultSeen u) := ⟨t, hfault⟩
  rw [hw, hv]
  cases h : s.cellar.failAt <;> simp [reportedAs, switchedAs, queuedAs, faultSeen, h]

/-- An EVENT raised is one raised from an earlier state with the same records in queue 0x02. -/
theorem eventRaised_of_events {s s' t : State} {code : Half} (h : eventRaised s' t code)
    (he : s'.larder.events = s.larder.events) : eventRaised s t code := by
  unfold eventRaised at h ⊢
  rwa [he] at h

theorem faultFound_finds (s : State) : (faultFound s).spine.bypHold = (s.spine.bypHold && cellDrives s) ∧
    eventRaised s (faultFound s) 0x0105 := by
  have hhold : (faultFound s).spine.bypHold = (releaseByp s).spine.bypHold :=
    (congrArg (fun x => x.spine.bypHold) (switchFault_frame (releaseByp s) 1)).trans rfl
  exact ⟨hhold.trans (releaseByp_bypHold s),
    eventRaised_of_events (eventRaised_switchFault (releaseByp s) 1) (switchedAs_events (releaseByp_frame s))⟩

/-- s with a switch fault seen, the ports and the bypass those of t, and the retry and the failure as given. -/
def faultLeft (t s : State) (failed : Bool) (due : Option Nat) : State :=
  { s with
    spine := { s.spine with
      east := t.spine.east, west := t.spine.west, bypHold := t.spine.bypHold, senseDue := t.spine.senseDue
      switchFaultSeen := true, switchFaultsLogged := s.spine.switchFaultsLogged + 1, switchFailed := failed, retryDue := due } }

/-- BYP_HOLD high and a low sense: a switch fault. -/
theorem bypSenseSample_fault {s : State} {e w : Bool} (ht : portsTrain s = true) (hs : switchFitted s = true)
    (h : s.spine.bypHold = true) (hlow : (e && w) = false) :
    ∃ t, exec (.bypSenseSample e w) s = .next t ∧ t.spine.bypHold = cellDrives s ∧ t.spine.switchFaultSeen = true ∧
      eventRaised s t 0x0105 ∧ t.spine.switchFaultsLogged = s.spine.switchFaultsLogged + 1 ∧
      (s.spine.switchRetries < 3 → t.spine.retryDue = some (t.now + 1000000000) ∧
        t.spine.switchFailed = s.spine.switchFailed) ∧
      (3 ≤ s.spine.switchRetries → t.spine.switchFailed = true ∧ t.spine.retryDue = s.spine.retryDue) ∧
      t = clockedAs t (reportedAs t (queuedAs t { s with
        spine := { s.spine with
          east := t.spine.east, west := t.spine.west, bypHold := t.spine.bypHold, senseDue := t.spine.senseDue
          switchFaultSeen := true, switchFaultsLogged := s.spine.switchFaultsLogged + 1
          switchFailed := t.spine.switchFailed, retryDue := t.spine.retryDue } })) := by
  obtain ⟨r, hclocked, _, hsampled⟩ := sampled_clocked s
  have hexec := exec_bypSenseSample e w ht hs
  have hhold : (sampleDue r).spine.bypHold = true := ((congrArg (fun x => x.spine.bypHold) hclocked).trans rfl).trans h
  have hcell : cellDrives (sampleDue r) = cellDrives s := (congrArg (fun x => cellDrives (sampleDue x)) hclocked).trans rfl
  have hlarder : (sampleDue r).larder = s.larder := (congrArg State.larder hclocked).trans rfl
  obtain ⟨hheld, hraised⟩ := faultFound_finds (sampleDue r)
  have hframe := faultFound_frame (sampleDue r)
  rw [hsampled, judgeSense_of_fault hhold hlow] at hexec
  rw [hhold, Bool.true_and, hcell] at hheld
  have hraised := eventRaised_of_larder hraised hlarder
  change exec (.bypSenseSample e w) s = .next (retrySet (faultFound (sampleDue r))) at hexec
  generalize faultFound (sampleDue r) = f at hexec hheld hraised hframe
  have hr : r = clockedAs f s := clockedAs_of_kept hclocked ((congrArg State.now hframe).trans rfl)
    ((congrArg State.mantel hframe).trans rfl) ((congrArg (fun x => x.cellar.rtc) hframe).trans rfl)
    ((congrArg (fun x => x.cellar.rtcPart) hframe).trans rfl)
  rw [hr] at hframe
  have hretries : f.spine.switchRetries = s.spine.switchRetries := (congrArg (fun x => x.spine.switchRetries) hframe).trans rfl
  have hseen : f.spine.switchFaultSeen = true := (congrArg (fun x => x.spine.switchFaultSeen) hframe).trans rfl
  have hlogged : f.spine.switchFaultsLogged = s.spine.switchFaultsLogged + 1 :=
    (congrArg (fun x => x.spine.switchFaultsLogged) hframe).trans rfl
  have hfailed : f.spine.switchFailed = s.spine.switchFailed := (congrArg (fun x => x.spine.switchFailed) hframe).trans rfl
  have hdue : f.spine.retryDue = s.spine.retryDue := (congrArg (fun x => x.spine.retryDue) hframe).trans rfl
  refine ⟨_, hexec, ?_⟩
  by_cases hfew : s.spine.switchRetries < 3
  · rw [retrySet, if_pos (by rw [hretries]; exact hfew)]
    refine ⟨hheld, hseen, hraised, hlogged, fun _ => ⟨rfl, hfailed⟩, fun hmany => absurd hfew (Nat.not_lt.mpr hmany), ?_⟩
    generalize f.now + 1000000000 = due
    show _ = clockedAs f (reportedAs f (queuedAs f (faultLeft f s f.spine.switchFailed (some due))))
    rw [hfailed]
    exact (congrArg (fun x : State => { x with spine := { x.spine with retryDue := some due } }) hframe).trans rfl
  · rw [retrySet, if_neg (by rw [hretries]; exact hfew)]
    refine ⟨hheld, hseen, hraised, hlogged, fun h => absurd h hfew, fun _ => ⟨rfl, hdue⟩, ?_⟩
    show _ = clockedAs f (reportedAs f (queuedAs f (faultLeft f s true f.spine.retryDue)))
    rw [hdue]
    exact (congrArg (fun x : State => { x with spine := { x.spine with switchFailed := true } }) hframe).trans rfl

/-- s with a switch stuck, its next sample due and its faults as given. -/
def stuckLeft (s : State) (due : Nat) (stuck seen : Bool) (logged : Nat) : State :=
  { s with
    spine := { s.spine with senseDue := due, stuck := stuck, switchFaultSeen := seen, switchFaultsLogged := logged } }

/-- BYP_HOLD low and a high sense: a switch stuck inserted. -/
theorem bypSenseSample_stuck {s : State} {e w : Bool} (ht : portsTrain s = true) (hs : switchFitted s = true)
    (h : s.spine.bypHold = false) (hhigh : (e || w) = true) :
    ∃ t, exec (.bypSenseSample e w) s = .next t ∧ t.spine.stuck = true ∧
      t = clockedAs t (reportedAs t { s with
        spine := { s.spine with
          senseDue := t.now + 1000000000, stuck := true, switchFaultSeen := t.spine.switchFaultSeen
          switchFaultsLogged := t.spine.switchFaultsLogged } }) := by
  obtain ⟨r, hclocked, _, hsampled⟩ := sampled_clocked s
  have hexec := exec_bypSenseSample e w ht hs
  have hhold : (sampleDue r).spine.bypHold = false := ((congrArg (fun x => x.spine.bypHold) hclocked).trans rfl).trans h
  rw [hsampled, judgeSense_of_stuck hhold hhigh] at hexec
  have hkept : (sampleDue r).spine.stuck = s.spine.stuck := (congrArg (fun x => x.spine.stuck) hclocked).trans rfl
  refine ⟨_, hexec, ?_⟩
  by_cases hstuck : s.spine.stuck = true
  · rw [if_pos (hkept.trans hstuck)]
    refine ⟨hkept.trans hstuck, ?_⟩
    obtain ⟨v, hv⟩ : ∃ v, r = clockedAs v s := ⟨r, hclocked⟩
    have hsame : sampleDue r = clockedAs v (stuckLeft s (v.now + 1000000000) s.spine.stuck s.spine.switchFaultSeen
        s.spine.switchFaultsLogged) := by
      rw [hv]
      rfl
    rw [hsame, hstuck]
    exact (congrArg (clockedAs v) (reportedAs_self (stuckLeft s (v.now + 1000000000) true _ _))).trans rfl
  · have hframe := switchFault_frame (sampleDue r) 2
    rw [if_neg (by rw [hkept]; exact hstuck)]
    refine ⟨rfl, ?_⟩
    generalize switchFault (sampleDue r) 2 = f at hframe ⊢
    have hr : r = clockedAs f s := clockedAs_of_kept hclocked ((congrArg State.now hframe).trans rfl)
      ((congrArg State.mantel hframe).trans rfl) ((congrArg (fun x => x.cellar.rtc) hframe).trans rfl)
      ((congrArg (fun x => x.cellar.rtcPart) hframe).trans rfl)
    rw [hr] at hframe
    have hseen : f.spine.switchFaultSeen = true := (congrArg (fun x => x.spine.switchFaultSeen) hframe).trans rfl
    have hlogged : f.spine.switchFaultsLogged = s.spine.switchFaultsLogged + 1 :=
      (congrArg (fun x => x.spine.switchFaultsLogged) hframe).trans rfl
    show _ = clockedAs f (reportedAs f (stuckLeft s (f.now + 1000000000) true f.spine.switchFaultSeen f.spine.switchFaultsLogged))
    rw [hseen, hlogged]
    exact (congrArg (fun x : State => { x with spine := { x.spine with stuck := true } }) hframe).trans rfl

/-! ### The retry of an insertion (R72) -/

/-- s with an insertion retried. -/
def retried (s : State) : State :=
  { s with spine := { s.spine with retryDue := none, switchRetries := s.spine.switchRetries + 1 } }

theorem exec_bypassRetry_retries {s : State} {d : Nat} (h : s.spine.retryDue = some d) :
    ∃ t, exec .bypassRetry s = .next t ∧ t.spine.retryDue = none ∧ t.spine.switchRetries = s.spine.switchRetries + 1 ∧
      d ≤ t.now ∧ (s.power.uncoordinated = false → t.cellar.rtcAlarm = s.cellar.rtcAlarm) ∧
      t = clockedAs t (insertedAs t (retried s)) := by
  have hexec : exec .bypassRetry s = .next (tryInsert (retried (advanceTo s d))) := by
    have hrun : exec .bypassRetry s = execBypassRetry s := rfl
    rw [hrun, execBypassRetry, h]
    rfl
  have hclocked := advanceTo_frame s d
  have hreached := (advanceTo_reaches s d).1
  generalize advanceTo s d = r at hexec hclocked hreached
  have hframe := tryInsert_frame (retried r)
  have hpower : (retried r).power = s.power := (congrArg State.power hclocked).trans rfl
  have halarm : (retried r).cellar.rtcAlarm = s.cellar.rtcAlarm := (congrArg (fun x => x.cellar.rtcAlarm) hclocked).trans rfl
  have hcoordinated : s.power.uncoordinated = false → (tryInsert (retried r)).cellar.rtcAlarm = s.cellar.rtcAlarm :=
    fun hnone => (tryInsert_of_coordinated (s := retried r) (by rw [hpower]; exact hnone)).1.trans halarm
  generalize tryInsert (retried r) = t at hexec hframe hcoordinated
  have hr : r = clockedAs t s := clockedAs_of_kept hclocked ((congrArg State.now hframe).trans rfl)
    ((congrArg State.mantel hframe).trans rfl) ((congrArg (fun x => x.cellar.rtc) hframe).trans rfl)
    ((congrArg (fun x => x.cellar.rtcPart) hframe).trans rfl)
  have hnow : t.now = r.now := (congrArg State.now hframe).trans rfl
  rw [hr] at hframe
  refine ⟨t, hexec, (congrArg (fun x => x.spine.retryDue) hframe).trans rfl,
    (congrArg (fun x => x.spine.switchRetries) hframe).trans rfl, hnow ▸ hreached, hcoordinated, hframe.trans rfl⟩

/-! ### The loopback self-test (R73, R414, R417) -/

/-- s with the loopback delays of a self-test kept. -/
def loopbackKept (s : State) (east west : Nat) : State :=
  { keepLoopback s east west with spine := { s.spine with internalSelfTest := !switchFitted s } }

/-- s with a self-test passed. -/
def testPassed (s : State) : State :=
  { s with spine := { s.spine with
    selfTestPassed := true, selfTestFailed := false
    selfTestDue := if s.spine.leftAt.isSome then some (s.now + 10000000000) else none } }

/-- s with a self-test failed. -/
def testFailed (s : State) : State :=
  { s with
    spine := { s.spine with selfTestFailed := true, selfTestDue := some (s.now + 10000000000) }
    start := { s.start with
      selfTestFailures := s.start.selfTestFailures + bit (!s.spine.selfTestPassed)
      selfTestsSinceBoot := s.start.selfTestsSinceBoot + 1 } }

theorem exec_selfTest {s : State} (port lane : Byte) (crc east west : Nat) (ht : portsTrain s = true)
    (h : s.spine.bypHold = false) : ∃ word, exec (.selfTest port lane crc east west) s = .next
      (if selfTestOk crc east west then tryInsert (testPassed (loopbackKept s east west))
      else raiseUntold (testFailed (loopbackKept s east west)) 0x0D03 (port ++ lane) word) := by
  have hexec : exec (.selfTest port lane crc east west) s = execSelfTest port lane crc east west s := rfl
  have hten : 10 * second = 10000000000 := by norm_num [second]
  rw [hexec, execSelfTest, if_pos (by rw [ht, h]; rfl), hten]
  by_cases hok : selfTestOk crc east west = true
  · refine ⟨0, ?_⟩
    rw [if_pos hok, if_pos hok]
    rfl
  · rw [if_neg hok]
    exact ⟨_, congrArg Host.Outcome.next (if_neg hok).symm⟩

theorem selfTestOk_iff (crc east west : Nat) :
    selfTestOk crc east west = true ↔ crc = 0 ∧ east ≤ west + 2000 ∧ west ≤ east + 2000 := by
  rw [selfTestOk, Bool.and_eq_true, beq_iff_eq, decide_eq_true_iff]
  split <;> omega

/-- A passed self-test keeps the loopback delays and inserts. -/
theorem exec_selfTest_passes {s : State} {crc east west : Nat} (port lane : Byte) (ht : portsTrain s = true)
    (h : s.spine.bypHold = false) (hcrc : crc = 0) (heast : east ≤ west + 2000) (hwest : west ≤ east + 2000) :
    ∃ t, exec (.selfTest port lane crc east west) s = .next t ∧ t.spine.selfTestPassed = true ∧ t.spine.selfTestFailed = false ∧
      t.mantel.east.loopbackPs = east ∧ t.mantel.west.loopbackPs = west ∧
      (s.power.uncoordinated = false → t.cellar.rtcAlarm = s.cellar.rtcAlarm) ∧
      t = reportedAs t (queuedAs t { s with
        cellar := { s.cellar with rtcAlarm := t.cellar.rtcAlarm }
        mantel := { s.mantel with
          east := { s.mantel.east with loopbackPs := east }, west := { s.mantel.west with loopbackPs := west } }
        spine := { s.spine with
          east := t.spine.east, west := t.spine.west, bypHold := t.spine.bypHold, senseDue := t.spine.senseDue
          internalSelfTest := !switchFitted s, selfTestPassed := true, selfTestFailed := false
          selfTestDue := t.spine.selfTestDue }
        power := { s.power with uncoordinated := t.power.uncoordinated } }) := by
  obtain ⟨word, hexec⟩ := exec_selfTest port lane crc east west ht h
  rw [if_pos ((selfTestOk_iff crc east west).mpr ⟨hcrc, heast, hwest⟩)] at hexec
  obtain ⟨due, hdue⟩ : ∃ due, testPassed (loopbackKept s east west) = { loopbackKept s east west with
      spine := { (loopbackKept s east west).spine with
        selfTestPassed := true, selfTestFailed := false, selfTestDue := due } } := ⟨_, rfl⟩
  have hcoordinated := tryInsert_of_coordinated (s := testPassed (loopbackKept s east west))
  have hframe := tryInsert_frame (testPassed (loopbackKept s east west))
  generalize tryInsert (testPassed (loopbackKept s east west)) = t at hexec hframe hcoordinated
  rw [hdue] at hframe hcoordinated
  have hkept : t.spine.selfTestDue = due := (congrArg (fun x => x.spine.selfTestDue) hframe).trans rfl
  rw [← hkept] at hframe
  refine ⟨t, hexec, (congrArg (fun x => x.spine.selfTestPassed) hframe).trans rfl,
    (congrArg (fun x => x.spine.selfTestFailed) hframe).trans rfl, (congrArg (fun x => x.mantel.east.loopbackPs) hframe).trans rfl,
    (congrArg (fun x => x.mantel.west.loopbackPs) hframe).trans rfl, fun hnone => (hcoordinated hnone).1.trans rfl,
    hframe.trans rfl⟩

theorem raiseUntold_frame (s : State) (code arg0 : Half) (arg1 : Word) : ∃ e : EventRec, e.code = code ∧
    (raiseUntold s code arg0 arg1).spine.untold = s.spine.untold ++ [e] ∧
    raiseUntold s code arg0 arg1 = reportedAs (raiseUntold s code arg0 arg1)
      { s with spine := { s.spine with untold := s.spine.untold ++ [e] } } := by
  obtain ⟨e, hcode, hlogged⟩ : ∃ e : EventRec, e.code = code ∧ raiseUntold s code arg0 arg1 =
      { logEvent s e with spine := { (logEvent s e).spine with untold := (logEvent s e).spine.untold ++ [e] } } := ⟨_, rfl, rfl⟩
  have hframe := logEvent_frame s e
  rw [hlogged]
  generalize logEvent s e = u at hframe ⊢
  have huntold : u.spine.untold = s.spine.untold := (congrArg (fun x => x.spine.untold) hframe).trans rfl
  rw [huntold]
  exact ⟨e, hcode, rfl, (congrArg (fun x : State =>
    { x with spine := { x.spine with untold := s.spine.untold ++ [e] } }) hframe).trans rfl⟩

/-- A failed self-test leaves the node bridged, its record for the reports after the next JOIN. -/
theorem exec_selfTest_fails {s : State} {crc east west : Nat} (port lane : Byte) (ht : portsTrain s = true)
    (h : s.spine.bypHold = false) (hbad : crc ≠ 0 ∨ west + 2000 < east ∨ east + 2000 < west) :
    ∃ t, exec (.selfTest port lane crc east west) s = .next t ∧ t.spine.selfTestDue = some (s.now + 10000000000) ∧
      t.spine.selfTestFailed = true ∧ insertAllowed t = false ∧
      (∃ e : EventRec, t.spine.untold = s.spine.untold ++ [e] ∧ e.code = 0x0D03) ∧
      t.start.selfTestsSinceBoot = s.start.selfTestsSinceBoot + 1 ∧
      t = reportedAs t { s with
        mantel := { s.mantel with
          east := { s.mantel.east with loopbackPs := east }, west := { s.mantel.west with loopbackPs := west } }
        spine := { s.spine with
          internalSelfTest := !switchFitted s, selfTestFailed := true, selfTestDue := some (s.now + 10000000000)
          untold := t.spine.untold }
        start := { s.start with
          selfTestFailures := t.start.selfTestFailures, selfTestsSinceBoot := s.start.selfTestsSinceBoot + 1 } } := by
  obtain ⟨word, hexec⟩ := exec_selfTest port lane crc east west ht h
  have hfailed : ¬selfTestOk crc east west = true := by
    rw [selfTestOk_iff]
    omega
  rw [if_neg hfailed] at hexec
  obtain ⟨e, hcode, huntold, hframe⟩ := raiseUntold_frame (testFailed (loopbackKept s east west)) 0x0D03 (port ++ lane) word
  obtain ⟨due, hdue⟩ : ∃ due, due = some (s.now + 10000000000) := ⟨_, rfl⟩
  obtain ⟨failures, hleft⟩ : ∃ failures, testFailed (loopbackKept s east west) = { loopbackKept s east west with
      spine := { (loopbackKept s east west).spine with selfTestFailed := true, selfTestDue := due }
      start := { s.start with
        selfTestFailures := failures, selfTestsSinceBoot := s.start.selfTestsSinceBoot + 1 } } := by
    rw [hdue]
    exact ⟨_, rfl⟩
  generalize raiseUntold (testFailed (loopbackKept s east west)) 0x0D03 (port ++ lane) word = t at hexec huntold hframe
  rw [← huntold, hleft] at hframe
  have hkept : t.start.selfTestFailures = failures := (congrArg (fun x => x.start.selfTestFailures) hframe).trans rfl
  have hbridged : t.spine.selfTestFailed = true := (congrArg (fun x => x.spine.selfTestFailed) hframe).trans rfl
  rw [← hkept] at hframe
  rw [hleft] at huntold
  rw [← hdue]
  refine ⟨t, hexec, (congrArg (fun x => x.spine.selfTestDue) hframe).trans rfl, hbridged, ?_, ⟨e, huntold, hcode⟩,
    (congrArg (fun x => x.start.selfTestsSinceBoot) hframe).trans rfl, hframe.trans rfl⟩
  simp [insertAllowed, hbridged]

/-- s with its self-test to start again. -/
def testAgain (s : State) : State := { s with spine := { s.spine with selfTestDue := none } }

theorem exec_selfTestRetry {s : State} {d : Nat} (h : s.spine.selfTestDue = some d) :
    exec .selfTestRetry s = .next (testAgain (advanceTo s d)) := by
  have hexec : exec .selfTestRetry s = execSelfTestRetry s := rfl
  rw [hexec, execSelfTestRetry, h]
  rfl

/-- Settles O22: the bypass follows the conditions of R71, its senses are judged each second, and its self-test lets it insert. -/
theorem bypassSensesAndSelfTest : Obligations.BypassSensesAndSelfTest := by
  unfold Obligations.BypassSensesAndSelfTest
  refine ⟨⟨fun s h hr => ?_, fun s h => exec_bypassRelease_of_cell h,
      fun s hhigh h hcell => exec_bypassRelease_releases hhigh h hcell, fun s h => exec_ringPllLoss_closes h⟩,
    fun s => ⟨fun ht hs => ⟨bypSenseSample_inserted ht hs, fun e w => bypSenseSample_fault ht hs,
      fun e w => bypSenseSample_stuck ht hs, bypSenseSample_low ht hs⟩, fun d h => exec_bypassRetry_retries h⟩,
    fun s port lane crc east west ht h => ⟨exec_selfTest_passes port lane ht h, exec_selfTest_fails port lane ht h⟩,
    fun s d h => ?_⟩
  · obtain ⟨t, hexec, hhold, hdown, howed, hnone, hframe⟩ := exec_bypassInsert_inserts h hr
    refine ⟨t, hexec, hhold, hdown, howed, hnone, ?_⟩
    rw [← hhold]
    exact hframe
  · have hexec := exec_selfTestRetry h
    have hclocked := advanceTo_frame s d
    have hreached := (advanceTo_reaches s d).1
    generalize advanceTo s d = r at hexec hclocked hreached
    exact ⟨_, hexec, hreached, (congrArg testAgain hclocked).trans rfl⟩

end Sys2Proof.Machine

/-! ## A wake from S2 with a row left on light (O53) -/

namespace Sys2Proof.Machine
open Sys2Proof

/-! ### The wear that a row cut off leaves in the Archive -/

theorem scanRows_pos (s : State) : 0 < scanRows s := by
  have hall : ∀ x ∈ scanTable, 0 < x := by decide
  unfold scanRows
  rw [List.getD_eq_getElem?_getD]
  cases h : scanTable[strap s 1]? with
  | none => exact Nat.one_pos
  | some x => exact hall x (List.mem_of_getElem? h)

theorem emitterCount_pos (s : State) : 0 < emitterCount s :=
  Nat.mul_pos (by unfold rowWidth columns; split <;> decide) (scanRows_pos s)

theorem filled_ne_nil {l : List Nat} {n : Nat} (hn : 0 < n) : filled l n ≠ [] := by
  cases l with
  | nil => simpa [filled] using hn.ne'
  | cons x l => simp [filled]

theorem putRow_ne_nil {α : Type} {all : List α} (hall : all ≠ []) (row : List α) (at' : Nat) :
    putRow all row at' ≠ [] := by
  cases row with
  | nil => simpa [putRow] using hall
  | cons x row => simp [putRow]

/-- Cutting a row that is on light writes its wear, and so leaves a wear table of some length (R382). -/
theorem cutWear_wear_ne_nil {s : State} {j : Nat} (hrow : s.press.rowOn = some j) (cut : Nat → Bool) :
    (cutWear s cut).arch.wear ≠ [] := by
  unfold cutWear
  rw [hrow]
  exact putRow_ne_nil (filled_ne_nil (emitterCount_pos s)) _ _

theorem cutWear_keeps_wear {s : State} (hwear : s.arch.wear ≠ []) (cut : Nat → Bool) :
    (cutWear s cut).arch.wear ≠ [] := by
  cases hrow : s.press.rowOn with
  | none => simpa [cutWear, hrow] using hwear
  | some j => exact cutWear_wear_ne_nil hrow cut

/-- What `cutOutputs` does to the wear is one `cutWear`. -/
theorem cutOutputs_arch (s : State) (d : Darkens) : ∃ cut, (cutOutputs s d).arch = (cutWear s cut).arch := by
  have hrow : (rowCutOff s).arch = (cutWear s fun _ => true).arch := rfl
  simp only [cutOutputs]
  split
  · split
    · exact ⟨_, hrow⟩
    · exact ⟨_, rfl⟩
  · rw [if_neg Bool.false_ne_true]
    exact ⟨_, rfl⟩

/-! ### A shutdown input that takes effect -/

theorem queueAlarm_arch_wear (s : State) (cause input : Nat) : (queueAlarm s cause input).arch.wear = s.arch.wear := by
  have h := congrArg (fun x : State => x.arch.wear) (queueAlarm_frame s cause input)
  exact h.trans rfl

/-- The wear after a shutdown input has taken effect is that of the outputs it cut. -/
theorem tripEffect_arch_wear {s : State} {i : Nat} {x : TripInput} (hx : s.prot.inputs[i]? = some x)
    (hforce : x.inForce = false) :
    ∃ prot cut, (tripEffect s i).arch.wear = (cutWear { s with prot := prot } cut).arch.wear := by
  unfold tripEffect
  rw [hx]
  simp only [hforce, Bool.false_eq_true, if_false]
  split
  · obtain ⟨cut, hcut⟩ := cutOutputs_arch { s with prot := _ } _
    exact ⟨_, cut, congrArg Archive.wear hcut⟩
  · rw [queueAlarm_arch_wear, raise_arch_wear]
    obtain ⟨cut, hcut⟩ := cutOutputs_arch { s with prot := _ } _
    exact ⟨_, cut, congrArg Archive.wear hcut⟩

theorem tripEffect_keeps_wear {s : State} (hwear : s.arch.wear ≠ []) (i : Nat) : (tripEffect s i).arch.wear ≠ [] := by
  cases hx : s.prot.inputs[i]? with
  | none => simpa [tripEffect, hx] using hwear
  | some x =>
    cases hforce : x.inForce with
    | true => simpa [tripEffect, hx, hforce] using hwear
    | false =>
      obtain ⟨prot, cut, heq⟩ := tripEffect_arch_wear hx hforce
      exact heq ▸ cutWear_keeps_wear (s := { s with prot := prot }) hwear cut

theorem tripEffect_wear_ne_nil {s : State} {i j : Nat} {x : TripInput} (hrow : s.press.rowOn = some j)
    (hx : s.prot.inputs[i]? = some x) (hforce : x.inForce = false) : (tripEffect s i).arch.wear ≠ [] := by
  obtain ⟨prot, cut, heq⟩ := tripEffect_arch_wear hx hforce
  exact heq ▸ cutWear_wear_ne_nil (s := { s with prot := prot }) hrow cut

/-! ### The state before the pins are judged -/

/-- A row is on light, and a shutdown input that is always present is asserted and not yet in force. -/
structure TripDue (s : State) : Prop where
  row : s.press.rowOn = some 0
  input : s.prot.inputs = [{ TripInput.clear with asserted := true }]

theorem TripDue.congr {s t : State} (h : TripDue s) (hrow : t.press.rowOn = s.press.rowOn)
    (hinput : t.prot.inputs = s.prot.inputs) : TripDue t := ⟨hrow.trans h.row, hinput.trans h.input⟩

theorem closeRest_press (s : State) : (closeRest s).press = s.press := by
  unfold closeRest
  split <;> rfl

theorem closeRest_prot (s : State) : (closeRest s).prot = s.prot := by
  unfold closeRest
  split <;> rfl

theorem TripDue.closeRest_wakeDone {s : State} (h : TripDue s) (d : Rest) : TripDue (closeRest (wakeDone s d)) :=
  h.congr (congrArg Press.rowOn (closeRest_press _)) (congrArg Protect.inputs (closeRest_prot _))

theorem TripDue.driveOn {s : State} (h : TripDue s) : TripDue (driveOn s) := h.congr rfl rfl

theorem TripDue.driveOn_if_auxIn {s : State} (h : TripDue s) : TripDue (if auxIn s then Machine.driveOn s else s) := by
  split
  · exact h.driveOn
  · exact h

theorem TripDue.armWatchdog {s : State} (h : TripDue s) : TripDue (armWatchdog s) := h.congr rfl rfl

theorem setLock_press (s : State) (l : Lock) (o : Int) : (setLock s l o).press = s.press := by
  unfold setLock
  split
  · rfl
  · exact raise_press _ _ _ _

theorem setLock_prot (s : State) (l : Lock) (o : Int) : (setLock s l o).prot = s.prot := by
  unfold setLock
  split
  · rfl
  · exact raise_prot _ _ _ _

theorem TripDue.wakeMantel {s : State} (h : TripDue s) : TripDue (wakeMantel s) := by
  unfold Machine.wakeMantel
  dsimp only
  split
  · exact h.congr rfl rfl
  · exact h.congr (congrArg Press.rowOn (setLock_press _ _ _)) (congrArg Protect.inputs (setLock_prot _ _ _))

theorem TripDue.wakePress {s : State} (h : TripDue s) : TripDue (wakePress s) := h.congr rfl rfl

/-! ### The pins judged, and what comes after them -/

theorem inputPresent_zero (s : State) : inputPresent s 0 = true := rfl

/-- The pins judged at the wake cut the row, and so write the wear of the Archive. -/
theorem TripDue.judgePins_wear {s : State} (h : TripDue s) (latchedKept : Bool) :
    (judgePins s latchedKept).arch.wear ≠ [] := by
  unfold judgePins
  dsimp only
  rw [h.input, show List.range 10 = 0 :: [1, 2, 3, 4, 5, 6, 7, 8, 9] from rfl, List.foldl_cons]
  refine List.foldlRecOn (motive := fun t : State => t.arch.wear ≠ []) _ _ ?_ fun t hwear i _ => ?_
  · simp only [List.mapIdx_cons, List.getElem?_cons_zero, inputPresent_zero, TripInput.clear, Bool.and_true, if_true]
    exact tripEffect_wear_ne_nil h.row (List.getElem?_cons_zero ..) (Bool.and_false _)
  · split
    · split
      · exact tripEffect_keeps_wear hwear i
      · exact hwear
    · exact hwear

theorem porterStart_arch (s : State) : (porterStart s).arch = s.arch := by
  unfold porterStart
  split <;> rfl

theorem reportHeld_arch_wear (s : State) : (reportHeld s).arch.wear = s.arch.wear :=
  (congrArg (fun x : State => x.arch.wear) (reportHeld_frame s)).trans rfl

theorem auditWrite_arch_wear (s : State) (chan cmd : Half) (seq : Word) (role : BitVec 2)
    (outcome result : BitVec 4) (rebuilt : Bool) :
    (auditWrite s chan cmd seq role outcome result rebuilt).arch.wear = s.arch.wear := by
  simp only [auditWrite, auditAt]

theorem writeLost_arch_wear (rebuilt : Bool) (s : State) : (writeLost rebuilt s).arch.wear = s.arch.wear := by
  unfold writeLost
  refine List.foldlRecOn (motive := fun t : State => t.arch.wear = s.arch.wear) _ _ rfl fun t h r _ => ?_
  exact (auditWrite_arch_wear t _ _ _ _ _ _ _).trans h

theorem catchUpAudit_arch_wear (s : State) : (catchUpAudit s).arch.wear = s.arch.wear := by
  unfold catchUpAudit
  split
  · exact writeLost_arch_wear _ _
  · rfl

theorem reportWake_arch_wear (s : State) (old : Rest) (cause : Nat) :
    (reportWake s old cause).arch.wear = s.arch.wear := by
  unfold reportWake
  dsimp only
  rw [countPower_arch, raise_arch_wear]

/-! ### The counterexample -/

/-- S2 with row 0 left on light and a wake that has been caused; no wear is counted yet. -/
def rowLeftOn : State := { State.reset with
  power := { State.reset.power with st := .s2, waking := some 4 }
  press := { State.reset.press with rowOn := some 0 }
  prot := { State.reset.prot with inputs := [{ TripInput.clear with asserted := true }] } }

theorem rowLeftOn_tripDue : TripDue rowLeftOn := ⟨rfl, rfl⟩


/-- The node awake again from S2, before its parts are started. -/
def restEnded (s : State) : State :=
  { closeRest (wakeDone s .s2) with
    power := { (closeRest (wakeDone s .s2)).power with
      st := .s0, waking := none, entering := none, entryBegun := false } }

/-- A wake from S2, the pins judged in it. -/
def judgedAtWake (s : State) : State :=
  judgePins (wakePress (wakeMantel (armWatchdog (if auxIn s then driveOn s else s)))) true

theorem execWakeReady_of_s2 {s : State} {cause : Nat} (hst : s.power.st = .s2) (hcause : s.power.waking = some cause)
    (hbegun : s.power.entryBegun = false) : execWakeReady s =
      .next (reportWake (catchUpAudit (reportHeld (porterStart (judgedAtWake (restEnded s))))) .s2 cause) := by
  simp only [execWakeReady, hcause, hst, hbegun, Bool.false_eq_true, if_false]
  rfl

theorem TripDue.judgedAtWake_wear {s : State} (h : TripDue s) : (judgedAtWake s).arch.wear ≠ [] := by
  unfold judgedAtWake
  exact h.driveOn_if_auxIn.armWatchdog.wakeMantel.wakePress.judgePins_wear true

theorem wakeReady_rowLeftOn_wear {t : State} (h : exec .wakeReady rowLeftOn = .next t) : t.arch.wear ≠ [] := by
  have hdue : TripDue (restEnded rowLeftOn) := (rowLeftOn_tripDue.closeRest_wakeDone .s2).congr rfl rfl
  have hexec : exec .wakeReady rowLeftOn = execWakeReady rowLeftOn := rfl
  rw [hexec, execWakeReady_of_s2 (cause := 4) rfl rfl rfl] at h
  obtain rfl := Host.Outcome.next.inj h
  rw [reportWake_arch_wear, catchUpAudit_arch_wear, reportHeld_arch_wear, porterStart_arch]
  exact hdue.judgedAtWake_wear

/-- Refutes O53: at a wake from S2 with a row left on light (`rowLeftOn`), a shutdown input found asserted cuts the row
and so writes the wear of the Archive, which the statement says stays as it was. -/
theorem not_restStatesAndWakes : ¬ Obligations.RestStatesAndWakes := by
  unfold Obligations.RestStatesAndWakes
  rintro ⟨-, -, hwake, -⟩
  obtain ⟨t, hexec, -, -, -, -, -, -, -, -, -, -, hs2, -⟩ := hwake rowLeftOn 4 rfl rfl
  obtain ⟨-, -, -, -, -, -, -, -, -, hframe⟩ := hs2 rfl
  have hsame : t.arch.wear = rowLeftOn.arch.wear := (congrArg (fun x : State => x.arch.wear) hframe).trans rfl
  exact wakeReady_rowLeftOn_wear hexec (hsame.trans rfl)

end Sys2Proof.Machine

/-! ## The watchdog and the RTC alarm

The settlement of O13. The layers: the warning; the expiry, whose forcing, bypass edge and GSP the reset behind them forgets; the
end of the hold; the wake from S4. What a command does at its instant is told of the state r that the clocks have brought there. -/

namespace Sys2Proof.Machine

open Sys2Proof

/-! ### The kick and the warning (R373) -/

theorem exec_watchdogKick {s : State} (harmed : s.cellar.watchdogArmed = true) (hcore : coreOn s = true) :
    exec .watchdogKick s = .next { s with cellar := { s.cellar with lastKick := s.now, warned := false } } := by
  have hexec : exec .watchdogKick s = execWatchdogKick s := rfl
  simp [hexec, execWatchdogKick, harmed, hcore]

/-- r with the warning marked and counted, before its EVENT. -/
def warningCounted (r : State) : State := countCellar { r with cellar := { r.cellar with warned := true } } 2

theorem warningCounted_keeps (r : State) : (warningCounted r).now = r.now ∧ (warningCounted r).larder = r.larder := ⟨rfl, rfl⟩

theorem exec_watchdogWarning {s : State} (harmed : s.cellar.watchdogArmed = true) (hcore : coreOn s = true)
    (hwarned : s.cellar.warned = false) : ∃ ms, exec .watchdogWarning s =
      .next (raise (warningCounted (advanceTo s (s.cellar.lastKick + 12 * msNs))) 0x0B09 0 ms) := by
  have hexec : exec .watchdogWarning s = execWatchdogWarning s := rfl
  rw [hexec, execWatchdogWarning, if_pos (by simp [harmed, hcore, hwarned])]
  exact ⟨_, rfl⟩

/-- An EVENT behind a run of the clocks leaves both to be told of what stood before. -/
theorem clocked_then_reported {s t u : State} (hst : t = clockedAs t s) (htu : u = reportedAs u t) :
    u = clockedAs u (reportedAs u s) := by
  obtain ⟨v, rfl⟩ : ∃ v, t = clockedAs v s := ⟨t, hst⟩
  obtain ⟨w, hw⟩ : ∃ w, u = reportedAs w (clockedAs v s) := ⟨u, htu⟩
  rw [hw]
  cases h : s.cellar.failAt <;> simp [reportedAs, clockedAs, h]

theorem warningCounted_advanceTo (s : State) (n : Nat) : warningCounted (advanceTo s n) =
    clockedAs (warningCounted (advanceTo s n)) { s with
      cellar := { s.cellar with warned := true, counts := s.cellar.counts.modify 2 (· + 1) } } := by
  obtain ⟨v, hv⟩ : ∃ v, advanceTo s n = clockedAs v s := ⟨_, advanceTo_frame s n⟩
  rw [hv]
  rfl

theorem warning_reaches (s : State) : s.cellar.lastKick + 12000000 ≤ (advanceTo s (s.cellar.lastKick + 12 * msNs)).now := by
  refine le_trans ?_ (advanceTo_reaches s (s.cellar.lastKick + 12 * msNs)).1
  norm_num [msNs]

theorem watchdogWarning_holds {s : State} (harmed : s.cellar.watchdogArmed = true) (hcore : coreOn s = true)
    (hwarned : s.cellar.warned = false) :
    ∃ t, exec .watchdogWarning s = .next t ∧ s.cellar.lastKick + 12000000 ≤ t.now ∧ eventRaised s t 0x0B09 ∧
      t = clockedAs t (reportedAs t { s with
        cellar := { s.cellar with warned := true, counts := s.cellar.counts.modify 2 (· + 1) } }) := by
  obtain ⟨ms, hexec⟩ := exec_watchdogWarning harmed hcore hwarned
  obtain ⟨hnow, hlarder⟩ := warningCounted_keeps (advanceTo s (s.cellar.lastKick + 12 * msNs))
  refine ⟨_, hexec, ?_, eventRaised_of_larder (eventRaised_raise _ _ _ _) (hlarder.trans (advanceTo_larder s _)),
    clocked_then_reported (warningCounted_advanceTo s _) (raise_frame _ _ _ _)⟩
  rw [raise_now, hnow]
  exact warning_reaches s

/-! ### The expiry (R113, R373, R374, R411) -/

/-- r with its expiry counted and the cause in CELL. -/
def expiryCounted (r : State) : State := countCellar (withCause r .watchdog) 3

/-- r dark for the watchdog, with the bypass released: as GSP finds it. -/
def expiryReleased (r : State) : State := setByp (forceDark (expiryCounted r) 2) false

/-- r after the GSP of the expiry, which a node with a ring or an upstream hop sends. -/
def expiryTold (r : State) : State :=
  if ringMode (expiryReleased r) || mode (expiryReleased r) == .leaf then sendGsp (expiryReleased r) 4 else expiryReleased r

/-- s with its instant S dated now. -/
def datedNow (s : State) : State := { s with start := { s.start with s := s.now } }

/-- r held in reset by the watchdog, its hold dated. -/
def watchdogHeld (r : State) : State := datedNow (resetBlock (expiryTold r) .watchdog .cellarHold)

theorem exec_watchdogExpiry {s : State} (harmed : s.cellar.watchdogArmed = true) (hcore : coreOn s = true)
    (hf : s.cellar.failAt = none) :
    exec .watchdogExpiry s = .next (watchdogHeld (advanceTo s (s.cellar.lastKick + 16 * msNs))) := by
  have hexec : exec .watchdogExpiry s = execWatchdogExpiry s := rfl
  rw [hexec, execWatchdogExpiry, if_pos (by simp [harmed, hcore, hf])]
  rfl

theorem expiryReleased_frame (r : State) : expiryReleased r = switchedAs (expiryReleased r) (forceDark (expiryCounted r) 2) :=
  setByp_frame _ false

theorem expiryTold_frame (r : State) : expiryTold r = gspSentAs (expiryTold r) (expiryReleased r) := by
  unfold expiryTold
  split
  · exact sendGsp_frame _ _
  · rfl

/-- s with the Cellar's counts of t. -/
def cellarCountedAs (t s : State) : State := { s with cellar := { s.cellar with counts := t.cellar.counts } }

/-- But for the counts, the edge of BYP_HOLD and GSP touch only what the ordered stop touches. -/
theorem expiryTold_stopped (r : State) :
    expiryTold r = stoppedAs (expiryTold r) (cellarCountedAs (expiryTold r) (forceDark (expiryCounted r) 2)) := by
  obtain ⟨v, hsent⟩ : ∃ v, expiryTold r = gspSentAs v (expiryReleased r) := ⟨_, expiryTold_frame r⟩
  obtain ⟨w, hswitched⟩ : ∃ w, expiryReleased r = switchedAs w (forceDark (expiryCounted r) 2) := ⟨_, expiryReleased_frame r⟩
  rw [hsent, hswitched]
  rfl

theorem expiryTold_journal (r : State) : (expiryTold r).hall =
    { (forceDark (expiryCounted r) 2).hall with lastQueued := (expiryTold r).hall.lastQueued } := by
  have hsent : (expiryTold r).hall = (expiryReleased r).hall := (congrArg State.hall (expiryTold_frame r)).trans rfl
  rw [hsent]
  exact (congrArg State.hall (expiryReleased_frame r)).trans rfl

theorem noDefect_expiryTold {r : State} (h : NoDefect (forceDark (expiryCounted r) 2)) : NoDefect (expiryTold r) :=
  noDefect_of_larder (noDefect_setByp false h) ((congrArg State.larder (expiryTold_frame r)).trans rfl)

/-- What a reset leaves, a forcing of the watchdog does not touch. -/
theorem leftByReset_of_darkened {s t v : State} {cause : ResetCause} (h : LeftByReset (darkenedAs v s 2) t cause) :
    LeftByReset s t cause := h

theorem leftByReset_of_cellarCounted {s t v : State} {cause : ResetCause} (h : LeftByReset (cellarCountedAs v s) t cause) :
    LeftByReset s t cause := h

/-- The reset forgets the forcing, the counts and the alarm of the expiry. -/
theorem leftByReset_expiryTold (r : State) : LeftByReset r (resetBlock (expiryTold r) .watchdog .cellarHold) .watchdog := by
  have hleft : LeftByReset (cellarCountedAs (expiryTold r) (forceDark (expiryCounted r) 2))
      (resetBlock (expiryTold r) .watchdog .cellarHold) .watchdog := by
    refine leftByReset_resetBlock _ _ (expiryTold_stopped r) ?_ noDefect_expiryTold fun _ => ?_
    all_goals
      rw [expiryTold_journal]
      rfl
  have hdark := leftByReset_of_cellarCounted hleft
  rw [forceDark_frame] at hdark
  have hcounted : LeftByReset (cellarCountedAs (expiryCounted r) (withCause r .watchdog)) _ _ := leftByReset_of_darkened hdark
  exact leftByReset_of_withCause (leftByReset_of_cellarCounted hcounted)

/-- The forcing and the edge of BYP_HOLD leave the clocks and all that GSP tells, but for the report sequence, which LINK takes. -/
theorem expiryReleased_keeps (r : State) : (expiryReleased r).now = r.now ∧ (expiryReleased r).straps = r.straps ∧
    (expiryReleased r).wire = r.wire ∧ (expiryReleased r).addr.addr = r.addr.addr ∧
    gspPayload (expiryReleased r) = gspPayload r := by
  obtain ⟨w, hswitched⟩ : ∃ w, expiryReleased r = switchedAs w (forceDark (expiryCounted r) 2) := ⟨_, expiryReleased_frame r⟩
  obtain ⟨v, hdark⟩ : ∃ v, forceDark (expiryCounted r) 2 = darkenedAs v (expiryCounted r) 2 := ⟨_, forceDark_frame _ 2⟩
  rw [hswitched, hdark]
  exact ⟨rfl, rfl, rfl, rfl, rfl⟩

theorem expiryReleased_reportSeq {r : State} (h : r.spine.bypHold = false) :
    (expiryReleased r).addr.reportSeq = r.addr.reportSeq := by
  have hheld : (forceDark (expiryCounted r) 2).spine.bypHold = false :=
    (congrArg Spine.bypHold (forceDark_spine (expiryCounted r) 2)).trans h
  have haddr : (forceDark (expiryCounted r) 2).addr = r.addr := forceDark_addr _ 2
  rw [expiryReleased, setByp, if_pos (beq_iff_eq.mpr hheld), haddr]

theorem expiryTold_wire {r : State} (h : ringMode r = true) : (expiryTold r).wire =
    .folio .west (mkFolio 6 0 r.addr.addr.toNat 4 (expiryReleased r).addr.reportSeq 0 (gspPayload r)) ::
      .folio .east (mkFolio 6 0 r.addr.addr.toNat 4 (expiryReleased r).addr.reportSeq 0 (gspPayload r)) :: r.wire := by
  obtain ⟨_, hstraps, hwire, haddr, hgsp⟩ := expiryReleased_keeps r
  have hring : ringMode (expiryReleased r) = true := by simpa [ringMode, mode, strap, hstraps] using h
  rw [expiryTold, hring, Bool.true_or, if_pos rfl, sendGsp_of_ring 4 hring, haddr, hwire, hgsp]

theorem watchdogHeld_keeps (r : State) : (watchdogHeld r).start.phase = .cellarHold ∧
    (watchdogHeld r).start.s = (watchdogHeld r).now ∧ (watchdogHeld r).straps = r.straps ∧
    (watchdogHeld r).now = r.now ∧ (watchdogHeld r).wire = (expiryTold r).wire := by
  obtain ⟨hnow, hphase, _, hstraps, hwire, _⟩ := resetBlock_keeps (expiryTold r) .watchdog .cellarHold
  obtain ⟨hnow', hstraps', _⟩ := expiryReleased_keeps r
  have htold := expiryTold_frame r
  have hnowTold : (expiryTold r).now = (expiryReleased r).now := (congrArg State.now htold).trans rfl
  have hstrapsTold : (expiryTold r).straps = (expiryReleased r).straps := (congrArg State.straps htold).trans rfl
  exact ⟨hphase, rfl, hstraps.trans (hstrapsTold.trans hstraps'), hnow.trans (hnowTold.trans hnow'), hwire⟩

theorem leftByReset_watchdogHeld (r : State) : LeftByReset r (watchdogHeld r) .watchdog := by
  obtain ⟨hframe, hrest⟩ := leftByReset_expiryTold r
  exact ⟨congrArg datedNow hframe, hrest⟩

theorem expiry_reaches (s : State) : s.cellar.lastKick + 16000000 ≤ (advanceTo s (s.cellar.lastKick + 16 * msNs)).now := by
  refine le_trans ?_ (advanceTo_reaches s (s.cellar.lastKick + 16 * msNs)).1
  norm_num [msNs]

theorem expiryTold_wire_advanceTo {s : State} (n : Nat) (hring : ringMode s = true) :
    ∃ q, (s.spine.bypHold = false → q = s.addr.reportSeq) ∧ (expiryTold (advanceTo s n)).wire =
      .folio .west (mkFolio 6 0 s.addr.addr.toNat 4 q 0 (gspPayload s)) ::
        .folio .east (mkFolio 6 0 s.addr.addr.toNat 4 q 0 (gspPayload s)) :: s.wire :=
  ⟨_, fun hbyp => expiryReleased_reportSeq (r := advanceTo s n) hbyp, expiryTold_wire (r := advanceTo s n) hring⟩

theorem watchdogExpiry_holds {s : State} (harmed : s.cellar.watchdogArmed = true) (hcore : coreOn s = true)
    (hf : s.cellar.failAt = none) :
    ∃ t, exec .watchdogExpiry s = .next t ∧ LeftByReset s t .watchdog ∧ t.start.phase = .cellarHold ∧ t.start.s = t.now ∧
      t.straps = s.straps ∧ s.cellar.lastKick + 16000000 ≤ t.now ∧
      (mode s = .native ∨ mode s = .head →
        ∃ q, (s.spine.bypHold = false → q = s.addr.reportSeq) ∧
          t.wire = .folio .west (mkFolio 6 0 s.addr.addr.toNat 4 q 0 (gspPayload s)) ::
            .folio .east (mkFolio 6 0 s.addr.addr.toNat 4 q 0 (gspPayload s)) :: s.wire) := by
  refine ⟨_, exec_watchdogExpiry harmed hcore hf, leftByReset_of_advanceTo (leftByReset_watchdogHeld _), ?_⟩
  obtain ⟨hphase, hs, hstraps, hnow, hwire⟩ := watchdogHeld_keeps (advanceTo s (s.cellar.lastKick + 16 * msNs))
  rw [hwire, hnow]
  exact ⟨hphase, hs.trans hnow, hstraps.trans (advanceTo_straps s _), expiry_reaches s,
    fun hmode => expiryTold_wire_advanceTo _ (by simpa [ringMode] using hmode)⟩

/-! ### The end of the hold (R394, R411, R414) -/

theorem exec_cellarResetHoldEnd {s : State} (h : s.start.phase = .cellarHold) :
    exec .cellarResetHoldEnd s = .next (startFrom (advanceTo s (s.start.s + msNs)) .watchdog) := by
  have hexec : exec .cellarResetHoldEnd s = execCellarResetHoldEnd s := rfl
  simp [hexec, execCellarResetHoldEnd, h]

theorem cellarResetHoldEnd_holds {s : State} (hphase : s.start.phase = .cellarHold) (hread : s.straps.read = true) :
    ∃ t, exec .cellarResetHoldEnd s = .next t ∧ t.start.cause = .watchdog ∧ t.start.stage = 2 ∧ t.start.s = t.now ∧
      s.start.s + 1000000 ≤ t.now ∧
      t = clockedAs t { s with
        start := { s.start with
          phase := .awaitStraps, cause := .watchdog, s := t.now, strapsKept := true, stage := 2, stepUs := t.start.stepUs }
        straps := { s.straps with svcOn := true, svcSince := if s.straps.svcOn then s.straps.svcSince else t.now }
        cellar := { s.cellar with cause := some .watchdog, counts := zeros 14 }, arch := { s.arch with poweredFrom := t.now } } := by
  refine ⟨_, exec_cellarResetHoldEnd hphase, ?_⟩
  have hreach := (advanceTo_reaches s (s.start.s + msNs)).1
  obtain ⟨v, hclock⟩ : ∃ v, advanceTo s (s.start.s + msNs) = clockedAs v s := ⟨_, advanceTo_frame s _⟩
  rw [hclock] at hreach ⊢
  obtain ⟨stepUs, hstart⟩ := startFrom_eq (clockedAs v s) .watchdog
  have hstay : strapsStay (clockedAs v s) .watchdog = true := by simpa [strapsStay, clockedAs] using hread
  rw [hstart, hstay]
  refine ⟨rfl, rfl, rfl, hreach, ?_⟩
  simp [clockedAs, hread]

/-! ### The wake from S4 (R405, R411, R418) -/

/-- s with what outlives the start-up of the rest of r: its length and the return it holds. -/
def restHeld (r s : State) : State :=
  { s with power := { s.power with
      msInRest := (r.now - r.power.enteredAt) / msNs, uncoordinated := r.power.uncoordinated, returnLen := r.power.returnLen } }

/-- r woken from S4: reset without SVC, the return held. -/
def wokenFromS4 (r : State) : State := restHeld r (svcLost (resetBlock r .s4Wake .awaitStraps))

theorem exec_s4ReturnAlarm {s : State} {a : Nat} (hrun : running s = true) (h4 : s.power.st = .s4)
    (hf : s.cellar.failAt = none) (ha : s.cellar.rtcAlarm = some a) :
    exec .s4ReturnAlarm s = .next (startFrom (wokenFromS4 (advanceTo s (s.now + rtcWait s a))) .s4Wake) := by
  have hexec : exec .s4ReturnAlarm s = execS4ReturnAlarm s := rfl
  rw [hexec, execS4ReturnAlarm, ha]
  exact if_pos (by simp [hrun, h4, hf])

theorem leftByReset_wokenFromS4 (r : State) : LeftByReset r (wokenFromS4 r) .s4Wake := by
  have hreset : LeftByReset r (resetBlock r .s4Wake .awaitStraps) .s4Wake :=
    leftByReset_resetBlock .s4Wake .awaitStraps rfl rfl id fun _ => rfl
  obtain ⟨hframe, hrest⟩ := leftByReset_svcLost hreset
  exact ⟨congrArg (restHeld r) hframe, hrest⟩

/-- r at the S of a start-up of a cause that awaits its straps. -/
def awaitingStraps (r : State) (cause : ResetCause) : State :=
  { r with
    start := { r.start with phase := .awaitStraps, cause := cause, s := r.now, strapsKept := false }
    cellar := { r.cellar with cause := some cause, counts := zeros 14 }
    arch := { r.arch with poweredFrom := r.now }
    straps := { r.straps with svcOn := true, svcSince := if r.straps.svcOn then r.straps.svcSince else r.now } }

theorem startFrom_of_unread {r : State} {cause : ResetCause} (hcause : cause ≠ .firstPower) (hread : r.straps.read = false) :
    startFrom r cause = awaitingStraps r cause := by
  have hnot : (cause == ResetCause.firstPower) = false := by simpa using hcause
  simp [startFrom, awaitingStraps, hnot, hread]

theorem leftByReset_startFrom {s r : State} {cause : ResetCause} (hcause : cause ≠ .firstPower) (hread : r.straps.read = false)
    (h : LeftByReset s r cause) : LeftByReset s (startFrom r cause) cause := by
  obtain ⟨hframe, hoff, _, hrest⟩ := h
  rw [startFrom_of_unread hcause hread]
  have hstill : (awaitingStraps r cause).straps.read = false := hread
  exact ⟨congrArg (awaitingStraps · cause) hframe, fun _ => hoff hread, fun _ hon => absurd hon (by simp [hstill]), hrest⟩

theorem s4ReturnAlarm_holds {s : State} {a : Nat} (hrun : running s = true) (h4 : s.power.st = .s4)
    (hf : s.cellar.failAt = none) (ha : s.cellar.rtcAlarm = some a) :
    ∃ t, exec .s4ReturnAlarm s = .next t ∧ LeftByReset s t .s4Wake ∧ t.start.phase = .awaitStraps ∧ t.straps.read = false ∧
      t.straps.svcOn = true ∧ t.start.s = t.now ∧ s.now ≤ t.now ∧ t.power.uncoordinated = s.power.uncoordinated ∧
      t.power.returnLen = s.power.returnLen ∧ t.cellar.rtcAlarm = some a := by
  have hreach := (advanceTo_reaches s (s.now + rtcWait s a)).2
  obtain ⟨v, hclock⟩ : ∃ v, advanceTo s (s.now + rtcWait s a) = clockedAs v s := ⟨_, advanceTo_frame s _⟩
  have hexec := exec_s4ReturnAlarm hrun h4 hf ha
  rw [hclock] at hreach hexec
  have hleft : LeftByReset s (wokenFromS4 (clockedAs v s)) .s4Wake := leftByReset_wokenFromS4 (clockedAs v s)
  have hnow : (wokenFromS4 (clockedAs v s)).now = (clockedAs v s).now :=
    (resetBlock_keeps (clockedAs v s) .s4Wake .awaitStraps).1
  have halarm : (wokenFromS4 (clockedAs v s)).cellar.rtcAlarm = some a :=
    ((congrArg (fun x : State => x.cellar.rtcAlarm) hleft.1).trans rfl).trans ha
  refine ⟨_, hexec, leftByReset_startFrom (by decide) rfl hleft, ?_⟩
  rw [startFrom_of_unread (by decide) rfl]
  exact ⟨rfl, rfl, rfl, rfl, hreach.trans hnow.ge, rfl, rfl, halarm⟩

/-! ### The obligation -/

/-- Settles O13: the warning by its frame; the expiry and the wake from S4 as resets of the state at their instant; the end of the
hold as a start-up that keeps its straps. -/
theorem watchdogAndTheReturnAlarm : Obligations.WatchdogAndTheReturnAlarm := by
  unfold Obligations.WatchdogAndTheReturnAlarm
  exact ⟨fun s harmed hcore => ⟨⟨_, exec_watchdogKick harmed hcore, rfl⟩, watchdogWarning_holds harmed hcore⟩,
    ⟨fun s => watchdogExpiry_holds, fun s => cellarResetHoldEnd_holds⟩, fun s a => s4ReturnAlarm_holds⟩

end Sys2Proof.Machine

/-! ## Pins, groups and keys

The settlement of O27. First a message done at its dispatch, which every command that the Hall serves itself ends with; then
each command: the pin, the membership of one group, the key that an enrolment leaves for its completion record. -/

namespace Sys2Proof.Machine

open Sys2Proof

/-! ### A message done at its dispatch (R123, R124) -/

theorem doneWith_eq (s : State) (m : Msg) (r : BitVec 4) : doneWith s m r = reportedDone s (doneOf m r) := rfl

theorem answerWith_eq (s : State) (m : Msg) (r : BitVec 4) (as : List Answer) :
    answerWith s m r as = reportedDone s { doneOf m r with answers := as } := rfl

/-- A dispatch command with a message before it gives the meaning of that command on the message dispatched. -/
theorem dispatch_takes {s : State} {cmd : Half} {m : Msg} (f : Msg → State → State) (ht : takeDispatch s cmd = some m) :
    dispatch s cmd f = .next (f m (dispatchedTo s m false)) := by
  rw [dispatch_of_take s cmd f m ht, markDispatched_eq]

theorem dispatchIf_takes {s : State} {cmd : Half} {m : Msg} {form : Msg → Bool} (f : Msg → State → State)
    (ht : takeDispatch s cmd = some m) (hform : form m = true) :
    dispatchIf s cmd form f = .next (f m (dispatchedTo s m false)) := by
  rw [dispatchIf_of_take s cmd form f m ht hform, markDispatched_eq]

/-! ### ADDRESS_PIN (R137) -/

theorem exec_addressPin {s : State} {m : Msg} (ht : takeDispatch s 0x0004 = some m)
    (hop : field (wordAt m.body 0) 31 28 = 1) : exec .addressPin s = .next
      (finishedAs { s with arch := { s.arch with pin := some (BitVec.ofNat 12 (field (wordAt m.body 0) 11 0)) } } m
        (doneOf m 0)) := by
  have hexec : exec .addressPin s = execAddressPin s := rfl
  rw [hexec, execAddressPin, dispatchIf_takes _ ht (by simp [opField, hop])]
  rfl

theorem exec_addressPinClear {s : State} {m : Msg} (ht : takeDispatch s 0x0004 = some m)
    (hop : field (wordAt m.body 0) 31 28 = 0) : exec .addressPinClear s =
      .next (finishedAs { s with arch := { s.arch with pin := none } } m (doneOf m 0)) := by
  have hexec : exec .addressPinClear s = execAddressPinClear s := rfl
  rw [hexec, execAddressPinClear, dispatchIf_takes _ ht (by simp [opField, hop])]
  rfl

/-! ### GROUP_SET (R136) -/

theorem channel_code {s : State} {g : Half} {c : Channel} (hc : channel s g = some c) : c.code = g := by
  have h : (c.code == g) = true := List.find?_some (p := fun x : Channel => x.code == g) hc
  simpa using h

theorem discardHeld_of_none {s : State} {g : Half} (hc : channel s g = none) : discardHeld s g = s := by
  simp only [discardHeld, discardBy, hc]

/-- A channel with nothing held has nothing discarded. -/
theorem discardHeld_of_no_held {s : State} {g : Half} {c : Channel} (hc : channel s g = some c) (hheld : c.held = []) :
    discardHeld s g = setChannel s c := by
  have hsame : { c with held := [] } = c := by rw [← hheld]
  simp [discardHeld, discardBy, hc, hheld, hsame]

/-- s with a channel of the group g that expects the base. -/
def groupJoined (s : State) (g : Half) (base : Word) : State :=
  { s with hall := { s.hall with
    channels := s.hall.channels ++ [{ code := g, expected := base, completed := base - 1, held := [] }] } }

/-- s without the channel of the group g. -/
def groupLeft (s : State) (g : Half) : State :=
  { s with hall := { s.hall with channels := s.hall.channels.filter fun x => x.code != g } }

theorem rebase_of_none {s : State} {g : Half} (hc : channel s g = none) (base : Word) : rebase s g base = groupJoined s g base := by
  simp [rebase, discardHeld_of_none hc, hc, groupJoined]

/-- The channels but those of a code stay as one of that code is set. -/
theorem filter_setChannel (l : List Channel) (c : Channel) :
    (l.map fun x => if x.code == c.code then c else x).filter (fun x => x.code != c.code) =
      l.filter fun x => x.code != c.code := by
  induction l with
  | nil => rfl
  | cons x l ih => by_cases hx : x.code = c.code <;> simp_all

theorem leaveGroup_of_no_held {s : State} {g : Half} {c : Channel} (hc : channel s g = some c) (hheld : c.held = []) :
    leaveGroup s g = groupLeft s g := by
  obtain rfl := channel_code hc
  simp only [leaveGroup, discardHeld_of_no_held hc hheld, setChannel, filter_setChannel, groupLeft]

/-- A GROUP_SET of one entry is that entry applied to the state in which its message is dispatched. -/
theorem exec_groupSet_of_one {s : State} {m : Msg} {e : Half × Nat × Word} (ht : takeDispatch s 0x0003 = some m)
    (he : groupEntries ((wordAt m.body 0).toNat % 256) (m.body.drop 4) = [e]) :
    exec .groupSet s = .next (reportedDone (applyGroupEntry (dispatchedTo s m false) e).1
      (doneOf m (if (applyGroupEntry (dispatchedTo s m false) e).2 then 0 else 3))) := by
  have hexec : exec .groupSet s = dispatch s 0x0003 groupSet := rfl
  rw [hexec, dispatch_takes _ ht, groupSet, he]
  simp [applyGroupEntries, doneWith_eq]

theorem exec_groupSet_joins {s : State} {m : Msg} {g : Half} {base : Word} (ht : takeDispatch s 0x0003 = some m)
    (he : groupEntries ((wordAt m.body 0).toNat % 256) (m.body.drop 4) = [(g, 1, base)]) (hc : channel s g = none) :
    exec .groupSet s = .next (finishedAs (groupJoined s g base) m (doneOf m 0)) := by
  have hrebase : rebase (dispatchedTo s m false) g base = dispatchedTo (groupJoined s g base) m false :=
    rebase_of_none (s := dispatchedTo s m false) hc base
  rw [exec_groupSet_of_one ht he, applyGroupEntry, hrebase]
  rfl

theorem exec_groupSet_leaves {s : State} {m : Msg} {g : Half} {base : Word} {c : Channel}
    (ht : takeDispatch s 0x0003 = some m)
    (he : groupEntries ((wordAt m.body 0).toNat % 256) (m.body.drop 4) = [(g, 0, base)]) (hc : channel s g = some c)
    (hheld : c.held = []) : exec .groupSet s = .next (finishedAs (groupLeft s g) m (doneOf m 0)) := by
  have hleave : leaveGroup (dispatchedTo s m false) g = dispatchedTo (groupLeft s g) m false :=
    leaveGroup_of_no_held (s := dispatchedTo s m false) hc hheld
  rw [exec_groupSet_of_one ht he, applyGroupEntry, hleave]
  rfl

theorem exec_groupSet_rebase_of_none {s : State} {m : Msg} {g : Half} {base : Word} (ht : takeDispatch s 0x0003 = some m)
    (he : groupEntries ((wordAt m.body 0).toNat % 256) (m.body.drop 4) = [(g, 2, base)]) (hc : channel s g = none) :
    exec .groupSet s = .next (finishedAs s m (doneOf m 3)) := by
  have hnone : (channel (dispatchedTo s m false) g).isSome = false := by
    have hsame : channel (dispatchedTo s m false) g = channel s g := rfl
    rw [hsame, hc]
    rfl
  rw [exec_groupSet_of_one ht he]
  simp only [applyGroupEntry, hnone, Bool.false_eq_true, if_false]
  rfl

/-! ### KEY_ENROL (R150 to R153) -/

/-- The key goes with the one message done of its number. -/
theorem map_key_of_new (l : List Done) (m : Msg) (key : Nat × Option Block) (hnew : ∀ d ∈ l, d.no ≠ m.no) :
    (l ++ [doneOf m 0]).map (fun d => if d.no == m.no then { d with key := some key } else d) =
      l ++ [{ doneOf m 0 with key := some key }] := by
  have hold : l.map (fun d => if d.no == m.no then { d with key := some key } else d) = l :=
    (List.map_congr_left fun d hd => by simp [hnew d hd]).trans (List.map_id l)
  rw [List.map_append, hold]
  simp [doneOf]

theorem keyDone_eq {s : State} {m : Msg} (hnew : ∀ d ∈ s.hall.done, d.no ≠ m.no) (key : Option Block) :
    keyDone s m key = reportedDone s { doneOf m 0 with key := some (keyTarget m, key) } := by
  simp only [keyDone, doneWith_eq, reportedDone, map_key_of_new _ _ _ hnew]

theorem exec_keyEnrol {s : State} {m : Msg} (ht : takeDispatch s 0x0050 = some m) (hop : keyOp m = 1) :
    exec .keyEnrol s = .next (keyEnrol m (dispatchedTo s m false)) := by
  have hexec : exec .keyEnrol s = execKeyEnrol s := rfl
  rw [hexec, execKeyEnrol, dispatchIf_takes _ ht (by simp [hop])]

theorem exec_keyRevoke {s : State} {m : Msg} (ht : takeDispatch s 0x0050 = some m) (hop : keyOp m = 0)
    (hnew : ∀ d ∈ s.hall.done, d.no ≠ m.no) :
    exec .keyRevoke s = .next (finishedAs s m { doneOf m 0 with key := some (keyTarget m, none) }) := by
  have hexec : exec .keyRevoke s = execKeyRevoke s := rfl
  rw [hexec, execKeyRevoke, dispatchIf_takes _ ht (by simp [hop]), keyDone_eq (s := dispatchedTo s m false) hnew]
  rfl

theorem keyEnrol_of_unwrap_failed {s : State} {m : Msg} {kek : Block} (hkek : roleKey s m.role.toNat = some kek)
    (hkey : keyUnwrap kek ((m.body.drop 4).take 24) = none) : keyEnrol m s = reportedDone s (doneOf m 7) := by
  simp [keyEnrol, hkek, hkey, doneWith_eq]

section

variable {s : State} {m : Msg} {kek key : Block} (hkek : roleKey s m.role.toNat = some kek)
  (hkey : keyUnwrap kek ((m.body.drop 4).take 24) = some key)

include hkek hkey

theorem keyEnrol_of_other_print (hprint : fingerprint key ≠ longAt m.body 28) :
    keyEnrol m s = reportedDone s (doneOf m 7) := by
  simp [keyEnrol, hkek, hkey, hprint, doneWith_eq]

theorem keyEnrol_of_taken (hprint : fingerprint key = longAt m.body 28)
    (htaken : fingerprintTaken s (keyTarget m) (longAt m.body 28) = true) :
    keyEnrol m s = reportedDone s (doneOf m 3) := by
  simp [keyEnrol, hkek, hkey, hprint, htaken, doneWith_eq]

theorem keyEnrol_of_new (hprint : fingerprint key = longAt m.body 28)
    (htaken : fingerprintTaken s (keyTarget m) (longAt m.body 28) = false) (hnew : ∀ d ∈ s.hall.done, d.no ≠ m.no) :
    keyEnrol m s = reportedDone s { doneOf m 0 with key := some (keyTarget m, some key) } := by
  simp [keyEnrol, hkek, hkey, hprint, htaken, keyDone_eq hnew]

end

/-- Settles O27: each command by the equation of its outcome. -/
theorem pinsGroupsAndKeys : Obligations.PinsGroupsAndKeys := by
  unfold Obligations.PinsGroupsAndKeys
  refine ⟨fun s m ht => ⟨fun hop => ⟨_, exec_addressPin ht hop, rfl⟩, fun hop => ⟨_, exec_addressPinClear ht hop, rfl⟩⟩,
    fun s m g op base ht he => ⟨?_, ?_, ?_⟩, fun s m ht hnew => ⟨fun kek key hop hkek hkey => ?_, ?_, fun hop => ?_⟩⟩
  · rintro rfl hc
    exact ⟨_, exec_groupSet_joins ht he hc, rfl⟩
  · rintro c rfl hc hheld
    exact ⟨_, exec_groupSet_leaves ht he hc hheld, rfl⟩
  · rintro rfl hc
    exact ⟨_, exec_groupSet_rebase_of_none ht he hc, rfl⟩
  · rw [exec_keyEnrol ht hop]
    refine ⟨fun hprint htaken => ⟨_, rfl, ?_⟩, fun hprint htaken => ⟨_, rfl, ?_⟩, fun hprint => ⟨_, rfl, ?_⟩⟩
    · exact keyEnrol_of_new (s := dispatchedTo s m false) hkek hkey hprint htaken hnew
    · exact keyEnrol_of_taken (s := dispatchedTo s m false) hkek hkey hprint htaken
    · exact keyEnrol_of_other_print (s := dispatchedTo s m false) hkek hkey hprint
  · intro kek hop hkek hkey
    exact ⟨_, exec_keyEnrol ht hop, keyEnrol_of_unwrap_failed (s := dispatchedTo s m false) hkek hkey⟩
  · exact ⟨_, exec_keyRevoke ht hop hnew, rfl⟩

end Sys2Proof.Machine

/-! ## The judging of a message

The settlement of O23. The layers: the head of the Spine's queue comes to be judged; an ACK or NACK queued by a state that
answers as the first one does; the tests of R118 before that of the sequence; the tests from the sequence on, one equation for
each outcome. -/

namespace Sys2Proof.Machine

open Sys2Proof

/-! ### The head of the Spine's queue (R118, R205) -/

/-- s with the head of the Spine's queue taken. -/
def headTaken (s : State) (rest : List (Port × Folio)) : State := { s with spine := { s.spine with ctlQueue := rest } }

theorem waitingChannel_of_none_due {s : State} (h : ∀ x ∈ s.hall.channels, ∀ y ∈ x.held, y.seq ≠ x.expected) :
    waitingChannel s = none := by
  have hdue : ∀ x ∈ s.hall.channels, dueHeld x = none := fun x hx =>
    List.find?_eq_none.mpr fun y hy => by simpa using h x hx y hy
  exact List.find?_eq_none.mpr fun x hx => by simp [hdue x hx]

theorem exec_ctlJudge {s : State} {p : Port} {f : Folio} {rest : List (Port × Folio)} (hj : hallJudges s = true)
    (hq : s.spine.ctlQueue = (p, f) :: rest) (hdue : ∀ x ∈ s.hall.channels, ∀ y ∈ x.held, y.seq ≠ x.expected) :
    exec .ctlJudge s = .next (judge (headTaken s rest) f) := by
  have hexec : exec .ctlJudge s = execCtlJudge s := rfl
  simp only [hexec, execCtlJudge, hj, waitingChannel_of_none_due hdue, hq, if_true]
  rfl

/-! ### Answers (R105, R107, R108, R205) -/

/-- u queues its answers as s does: the same address, EAST port, straps and queue 0x01. -/
structure AnswersAlike (s u : State) : Prop where
  addr : u.addr = s.addr
  east : u.spine.east = s.spine.east
  straps : u.straps = s.straps
  reports : u.larder.reports = s.larder.reports
  waiting : u.larder.waiting = s.larder.waiting

theorem AnswersAlike.carries {s u : State} (h : AnswersAlike s u) {t : State} {spec : Half} {payload : List Byte}
    (ht : hallAnswers u t spec payload) : hallAnswers s t spec payload := by
  obtain ⟨haddr, heast, hstraps, hreports, hwaiting⟩ := h
  simpa [hallAnswers, assigned, portUp, getPort, leafRole, unitFree, reportLevel, haddr, heast, hstraps, hreports,
    hwaiting] using ht

theorem AnswersAlike.nacks {s u : State} (h : AnswersAlike s u) (chan : Half) (q : Word) (reason : Nat)
    (hpay : nackPayload u chan q reason = nackPayload s chan q reason) :
    hallAnswers s (queueNack u chan q reason) 0x0002 (nackPayload s chan q reason) := by
  rw [← hpay]
  exact h.carries (hallAnswers_queueReport u 0x0002 _ (.inr rfl) (nackPayload_length _ _ _ _))

theorem answersAlike_headTaken (s : State) (rest : List (Port × Folio)) : AnswersAlike s (headTaken s rest) := by
  constructor <;> rfl

/-- A NACK alone is the answer to the head of the queue, and nothing but queue 0x01 takes part. -/
theorem nack_to_head (s : State) (rest : List (Port × Folio)) (chan : Half) (q : Word) (reason : Nat) :
    hallAnswers s (queueNack (headTaken s rest) chan q reason) 0x0002 (nackPayload s chan q reason) ∧
      queueNack (headTaken s rest) chan q reason =
        queuedAs (queueNack (headTaken s rest) chan q reason) (headTaken s rest) :=
  ⟨(answersAlike_headTaken s rest).nacks chan q reason rfl, queueReport_frame _ _ _⟩

/-! ### The tests before that of the sequence (R118, R145, R148, R149) -/

section

variable {s : State} {f : Folio} {c : Channel} (hc : channel s (Folio.channel f) = some c)

include hc

theorem judge_of_no_key (hkey : roleKey s (messageOf f).role.toNat = none) : judge s f =
    queueNack { s with hall := { s.hall with keyless := s.hall.keyless.modify (messageOf f).role.toNat (· + 1) } }
      (messageOf f).chan f.w2 0x08 := by
  have hc' : channel s (messageOf f).chan = some c := hc
  simp only [judge, hc', hkey]
  rfl

variable {key : Block} (hkey : roleKey s (messageOf f).role.toNat = some key)

include hkey

theorem judge_of_wrong_tag (htag : tagOk key f = false) : judge s f =
    queueNack { s with hall := { s.hall with tagFails := s.hall.tagFails.modify (messageOf f).role.toNat (· + 1) } }
      (messageOf f).chan f.w2 0x01 := by
  have hc' : channel s (messageOf f).chan = some c := hc
  simp only [judge, hc', hkey, htag, Bool.not_false, if_true]
  rfl

variable (htag : tagOk key f = true)

include htag

theorem judge_of_unknown (hknown : commandKnown (messageOf f).cmd = false) :
    judge s f = queueNack s (messageOf f).chan f.w2 0x09 := by
  have hc' : channel s (messageOf f).chan = some c := hc
  simp only [judge, hc', hkey, htag, hknown, Bool.not_true, Bool.not_false, Bool.false_eq_true, if_false, if_true]
  rfl

variable (hknown : commandKnown (messageOf f).cmd = true)

include hknown

theorem judge_of_no_right (hright : (messageOf f).role.toNat < leastRole (messageOf f).cmd (messageOf f).body) :
    judge s f = queueNack (auditWrite s (messageOf f).chan (messageOf f).cmd f.w2 (messageOf f).role 3 0 false)
      (messageOf f).chan f.w2 0x02 := by
  have hc' : channel s (messageOf f).chan = some c := hc
  simp only [judge, hc', hkey, htag, hknown, hright, Bool.not_true, Bool.false_eq_true, if_false, if_true]
  rfl

theorem judge_of_right (hright : leastRole (messageOf f).cmd (messageOf f).body ≤ (messageOf f).role.toNat) :
    judge s f = judgeSequence s c (messageOf f) := by
  have hc' : channel s (messageOf f).chan = some c := hc
  simp only [judge, hc', hkey, htag, hknown, Nat.not_lt.mpr hright, Bool.not_true, Bool.false_eq_true, if_false]

end

/-- A message that reaches the test of its sequence is judged by it. -/
theorem exec_ctlJudge_of_reaches {s : State} {p : Port} {f : Folio} {rest : List (Port × Folio)} {c : Channel} {key : Block}
    (h : reachesSequence s p f rest c key) :
    exec .ctlJudge s = .next (judgeSequence (headTaken s rest) c (messageOf f)) := by
  obtain ⟨hj, hq, hc, hdue, hkey, htag, hknown, hright⟩ := h
  rw [exec_ctlJudge hj hq hdue]
  exact congrArg _ (judge_of_right (s := headTaken s rest) hc hkey htag hknown hright)

/-! ### The tests from the sequence on (R118, R119, R121, R122, R128) -/

/-- A channel or the journal has no room for a message, its held copy aside. -/
def lacksRoom (s : State) (c : Channel) (m : Msg) : Prop :=
  64 < (c.held.filter fun x => x.seq != m.seq).length + undispatched s m.chan + 1 ∨ journalFree s < entrySize m.body

theorem lacksRoom_iff (s : State) (c : Channel) (m : Msg) :
    (decide (64 < (c.held.filter fun x => x.seq != m.seq).length + undispatched s m.chan + 1) ||
      decide (journalFree s < entrySize m.body)) = true ↔ lacksRoom s c m := by
  simp [lacksRoom]

theorem not_lacksRoom {s : State} {c : Channel} {m : Msg} (hspace : entrySize m.body ≤ journalFree s)
    (hroom : (c.held.filter fun x => x.seq != m.seq).length + undispatched s m.chan < 64) : ¬ lacksRoom s c m := by
  unfold lacksRoom
  omega

section

variable {s : State} {c : Channel} {m : Msg}

theorem judgeSequence_of_below (h : 0x80000000 ≤ (m.seq - c.expected).toNat) :
    judgeSequence s c m = queueAck s m.chan m.seq true := by
  simp only [judgeSequence, h, if_true]

theorem judgeSequence_of_far (h : 64 ≤ (m.seq - c.expected).toNat) (hlt : (m.seq - c.expected).toNat < 0x80000000) :
    judgeSequence s c m = queueNack s m.chan m.seq 0x04 := by
  simp only [judgeSequence, Nat.not_le.mpr hlt, h, if_true, if_false]

variable (hnear : (m.seq - c.expected).toNat < 64)

include hnear

theorem judgeSequence_of_malformed (hbody : bodyOk s m.chan m.cmd m.body = false) :
    judgeSequence s c m = queueNack s m.chan m.seq 0x06 := by
  have hlt : ¬ 0x80000000 ≤ (m.seq - c.expected).toNat := by omega
  simp only [judgeSequence, hlt, Nat.not_le.mpr hnear, hbody, Bool.not_false, if_true, if_false]

variable (hbody : bodyOk s m.chan m.cmd m.body = true)

include hbody

theorem judgeSequence_of_no_room (h : lacksRoom s c m) : judgeSequence s c m = queueNack s m.chan m.seq 0x05 := by
  have hlt : ¬ 0x80000000 ≤ (m.seq - c.expected).toNat := by omega
  simp only [judgeSequence, hlt, Nat.not_le.mpr hnear, hbody, (lacksRoom_iff s c m).mpr h, Bool.not_true, Bool.false_eq_true,
    if_true, if_false]

/-- A message ahead of its channel for which no hold has room: none holds a copy of it, and 64 are held. -/
theorem judgeSequence_of_no_hold (hne : m.seq ≠ c.expected) (hcopy : ∀ x ∈ c.held, x.seq ≠ m.seq) (hfull : 64 ≤ heldLevel s) :
    judgeSequence s c m = queueNack s m.chan m.seq 0x05 := by
  have hlt : ¬ 0x80000000 ≤ (m.seq - c.expected).toNat := by omega
  have hpos : 0 < (m.seq - c.expected).toNat := by bv_omega
  have hothers : c.held.filter (fun x => x.seq != m.seq) = c.held :=
    List.filter_eq_self.mpr fun x hx => by simpa using hcopy x hx
  by_cases hroom : lacksRoom s c m
  · exact judgeSequence_of_no_room hnear hbody hroom
  · rw [← lacksRoom_iff, hothers] at hroom
    simp only [judgeSequence, hlt, Nat.not_le.mpr hnear, hbody, hothers, hroom, hpos, hfull, beq_self_eq_true, decide_true,
      Bool.and_self, Bool.not_true, Bool.false_eq_true, if_true, if_false]

variable (hroom : ¬ lacksRoom s c m)

include hroom

theorem judgeSequence_of_ahead (hpos : 0 < (m.seq - c.expected).toNat) (hhold : heldLevel s < 64) :
    judgeSequence s c m = queueNack (hold s c m) m.chan m.seq 0x03 := by
  have hlt : ¬ 0x80000000 ≤ (m.seq - c.expected).toNat := by omega
  rw [← lacksRoom_iff] at hroom
  simp only [judgeSequence, hlt, Nat.not_le.mpr hnear, hbody, hroom, hpos, Nat.not_le.mpr hhold, decide_false, Bool.and_false,
    Bool.not_true, Bool.false_eq_true, if_true, if_false]

theorem judgeSequence_of_expected (heq : m.seq = c.expected) : judgeSequence s c m = acceptMsg s m := by
  have hlt : ¬ 0x80000000 ≤ (m.seq - c.expected).toNat := by omega
  have hzero : ¬ 0 < (m.seq - c.expected).toNat := by simp [heq]
  rw [← lacksRoom_iff] at hroom
  simp only [judgeSequence, hlt, Nat.not_le.mpr hnear, hbody, hroom, hzero, Bool.not_true, Bool.false_eq_true, if_false]

end

theorem acceptMsg_opens {s : State} {m : Msg} (hspace : entrySize m.body ≤ journalFree s)
    (hcues : m.cmd = 0x0010 → pendingCues s < 64) :
    acceptMsg s m = { s with hall := { s.hall with writing := some m } } := by
  have hcue : (m.cmd == 0x0010 && decide (64 ≤ pendingCues s)) = false := by
    by_cases h : m.cmd = 0x0010
    · simp only [Nat.not_le.mpr (hcues h), decide_false, Bool.and_false]
    · simp only [beq_eq_false_iff_ne.mpr h, Bool.false_and]
  simp only [acceptMsg, hcue, Nat.not_lt.mpr hspace, Bool.false_eq_true, if_false]

theorem acceptMsg_of_many_cues {s : State} {m : Msg} (hcmd : m.cmd = 0x0010) (hcues : 64 ≤ pendingCues s) :
    acceptMsg s m = queueNack s m.chan m.seq 0x0A := by
  simp [acceptMsg, hcmd, hcues]

/-! ### A message held (R118, R122, R205) -/

/-- s with m held in its channel c, in place of a held copy of its sequence. -/
def heldIn (s : State) (c : Channel) (m : Msg) : State :=
  { s with hall := { s.hall with channels := s.hall.channels.map fun x =>
      if x.code = c.code then { c with held := c.held.filter (fun y => y.seq != m.seq) ++ [m] } else x } }

theorem hold_frame (s : State) (c : Channel) (m : Msg) : hold s c m = queuedAs (hold s c m) (heldIn s c m) := by
  simp [hold, setChannel, watermark, queuedAs, heldIn]

theorem answersAlike_hold (s : State) (c : Channel) (m : Msg) : AnswersAlike s (hold s c m) := by
  constructor <;> rfl

/-- A channel that is set is the one found under its code, where one was found before. -/
theorem channel_setChannel {s : State} {g : Half} {c c' : Channel} (hc : channel s g = some c) (hcode : c'.code = g) :
    channel (setChannel s c') g = some c' := by
  subst hcode
  have hfound : ((fun x : Channel => x.code == c'.code) ∘ fun x => if x.code == c'.code then c' else x) =
      fun x => x.code == c'.code := by
    funext x
    by_cases hx : x.code = c'.code <;> simp [hx]
  have hcode : (c.code == c'.code) = true := List.find?_some (p := fun x : Channel => x.code == c'.code) hc
  unfold channel at hc
  simp only [channel, setChannel, List.find?_map, hfound, hc, Option.map_some, hcode, if_true]

theorem nackPayload_hold {s : State} {c : Channel} {m : Msg} (hc : channel s m.chan = some c) (q : Word) (reason : Nat) :
    nackPayload (hold s c m) m.chan q reason = nackPayload s m.chan q reason := by
  have hset : channel (hold s c m) m.chan = some { c with held := (c.held.filter fun x => x.seq != m.seq) ++ [m] } :=
    channel_setChannel hc (show c.code = m.chan from channel_code hc)
  simp only [nackPayload, hset, hc, Option.getD_some]

/-! ### A refusal for want of a right (R155, R156) -/

/-- The entry that an audit write adds is the newest of the log. -/
theorem auditWrite_newest (s : State) (chan cmd : Half) (q : Word) (role : BitVec 2) (outcome result : BitVec 4)
    (rebuilt : Bool) : ∃ e, (auditWrite s chan cmd q role outcome result rebuilt).arch.audit.getLast? = some e ∧
      e.serial = s.arch.auditNext ∧ e.chan = chan ∧ e.cmd = cmd ∧ e.seq = q ∧ e.role = role ∧ e.outcome = outcome ∧
      e.result = result ∧ e.rebuilt = rebuilt := by
  simp only [auditWrite, auditAt]
  rw [List.drop_append_of_le_length (by omega), List.getLast?_concat]
  exact ⟨_, rfl, rfl, rfl, rfl, rfl, rfl, rfl, rfl, rfl⟩

theorem auditWrite_eq (s : State) (chan cmd : Half) (q : Word) (role : BitVec 2) (outcome result : BitVec 4)
    (rebuilt : Bool) : auditWrite s chan cmd q role outcome result rebuilt =
      { s with arch := { s.arch with
          audit := (auditWrite s chan cmd q role outcome result rebuilt).arch.audit, auditNext := s.arch.auditNext + 1 } } := by
  simp only [auditWrite, auditAt]

/-! ### The obligation -/

section

variable {s : State} {p : Port} {f : Folio} {rest : List (Port × Folio)} {c : Channel}

theorem ctlJudge_refuses_untagged (hj : hallJudges s = true) (hq : s.spine.ctlQueue = (p, f) :: rest)
    (hc : channel s (Folio.channel f) = some c) (hdue : ∀ x ∈ s.hall.channels, ∀ h ∈ x.held, h.seq ≠ x.expected) :
    (roleKey s (messageOf f).role.toNat = none →
      ∃ t, exec .ctlJudge s = .next t ∧ hallAnswers s t 0x0002 (nackPayload s (messageOf f).chan f.w2 0x08) ∧
        t = queuedAs t { s with
          spine := { s.spine with ctlQueue := rest }
          hall := { s.hall with keyless := s.hall.keyless.modify (messageOf f).role.toNat (· + 1) } }) ∧
    (∀ key, roleKey s (messageOf f).role.toNat = some key → tagOk key f = false →
      ∃ t, exec .ctlJudge s = .next t ∧ hallAnswers s t 0x0002 (nackPayload s (messageOf f).chan f.w2 0x01) ∧
        t = queuedAs t { s with
          spine := { s.spine with ctlQueue := rest }
          hall := { s.hall with tagFails := s.hall.tagFails.modify (messageOf f).role.toNat (· + 1) } }) := by
  rw [exec_ctlJudge hj hq hdue]
  constructor
  · intro hkey
    rw [judge_of_no_key (s := headTaken s rest) hc hkey]
    exact ⟨_, rfl, AnswersAlike.nacks (by constructor <;> rfl) _ _ _ rfl, queueReport_frame _ _ _⟩
  · intro key hkey htag
    rw [judge_of_wrong_tag (s := headTaken s rest) hc hkey htag]
    exact ⟨_, rfl, AnswersAlike.nacks (by constructor <;> rfl) _ _ _ rfl, queueReport_frame _ _ _⟩

theorem ctlJudge_refuses_unrightful {key : Block} (hj : hallJudges s = true) (hq : s.spine.ctlQueue = (p, f) :: rest)
    (hc : channel s (Folio.channel f) = some c) (hdue : ∀ x ∈ s.hall.channels, ∀ h ∈ x.held, h.seq ≠ x.expected)
    (hkey : roleKey s (messageOf f).role.toNat = some key) (htag : tagOk key f = true)
    (hknown : commandKnown (messageOf f).cmd = true)
    (hright : (messageOf f).role.toNat < leastRole (messageOf f).cmd (messageOf f).body) :
    ∃ t e, exec .ctlJudge s = .next t ∧ hallAnswers s t 0x0002 (nackPayload s (messageOf f).chan f.w2 0x02) ∧
      t.arch.audit.getLast? = some e ∧ e.serial = s.arch.auditNext ∧ e.chan = (messageOf f).chan ∧
      e.cmd = (messageOf f).cmd ∧ e.seq = f.w2 ∧ e.role = (messageOf f).role ∧ e.outcome = 3 ∧ e.result = 0 ∧
      e.rebuilt = false ∧
      t = queuedAs t { s with
        spine := { s.spine with ctlQueue := rest }
        arch := { s.arch with audit := t.arch.audit, auditNext := s.arch.auditNext + 1 } } := by
  obtain ⟨e, hlast, hserial, hchan, hcmd, hseq, hrole, houtcome, hresult, hrebuilt⟩ :=
    auditWrite_newest (headTaken s rest) (messageOf f).chan (messageOf f).cmd f.w2 (messageOf f).role 3 0 false
  have haudited := auditWrite_eq (headTaken s rest) (messageOf f).chan (messageOf f).cmd f.w2 (messageOf f).role 3 0 false
  rw [exec_ctlJudge hj hq hdue, judge_of_no_right (s := headTaken s rest) hc hkey htag hknown hright]
  generalize hu : auditWrite (headTaken s rest) (messageOf f).chan (messageOf f).cmd f.w2 (messageOf f).role 3 0 false = u
    at hlast haudited ⊢
  have halike : AnswersAlike s u := by
    subst hu
    constructor <;> rfl
  have hpay : nackPayload u (messageOf f).chan f.w2 0x02 = nackPayload s (messageOf f).chan f.w2 0x02 := by
    subst hu
    rfl
  have hframe : queueNack u (messageOf f).chan f.w2 0x02 = queuedAs (queueNack u (messageOf f).chan f.w2 0x02) u :=
    queueReport_frame _ _ _
  have hanswers := halike.nacks _ _ _ hpay
  generalize queueNack u (messageOf f).chan f.w2 0x02 = t at hframe hanswers ⊢
  have haudit : t.arch.audit = u.arch.audit := (congrArg (fun x : State => x.arch.audit) hframe).trans rfl
  refine ⟨t, e, rfl, hanswers, haudit ▸ hlast, hserial, hchan, hcmd, hseq, hrole, houtcome, hresult, hrebuilt, ?_⟩
  rw [haudit]
  exact hframe.trans (congrArg (queuedAs t) haudited)

end

theorem ctlJudge_opens {s : State} {p : Port} {f : Folio} {rest : List (Port × Folio)} {c : Channel} {key : Block}
    (h : reachesSequence s p f rest c key) (heq : f.w2 = c.expected)
    (hbody : bodyOk s (messageOf f).chan (messageOf f).cmd (messageOf f).body = true)
    (hroom : c.held.length + undispatched s (messageOf f).chan < 64) (hspace : entrySize (messageOf f).body ≤ journalFree s)
    (hcues : (messageOf f).cmd = 0x0010 → pendingCues s < 64) :
    exec .ctlJudge s = .next { s with
      spine := { s.spine with ctlQueue := rest }, hall := { s.hall with writing := some (messageOf f) } } := by
  have hothers := List.length_filter_le (fun x : Msg => x.seq != f.w2) c.held
  have hroom' : ¬ lacksRoom (headTaken s rest) c (messageOf f) :=
    not_lacksRoom hspace (lt_of_le_of_lt (Nat.add_le_add_right hothers _) hroom)
  have hnear : ((messageOf f).seq - c.expected).toNat < 64 := by
    have hseq : (messageOf f).seq = c.expected := heq
    simp [hseq]
  rw [exec_ctlJudge_of_reaches h, judgeSequence_of_expected (s := headTaken s rest) hnear hbody hroom' heq]
  exact congrArg _ (acceptMsg_opens hspace hcues)

section

variable {s : State} {p : Port} {f : Folio} {rest : List (Port × Folio)} {c : Channel} {key : Block}
  (h : reachesSequence s p f rest c key)

include h

theorem ctlJudge_acks_duplicate (hbelow : 0x80000000 ≤ (f.w2 - c.expected).toNat) :
    ∃ t, exec .ctlJudge s = .next t ∧ hallAnswers s t 0x0001 (ackPayload s (messageOf f).chan f.w2 true) ∧
      t = queuedAs t (headTaken s rest) := by
  rw [exec_ctlJudge_of_reaches h, judgeSequence_of_below hbelow]
  exact ⟨_, rfl, (answersAlike_headTaken s rest).carries
    (hallAnswers_queueReport _ 0x0001 _ (.inl rfl) (ackPayload_length _ _ _ _)), queueReport_frame _ _ _⟩

/-- A message whose judgement is a NACK alone. -/
theorem ctlJudge_nacks {reason : Nat}
    (hnack : judgeSequence (headTaken s rest) c (messageOf f) = queueNack (headTaken s rest) (messageOf f).chan f.w2 reason) :
    ∃ t, exec .ctlJudge s = .next t ∧ hallAnswers s t 0x0002 (nackPayload s (messageOf f).chan f.w2 reason) ∧
      t = queuedAs t (headTaken s rest) := by
  rw [exec_ctlJudge_of_reaches h, hnack]
  obtain ⟨hanswers, hframe⟩ := nack_to_head s rest (messageOf f).chan f.w2 reason
  exact ⟨_, rfl, hanswers, hframe⟩

theorem ctlJudge_holds_ahead (hbody : bodyOk s (messageOf f).chan (messageOf f).cmd (messageOf f).body = true)
    (hroom : ¬ lacksRoom s c (messageOf f)) (hpos : 0 < (f.w2 - c.expected).toNat) (hnear : (f.w2 - c.expected).toNat < 64)
    (hhold : heldLevel s < 64) :
    ∃ t, exec .ctlJudge s = .next t ∧ hallAnswers s t 0x0002 (nackPayload s (messageOf f).chan f.w2 0x03) ∧
      t = queuedAs t (heldIn (headTaken s rest) c (messageOf f)) := by
  obtain ⟨_, _, hc, _⟩ := id h
  have hpay := nackPayload_hold (s := headTaken s rest) (m := messageOf f) hc f.w2 0x03
  have halike := answersAlike_hold (headTaken s rest) c (messageOf f)
  have hseq := judgeSequence_of_ahead (s := headTaken s rest) (m := messageOf f) hnear hbody hroom hpos hhold
  rw [exec_ctlJudge_of_reaches h, hseq]
  refine ⟨_, rfl, ?_, queuedAs_trans (hold_frame _ _ _) (queueReport_frame _ _ _)⟩
  exact (answersAlike_headTaken s rest).carries (halike.nacks _ _ _ hpay)

end

/-- Settles O23: the head of the queue is judged by the tests of R118 in their order, one equation for each outcome. -/
theorem messagesAreJudgedByTagAndSequence : Obligations.MessagesAreJudgedByTagAndSequence := by
  unfold Obligations.MessagesAreJudgedByTagAndSequence
  refine ⟨fun s p f rest c hj hq hc hdue => ctlJudge_refuses_untagged hj hq hc hdue, ?_, ?_, ?_⟩
  · intro s p f rest c key hj hq hc hdue hkey htag hknown hright heq hbody hroom hspace hcues
    exact ⟨_, ctlJudge_opens ⟨hj, hq, hc, hdue, hkey, htag, hknown, hright⟩ heq hbody hroom hspace hcues, rfl, rfl⟩
  · intro s p f rest c key h
    refine ⟨ctlJudge_acks_duplicate h, fun hfar hlt => ctlJudge_nacks h (judgeSequence_of_far hfar hlt),
      fun hbody hspace hroom => ⟨fun hpos hnear hhold => ?_, fun heq hcmd hcues => ?_⟩⟩
    · exact ctlJudge_holds_ahead h hbody (not_lacksRoom hspace hroom) hpos hnear hhold
    · have hnear : ((messageOf f).seq - c.expected).toNat < 64 := by
        have hseq : (messageOf f).seq = c.expected := heq
        simp [hseq]
      refine ctlJudge_nacks h ?_
      rw [judgeSequence_of_expected (s := headTaken s rest) hnear hbody (not_lacksRoom hspace hroom) heq]
      exact acceptMsg_of_many_cues (s := headTaken s rest) hcmd hcues
  · intro s p f rest c key hj hq hc hdue hkey htag
    refine ⟨fun hknown => ?_, fun hknown hright => ctlJudge_refuses_unrightful hj hq hc hdue hkey htag hknown hright,
      fun hknown hright hnear => ?_⟩
    · rw [exec_ctlJudge hj hq hdue, judge_of_unknown (s := headTaken s rest) hc hkey htag hknown]
      obtain ⟨hanswers, hframe⟩ := nack_to_head s rest (messageOf f).chan f.w2 0x09
      exact ⟨_, rfl, hanswers, hframe⟩
    · have h : reachesSequence s p f rest c key := ⟨hj, hq, hc, hdue, hkey, htag, hknown, hright⟩
      refine ⟨fun hbody => ctlJudge_nacks h (judgeSequence_of_malformed (s := headTaken s rest) hnear hbody),
        fun hbody hfull => ctlJudge_nacks h ?_⟩
      rcases hfull with hroom | hspace | ⟨hne, hcopy, hheld⟩
      · exact judgeSequence_of_no_room (s := headTaken s rest) hnear hbody (.inl hroom)
      · exact judgeSequence_of_no_room (s := headTaken s rest) hnear hbody (.inr hspace)
      · exact judgeSequence_of_no_hold (s := headTaken s rest) hnear hbody hne hcopy hheld

end Sys2Proof.Machine

/-! ## Completion records and queries

The settlement of O26. The layers: the fields of a payload's first word; the parts of a completion (the record, the key, the
audit entry, the EVENTs, the answers) and what they leave as it is; the completion of a message; the queries. -/

namespace Sys2Proof.Machine

open Sys2Proof

/-! ### The first word of a payload (R13) -/

theorem beBytes_four (v : Nat) : beBytes 4 v =
    beBytes 2 (v / 65536) ++ [BitVec.ofNat 8 (v / 256), BitVec.ofNat 8 v] := by
  simp [beBytes, Nat.div_div_eq_div_mul]

theorem beBytes_length (n v : Nat) : (beBytes n v).length = n := by
  induction n generalizing v with
  | zero => rfl
  | succ n ih => simp [beBytes, ih]

/-- The upper half of a payload's first word stands in its first two bytes. -/
theorem halfAt_wordsBytes (w : Word) (ws : List Word) :
    halfAt (wordsBytes (w :: ws)) 0 = BitVec.ofNat 16 (w.toNat / 65536) := by
  have hbytes : wordsBytes (w :: ws) = beBytes 2 (w.toNat / 65536) ++
      ([BitVec.ofNat 8 (w.toNat / 256), BitVec.ofNat 8 w.toNat] ++ wordsBytes ws) := by
    rw [wordsBytes_cons, wordBytes, beBytes_four, List.append_assoc]
  rw [halfAt, hbytes, List.drop_zero, List.take_left' (beBytes_length _ _), beNat_beBytes]
  exact BitVec.eq_of_toNat_eq (by simp)

theorem byteAt_wordsBytes_two (w : Word) (ws : List Word) :
    byteAt (wordsBytes (w :: ws)) 2 = BitVec.ofNat 8 (w.toNat / 256) := by
  have hbytes : wordsBytes (w :: ws) = beBytes 2 (w.toNat / 65536) ++
      ([BitVec.ofNat 8 (w.toNat / 256), BitVec.ofNat 8 w.toNat] ++ wordsBytes ws) := by
    rw [wordsBytes_cons, wordBytes, beBytes_four, List.append_assoc]
  rw [byteAt, hbytes, List.getD_append_right _ _ _ _ (by rw [beBytes_length]), beBytes_length]
  rfl

/-- A code in the upper half of a word, above less than 2^16, is read back from it. -/
theorem upper_of_pack (code : Half) (n : Nat) (h : n < 65536) :
    BitVec.ofNat 16 ((BitVec.ofNat 32 (code.toNat * 65536 + n)).toNat / 65536) = code := by
  have hlt := code.isLt
  rw [BitVec.toNat_ofNat, Nat.mod_eq_of_lt (by omega), Nat.mul_comm, Nat.mul_add_div (by decide), Nat.div_eq_of_lt h,
    Nat.add_zero]
  exact BitVec.eq_of_toNat_eq (by simp)

/-! ### The parts of a completion (R115, R124, R125, R128, R152, R155) -/

theorem queueAnswers_frame (s : State) (as : List Answer) : queueAnswers s as = queuedAs (queueAnswers s as) s := by
  unfold queueAnswers
  induction as generalizing s with
  | nil => exact queuedAs_self s
  | cons a as ih => exact queuedAs_trans (queueReport_frame s _ _) (ih _)

@[simp] theorem queueAnswers_events (s : State) (as : List Answer) :
    (queueAnswers s as).larder.events = s.larder.events := by
  unfold queueAnswers
  induction as generalizing s with
  | nil => rfl
  | cons a as ih => rw [List.foldl_cons, ih, queueReport_larder_events]

theorem raiseResult_frame (s : State) (d : Done) : raiseResult s d = reportedAs (raiseResult s d) s := by
  unfold raiseResult
  split
  · exact reportedAs_self s
  · exact raise_frame s _ _ _

theorem events_prefix_raiseResult (s : State) (d : Done) : s.larder.events <+: (raiseResult s d).larder.events := by
  unfold raiseResult
  split
  · exact List.prefix_refl _
  · exact events_prefix_raise s _ _ _

/-- s with the key of a completion record put in force. -/
def keyPut (s : State) (d : Done) : State :=
  match d.key with
  | some (role, key) => putKey s role key
  | none => s

theorem keyPut_of_none {d : Done} (h : d.key = none) (s : State) : keyPut s d = s := by
  simp only [keyPut, h]

theorem keyPut_of_some {d : Done} {role : Nat} {key : Option Block} (h : d.key = some (role, key)) (s : State) :
    keyPut s d = putKey s role key := by
  simp only [keyPut, h]

theorem putKey_frame (s : State) (role : Nat) (key : Option Block) : putKey s role key = reportedAs (putKey s role key) { s with
    arch := { s.arch with keys := s.arch.keys.set role key, prints := s.arch.prints.set role (printOf key) }
    cellar := { s.cellar with challenge := if role == 0 then s.cellar.challenge else none } } :=
  raise_frame _ _ _ _

/-- s with the keys in force, their fingerprints and the challenge of t. -/
def keyedAs (t s : State) : State :=
  { s with
    arch := { s.arch with keys := t.arch.keys, prints := t.arch.prints }
    cellar := { s.cellar with challenge := t.cellar.challenge } }

theorem keyPut_frame (s : State) (d : Done) : keyPut s d = reportedAs (keyPut s d) (keyedAs (keyPut s d) s) := by
  cases hk : d.key with
  | none =>
    rw [keyPut_of_none hk]
    exact reportedAs_self s
  | some k =>
    obtain ⟨role, key⟩ := k
    rw [keyPut_of_some hk]
    have hframe := putKey_frame s role key
    generalize putKey s role key = t at hframe ⊢
    have hkeys : t.arch.keys = s.arch.keys.set role key := (congrArg (fun x : State => x.arch.keys) hframe).trans rfl
    have hprints : t.arch.prints = s.arch.prints.set role (printOf key) :=
      (congrArg (fun x : State => x.arch.prints) hframe).trans rfl
    have hchallenge : t.cellar.challenge = if role == 0 then s.cellar.challenge else none :=
      (congrArg (fun x : State => x.cellar.challenge) hframe).trans rfl
    unfold keyedAs
    rw [hkeys, hprints, hchallenge]
    exact hframe

/-- The EVENT of a key put in force, with room for it. -/
theorem eventRaised_putKey (s : State) (role : Nat) (key : Option Block) : eventRaised s (putKey s role key) 0x0205 := by
  unfold putKey
  exact eventRaised_of_larder (eventRaised_raise _ _ _ _) rfl

/-! ### A message completed (R115, R124, R155) -/

/-- s with the completion record of d written, the key that it carries in force, and its audit entry. -/
def recorded (s : State) (d : Done) (e : Entry) : State :=
  auditRecord (keyPut (writeCompletion s d) d) d.chan e.msg.cmd d.seq e.msg.role 2 d.result s.hall.nextNo

theorem complete_of_entry {s : State} {d : Done} {e : Entry} (he : s.hall.entries.find? (fun x => x.no == d.no) = some e) :
    complete s d = queueAnswers (raiseResult (recorded s d e) d) d.answers := by
  cases hk : d.key <;> simp only [complete, he, recorded, keyPut, hk]

/-- What a completion record leaves of s, but for the channels, the audit log, the keys and the transfer of a commit, which t
gives. -/
def recordedAs (t s : State) (d : Done) : State :=
  { s with
    hall := { s.hall with
      entries := s.hall.entries.filter (fun e => e.no != d.no), nextNo := s.hall.nextNo + 1
      summaries := s.hall.summaries.map (fun y =>
        if y.no = d.no ∧ y.st ≠ 3 then { y with st := 3, result := d.result, doneNo := s.hall.nextNo } else y)
      channels := t.hall.channels, auditedThrough := s.hall.nextNo }
    arch := { s.arch with
      audit := t.arch.audit, auditNext := s.arch.auditNext + 1, keys := t.arch.keys, prints := t.arch.prints
      closing := t.arch.closing }
    cellar := { s.cellar with challenge := t.cellar.challenge } }

theorem writeCompletion_summaries (s : State) (d : Done) : (writeCompletion s d).hall.summaries =
    s.hall.summaries.map fun y =>
      if y.no = d.no ∧ y.st ≠ 3 then { y with st := 3, result := d.result, doneNo := s.hall.nextNo } else y := by
  simp [writeCompletion]

/-- s with an audit entry more, whose log t gives, and the record of a number audited. -/
def auditedTo (t : State) (no : Nat) (s : State) : State :=
  { s with
    arch := { s.arch with audit := t.arch.audit, auditNext := s.arch.auditNext + 1 }
    hall := { s.hall with auditedThrough := no } }

theorem auditRecord_eq (s : State) (chan cmd : Half) (q : Word) (role : BitVec 2) (outcome result : BitVec 4) (no : Nat) :
    auditRecord s chan cmd q role outcome result no = auditedTo (auditRecord s chan cmd q role outcome result no) no s := by
  simp only [auditRecord, auditWrite, auditAt, auditedTo]

theorem recorded_frame (s : State) (d : Done) (e : Entry) :
    recorded s d e = reportedAs (recorded s d e) (recordedAs (recorded s d e) s d) := by
  have hput := keyPut_frame (writeCompletion s d) d
  have haudit := auditRecord_eq (keyPut (writeCompletion s d) d) d.chan e.msg.cmd d.seq e.msg.role 2 d.result s.hall.nextNo
  have hsum := writeCompletion_summaries s d
  unfold recorded
  generalize auditRecord (keyPut (writeCompletion s d) d) d.chan e.msg.cmd d.seq e.msg.role 2 d.result s.hall.nextNo = t
    at haudit ⊢
  generalize keyPut (writeCompletion s d) d = u at hput haudit
  have hrecord : t = auditedTo t s.hall.nextNo (reportedAs u (keyedAs u (writeCompletion s d))) :=
    haudit.trans (congrArg (auditedTo t s.hall.nextNo) hput)
  have hreports : t = reportedAs t (auditedTo t s.hall.nextNo (keyedAs u (writeCompletion s d))) := by
    refine (reportedAs_self t).trans ((congrArg (reportedAs t) hrecord).trans ?_)
    cases h : s.cellar.failAt <;> simp [reportedAs, auditedTo, keyedAs, h]
  have hchannels : t.hall.channels = (writeCompletion s d).hall.channels :=
    (congrArg (fun x : State => x.hall.channels) hreports).trans rfl
  have hkeys : t.arch.keys = u.arch.keys := (congrArg (fun x : State => x.arch.keys) hreports).trans rfl
  have hprints : t.arch.prints = u.arch.prints := (congrArg (fun x : State => x.arch.prints) hreports).trans rfl
  have hclosing : t.arch.closing = (writeCompletion s d).arch.closing :=
    (congrArg (fun x : State => x.arch.closing) hreports).trans rfl
  have hchallenge : t.cellar.challenge = u.cellar.challenge :=
    (congrArg (fun x : State => x.cellar.challenge) hreports).trans rfl
  refine hreports.trans (congrArg (reportedAs t) ?_)
  unfold recordedAs
  rw [hchannels, hkeys, hprints, hclosing, hchallenge, ← hsum]
  rfl

theorem recorded_keeps (s : State) (d : Done) (e : Entry) :
    (recorded s d e).hall.channels = (writeCompletion s d).hall.channels ∧
      (recorded s d e).arch.keys = (keyPut (writeCompletion s d) d).arch.keys ∧
      (recorded s d e).arch.prints = (keyPut (writeCompletion s d) d).arch.prints ∧
      (recorded s d e).cellar.challenge = (keyPut (writeCompletion s d) d).cellar.challenge ∧
      (recorded s d e).larder = (keyPut (writeCompletion s d) d).larder := by
  have hchannels : (keyPut (writeCompletion s d) d).hall.channels = (writeCompletion s d).hall.channels :=
    (congrArg (fun x : State => x.hall.channels) (keyPut_frame (writeCompletion s d) d)).trans rfl
  simp only [recorded, auditRecord, auditWrite, auditAt, hchannels, and_self]

/-- A completion is its record, with EVENT records and what queue 0x01 takes. -/
theorem complete_of_recorded {s : State} {d : Done} {e : Entry}
    (he : s.hall.entries.find? (fun x => x.no == d.no) = some e) :
    complete s d = reportedAs (complete s d) (queuedAs (complete s d) (recorded s d e)) := by
  rw [complete_of_entry he]
  exact reported_then_queued (raiseResult_frame _ _) (queueAnswers_frame _ _)

theorem complete_frame {s : State} {d : Done} {e : Entry} (he : s.hall.entries.find? (fun x => x.no == d.no) = some e) :
    complete s d = reportedAs (complete s d) (queuedAs (complete s d) (recordedAs (complete s d) s d)) := by
  have hcomplete := complete_of_recorded he
  have hrecord := recorded_frame s d e
  generalize complete s d = t at hcomplete ⊢
  generalize recorded s d e = u at hcomplete hrecord
  have hchannels : t.hall.channels = u.hall.channels := (congrArg (fun x : State => x.hall.channels) hcomplete).trans rfl
  have harch : recordedAs t s d = recordedAs u s d := by
    have haudit : t.arch.audit = u.arch.audit := (congrArg (fun x : State => x.arch.audit) hcomplete).trans rfl
    have hkeys : t.arch.keys = u.arch.keys := (congrArg (fun x : State => x.arch.keys) hcomplete).trans rfl
    have hprints : t.arch.prints = u.arch.prints := (congrArg (fun x : State => x.arch.prints) hcomplete).trans rfl
    have hclosing : t.arch.closing = u.arch.closing := (congrArg (fun x : State => x.arch.closing) hcomplete).trans rfl
    have hchallenge : t.cellar.challenge = u.cellar.challenge :=
      (congrArg (fun x : State => x.cellar.challenge) hcomplete).trans rfl
    simp only [recordedAs, hchannels, haudit, hkeys, hprints, hclosing, hchallenge]
  rw [harch]
  refine hcomplete.trans ((congrArg (fun x => reportedAs t (queuedAs t x)) hrecord).trans ?_)
  cases h : s.cellar.failAt <;> simp [reportedAs, queuedAs, recordedAs, h]

theorem complete_keeps {s : State} {d : Done} {e : Entry} (he : s.hall.entries.find? (fun x => x.no == d.no) = some e) :
    (complete s d).hall.channels = (writeCompletion s d).hall.channels ∧
      (complete s d).arch.keys = (keyPut (writeCompletion s d) d).arch.keys ∧
      (complete s d).arch.prints = (keyPut (writeCompletion s d) d).arch.prints ∧
      (complete s d).cellar.challenge = (keyPut (writeCompletion s d) d).cellar.challenge := by
  obtain ⟨hchannels, hkeys, hprints, hchallenge, _⟩ := recorded_keeps s d e
  have hcomplete := complete_of_recorded he
  rw [← hchannels, ← hkeys, ← hprints, ← hchallenge]
  generalize complete s d = t at hcomplete ⊢
  generalize recorded s d e = u at hcomplete
  exact ⟨(congrArg (fun x : State => x.hall.channels) hcomplete).trans rfl,
    (congrArg (fun x : State => x.arch.keys) hcomplete).trans rfl,
    (congrArg (fun x : State => x.arch.prints) hcomplete).trans rfl,
    (congrArg (fun x : State => x.cellar.challenge) hcomplete).trans rfl⟩

/-- The EVENT records of a completion come after that of its key. -/
theorem events_prefix_complete {s : State} {d : Done} {e : Entry}
    (he : s.hall.entries.find? (fun x => x.no == d.no) = some e) :
    (keyPut (writeCompletion s d) d).larder.events <+: (complete s d).larder.events := by
  obtain ⟨_, _, _, _, hlarder⟩ := recorded_keeps s d e
  rw [complete_of_entry he, queueAnswers_events, ← hlarder]
  exact events_prefix_raiseResult _ _

/-! ### The channel of a completed message (R115) -/

/-- With nothing else open on it, a channel is completed through its last accepted sequence. -/
theorem completedThrough_of_none_open {c : Channel} {rest : List Entry} (hrest : ∀ x ∈ rest, x.msg.chan ≠ c.code)
    (hbelow : seqBelow c.completed (c.expected - 1) = true) : completedThrough c rest = c.expected - 1 := by
  have hopen : (rest.filter fun e => e.msg.chan == c.code && seqBelow c.completed e.msg.seq &&
      !seqBelow (lastAccepted c) e.msg.seq) = [] :=
    List.filter_eq_nil_iff.mpr fun x hx => by simp [hrest x hx]
  have hlast : seqBelow c.completed (lastAccepted c) = true := hbelow
  simp only [completedThrough, hopen, List.map_nil, List.min?_nil, hlast, if_true]
  rfl

theorem mem_writeCompletion_of_other {s : State} {d : Done} {c : Channel} (hc : c ∈ s.hall.channels) (hne : c.code ≠ d.chan) :
    c ∈ (writeCompletion s d).hall.channels :=
  List.mem_map.mpr ⟨c, hc, by simp [hne]⟩

theorem mem_writeCompletion_of_only {s : State} {d : Done} {c : Channel}
    (honly : ∀ x ∈ s.hall.entries, x.no ≠ d.no → x.msg.chan ≠ d.chan) (hc : c ∈ s.hall.channels) (hcode : c.code = d.chan)
    (hbelow : seqBelow c.completed (c.expected - 1) = true) :
    { c with completed := c.expected - 1 } ∈ (writeCompletion s d).hall.channels := by
  refine List.mem_map.mpr ⟨c, hc, ?_⟩
  have hrest : ∀ x ∈ s.hall.entries.filter (fun e => e.no != d.no), x.msg.chan ≠ c.code := fun x hx => by
    obtain ⟨hmem, hno⟩ := List.mem_filter.mp hx
    rw [hcode]
    exact honly x hmem (by simpa using hno)
  rw [if_pos (by simp [hcode]), completedThrough_of_none_open hrest hbelow]

/-! ### COMPLETION_RECORD (R124) -/

/-- s with the first message done taken from those that wait for a record. -/
def doneTaken (s : State) (rest : List Done) : State := { s with hall := { s.hall with done := rest } }

theorem exec_completionRecord {s : State} {d : Done} {rest : List Done} (hd : s.hall.done = d :: rest)
    (hh : hallDispatches s = true) : exec .completionRecord s = .next (complete (doneTaken s rest) d) := by
  have hexec : exec .completionRecord s = execCompletionRecord s := rfl
  simp only [hexec, execCompletionRecord, hd, hh, if_true]
  rfl

theorem exists_entry_of_mem {l : List Entry} {e : Entry} {no : Nat} (he : e ∈ l) (hno : e.no = no) :
    ∃ x, l.find? (fun y => y.no == no) = some x := by
  rw [← Option.isSome_iff_exists, List.find?_isSome]
  exact ⟨e, he, by simp [hno]⟩

section

variable {s : State} {d : Done} {e : Entry} (he : s.hall.entries.find? (fun x => x.no == d.no) = some e)

include he

theorem complete_of_no_key (hk : d.key = none) : (complete s d).arch.keys = s.arch.keys ∧
    (complete s d).arch.prints = s.arch.prints ∧ (complete s d).cellar.challenge = s.cellar.challenge := by
  obtain ⟨_, hkeys, hprints, hchallenge⟩ := complete_keeps he
  rw [hkeys, hprints, hchallenge, keyPut_of_none hk]
  exact ⟨rfl, rfl, rfl⟩

theorem complete_of_key {role : Nat} {key : Option Block} (hk : d.key = some (role, key)) :
    (complete s d).arch.keys = s.arch.keys.set role key ∧
      (complete s d).arch.prints = s.arch.prints.set role (printOf key) ∧
      (complete s d).cellar.challenge = (if role = 0 then s.cellar.challenge else none) ∧
      eventRaised s (complete s d) 0x0205 := by
  obtain ⟨_, hkeys, hprints, hchallenge⟩ := complete_keeps he
  have hevents := events_prefix_complete he
  have hraised := eventRaised_putKey (writeCompletion s d) role key
  have hframe := putKey_frame (writeCompletion s d) role key
  rw [keyPut_of_some hk] at hkeys hprints hchallenge hevents
  rw [hkeys, hprints, hchallenge]
  generalize putKey (writeCompletion s d) role key = u at hevents hraised hframe ⊢
  refine ⟨(congrArg (fun x : State => x.arch.keys) hframe).trans rfl,
    (congrArg (fun x : State => x.arch.prints) hframe).trans rfl, ?_,
    eventRaised_of_larder (eventRaised_of_prefix hraised hevents) rfl⟩
  refine (congrArg (fun x : State => x.cellar.challenge) hframe).trans ?_
  simp [reportedAs]

end

theorem completionRecord_completes {s : State} {d : Done} {rest : List Done} {e : Entry} (hd : s.hall.done = d :: rest)
    (hh : hallDispatches s = true) (hmem : e ∈ s.hall.entries) (hno : e.no = d.no) :
    ∃ t, exec .completionRecord s = .next t ∧
      (d.key = none → t.arch.keys = s.arch.keys ∧ t.arch.prints = s.arch.prints ∧ t.cellar.challenge = s.cellar.challenge) ∧
      (∀ role key, d.key = some (role, key) → t.arch.keys = s.arch.keys.set role key ∧
        t.arch.prints = s.arch.prints.set role (printOf key) ∧
        t.cellar.challenge = (if role = 0 then s.cellar.challenge else none) ∧ eventRaised s t 0x0205) ∧
      (∀ c ∈ s.hall.channels, c.code ≠ d.chan → c ∈ t.hall.channels) ∧
      ((∀ x ∈ s.hall.entries, x.no ≠ d.no → x.msg.chan ≠ d.chan) → ∀ c ∈ s.hall.channels, c.code = d.chan →
        seqBelow c.completed (c.expected - 1) = true → { c with completed := c.expected - 1 } ∈ t.hall.channels) ∧
      t = reportedAs t (queuedAs t (recordedAs t (doneTaken s rest) d)) := by
  obtain ⟨x, hx⟩ := exists_entry_of_mem hmem hno
  have hx' : (doneTaken s rest).hall.entries.find? (fun y => y.no == d.no) = some x := hx
  obtain ⟨hchannels, _⟩ := complete_keeps hx'
  refine ⟨_, exec_completionRecord hd hh, complete_of_no_key hx', fun role key hk => complete_of_key hx' hk, ?_, ?_,
    complete_frame hx'⟩
  · rw [hchannels]
    exact fun c hc hne => mem_writeCompletion_of_other (s := doneTaken s rest) hc hne
  · rw [hchannels]
    exact fun honly c hc hcode hbelow => mem_writeCompletion_of_only (s := doneTaken s rest) honly hc hcode hbelow

/-! ### STATE_QUERY (R140) -/

theorem bit_le (b : Bool) : bit b ≤ 1 := by cases b <;> decide

/-- The flags of a STATE report: the channel's code above four bits. -/
theorem halfAt_stateFlags (code : Half) (a b c d : Bool) (ws : List Word) :
    halfAt (wordsBytes (pack [(code.toNat, 16), (bit a, 3), (bit b, 2), (bit c, 1), (bit d, 0)] :: ws)) 0 = code := by
  have hlt : bit a * 8 + (bit b * 4 + (bit c * 2 + bit d)) < 65536 := by
    have ha := bit_le a
    have hb := bit_le b
    have hc := bit_le c
    have hd := bit_le d
    omega
  have hpack : pack [(code.toNat, 16), (bit a, 3), (bit b, 2), (bit c, 1), (bit d, 0)] =
      BitVec.ofNat 32 (code.toNat * 65536 + (bit a * 8 + (bit b * 4 + (bit c * 2 + bit d)))) := by
    simp [pack, Nat.add_assoc]
  rw [halfAt_wordsBytes, hpack]
  exact upper_of_pack code _ hlt

theorem statePayload_code (s : State) (code : Half) (start : Word) : halfAt (statePayload s code start) 0 = code := by
  unfold statePayload
  cases channel s code with
  | none => exact halfAt_stateFlags _ _ _ _ _ _
  | some c => exact halfAt_stateFlags _ _ _ _ _ _

/-- The STATE report of a channel that is kept gives its three sequences. -/
theorem statePayload_sequences {s : State} {code : Half} {c : Channel} (hc : channel s code = some c) (start : Word) :
    wordAt (statePayload s code start) 4 = c.expected ∧ wordAt (statePayload s code start) 8 = c.expected - 1 ∧
      wordAt (statePayload s code start) 12 = c.completed := by
  simp only [statePayload, hc, List.cons_append, List.nil_append]
  exact ⟨wordAt_wordsBytes _ 1 _ rfl, wordAt_wordsBytes _ 2 _ rfl, wordAt_wordsBytes _ 3 _ rfl⟩

theorem exec_stateQuery {s : State} {m : Msg} (ht : takeDispatch s 0x0001 = some m) :
    exec .stateQuery s = .next (finishedAs s m { doneOf m (if (channel s (halfAt m.body 0)).isSome then 0 else 3) with
      answers := [{ rtype := 0x0020
                    payload := statePayload (dispatchedTo s m false) (halfAt m.body 0) (wordAt m.body 4) }] }) := by
  have hexec : exec .stateQuery s = dispatch s 0x0001 stateQuery := rfl
  rw [hexec, dispatch_takes _ ht]
  rfl

/-! ### QUERY (R141) -/

/-- The fields of a QUERY report's header. -/
theorem queryPayload_header (item : Half) (status : Nat) (arg : Word) (data : List Word) (hs : status ≤ 1) :
    halfAt (queryPayload item status arg data) 0 = item ∧ wordAt (queryPayload item status arg data) 4 = arg ∧
      byteAt (queryPayload item status arg data) 2 = BitVec.ofNat 8 status := by
  have hpack : pack [(item.toNat, 16), (status, 8)] = BitVec.ofNat 32 (item.toNat * 65536 + status * 256) := by simp [pack]
  refine ⟨?_, wordAt_wordsBytes _ 1 _ rfl, ?_⟩
  · rw [queryPayload, halfAt_wordsBytes, hpack]
    exact upper_of_pack item _ (by omega)
  · rw [queryPayload, byteAt_wordsBytes_two, hpack]
    have hlt := item.isLt
    refine BitVec.eq_of_toNat_eq ?_
    simp only [BitVec.toNat_ofNat]
    omega

/-- A free value apart, the answer to a QUERY leaves the state as it is. -/
theorem queryItem_state (s : State) (item : Nat) (arg : Word) : ∃ n, (queryItem s item arg).2 = { s with fresh := n } := by
  have hpress : ∃ n, (pressItem s).2 = { s with fresh := n } := by
    simp only [pressItem, effectiveBits]
    split
    · exact ⟨_, rfl⟩
    · exact ⟨_, rfl⟩
  unfold queryItem
  split
  case h_8 => split <;> exact ⟨_, rfl⟩
  case h_10 => exact hpress
  case h_14 => split <;> exact ⟨_, rfl⟩
  all_goals exact ⟨_, rfl⟩

theorem queryItem_status_le (s : State) (item : Nat) (arg : Word) : (queryItem s item arg).1.1 ≤ 1 := by
  unfold queryItem
  (repeat' split) <;> simp

theorem queryItem_of_listed (s : State) {item : Half} (arg : Word) (h : item ∈ queryItems) :
    (queryItem s item.toNat arg).1.1 = 0 := by
  simp only [queryItems, List.mem_cons, List.not_mem_nil, or_false] at h
  rcases h with h | h | h | h | h | h | h | h | h | h | h | h | h | h | h | h | h <;> subst h <;> rfl

theorem queryItem_of_unlisted (s : State) {item : Half} (arg : Word) (h : item ∉ queryItems) (h5 : item ≠ 0x0502)
    (h9 : item ≠ 0x0902) : (queryItem s item.toNat arg).1 = (1, []) := by
  have hnot : item.toNat ∉ (0x0502#16 :: 0x0902#16 :: queryItems).map BitVec.toNat := by
    rw [List.mem_map]
    rintro ⟨x, hx, heq⟩
    obtain rfl := BitVec.eq_of_toNat_eq heq
    rcases List.mem_cons.mp hx with hx | hx
    · exact h5 hx
    · rcases List.mem_cons.mp hx with hx | hx
      · exact h9 hx
      · exact h hx
  unfold queryItem
  split
  case h_20 => rfl
  all_goals
    next heq =>
      rw [heq] at hnot
      exact absurd (by decide) hnot

theorem exec_query {s : State} {m : Msg} (ht : takeDispatch s 0x0002 = some m) :
    exec .query s = .next (answerWith (queryItem (dispatchedTo s m false) (halfAt m.body 0).toNat (wordAt m.body 4)).2 m 0
      [{ rtype := 0x0021
         payload := queryPayload (halfAt m.body 0)
          (queryItem (dispatchedTo s m false) (halfAt m.body 0).toNat (wordAt m.body 4)).1.1 (wordAt m.body 4)
          (queryItem (dispatchedTo s m false) (halfAt m.body 0).toNat (wordAt m.body 4)).1.2 }]) := by
  have hexec : exec .query s = dispatch s 0x0002 queryAt := rfl
  rw [hexec, dispatch_takes _ ht]
  rfl

theorem query_answers {s : State} {m : Msg} (ht : takeDispatch s 0x0002 = some m) :
    ∃ t b, exec .query s = .next t ∧
      t = { finishedAs s m { doneOf m 0 with answers := [{ rtype := 0x0021, payload := b }] } with fresh := t.fresh } ∧
      halfAt b 0 = halfAt m.body 0 ∧ wordAt b 4 = wordAt m.body 4 ∧ (halfAt m.body 0 ∈ queryItems → byteAt b 2 = 0) ∧
      (halfAt m.body 0 ∉ queryItems → halfAt m.body 0 ≠ 0x0502 → halfAt m.body 0 ≠ 0x0902 → byteAt b 2 = 1 ∧ b.length = 8) := by
  obtain ⟨n, hn⟩ := queryItem_state (dispatchedTo s m false) (halfAt m.body 0).toNat (wordAt m.body 4)
  have hle := queryItem_status_le (dispatchedTo s m false) (halfAt m.body 0).toNat (wordAt m.body 4)
  have hlisted := queryItem_of_listed (dispatchedTo s m false) (item := halfAt m.body 0) (wordAt m.body 4)
  have hother := queryItem_of_unlisted (dispatchedTo s m false) (item := halfAt m.body 0) (wordAt m.body 4)
  rw [exec_query ht, hn]
  generalize (queryItem (dispatchedTo s m false) (halfAt m.body 0).toNat (wordAt m.body 4)).1 = r at hle hlisted hother ⊢
  obtain ⟨hitem, harg, hstatus⟩ := queryPayload_header (halfAt m.body 0) r.1 (wordAt m.body 4) r.2 hle
  refine ⟨_, _, rfl, rfl, hitem, harg, fun h => ?_, fun h h5 h9 => ?_⟩
  · rw [hstatus, hlisted h]
    rfl
  · rw [hstatus, hother h h5 h9]
    exact ⟨rfl, wordsBytes_length _⟩

/-! ### AUDIT_READ (R159) -/

theorem exec_auditRead {s : State} {m : Msg} (ht : takeDispatch s 0x0051 = some m) :
    exec .auditRead s = .next (finishedAs s m { doneOf m 0 with
      answers := [{ rtype := 0x0021, payload := queryPayload 0x0202 0 (wordAt m.body 0) (auditSnapshot s (wordAt m.body 0)) }] }) := by
  have hexec : exec .auditRead s = execAuditRead s := rfl
  rw [hexec, execAuditRead, dispatch_takes _ ht]
  rfl

theorem auditSnapshot_newest (s : State) (start : Word) (item : Half) (status : Nat) :
    wordAt (queryPayload item status start (auditSnapshot s start)) 8 = s.arch.auditNext - 1 :=
  wordAt_wordsBytes _ 2 _ rfl

/-! ### The obligation -/

/-- Settles O26: the completion record by its parts, and each query by the fields of its one answer. -/
theorem completionsAndQueries : Obligations.CompletionsAndQueries := by
  unfold Obligations.CompletionsAndQueries
  refine ⟨fun s d rest e hd hh hmem hno => ?_, fun s m => ⟨fun ht => ?_, query_answers, fun ht => ?_⟩⟩
  · obtain ⟨t, hexec, hnone, hsome, hother, honly, hframe⟩ := completionRecord_completes hd hh hmem hno
    refine ⟨t, hexec, hnone, fun role key hk => ?_, fun role hk => ?_, fun role k hk => ?_, hother, honly, hframe⟩
    · obtain ⟨hkeys, hprints, _⟩ := hsome role _ hk
      exact ⟨hkeys, hprints⟩
    · obtain ⟨hkeys, hprints, _⟩ := hsome role _ hk
      exact ⟨hkeys, hprints⟩
    · obtain ⟨_, _, hchallenge, hraised⟩ := hsome role _ hk
      exact ⟨hraised, hchallenge⟩
  · refine ⟨_, _, _, exec_stateQuery ht, rfl, statePayload_code _ _ _, fun hc => by simp [hc], fun c hc => ⟨by simp [hc], ?_⟩⟩
    exact statePayload_sequences (s := dispatchedTo s m false) hc _
  · obtain ⟨hitem, harg, hstatus⟩ :=
      queryPayload_header 0x0202 0 (wordAt m.body 0) (auditSnapshot s (wordAt m.body 0)) (by decide)
    exact ⟨_, _, exec_auditRead ht, rfl, hitem, hstatus, harg, auditSnapshot_newest _ _ _ _⟩

end Sys2Proof.Machine

/-! ## Objects: the transfer, its commit and its copy

The settlement of O28. The layers: OBJ_BEGIN and OBJ_DATA with the stretches marked valid; the content of each class and the
outcomes of OBJ_COMMIT; the copy that runs; the object of each class in its place. -/

namespace Sys2Proof.Machine

open Sys2Proof

/-! ### OBJ_BEGIN and OBJ_DATA (R138, R139) -/

theorem exec_objBegin_opens {s : State} {m : Msg} (ht : takeDispatch s 0x0020 = some m) (hnone : s.arch.transfer = none) :
    exec .objBegin s = .next (finishedAs { s with arch := { s.arch with
      shadow := [], closing := none, badWords := (heal s shadowPlace shadowSize).arch.badWords
      transfer := some (beginTransfer m) } } m (doneOf m 0)) := by
  have hexec : exec .objBegin s = execObjBegin s := rfl
  have hnone' : (dispatchedTo s m false).arch.transfer = none := hnone
  rw [hexec, execObjBegin, dispatch_takes _ ht]
  simp only [objBegin, hnone']
  rfl

/-- The stretches after one more has been marked: some stretch holds the whole of it. -/
theorem cover_holds (l : List (Nat × Nat)) (lo hi : Nat) : ∃ x ∈ cover l lo hi, x.1 ≤ lo ∧ hi ≤ x.2 := by
  induction l generalizing lo hi with
  | nil => exact ⟨_, List.mem_singleton_self _, le_refl _, le_refl _⟩
  | cons y l ih =>
    obtain ⟨a, b⟩ := y
    unfold cover
    split
    · exact ⟨_, List.mem_cons_self, le_refl _, le_refl _⟩
    · split
      · obtain ⟨x, hx, hlo, hhi⟩ := ih lo hi
        exact ⟨x, List.mem_cons_of_mem _ hx, hlo, hhi⟩
      · obtain ⟨x, hx, hlo, hhi⟩ := ih (min a lo) (max b hi)
        exact ⟨x, hx, hlo.trans (min_le_right _ _), (le_max_right _ _).trans hhi⟩

section

variable {s : State} {m : Msg} {r : Transfer} (ht : takeDispatch s 0x0021 = some m) (hr : s.arch.transfer = some r)

include ht hr

theorem exec_objData_stores (hnames : namesTransfer r m.body = true)
    (hfits : (wordAt m.body 8).toNat + (m.body.drop 12).length ≤ r.size) :
    exec .objData s = .next (finishedAs { s with arch := { s.arch with
      shadow := Memory.writeBytes s.arch.shadow (wordAt m.body 8).toNat (m.body.drop 12)
      transfer := some (markValid r (wordAt m.body 8).toNat (m.body.drop 12).length) } } m (doneOf m 0)) := by
  have hexec : exec .objData s = execObjData s := rfl
  have hr' : (dispatchedTo s m false).arch.transfer = some r := hr
  rw [hexec, execObjData, dispatch_takes _ ht]
  simp only [objData, hr', hnames, Nat.not_lt.mpr hfits, Bool.not_true, Bool.false_eq_true, if_false]
  rfl

theorem exec_objData_of_other (hnames : namesTransfer r m.body = false) :
    exec .objData s = .next (finishedAs s m (doneOf m 1)) := by
  have hexec : exec .objData s = execObjData s := rfl
  have hr' : (dispatchedTo s m false).arch.transfer = some r := hr
  rw [hexec, execObjData, dispatch_takes _ ht]
  simp only [objData, hr', hnames, Bool.not_false, if_true]
  rfl

theorem exec_objData_of_beyond (hnames : namesTransfer r m.body = true)
    (hbeyond : r.size < (wordAt m.body 8).toNat + (m.body.drop 12).length) :
    exec .objData s = .next (finishedAs s m (doneOf m 3)) := by
  have hexec : exec .objData s = execObjData s := rfl
  have hr' : (dispatchedTo s m false).arch.transfer = some r := hr
  rw [hexec, execObjData, dispatch_takes _ ht]
  simp only [objData, hr', hnames, hbeyond, Bool.not_true, Bool.false_eq_true, if_false, if_true]
  rfl

end

/-! ### The content of a class (R232, R243, R247, R380, R381) -/

theorem refusedContent_of_holds {s : State} {r : Transfer} (h : contentHolds s r) : refusedContent s r = none := by
  rcases h with ⟨hcls, h⟩ | ⟨hcls, h⟩ | ⟨hcls, h⟩ | ⟨hcls, h⟩ | ⟨hcls, h⟩ | ⟨hcls, hformat, hsize⟩
  · simp [refusedContent, hcls, h]
  · simp [refusedContent, hcls, h]
  · simp [refusedContent, hcls, h]
  · simp [refusedContent, hcls, h]
  · simp [refusedContent, hcls, h]
  · simp [refusedContent, hcls, hformat, hsize]

/-- What a refusal of the content of r leaves: the EVENT of its class, or for a colophon object none. -/
def contentRefused (s u : State) (r : Transfer) : Prop :=
  (r.cls = 1 ∨ r.cls = 2 → eventRaised s u 0x0603) ∧ (r.cls = 3 ∨ r.cls = 4 → eventRaised s u 0x0505) ∧
    (r.cls = 5 → eventRaised s u 0x0B05) ∧ u = reportedAs u s

theorem contentRefused_raise {s : State} {r : Transfer} {code : Half} (a : Half) (b : Word)
    (hslate : r.cls = 1 ∨ r.cls = 2 → code = 0x0603) (hcal : r.cls = 3 ∨ r.cls = 4 → code = 0x0505)
    (hpatch : r.cls = 5 → code = 0x0B05) : contentRefused s (raise s code a b) r :=
  ⟨fun h => hslate h ▸ eventRaised_raise s code a b, fun h => hcal h ▸ eventRaised_raise s code a b,
    fun h => hpatch h ▸ eventRaised_raise s code a b, raise_frame s code a b⟩

theorem refusedContent_of_calibration {s : State} {r : Transfer} (hcls : r.cls = 3 ∨ r.cls = 4)
    (hbad : calibrationReason s r.cls.toNat (Memory.bytes s.arch.shadow 6172) r.size ≠ none) :
    ∃ u, refusedContent s r = some u ∧ contentRefused s u r := by
  obtain ⟨why, hwhy⟩ := Option.ne_none_iff_exists'.mp hbad
  refine ⟨raise s 0x0505 (BitVec.ofNat 16 why) r.identity, ?_, contentRefused_raise _ _ ?_ (fun _ => rfl) ?_⟩
  · rcases hcls with h | h
    · have hn : r.cls.toNat = 3 := by rw [h]; rfl
      rw [hn] at hwhy
      simp only [refusedContent, hn, Nat.reduceAdd, hwhy]
    · have hn : r.cls.toNat = 4 := by rw [h]; rfl
      rw [hn] at hwhy
      simp only [refusedContent, hn, Nat.reduceAdd, hwhy]
  · rcases hcls with h | h <;> simp [h]
  · rcases hcls with h | h <;> simp [h]

theorem refusedContent_of_not_holds {s : State} {r : Transfer} (hlo : 1 ≤ r.cls.toNat) (hhi : r.cls.toNat ≤ 6)
    (hbad : ¬ contentHolds s r) : ∃ u, refusedContent s r = some u ∧ contentRefused s u r := by
  have hclasses : r.cls = 1 ∨ r.cls = 2 ∨ r.cls = 3 ∨ r.cls = 4 ∨ r.cls = 5 ∨ r.cls = 6 := by bv_omega
  rcases hclasses with h | h | h | h | h | h
  · have hsize : r.size ∉ slateSizes s := fun hs => hbad (.inl ⟨h, hs⟩)
    exact ⟨raise s 0x0603 (r.cls ++ r.index) (BitVec.ofNat 32 r.size), by simp [refusedContent, h, hsize],
      contentRefused_raise _ _ (fun _ => rfl) (by simp [h]) (by simp [h])⟩
  · have hsize : r.size ≠ 8192 := fun hs => hbad (.inr (.inl ⟨h, hs⟩))
    exact ⟨raise s 0x0603 (r.cls ++ r.index) (BitVec.ofNat 32 r.size), by simp [refusedContent, h, hsize],
      contentRefused_raise _ _ (fun _ => rfl) (by simp [h]) (by simp [h])⟩
  · exact refusedContent_of_calibration (.inl h) fun hnone => hbad (.inr (.inr (.inl ⟨h, by rwa [h] at hnone⟩)))
  · exact refusedContent_of_calibration (.inr h) fun hnone => hbad (.inr (.inr (.inr (.inl ⟨h, by rwa [h] at hnone⟩))))
  · have hpatch : patchOk (Memory.bytes s.arch.shadow 32) r.size = false := by
      rw [Bool.eq_false_iff]
      exact fun hs => hbad (.inr (.inr (.inr (.inr (.inl ⟨h, hs⟩)))))
    exact ⟨raise s 0x0B05 2 r.identity, by simp [refusedContent, h, hpatch],
      contentRefused_raise _ _ (by simp [h]) (by simp [h]) (fun _ => rfl)⟩
  · have hformat : ¬ (byteAt (Memory.bytes s.arch.shadow 1) 0 = 1 ∧ 80 ≤ r.size) :=
      fun hs => hbad (.inr (.inr (.inr (.inr (.inr ⟨h, hs⟩)))))
    refine ⟨s, ?_, by simp [h], by simp [h], by simp [h], reportedAs_self s⟩
    simp only [refusedContent, h]
    simpa using hformat

/-! ### OBJ_COMMIT (R139, R244) -/

/-- s with the transfer of r closed by the message of a number. -/
def transferClosed (s : State) (r : Transfer) (no : Nat) : State :=
  { s with arch := { s.arch with transfer := none, closing := some (r, no) } }

/-- s with the copy of r begun, or waiting for a pass to end. -/
def copyStarted (s : State) (r : Transfer) (m : Msg) (begun : Bool) : State :=
  { s with
    arch := { s.arch with transfer := none, copying := some (r, m.chan, m.seq, m.no), copyBegun := begun }
    screen := { s.screen with
      cache := if r.cls = 1 ∧ begun = true
        then s.screen.cache.map fun e => if e.slate = r.index.toNat then { e with st := 0 } else e
        else s.screen.cache } }

theorem startCopy_eq (s : State) (r : Transfer) (m : Msg) :
    startCopy s r m = copyStarted s r m (!(r.cls == 1 && s.bindery.pass.isSome)) := by
  by_cases hcls : r.cls = 1
  · cases hp : s.bindery.pass <;> simp [startCopy, beginCopy, invalidateCache, copyStarted, hcls, hp]
  · simp only [startCopy, beginCopy, copyStarted, beq_eq_false_iff_ne.mpr hcls, hcls, Bool.false_and, Bool.not_false,
      Bool.false_eq_true, false_and, if_false]

section

variable {s : State} {m : Msg} {r : Transfer} (ht : takeDispatch s 0x0022 = some m) (hr : s.arch.transfer = some r)
  (hnames : namesTransfer r m.body = true)

include ht hr hnames

theorem exec_objCommit_of_bad_check (hcrc : crc32c (Memory.bytes s.arch.shadow r.size) ≠ r.check) :
    exec .objCommit s = .next (finishedAs (transferClosed s r m.no) m (doneOf m 2)) := by
  have hexec : exec .objCommit s = execObjCommit s := rfl
  have hr' : (dispatchedTo s m false).arch.transfer = some r := hr
  have hcrc' : (crc32c (Memory.bytes (dispatchedTo s m false).arch.shadow r.size) != r.check) = true := bne_iff_ne.mpr hcrc
  rw [hexec, execObjCommit, dispatch_takes _ ht]
  simp only [objCommit, hr', hnames, hcrc', Bool.not_true, Bool.false_eq_true, if_false, if_true]
  rfl

variable (hcrc : crc32c (Memory.bytes s.arch.shadow r.size) = r.check)

include hcrc

/-- An object whose check holds is judged by its content, as the state with its transfer closed has it. -/
theorem exec_objCommit_of_good_check : exec .objCommit s = .next
    (match refusedContent (transferClosed (dispatchedTo s m false) r m.no) r with
      | some u => doneWith u m 3
      | none => startCopy (dispatchedTo s m false) r m) := by
  have hexec : exec .objCommit s = execObjCommit s := rfl
  have hr' : (dispatchedTo s m false).arch.transfer = some r := hr
  have hcrc' : (crc32c (Memory.bytes (dispatchedTo s m false).arch.shadow r.size) != r.check) = false :=
    bne_eq_false_iff_eq.mpr hcrc
  rw [hexec, execObjCommit, dispatch_takes _ ht]
  simp only [objCommit, hr', hnames, hcrc', Bool.not_true, Bool.false_eq_true, if_false]
  rfl

theorem exec_objCommit_of_holds (hcontent : contentHolds s r) : exec .objCommit s =
    .next (dispatchedTo (copyStarted s r m (!(r.cls == 1 && s.bindery.pass.isSome))) m false) := by
  have hcontent' : contentHolds (transferClosed (dispatchedTo s m false) r m.no) r := hcontent
  rw [exec_objCommit_of_good_check ht hr hnames hcrc, refusedContent_of_holds hcontent', startCopy_eq]
  rfl

theorem exec_objCommit_of_refused (hlo : 1 ≤ r.cls.toNat) (hhi : r.cls.toNat ≤ 6) (hbad : ¬ contentHolds s r) :
    ∃ t, exec .objCommit s = .next t ∧ (r.cls = 1 ∨ r.cls = 2 → eventRaised s t 0x0603) ∧
      (r.cls = 3 ∨ r.cls = 4 → eventRaised s t 0x0505) ∧ (r.cls = 5 → eventRaised s t 0x0B05) ∧
      t = reportedAs t (finishedAs (transferClosed s r m.no) m (doneOf m 3)) := by
  have hbad' : ¬ contentHolds (transferClosed (dispatchedTo s m false) r m.no) r := hbad
  obtain ⟨u, hu, hslate, hcal, hpatch, hframe⟩ := refusedContent_of_not_holds hlo hhi hbad'
  rw [exec_objCommit_of_good_check ht hr hnames hcrc, hu]
  exact ⟨_, rfl, hslate, hcal, hpatch, (congrArg (fun x => reportedDone x (doneOf m 3)) hframe).trans rfl⟩

end

/-! ### The copy that runs (R139, R244) -/

section

variable {s : State} {r : Transfer} {chan : Half} {q : Word} {no : Nat} (hc : s.arch.copying = some (r, chan, q, no))

include hc

theorem beginCopy_of_begun (hb : s.arch.copyBegun = true) : beginCopy s = s := by
  simp only [beginCopy, hc, hb, if_true]

theorem beginCopy_eq : beginCopy s = { s with
    arch := { s.arch with copyBegun := true }, screen := { s.screen with cache := (beginCopy s).screen.cache } } := by
  cases hb : s.arch.copyBegun
  · simp only [beginCopy, hc, hb]
    by_cases hcls : r.cls = 1
    · simp [invalidateCache, hcls]
    · simp only [beq_eq_false_iff_ne.mpr hcls, Bool.false_eq_true, if_false]
  · rw [beginCopy_of_begun hc hb, ← hb]

theorem beginCopy_cache_of_other (hcls : r.cls ≠ 1) : (beginCopy s).screen.cache = s.screen.cache := by
  simp only [beginCopy, hc]
  cases s.arch.copyBegun <;> simp only [beq_eq_false_iff_ne.mpr hcls, Bool.false_eq_true, if_false, if_true]

/-- An entry of the cache that is to be filled once the copy ends is so, whether or not the copy's begin made it invalid. -/
theorem beginCopy_cache_filled :
    ((beginCopy s).screen.cache.map fun e => if e.slate == r.index.toNat then { e with st := 1 } else e) =
      s.screen.cache.map fun e => if e.slate = r.index.toNat then { e with st := 1 } else e := by
  simp only [beq_iff_eq]
  cases hb : s.arch.copyBegun
  · by_cases hcls : r.cls = 1
    · have hcls' : (r.cls == 1) = true := beq_iff_eq.mpr hcls
      simp only [beginCopy, hc, hb, invalidateCache, hcls', Bool.false_eq_true, if_false, if_true, List.map_map]
      refine List.map_congr_left fun e _ => ?_
      by_cases he : e.slate = r.index.toNat <;> simp [he]
    · rw [beginCopy_cache_of_other hc hcls]
  · rw [beginCopy_of_begun hc hb]

/-- s with the copy of r over and its cache that of c, its object not placed yet. -/
def copyOver (s : State) (r : Transfer) (no : Nat) (c : List CacheEntry) : State :=
  { s with
    arch := { s.arch with copying := none, closing := some (r, no), copyBegun := true }
    screen := { s.screen with cache := c } }

theorem exec_objCommitCopyEnd (hh : hallDispatches s = true) (hrun : s.arch.copyBegun = true ∨ s.bindery.pass = none) :
    exec .objCommitCopyEnd s = .next (reportedDone (placeObject (copyOver s r no (beginCopy s).screen.cache) r)
      { chan := chan, seq := q, no := no, result := 0, answers := [], key := none }) := by
  have hexec : exec .objCommitCopyEnd s = execObjCommitCopyEnd s := rfl
  have hheld : copyHeld s = false := by
    rcases hrun with h | h <;> simp [copyHeld, h]
  have hbegin := beginCopy_eq hc
  simp only [hexec, execObjCommitCopyEnd, hc, hh, hheld, Bool.not_true, Bool.or_self, Bool.false_eq_true, if_false]
  rw [hbegin]
  rfl

end

/-! ### The object in its place (R231, R233, R243, R244, R247, R320, R380, R381) -/

section

variable (s : State) {r : Transfer}

theorem placeObject_slate (h : r.cls = 1) : placeObject s r = { s with
    arch := { s.arch with
      badWords := (healObject s r).arch.badWords, slates := s.arch.slates.set r.index.toNat (some (storedFrom s r)) }
    bindery := { s.bindery with passWanted := s.bindery.passWanted || slateFeeds s r.index.toNat }
    screen := { s.screen with
      cache := s.screen.cache.map fun e => if e.slate == r.index.toNat then { e with st := 1 } else e
      counts := bump s.screen.counts 8 } } := by
  simp only [placeObject, healObject, h]
  rfl

theorem placeObject_curve (h : r.cls = 2) : placeObject s r = { s with
    arch := { s.arch with
      badWords := (healObject s r).arch.badWords, curves := s.arch.curves.set r.index.toNat (some (storedFrom s r)) }
    bindery := { s.bindery with loadDue := some (s.bindery.loadDue.getD s.now), loadCurves := true }
    screen := { s.screen with counts := bump s.screen.counts 9 } } := by
  simp only [placeObject, healObject, askLoad, h, Bool.or_false, Bool.or_true]
  rfl

theorem placeObject_image (h : r.cls = 3) : placeObject s r = { s with
    arch := { s.arch with badWords := (healObject s r).arch.badWords, calibration := some (storedFrom s r) }
    bindery := { s.bindery with loadDue := some (s.bindery.loadDue.getD s.now), loadCal := true } } := by
  simp only [placeObject, healObject, askLoad, h, Bool.or_false, Bool.or_true]
  rfl

/-- s with a factory object and its image in place, their loads asked for, and no sink declared any more. -/
def factoryPlaced (s : State) (r : Transfer) : State :=
  { s with
    arch := { s.arch with
      badWords := (healObject s r).arch.badWords, factory := some (objFrom s.arch.shadow 0 6144 r.identity)
      calibration := some (objFrom s.arch.shadow 6144 (r.size - 6144) r.identity), mapRecords := [], disabled := [] }
    bindery := { s.bindery with loadDue := some (s.bindery.loadDue.getD s.now), loadCal := true, loadFactory := true }
    coll := { s.coll with
      emitters := s.coll.emitters.filter (fun e => decide (e.2.count < 3))
      columns := s.coll.columns.filter (fun e => decide (e.2.count < 3))
      rows := s.coll.rows.filter (fun e => decide (e.2.count < 3)) } }

theorem placeObject_factory (h : r.cls = 4) :
    ∃ a b, placeObject s r = raise (factoryPlaced s r) 0x0802 a b := by
  simp only [placeObject, healObject, askLoad, clearMap, factoryPlaced, h, Bool.or_false, Bool.or_true]
  exact ⟨_, _, rfl⟩

theorem placeObject_patch (h : r.cls = 5) : placeObject s r = { s with arch := { s.arch with
    badWords := (healObject s r).arch.badWords, patch := some (storedFrom s r) } } := by
  simp only [placeObject, healObject, h]
  rfl

theorem placeObject_colophon (h : r.cls = 6) : placeObject s r = { s with arch := { s.arch with
    badWords := (healObject s r).arch.badWords, colophon := colophonOf (Memory.bytes s.arch.shadow 80) } } := by
  simp only [placeObject, healObject, h]
  rfl

end

/-! ### The obligation -/

section

variable {s : State} {r : Transfer} {chan : Half} {q : Word} {no : Nat} (hc : s.arch.copying = some (r, chan, q, no))
  (hh : hallDispatches s = true)

include hc hh

theorem objCommitCopyEnd_curve (hb : s.arch.copyBegun = true) (hcls : r.cls = 2) :
    ∃ t, exec .objCommitCopyEnd s = .next t ∧
      t = reportedDone { s with
        arch := { s.arch with
          copying := none, closing := some (r, no), badWords := t.arch.badWords
          curves := s.arch.curves.set r.index.toNat (some (storedFrom s r)) }
        bindery := { s.bindery with loadDue := some (s.bindery.loadDue.getD s.now), loadCurves := true }
        screen := { s.screen with counts := bump s.screen.counts 9 } }
        { chan := chan, seq := q, no := no, result := 0, answers := [], key := none } := by
  refine ⟨_, exec_objCommitCopyEnd hc hh (.inl hb), ?_⟩
  rw [placeObject_curve _ hcls, beginCopy_of_begun hc hb]
  unfold copyOver
  rw [← hb]
  rfl

variable (hrun : s.arch.copyBegun = true ∨ s.bindery.pass = none)

include hrun

theorem objCommitCopyEnd_slate (hcls : r.cls = 1) :
    ∃ t, exec .objCommitCopyEnd s = .next t ∧
      t = { copyEnded s t r chan q no
              (fun a => { a with slates := s.arch.slates.set r.index.toNat (some (storedFrom s r)) }) false false with
        bindery := { s.bindery with passWanted := s.bindery.passWanted || slateFeeds s r.index.toNat }
        screen := { s.screen with
          cache := s.screen.cache.map (fun e => if e.slate = r.index.toNat then { e with st := 1 } else e)
          counts := bump s.screen.counts 8 } } := by
  refine ⟨_, exec_objCommitCopyEnd hc hh hrun, ?_⟩
  rw [placeObject_slate _ hcls, ← beginCopy_cache_filled hc]
  rfl

theorem objCommitCopyEnd_image (hcls : r.cls = 3) :
    ∃ t, exec .objCommitCopyEnd s = .next t ∧
      t = copyEnded s t r chan q no (fun a => { a with calibration := some (storedFrom s r) }) true false := by
  refine ⟨_, exec_objCommitCopyEnd hc hh hrun, ?_⟩
  rw [placeObject_image _ hcls, beginCopy_cache_of_other hc (by simp [hcls])]
  simp only [copyEnded, Bool.or_false, Bool.or_true, if_true]
  rfl

theorem objCommitCopyEnd_patch (hcls : r.cls = 5) :
    ∃ t, exec .objCommitCopyEnd s = .next t ∧
      t = copyEnded s t r chan q no (fun a => { a with patch := some (storedFrom s r) }) false false := by
  refine ⟨_, exec_objCommitCopyEnd hc hh hrun, ?_⟩
  rw [placeObject_patch _ hcls, beginCopy_cache_of_other hc (by simp [hcls])]
  simp only [copyEnded, Bool.or_false, Bool.false_eq_true, if_false]
  rfl

theorem objCommitCopyEnd_colophon (hcls : r.cls = 6) :
    ∃ t, exec .objCommitCopyEnd s = .next t ∧
      t = copyEnded s t r chan q no (fun a => { a with colophon := colophonOf (Memory.bytes s.arch.shadow 80) }) false false := by
  refine ⟨_, exec_objCommitCopyEnd hc hh hrun, ?_⟩
  rw [placeObject_colophon _ hcls, beginCopy_cache_of_other hc (by simp [hcls])]
  simp only [copyEnded, Bool.or_false, Bool.false_eq_true, if_false]
  rfl

theorem objCommitCopyEnd_factory (hcls : r.cls = 4) :
    ∃ t, exec .objCommitCopyEnd s = .next t ∧ eventRaised s t 0x0802 ∧
      t = reportedAs t { copyEnded s t r chan q no
              (fun a => { a with
                factory := some (objFrom s.arch.shadow 0 6144 r.identity)
                calibration := some (objFrom s.arch.shadow 6144 (r.size - 6144) r.identity), mapRecords := [], disabled := [] })
              true true with
        coll := { s.coll with
          emitters := s.coll.emitters.filter (fun e => decide (e.2.count < 3))
          columns := s.coll.columns.filter (fun e => decide (e.2.count < 3))
          rows := s.coll.rows.filter (fun e => decide (e.2.count < 3)) } } := by
  obtain ⟨a, b, hplaced⟩ := placeObject_factory (copyOver s r no (beginCopy s).screen.cache) hcls
  refine ⟨_, exec_objCommitCopyEnd hc hh hrun, ?_⟩
  rw [hplaced, beginCopy_cache_of_other hc (by simp [hcls])]
  have hraised := eventRaised_raise (factoryPlaced (copyOver s r no s.screen.cache) r) 0x0802 a b
  have hframe := raise_frame (factoryPlaced (copyOver s r no s.screen.cache) r) 0x0802 a b
  generalize raise (factoryPlaced (copyOver s r no s.screen.cache) r) 0x0802 a b = u at hraised hframe ⊢
  generalize hd : ({ chan := chan, seq := q, no := no, result := 0, answers := [], key := none } : Done) = d
  have hbad : (reportedDone u d).arch.badWords = (healObject (copyOver s r no s.screen.cache) r).arch.badWords :=
    (congrArg (fun x : State => x.arch.badWords) hframe).trans rfl
  refine ⟨hraised, ?_⟩
  simp only [copyEnded, Bool.or_true, if_true]
  rw [hbad, hd]
  exact (congrArg (fun x => reportedDone x d) hframe).trans rfl

end

/-- OBJ_DATA within the size of its transfer stores its bytes there and marks them valid. -/
theorem objData_stores {s : State} {m : Msg} {r : Transfer} (ht : takeDispatch s 0x0021 = some m)
    (hr : s.arch.transfer = some r) (hnames : namesTransfer r m.body = true)
    (hfits : (wordAt m.body 8).toNat + (m.body.drop 12).length ≤ r.size) (hwf : Memory.wf s.arch.shadow = true) :
    ∃ t c, exec .objData s = .next t ∧
      (∀ i, i < (m.body.drop 12).length →
        Memory.read t.arch.shadow ((wordAt m.body 8).toNat + i) = (m.body.drop 12).getD i 0) ∧
      (∀ a, a < (wordAt m.body 8).toNat ∨ (wordAt m.body 8).toNat + (m.body.drop 12).length ≤ a →
        Memory.read t.arch.shadow a = Memory.read s.arch.shadow a) ∧
      (∃ x ∈ c, x.1 ≤ (wordAt m.body 8).toNat ∧ (wordAt m.body 8).toNat + (m.body.drop 12).length ≤ x.2) ∧
      t = finishedAs { s with arch := { s.arch with
        shadow := t.arch.shadow, transfer := some { r with covered := c, received := (c.map fun x => x.2 - x.1).sum } } } m
        (doneOf m 0) :=
  ⟨_, _, exec_objData_stores ht hr hnames hfits, fun i hi => Memory.read_writeBytes_inside _ _ i _ hwf hi,
    fun a ha => Memory.read_writeBytes_outside _ _ a _ ha, cover_holds r.covered _ _, rfl⟩

/-- Settles O28: each command of the transfer by the equation of its outcome, and the end of the copy by class. -/
theorem objectsAreTransferredAndCopied : Obligations.ObjectsAreTransferredAndCopied := by
  unfold Obligations.ObjectsAreTransferredAndCopied
  refine ⟨fun s m => ⟨fun ht hnone => ⟨_, exec_objBegin_opens ht hnone, rfl⟩,
    fun r ht hr hnames hfits hwf => objData_stores ht hr hnames hfits hwf, fun r ht hr => ⟨?_, ?_⟩,
    fun r ht hr hnames hcrc => ⟨?_, ?_⟩, fun r ht hr hnames hcrc => ⟨_, exec_objCommit_of_bad_check ht hr hnames hcrc, rfl⟩⟩,
    fun s r chan q no hc hh hb hcls _ => objCommitCopyEnd_curve hc hh hb hcls,
    fun s r chan q no hc hh hrun => ⟨objCommitCopyEnd_slate hc hh hrun, objCommitCopyEnd_image hc hh hrun,
      objCommitCopyEnd_factory hc hh hrun, objCommitCopyEnd_patch hc hh hrun, objCommitCopyEnd_colophon hc hh hrun⟩⟩
  · exact fun hnames => ⟨_, exec_objData_of_other ht hr hnames, rfl⟩
  · exact fun hnames hbeyond => ⟨_, exec_objData_of_beyond ht hr hnames hbeyond, rfl⟩
  · exact fun hcontent => ⟨_, exec_objCommit_of_holds ht hr hnames hcrc hcontent, rfl, rfl⟩
  · exact exec_objCommit_of_refused ht hr hnames hcrc

end Sys2Proof.Machine

/-! ## What the parts of a render point may change

For O14. A render point is five parts in a row: the cues fire, the due slots are taken, the show moves on, a pass starts, and the
power state is chosen. For each part one frame says what it may change; each operation of the part keeps to it, and lets the
EVENT records of queue 0x02 stand. -/

namespace Sys2Proof.Machine

open Sys2Proof

/-! ### Changes within a frame -/

/-- F t s is s with some parts as they are in t, the EVENT records among them. -/
structure IsFrame (F : State → State → State) : Prop where
  self : ∀ s, F s s = s
  absorbs : ∀ s t u, F u (F t s) = F u s
  reports : ∀ s t u, F u (reportedAs t s) = F u s

/-- From s to t nothing has changed but what the frame F leaves open, and the EVENT records of queue 0x02 stand. -/
structure Changes (F : State → State → State) (s t : State) : Prop where
  frame : t = F t s
  events : s.larder.events <+: t.larder.events

section

variable {F G : State → State → State} (hF : IsFrame F) {s t u : State}

include hF

theorem IsFrame.of_same (h : F t t = F t s) (he : t.larder.events = s.larder.events) : Changes F s t :=
  ⟨(hF.self t).symm.trans h, he ▸ List.prefix_refl _⟩

theorem IsFrame.refl (s : State) : Changes F s s := hF.of_same rfl rfl

theorem IsFrame.trans (h : Changes F s t) (k : Changes F t u) : Changes F s u :=
  ⟨k.frame.trans ((congrArg (F u) h.frame).trans (hF.absorbs s t u)), h.events.trans k.events⟩

theorem IsFrame.of_reported (h : t = reportedAs t s) (he : s.larder.events <+: t.larder.events) : Changes F s t :=
  ⟨(hF.self t).symm.trans ((congrArg (F t) h).trans (hF.reports s t t)), he⟩

/-- IsFrame.trans with the later change first, which names the state between them. -/
theorem IsFrame.after (k : Changes F t u) (h : Changes F s t) : Changes F s u := hF.trans h k

theorem IsFrame.raise {code arg0 : Half} {arg1 : Word} (h : Changes F s t) : Changes F s (raise t code arg0 arg1) :=
  hF.trans h (hF.of_reported (raise_frame t code arg0 arg1) (events_prefix_raise t code arg0 arg1))

/-- A change within a frame is one within any frame that leaves more open. -/
theorem IsFrame.widen (hGF : ∀ s t u, F u (G t s) = F u s) (h : Changes G s t) : Changes F s t :=
  ⟨(hF.self t).symm.trans ((congrArg (F t) h.frame).trans (hGF s t t)), h.events⟩

theorem IsFrame.foldl_ite {p : State → Nat → Bool} {f : Nat → State → State} (hf : ∀ i a, Changes F a (f i a))
    (is : List Nat) (s : State) : Changes F s (is.foldl (fun a i => if p a i then f i a else a) s) := by
  induction is generalizing s with
  | nil => exact hF.refl s
  | cons i is ih =>
    rw [List.foldl_cons]
    refine hF.after (ih _) ?_
    cases p s i with
    | true => exact hf i s
    | false => exact hF.refl s

end

/-! ### The cues (R126, R179, R254, R256) -/

/-- s with what cues that fire may change, as it is in t. -/
def firedAs (t s : State) : State :=
  reportedAs t (queuedAs t { s with
    mantel := { s.mantel with cues := t.mantel.cues, counts := t.mantel.counts }
    screen := { s.screen with programme := t.screen.programme, counts := t.screen.counts }
    larder := { s.larder with feedStopped := t.larder.feedStopped, feedRestart := t.larder.feedRestart }
    hall := { s.hall with
      entries := t.hall.entries, summaries := t.hall.summaries, channels := t.hall.channels, nextNo := t.hall.nextNo
      auditedThrough := t.hall.auditedThrough }
    arch := { s.arch with
      standing := t.arch.standing, tolUs := t.arch.tolUs, audit := t.arch.audit, auditNext := t.arch.auditNext
      closing := t.arch.closing } })

theorem firedAs_isFrame : IsFrame firedAs where
  self s := (reportedAs_self s).symm
  absorbs s t u := by cases h : s.cellar.failAt <;> simp [firedAs, queuedAs, reportedAs, h]
  reports s t u := by cases h : s.cellar.failAt <;> simp [firedAs, queuedAs, reportedAs, h]

theorem fires_queueAnswers (s : State) (as : List Answer) : Changes firedAs s (queueAnswers s as) := by
  have hframe := queueAnswers_frame s as
  have hevents := queueAnswers_events s as
  generalize queueAnswers s as = t at hframe hevents ⊢
  refine firedAs_isFrame.of_same ((congrArg (firedAs t) hframe).trans ?_) hevents
  cases h : s.cellar.failAt <;> simp [firedAs, queuedAs, reportedAs, h]

theorem fires_raiseResult (s : State) (d : Done) : Changes firedAs s (raiseResult s d) :=
  firedAs_isFrame.of_reported (raiseResult_frame s d) (events_prefix_raiseResult s d)

/-- The record of a message that carries no key. -/
theorem fires_recorded (s : State) {d : Done} (e : Entry) (hk : d.key = none) : Changes firedAs s (recorded s d e) := by
  refine firedAs_isFrame.of_same ?_ ?_
  · simp only [recorded, keyPut_of_none hk, writeCompletion, auditRecord, auditWrite, auditAt]
    rfl
  · simp only [recorded, keyPut_of_none hk, writeCompletion, auditRecord, auditWrite, auditAt]

theorem fires_complete (s : State) {d : Done} (hk : d.key = none) : Changes firedAs s (complete s d) := by
  cases he : s.hall.entries.find? (fun x => x.no == d.no) with
  | none =>
    simp only [complete, he]
    exact firedAs_isFrame.trans (fires_raiseResult s d) (fires_queueAnswers _ _)
  | some e =>
    rw [complete_of_entry he]
    exact firedAs_isFrame.trans (firedAs_isFrame.trans (fires_recorded s e hk) (fires_raiseResult _ d))
      (fires_queueAnswers _ _)

theorem fires_setProgramme (s : State) (p : Source) (seam : Nat) : Changes firedAs s (setProgramme s p seam) := by
  unfold setProgramme
  dsimp only
  (repeat' split) <;> exact firedAs_isFrame.of_same rfl rfl

theorem fires_fireProgramme (s : State) (b : List Byte) (seam : Nat) : Changes firedAs s (fireProgramme s b seam) := by
  unfold fireProgramme
  split
  · exact fires_setProgramme s _ seam
  · exact fires_setProgramme s _ seam
  · exact fires_setProgramme s _ seam
  · exact firedAs_isFrame.refl s

/-- s with one cue more counted as fired. -/
def cueCounted (s : State) (late : Bool) : State :=
  { s with mantel := { s.mantel with
      counts := if late then bump (bump s.mantel.counts 9) 10 else bump s.mantel.counts 9 } }

/-- The completion of a cue. -/
def cueDone (c : ArmedCue) (result : BitVec 4) : Done :=
  { chan := c.chan, seq := c.seq, no := c.no, result := result, answers := [], key := none }

/-- s after a cue of a body that names a slate not stored. -/
def cueLacking (s : State) (c : ArmedCue) (b : List Byte) : State :=
  complete (countShow (raise (cueCounted s c.late) 0x0602 (BitVec.ofNat 16 (cueSlate b)) c.seq) 4) (cueDone c 6)

/-- s with the programme and the standing values of a cue that succeeds. -/
def cueSet (s : State) (c : ArmedCue) (b : List Byte) (seam : Nat) : State :=
  let v := fireProgramme (cueCounted s c.late) b seam
  { v with arch := { v.arch with standing := standingAfter v.arch.standing b } }

theorem fireCue_of_none {s : State} {f : Fired} {c : ArmedCue} (seam : Nat)
    (he : s.hall.entries.find? (fun e => e.no == c.no) = none) : fireCue seam (s, f) c = (s, f) := by
  simp only [fireCue, he]

theorem fireCue_of_entry {s : State} {f : Fired} {c : ArmedCue} {e : Entry} (seam : Nat)
    (he : s.hall.entries.find? (fun e => e.no == c.no) = some e) : fireCue seam (s, f) c =
      if cueLacks (cueCounted s c.late) e.msg.body then (cueLacking s c e.msg.body, f)
      else (complete (cueSet s c e.msg.body seam) (cueDone c (if c.late then 5 else 0)), f.add e.msg.body) := by
  simp only [fireCue, he]
  rfl

theorem fires_cueCounted (s : State) (late : Bool) : Changes firedAs s (cueCounted s late) :=
  firedAs_isFrame.of_same rfl rfl

theorem fires_countShow (s : State) (i : Nat) : Changes firedAs s (countShow s i) := firedAs_isFrame.of_same rfl rfl

theorem fires_cueLacking (s : State) (c : ArmedCue) (b : List Byte) : Changes firedAs s (cueLacking s c b) :=
  firedAs_isFrame.after (fires_complete _ rfl)
    (firedAs_isFrame.after (fires_countShow _ 4) (firedAs_isFrame.raise (fires_cueCounted s c.late)))

theorem fires_cueSet (s : State) (c : ArmedCue) (b : List Byte) (seam : Nat) : Changes firedAs s (cueSet s c b seam) :=
  firedAs_isFrame.trans (firedAs_isFrame.trans (fires_cueCounted s c.late) (fires_fireProgramme _ b seam))
    (firedAs_isFrame.of_same rfl rfl)

theorem fires_fireCue (seam : Nat) (a : State × Fired) (c : ArmedCue) : Changes firedAs a.1 (fireCue seam a c).1 := by
  obtain ⟨s, f⟩ := a
  cases he : s.hall.entries.find? (fun e => e.no == c.no) with
  | none =>
    rw [fireCue_of_none seam he]
    exact firedAs_isFrame.refl s
  | some e =>
    rw [fireCue_of_entry seam he]
    split
    · exact fires_cueLacking s c _
    · exact firedAs_isFrame.trans (fires_cueSet s c _ seam) (fires_complete _ rfl)

theorem fires_foldl (seam : Nat) (cs : List ArmedCue) (a : State × Fired) :
    Changes firedAs a.1 (cs.foldl (fireCue seam) a).1 := by
  induction cs generalizing a with
  | nil => exact firedAs_isFrame.refl _
  | cons c cs ih => exact firedAs_isFrame.trans (fires_fireCue seam a c) (ih _)

/-- s without the cues that a frame seam fires. -/
def cuesTaken (s : State) (seam : Nat) (first : Bool) : State :=
  { s with mantel := { s.mantel with cues := s.mantel.cues.filter fun c => !(dueCues s seam first).contains c } }

/-- The state with the tolerance that its cues set, where one does. -/
def tolTaken (v : State × Fired) : State × Fired :=
  match v.2.tol with
  | none => v
  | some tol => ({ v.1 with arch := { v.1.arch with tolUs := tol } }, v.2)

theorem fireCues_eq (s : State) (seam : Nat) (first : Bool) : fireCues s seam first =
    tolTaken ((dueCues s seam first).foldl (fireCue seam) (cuesTaken s seam first, Fired.nothing)) := rfl

theorem fires_tolTaken (v : State × Fired) : Changes firedAs v.1 (tolTaken v).1 := by
  unfold tolTaken
  split
  · exact firedAs_isFrame.refl v.1
  · exact firedAs_isFrame.of_same rfl rfl

theorem fires_fireCues (s : State) (seam : Nat) (first : Bool) : Changes firedAs s (fireCues s seam first).1 := by
  have htaken : Changes firedAs s (cuesTaken s seam first) := firedAs_isFrame.of_same rfl rfl
  have hfired := fires_foldl seam (dueCues s seam first) (cuesTaken s seam first, Fired.nothing)
  rw [fireCues_eq]
  exact firedAs_isFrame.trans (firedAs_isFrame.trans htaken hfired) (fires_tolTaken _)

theorem fires_fireAt (s : State) (seam : Nat) (first : Bool) : Changes firedAs s (fireAt s seam first).1 := by
  unfold fireAt
  split
  · exact fires_fireCues s seam first
  · exact firedAs_isFrame.refl s

/-! ### The due slots (R195, R197, R415) -/

/-- s with what the taking of due slots may change, as it is in t. -/
def takenAs (t s : State) : State :=
  reportedAs t { s with larder := { s.larder with
    slots := t.larder.slots, dropped := t.larder.dropped, secHolds := t.larder.secHolds
    secSuperseded := t.larder.secSuperseded, secLate := t.larder.secLate } }

theorem takenAs_isFrame : IsFrame takenAs where
  self s := (reportedAs_self s).symm
  absorbs s t u := by cases h : s.cellar.failAt <;> simp [takenAs, reportedAs, h]
  reports s t u := by cases h : s.cellar.failAt <;> simp [takenAs, reportedAs, h]

theorem takes_overDue (s : State) (seam : Nat) (keep : Option Nat) {f : Nat → State → State}
    (hf : ∀ i a, Changes takenAs a (f i a)) : Changes takenAs s (overDue s seam keep f) :=
  takenAs_isFrame.foldl_ite hf [0, 1, 2] s

theorem takes_setSlot (s : State) (i : Nat) (x : Slot) : Changes takenAs s (setSlot s i x) := takenAs_isFrame.of_same rfl rfl

theorem takes_supersede (s : State) (i : Nat) : Changes takenAs s (supersede s i) := takenAs_isFrame.of_same rfl rfl

theorem takes_freeBound (s : State) (keep : Option Nat) : Changes takenAs s (freeBound s keep) :=
  takenAs_isFrame.foldl_ite (fun i a => takes_supersede a i) [0, 1, 2] s

/-- s with the records of the dropped frames that are due at a seam gone. -/
def droppedPast (s : State) (seam : Nat) : State :=
  { s with larder := { s.larder with dropped := s.larder.dropped.filter fun d => decide (seam < d.2) } }

/-- s with slot k BOUND, and every other slot that is due or BOUND superseded. -/
def slotBound (s : State) (seam k : Nat) : State :=
  let v := freeBound (overDue s seam (some k) fun i a => supersede a i) (some k)
  setSlot v k { v.larder.slots.getD k Slot.empty with st := .bound }

/-- s with every slot that is due EMPTY, and one hold counted. -/
def slotsHeld (s : State) (seam : Nat) : State :=
  countHold (overDue s seam none fun i a => setSlot a i Slot.empty)

theorem takeDue_eq (s : State) (seam : Nat) : takeDue s seam =
    match newestDue (droppedPast s seam) seam with
    | some k => (slotBound (droppedPast s seam) seam k, some k)
    | none =>
      if (s.larder.dropped.any fun d => decide (d.2 ≤ seam)) || s.larder.slots.any (dueSlot (droppedPast s seam) seam) then
        (slotsHeld (droppedPast s seam) seam, none)
      else (droppedPast s seam, none) := rfl

theorem takes_slotBound (s : State) (seam k : Nat) : Changes takenAs s (slotBound s seam k) :=
  takenAs_isFrame.after (takes_setSlot _ _ _)
    (takenAs_isFrame.after (takes_freeBound _ _) (takes_overDue s seam _ fun i a => takes_supersede a i))

theorem takes_countHold (s : State) : Changes takenAs s (countHold s) := takenAs_isFrame.of_same rfl rfl

theorem takes_slotsHeld (s : State) (seam : Nat) : Changes takenAs s (slotsHeld s seam) :=
  takenAs_isFrame.after (takes_countHold _) (takes_overDue s seam _ fun i a => takes_setSlot a i _)

theorem takes_takeDue (s : State) (seam : Nat) : Changes takenAs s (takeDue s seam).1 := by
  have hdropped : Changes takenAs s (droppedPast s seam) := takenAs_isFrame.of_same rfl rfl
  rw [takeDue_eq]
  split
  · exact takenAs_isFrame.after (takes_slotBound _ _ _) hdropped
  · split
    · exact takenAs_isFrame.after (takes_slotsHeld _ _) hdropped
    · exact hdropped

theorem takes_countLate (s : State) : Changes takenAs s (countLate s) := takenAs_isFrame.of_same rfl rfl

theorem takes_dropLate (s : State) (seam : Nat) : Changes takenAs s (dropLate s seam) :=
  takes_overDue s _ _ fun i a => takenAs_isFrame.after (takes_countLate _) (takes_setSlot a i _)

/-! ### The show (R240, R241, R249 to R256, R354, R360) -/

/-- s with what the progress of a fade of the source or the level may change, as it is in t. -/
def movedAs (t s : State) : State :=
  reportedAs t { s with
    screen := { s.screen with
      picture := t.screen.picture, fade := t.screen.fade, level := t.screen.level, lambda := t.screen.lambda
      lambdaTarget := t.screen.lambdaTarget, mode := t.screen.mode, arc := t.screen.arc, alpha := t.screen.alpha
      counts := t.screen.counts }
    bindery := { s.bindery with
      temp := t.bindery.temp, tsrc := t.bindery.tsrc, fresh := t.bindery.fresh, counts := t.bindery.counts }
    fresh := t.fresh }

theorem movedAs_isFrame : IsFrame movedAs where
  self s := (reportedAs_self s).symm
  absorbs s t u := by cases h : s.cellar.failAt <;> simp [movedAs, reportedAs, h]
  reports s t u := by cases h : s.cellar.failAt <;> simp [movedAs, reportedAs, h]

theorem moves_levelTo (s : State) (seam : Nat) : Changes movedAs s (levelTo s seam) := by
  unfold levelTo
  split <;> exact movedAs_isFrame.of_same rfl rfl

theorem moves_sourceTo (s : State) (seam : Nat) : Changes movedAs s (sourceTo s seam) := by
  unfold sourceTo
  dsimp only
  (repeat' split) <;> exact movedAs_isFrame.of_same rfl rfl

theorem moves_formEstimate (s : State) : Changes movedAs s (formEstimate s) := by
  unfold formEstimate
  dsimp only
  split
  · exact movedAs_isFrame.of_same rfl rfl
  · exact movedAs_isFrame.raise (movedAs_isFrame.of_same rfl rfl)

theorem moves_startLevel (s : State) (seam mode target ms shape : Nat) :
    Changes movedAs s (startLevel s seam mode target ms shape) := by
  unfold startLevel
  dsimp only
  split
  · exact movedAs_isFrame.of_same rfl rfl
  · refine movedAs_isFrame.after (moves_levelTo _ seam) ?_
    exact movedAs_isFrame.of_same rfl rfl

/-- s with what the choice of the picture to show may change, as it is in t. -/
def aimedAs (t s : State) : State :=
  reportedAs t { s with
    start := { s.start with startupSlateReported := t.start.startupSlateReported }
    larder := { s.larder with lossSlateTold := t.larder.lossSlateTold }
    screen := { s.screen with
      picture := t.screen.picture, fade := t.screen.fade, alpha := t.screen.alpha, overlay := t.screen.overlay
      counts := t.screen.counts } }

theorem aimedAs_isFrame : IsFrame aimedAs where
  self s := (reportedAs_self s).symm
  absorbs s t u := by cases h : s.cellar.failAt <;> simp [aimedAs, reportedAs, h]
  reports s t u := by cases h : s.cellar.failAt <;> simp [aimedAs, reportedAs, h]

theorem aims_overlayEvents (s : State) (overlay : Nat) : Changes aimedAs s (overlayEvents s overlay) := by
  unfold overlayEvents
  split
  · exact aimedAs_isFrame.raise (aimedAs_isFrame.of_same rfl rfl)
  · split
    · exact aimedAs_isFrame.raise (aimedAs_isFrame.of_same rfl rfl)
    · exact aimedAs_isFrame.refl s

theorem aims_cutSource (s : State) (cause : Nat) : Changes aimedAs s (cutSource s cause) := by
  unfold cutSource
  split
  · exact aimedAs_isFrame.refl s
  · exact aimedAs_isFrame.raise (aimedAs_isFrame.of_same rfl rfl)

theorem aims_startSource (s : State) (target : Source) (seam ms shape : Nat) :
    Changes aimedAs s (startSource s target seam ms shape) := by
  unfold startSource
  split <;> exact aimedAs_isFrame.of_same rfl rfl

/-- s with an overlay of a render point, counted where it is a new one. -/
def overlaid (s : State) (overlay : Nat) : State :=
  let v := if overlay ≠ 0 ∧ overlay ≠ s.screen.overlay then countShow s 10 else s
  { v with screen := { v.screen with overlay := overlay } }

theorem aims_overlaid (s : State) (overlay : Nat) : Changes aimedAs s (overlaid s overlay) := by
  unfold overlaid
  dsimp only
  split <;> exact aimedAs_isFrame.of_same rfl rfl

theorem aims_chooseTarget (s : State) (seam : Nat) (rendered : Bool) (src : Option (Nat × Nat)) :
    Changes aimedAs s (chooseTarget s seam rendered src) := by
  have hoverlaid := aimedAs_isFrame.trans (aims_overlayEvents s (overlayAt s rendered))
    (aims_overlaid _ (overlayAt s rendered))
  unfold chooseTarget
  extract_lets overlay told was counted set
  split
  split
  · exact hoverlaid
  · exact aimedAs_isFrame.trans hoverlaid (aimedAs_isFrame.trans (aims_cutSource _ _) (aims_startSource _ _ _ _ _))

/-- s with what the show at a frame seam may change, as it is in t. -/
def shownAs (t s : State) : State :=
  reportedAs t { s with
    start := { s.start with
      restoreDue := t.start.restoreDue, startupSlateReported := t.start.startupSlateReported }
    screen := { t.screen with firstSeam := s.screen.firstSeam }
    legacy := t.legacy, leaf := { s.leaf with fzLevel := t.leaf.fzLevel }, fresh := t.fresh
    larder := { s.larder with
      lossSlateTold := t.larder.lossSlateTold, feedStopped := t.larder.feedStopped, feedRestart := t.larder.feedRestart }
    bindery := { s.bindery with
      temp := t.bindery.temp, tsrc := t.bindery.tsrc, fresh := t.bindery.fresh, counts := t.bindery.counts
      lambdaHouse := t.bindery.lambdaHouse } }

theorem shownAs_isFrame : IsFrame shownAs where
  self s := (reportedAs_self s).symm
  absorbs s t u := by cases h : s.cellar.failAt <;> simp [shownAs, reportedAs, h]
  reports s t u := by cases h : s.cellar.failAt <;> simp [shownAs, reportedAs, h]

theorem shows_of_moves {s t : State} (h : Changes movedAs s t) : Changes shownAs s t :=
  shownAs_isFrame.widen (fun s t u => by cases h : s.cellar.failAt <;> simp [shownAs, movedAs, reportedAs, h]) h

theorem shows_of_aims {s t : State} (h : Changes aimedAs s t) : Changes shownAs s t :=
  shownAs_isFrame.widen (fun s t u => by cases h : s.cellar.failAt <;> simp [shownAs, aimedAs, reportedAs, h]) h

theorem shows_applyFzLevel (s : State) : Changes shownAs s (applyFzLevel s) := by
  unfold applyFzLevel
  split <;> exact shownAs_isFrame.of_same rfl rfl

theorem shows_setProgramme (s : State) (p : Source) (seam : Nat) : Changes shownAs s (setProgramme s p seam) := by
  unfold setProgramme
  dsimp only
  (repeat' split) <;> exact shownAs_isFrame.of_same rfl rfl

theorem shows_daliTo (s : State) (seam : Nat) : Changes shownAs s (daliTo s seam) := by
  unfold daliTo
  dsimp only
  (repeat' split) <;> exact shownAs_isFrame.of_same rfl rfl

theorem shows_legacyProgramme (s : State) (p : Source) (seam : Nat) : Changes shownAs s (legacyProgramme s p seam) := by
  unfold legacyProgramme
  dsimp only
  split
  · exact shownAs_isFrame.refl s
  · split
    · exact shownAs_isFrame.raise (shows_setProgramme s p seam)
    · exact shows_setProgramme s p seam

theorem shows_refuseSelect (s : State) (n : Nat) : Changes shownAs s (refuseSelect s n) := by
  unfold refuseSelect
  split
  · exact shownAs_isFrame.refl s
  · exact shownAs_isFrame.raise (shownAs_isFrame.of_same rfl rfl)

theorem shows_dmxProgramme (s : State) (seam : Nat) : Changes shownAs s (dmxProgramme s seam).1 := by
  unfold dmxProgramme
  dsimp only
  generalize (if s.legacy.readAs = 3 then slateSelect s.legacy.slateSel else slateZero s) = p
  split
  · exact shows_refuseSelect s _
  · refine shownAs_isFrame.after (shows_legacyProgramme _ _ seam) ?_
    exact shownAs_isFrame.of_same rfl rfl

theorem shows_applyDmx (s : State) (seam : Nat) (first : Bool) : Changes shownAs s (applyDmx s seam first).1 := by
  have hlevel : Changes shownAs s (setLevel s s.legacy.dmxLevel) := shownAs_isFrame.of_same rfl rfl
  unfold applyDmx
  dsimp only
  split
  · exact shownAs_isFrame.refl s
  · split
    · exact hlevel
    · exact shownAs_isFrame.trans (shownAs_isFrame.trans hlevel (shows_dmxProgramme _ seam))
        (shownAs_isFrame.of_same rfl rfl)

theorem shows_applyDali (s : State) (seam : Nat) (first : Bool) : Changes shownAs s (applyDali s seam first) := by
  unfold applyDali
  dsimp only
  split
  · exact shownAs_isFrame.of_same rfl rfl
  · refine shownAs_isFrame.after (shows_legacyProgramme _ _ seam) ?_
    exact shownAs_isFrame.of_same rfl rfl

theorem shows_applyLegacy (s : State) (seam : Nat) (first : Bool) : Changes shownAs s (applyLegacy s seam first).1 := by
  have hdali := shows_daliTo s seam
  unfold applyLegacy
  dsimp only
  split
  · split
    · exact shownAs_isFrame.trans hdali (shows_applyDmx _ seam first)
    · exact shownAs_isFrame.trans hdali (shows_applyDmx _ seam first)
    · exact shownAs_isFrame.trans hdali (shows_applyDali _ seam first)
    · exact hdali
  · exact hdali

theorem shows_judgeCache (s : State) : Changes shownAs s (judgeCache s) := by
  unfold judgeCache
  split
  · exact shownAs_isFrame.refl s
  · exact shownAs_isFrame.of_same rfl rfl

theorem shows_restoreShow (s : State) (seam : Nat) : Changes shownAs s (restoreShow s seam) := by
  have hdue : Changes shownAs s { s with start := { s.start with restoreDue := false } } :=
    shownAs_isFrame.of_same rfl rfl
  unfold restoreShow
  dsimp only
  refine shownAs_isFrame.raise ?_
  split
  · exact shownAs_isFrame.of_same rfl rfl
  · exact shownAs_isFrame.trans (shownAs_isFrame.trans hdue (shows_setProgramme _ _ seam)) (shownAs_isFrame.of_same rfl rfl)

/-- s with the source and the level moved on to a frame seam, and the level that a cue asks begun. -/
def showMoved (s : State) (seam : Nat) (fired : Fired) : State :=
  let v := levelTo (sourceTo (formEstimate s) seam) seam
  match fired.level with
  | some (mode, target, ms, shape) => startLevel v seam mode target ms shape
  | none => v

/-- s with the Leaf's and the legacy ports' levels taken, and the slate that a legacy port selects. -/
def portsServed (s : State) (seam : Nat) (first : Bool) : State × Option (Nat × Nat) := applyLegacy (applyFzLevel s) seam first

/-- s with the house level of a frame seam. -/
def houseTaken (s : State) (seam : Nat) : State := { s with bindery := { s.bindery with lambdaHouse := houseLevel s seam } }



/-- The target chosen for the show, and the caches judged, with the slate that a cue or a legacy port selects. -/
def showAimed (v : State × Option (Nat × Nat)) (seam : Nat) (taken : Option Nat) (fired : Fired) : State :=
  judgeCache (chooseTarget v.1 seam (taken.isSome && v.1.screen.programme == .stream) (fired.src.or v.2))

theorem renderShow_eq (s : State) (seam : Nat) (taken : Option Nat) (fired : Fired) (first : Bool) :
    renderShow s seam taken fired first =
      houseTaken (showAimed (portsServed (showMoved s seam fired) seam first) seam taken fired) seam := by
  unfold renderShow
  extract_lets v w
  have hserved : applyLegacy (applyFzLevel w) seam first = portsServed (showMoved s seam fired) seam first := rfl
  rw [hserved]
  generalize portsServed (showMoved s seam fired) seam first = u
  obtain ⟨u, src⟩ := u
  dsimp -zeta only
  extract_lets c j
  have hc : c = fired.src.or src := by
    unfold c
    cases fired.src <;> rfl
  have hj : j = showAimed (u, src) seam taken fired := by
    unfold j showAimed
    rw [hc]
  rw [← hj]
  clear_value j
  rfl
theorem moves_showMoved (s : State) (seam : Nat) (fired : Fired) : Changes movedAs s (showMoved s seam fired) := by
  have hmoved := movedAs_isFrame.trans (movedAs_isFrame.trans (moves_formEstimate s) (moves_sourceTo _ seam))
    (moves_levelTo _ seam)
  unfold showMoved
  dsimp only
  split
  · exact movedAs_isFrame.trans hmoved (moves_startLevel _ _ _ _ _ _)
  · exact hmoved

theorem shows_portsServed (s : State) (seam : Nat) (first : Bool) : Changes shownAs s (portsServed s seam first).1 :=
  shownAs_isFrame.trans (shows_applyFzLevel s) (shows_applyLegacy _ seam first)

theorem shows_showAimed (v : State × Option (Nat × Nat)) (seam : Nat) (taken : Option Nat) (fired : Fired) :
    Changes shownAs v.1 (showAimed v seam taken fired) :=
  shownAs_isFrame.trans (shows_of_aims (aims_chooseTarget v.1 seam _ _)) (shows_judgeCache _)

theorem shows_houseTaken (s : State) (seam : Nat) : Changes shownAs s (houseTaken s seam) := shownAs_isFrame.of_same rfl rfl

theorem shows_renderShow (s : State) (seam : Nat) (taken : Option Nat) (fired : Fired) (first : Bool) :
    Changes shownAs s (renderShow s seam taken fired first) := by
  rw [renderShow_eq]
  have hmoved := shows_of_moves (moves_showMoved s seam fired)
  exact shownAs_isFrame.trans (shownAs_isFrame.trans hmoved (shows_portsServed _ seam first))
    (shownAs_isFrame.trans (shows_showAimed _ seam taken fired) (shows_houseTaken _ seam))

/-! ### The pass (R213, R214, R216, R233) -/

/-- s with what the pass of a render point may change, as it is in t. -/
def passedAs (t s : State) : State := renderedAs t { s with larder := { s.larder with secHolds := t.larder.secHolds } }

theorem passedAs_isFrame : IsFrame passedAs where
  self s := (renderedAs_self s).symm
  absorbs s t u := by cases h : s.cellar.failAt <;> simp [passedAs, renderedAs, reportedAs, h]
  reports s t u := by cases h : s.cellar.failAt <;> simp [passedAs, renderedAs, reportedAs, h]

theorem passes_of_rendered {s t : State} (h : t = renderedAs t s) (he : s.larder.events <+: t.larder.events) :
    Changes passedAs s t := by
  refine ⟨(passedAs_isFrame.self t).symm.trans ((congrArg (passedAs t) h).trans ?_), he⟩
  cases hf : s.cellar.failAt <;> simp [passedAs, renderedAs, reportedAs, hf]

theorem beginCopy_larder (s : State) : (beginCopy s).larder = s.larder := by
  unfold beginCopy
  split
  · rfl
  · split
    · rfl
    · dsimp only
      split <;> rfl

theorem countLane_larder (s : State) (l : LaneSrc) : (countLane s l).larder = s.larder := by
  unfold countLane
  (repeat' split) <;> rfl

theorem passes_beginCopy (s : State) : Changes passedAs s (beginCopy s) :=
  passes_of_rendered (beginCopy_frame s) (beginCopy_larder s ▸ List.prefix_refl _)

theorem passes_countLane (s : State) (l : LaneSrc) : Changes passedAs s (countLane s l) :=
  passes_of_rendered (countLane_frame s l) (countLane_larder s l ▸ List.prefix_refl _)

theorem passes_freeBound (s : State) (keep : Option Nat) : Changes passedAs s (freeBound s keep) :=
  passes_of_rendered (freeBound_frame s keep) (takes_freeBound s keep).events

/-- s with the house level of a pass latched, and the copy that waits for it begun. -/
def passPrepared (s : State) (p : Pass) : State :=
  beginCopy { s with
    bindery := { s.bindery with lambdaHouse := houseLevel s (if p.isFrame then p.seam else nextFrameSeam s) } }

/-- A pass with what it latches as it begins. -/
def passOpened (s : State) (p : Pass) : Pass :=
  { p with plate := freePlate s, epoch := newestEpoch s, start := s.now, lambda := lambdaEff s, gains := nextGains s }

/-- s with a pass begun on its free plate. -/
def passBegun (s : State) (p : Pass) : State :=
  { s with
    bindery := { s.bindery with
      pass := some (passOpened s p), gains := nextGains s, firstPass := false
      passWanted := s.bindery.passWanted && !p.isFrame, reRenderDue := false, waiting := none }
    press := { s.press with crossing := s.press.crossing ++ [.withdraw (freePlate s)] } }

/-- s with a pass and its lanes counted. -/
def passCounted (s : State) (p : Pass) : State :=
  countBindery (countBindery (countLane (countLane s p.laneA) p.laneB) 0 1) (if p.isFrame then 1 else 2) 1

/-- s with the EVENT of the first pass after a load, where it is due. -/
def loadTold (s : State) : State :=
  if s.bindery.calEventDue then
    raise { s with bindery := { s.bindery with calEventDue := false } } 0x0501 (BitVec.ofNat 16 (bit s.bindery.fallback))
      (if s.bindery.fallback then 0 else s.bindery.liveIdentity)
  else s

theorem beginPass_eq (s : State) (p : Pass) :
    beginPass s p = loadTold (freeBound (passCounted (passBegun (passPrepared s p) p) p) p.slot) := by
  have hprepared : passPrepared s p = beginCopy { s with bindery := { s.bindery with
      lambdaHouse := houseLevel s (if p.isFrame then p.seam else nextFrameSeam s) } } := rfl
  unfold beginPass
  rw [← hprepared]
  generalize passPrepared s p = v
  extract_lets v gains plate opened bindery press begun laned counted freed
  have hbegun : begun = passBegun v p := rfl
  rw [← hbegun]
  clear_value begun
  have hfreed : freed = freeBound (passCounted begun p) p.slot := rfl
  rw [← hfreed]
  clear_value freed
  rfl

theorem passes_passPrepared (s : State) (p : Pass) : Changes passedAs s (passPrepared s p) := by
  refine passedAs_isFrame.after (passes_beginCopy _) ?_
  exact passedAs_isFrame.of_same rfl rfl

theorem passes_passBegun (s : State) (p : Pass) : Changes passedAs s (passBegun s p) := passedAs_isFrame.of_same rfl rfl

theorem passes_countBindery (s : State) (i n : Nat) : Changes passedAs s (countBindery s i n) :=
  passedAs_isFrame.of_same rfl rfl

theorem passes_passCounted (s : State) (p : Pass) : Changes passedAs s (passCounted s p) :=
  passedAs_isFrame.after (passes_countBindery _ _ _) (passedAs_isFrame.after (passes_countBindery _ _ _)
    (passedAs_isFrame.after (passes_countLane _ _) (passes_countLane _ _)))

theorem passes_loadTold (s : State) : Changes passedAs s (loadTold s) := by
  unfold loadTold
  split
  · exact passedAs_isFrame.raise (passedAs_isFrame.of_same rfl rfl)
  · exact passedAs_isFrame.refl s

theorem passes_beginPass (s : State) (p : Pass) : Changes passedAs s (beginPass s p) := by
  rw [beginPass_eq]
  exact passedAs_isFrame.trans (passedAs_isFrame.trans (passedAs_isFrame.trans (passes_passPrepared s p)
    (passes_passBegun _ p)) (passes_passCounted _ p)) (passedAs_isFrame.trans (passes_freeBound _ _) (passes_loadTold _))

theorem passes_startPass (s : State) (w : PassDue) : Changes passedAs s (startPass s w) := by
  unfold startPass
  split
  · exact passedAs_isFrame.of_same rfl rfl
  · split
    · exact passes_beginPass s _
    · exact passes_beginPass s _
    · exact passedAs_isFrame.refl s

theorem passes_dropRendered (s : State) (p : Pass) : Changes passedAs s (dropRendered s p) := by
  unfold dropRendered
  split
  · split <;> exact passedAs_isFrame.of_same rfl rfl
  · exact passedAs_isFrame.refl s

/-- s without its pass, and the EVENT of one abandoned. -/
def passEnded (s : State) (p : Pass) (why : Half) : State :=
  raise (beginCopy (countBindery { s with bindery := { s.bindery with pass := none } } 3 1)) 0x0504 why
    (if p.isFrame then p.quire.getD 0 else 0)

theorem abandonPass_eq (s : State) (p : Pass) (why : Half) :
    abandonPass s p why = if p.isFrame then dropRendered (passEnded s p why) p else passEnded s p why := rfl

theorem passes_passEnded (s : State) (p : Pass) (why : Half) : Changes passedAs s (passEnded s p why) := by
  refine passedAs_isFrame.raise (passedAs_isFrame.after (passes_beginCopy _)
    (passedAs_isFrame.after (passes_countBindery _ _ _) ?_))
  exact passedAs_isFrame.of_same rfl rfl

theorem passes_abandonPass (s : State) (p : Pass) (why : Half) : Changes passedAs s (abandonPass s p why) := by
  have hended := passes_passEnded s p why
  rw [abandonPass_eq]
  split
  · exact passedAs_isFrame.trans hended (passes_dropRendered _ p)
  · exact hended

/-- s with a waiting pass of a frame abandoned. -/
def waitingAbandoned (s : State) : State :=
  match s.bindery.waiting with
  | some (.frame f taken) => abandonPass s (passAt s f taken) 1
  | _ => s

/-- s with a waiting pass of a frame abandoned, and none waiting. -/
def waitingCleared (s : State) : State :=
  { waitingAbandoned s with bindery := { (waitingAbandoned s).bindery with waiting := none } }

theorem passes_waitingAbandoned (s : State) : Changes passedAs s (waitingAbandoned s) := by
  unfold waitingAbandoned
  split
  · exact passes_abandonPass s _ 1
  · exact passedAs_isFrame.refl s

theorem passes_waitingCleared (s : State) : Changes passedAs s (waitingCleared s) := by
  have hcleared : Changes passedAs (waitingAbandoned s) (waitingCleared s) := passedAs_isFrame.of_same rfl rfl
  exact passedAs_isFrame.trans (passes_waitingAbandoned s) hcleared

theorem passes_clearPass (s : State) : Changes passedAs s (clearPass s) := by
  have hwaiting := passes_waitingCleared s
  unfold clearPass
  dsimp only
  change Changes passedAs s (match (waitingCleared s).bindery.pass with
    | none => waitingCleared s
    | some p => if p.isFrame then abandonPass (waitingCleared s) p 1
      else countBindery { waitingCleared s with bindery := { (waitingCleared s).bindery with pass := none } } 3 1)
  split
  · exact hwaiting
  · split
    · exact passedAs_isFrame.trans hwaiting (passes_abandonPass _ _ 1)
    · exact passedAs_isFrame.trans hwaiting (passedAs_isFrame.of_same rfl rfl)

theorem passes_holdForLoad (s : State) : Changes passedAs s (holdForLoad s) := by
  unfold holdForLoad
  dsimp only
  split <;> exact passedAs_isFrame.of_same rfl rfl

theorem passes_renderPass (s : State) (seam : Nat) (taken : Option Nat) (first : Bool) :
    Changes passedAs s (renderPass s seam taken first) := by
  unfold renderPass
  dsimp only
  split
  · split
    · exact passes_holdForLoad s
    · exact passedAs_isFrame.refl s
  · split
    · exact passedAs_isFrame.trans (passes_clearPass s) (passes_startPass _ _)
    · exact passedAs_isFrame.refl s

/-! ### The power state (R401 to R403, R407) -/

/-- s with what the report of a power state not admitted may change, as it is in t. -/
def blockedAs (t s : State) : State :=
  reportedAs t (queuedAs t { s with
    power := { s.power with reason := t.power.reason, blockedMinute := t.power.blockedMinute }, fresh := t.fresh })

theorem blockedAs_isFrame : IsFrame blockedAs where
  self s := (reportedAs_self s).symm
  absorbs s t u := by cases h : s.cellar.failAt <;> simp [blockedAs, queuedAs, reportedAs, h]
  reports s t u := by cases h : s.cellar.failAt <;> simp [blockedAs, queuedAs, reportedAs, h]

theorem blocks_raiseBlocked (d : Rest) (s : State) (reason : Nat) : Changes blockedAs s (raiseBlocked d s reason) := by
  unfold raiseBlocked
  split
  · exact blockedAs_isFrame.raise (blockedAs_isFrame.of_same rfl rfl)
  · exact blockedAs_isFrame.refl s

theorem blocks_foldl_raiseBlocked (d : Rest) (reasons : List Nat) (s : State) :
    Changes blockedAs s (reasons.foldl (raiseBlocked d) s) := by
  induction reasons generalizing s with
  | nil => exact blockedAs_isFrame.refl s
  | cons r rs ih => exact blockedAs_isFrame.trans (blocks_raiseBlocked d s r) (ih _)

theorem blocks_raiseRun (s : State) : Changes blockedAs s (raiseRun s) := by
  unfold raiseRun
  split
  · exact blockedAs_isFrame.raise (blockedAs_isFrame.refl s)
  · exact blockedAs_isFrame.refl s

theorem blocks_queueAnswer (s : State) (q stype : Word) (result : Nat) : Changes blockedAs s (queueAnswer s q stype result) := by
  have hframe := queueAnswer_frame s q stype result
  have hevents : (queueAnswer s q stype result).larder.events = s.larder.events := queueSpl_larder_events _ _ _
  generalize queueAnswer s q stype result = t at hframe hevents ⊢
  refine blockedAs_isFrame.of_same ((congrArg (blockedAs t) hframe).trans ?_) hevents
  cases h : s.cellar.failAt <;> simp [blockedAs, queuedAs, reportedAs, h]

theorem blocks_refuseS4 (s : State) (r : Nat) : Changes blockedAs s (refuseS4 s r) := by
  unfold refuseS4
  split
  · have hnoted : Changes blockedAs s (freeValue (noteMinute s (100 + r))).2 := blockedAs_isFrame.of_same rfl rfl
    dsimp only
    split
    · exact blockedAs_isFrame.trans (blockedAs_isFrame.trans hnoted (blocks_raiseRun _)) (blocks_queueAnswer _ _ _ _)
    · exact blockedAs_isFrame.trans hnoted (blocks_queueAnswer _ _ _ _)
  · exact blockedAs_isFrame.refl s

theorem blocks_reportBlocked (s : State) (seam : Nat) (d : Rest) : Changes blockedAs s (reportBlocked s seam d) := by
  unfold reportBlocked
  dsimp only
  split
  · split
    · exact blocks_foldl_raiseBlocked d _ s
    · split
      · split
        · exact blocks_refuseS4 s _
        · exact blockedAs_isFrame.refl s
      · exact blockedAs_isFrame.refl s
  · exact blockedAs_isFrame.refl s

/-- s with what the choice of a power state may change, as it is in t. -/
def restedAs (t s : State) : State :=
  reportedAs t (queuedAs t { s with
    power := t.power, fresh := t.fresh
    arch := { s.arch with litFrom := t.arch.litFrom, litNs := t.arch.litNs } })

theorem restedAs_isFrame : IsFrame restedAs where
  self s := (reportedAs_self s).symm
  absorbs s t u := by cases h : s.cellar.failAt <;> simp [restedAs, queuedAs, reportedAs, h]
  reports s t u := by cases h : s.cellar.failAt <;> simp [restedAs, queuedAs, reportedAs, h]

theorem rests_reportBlocked (s : State) (seam : Nat) (d : Rest) : Changes restedAs s (reportBlocked s seam d) :=
  restedAs_isFrame.widen (fun s t u => by cases h : s.cellar.failAt <;> simp [restedAs, blockedAs, queuedAs, reportedAs, h])
    (blocks_reportBlocked s seam d)

theorem rests_wakeS1 (s : State) (cause : Nat) : Changes restedAs s (wakeS1 s cause) := by
  unfold wakeS1
  split
  · split
    · rw [wake_frame]
      exact restedAs_isFrame.of_same rfl rfl
    · exact restedAs_isFrame.of_same rfl rfl
  · exact restedAs_isFrame.refl s

theorem rests_choosePower (s : State) (seam : Nat) : Changes restedAs s (choosePower s seam) := by
  have hreported := rests_reportBlocked s seam (nextDeeper (eligible s seam))
  unfold choosePower
  dsimp only
  split
  · exact restedAs_isFrame.refl s
  · split
    · exact restedAs_isFrame.trans hreported (rests_wakeS1 _ 5)
    · split
      · exact restedAs_isFrame.trans hreported (rests_wakeS1 _ 6)
      · split
        · exact restedAs_isFrame.trans hreported (restedAs_isFrame.of_same rfl rfl)
        · exact hreported

theorem rests_noteLit (s : State) (lit : Bool) : Changes restedAs s (noteLit s lit) := by
  unfold noteLit
  dsimp only
  split <;> exact restedAs_isFrame.of_same rfl rfl

end Sys2Proof.Machine

/-! ## The render point, and the instant of first light

For O14. The parts of a render point one after the other, what they leave together, the step of Mantel time that applies before,
and the mark of first light. -/

namespace Sys2Proof.Machine

open Sys2Proof

/-! ### The parts of a render point (R179, R197, R213, R415) -/

/-- s with a frame seam named as the one rendered for. -/
def pointOpened (s : State) (seam : Nat) : State :=
  { s with
    press := { s.press with renderedFor := some seam, renderedQuire := seamDesignated s seam }
    screen := { s.screen with firstSeam := some (s.screen.firstSeam.getD seam) } }

/-- s with the late slots dropped at the first seam, and the show restored where that is due. -/
def pointRestored (s : State) (seam : Nat) (first : Bool) : State :=
  if first then dropLate s seam else if s.start.restoreDue then restoreShow s seam else s

/-- s with the slots of a seam taken, and the one taken. -/
def slotsTaken (s : State) (seam : Nat) (first : Bool) : State × Option Nat :=
  if first || regionsBusy s then (s, none) else takeDue s seam

/-- s with the picture of a seam chosen and its pass begun, for the cues fired and the slot taken there. -/
def pointShown (s : State) (seam : Nat) (taken : Option Nat) (fired : Fired) (first : Bool) : State :=
  renderPass (renderShow s seam taken fired first) seam taken first

/-- s with its power state chosen, and the light noted. -/
def pointRested (s : State) (seam : Nat) : State :=
  noteLit (choosePower s seam) ((choosePower s seam).power.st == .s0 && !darkShow (choosePower s seam) seam)

/-- The parts of a render point behind the cues that it fires. -/
def pointFired (v : State × Fired) (seam : Nat) (first : Bool) : State :=
  let taken := slotsTaken v.1 seam first
  pointRested (pointShown taken.1 seam taken.2 v.2 first) seam

theorem renderPoint_eq (s : State) (seam : Nat) : renderPoint s seam =
    pointFired (fireAt (pointRestored (pointOpened s seam) seam s.screen.firstSeam.isNone) seam s.screen.firstSeam.isNone)
      seam s.screen.firstSeam.isNone := by
  unfold renderPoint
  extract_lets first press screen opened restored
  have hrestored : restored = pointRestored (pointOpened s seam) seam s.screen.firstSeam.isNone := rfl
  rw [← hrestored]
  clear_value restored
  have hfirst : first = s.screen.firstSeam.isNone := rfl
  rw [← hfirst]
  clear_value first
  obtain ⟨v, fired⟩ := fireAt restored seam first
  unfold pointFired
  have htaken : (if first || regionsBusy v then (v, none) else takeDue v seam) = slotsTaken v seam first := rfl
  dsimp -zeta only
  rw [htaken]
  obtain ⟨w, taken⟩ := slotsTaken v seam first
  unfold pointShown pointRested
  dsimp only

/-! ### What a render point leaves -/

/-- What no part of a render point changes: the clocks, the straps, the address, the bypass, the keys, Protection, the response
pending, and the seam rendered for. -/
structure PointKeeps (s t : State) : Prop where
  now : t.now = s.now
  time : t.mantel.time = s.mantel.time
  straps : t.straps = s.straps
  addr : t.addr = { s.addr with reportSeq := t.addr.reportSeq }
  bypHold : t.spine.bypHold = s.spine.bypHold
  keys : t.arch.keys = s.arch.keys
  prot : t.prot = s.prot
  pending : t.pending = s.pending
  renderedFor : t.press.renderedFor = s.press.renderedFor
  firstSeam : t.screen.firstSeam = s.screen.firstSeam

section

variable {s t u : State}

theorem PointKeeps.refl (s : State) : PointKeeps s s := ⟨rfl, rfl, rfl, rfl, rfl, rfl, rfl, rfl, rfl, rfl⟩

theorem PointKeeps.trans (h : PointKeeps s t) (k : PointKeeps t u) : PointKeeps s u where
  now := k.now.trans h.now
  time := k.time.trans h.time
  straps := k.straps.trans h.straps
  addr := by
    have haddr := k.addr
    rw [h.addr] at haddr
    exact haddr
  bypHold := k.bypHold.trans h.bypHold
  keys := k.keys.trans h.keys
  prot := k.prot.trans h.prot
  pending := k.pending.trans h.pending
  renderedFor := k.renderedFor.trans h.renderedFor
  firstSeam := k.firstSeam.trans h.firstSeam

theorem keeps_of_fires (h : Changes firedAs s t) : PointKeeps s t := by
  rw [h.frame]
  exact ⟨rfl, rfl, rfl, rfl, rfl, rfl, rfl, rfl, rfl, rfl⟩

theorem keeps_of_takes (h : Changes takenAs s t) : PointKeeps s t := by
  rw [h.frame]
  exact ⟨rfl, rfl, rfl, rfl, rfl, rfl, rfl, rfl, rfl, rfl⟩

theorem keeps_of_shows (h : Changes shownAs s t) : PointKeeps s t := by
  rw [h.frame]
  exact ⟨rfl, rfl, rfl, rfl, rfl, rfl, rfl, rfl, rfl, rfl⟩

theorem keeps_of_passes (h : Changes passedAs s t) : PointKeeps s t := by
  rw [h.frame]
  exact ⟨rfl, rfl, rfl, rfl, rfl, rfl, rfl, rfl, rfl, rfl⟩

theorem keeps_of_rests (h : Changes restedAs s t) : PointKeeps s t := by
  rw [h.frame]
  exact ⟨rfl, rfl, rfl, rfl, rfl, rfl, rfl, rfl, rfl, rfl⟩

end

theorem keeps_pointRestored (s : State) (seam : Nat) (first : Bool) : PointKeeps s (pointRestored s seam first) := by
  unfold pointRestored
  split
  · exact keeps_of_takes (takes_dropLate s seam)
  · split
    · exact keeps_of_shows (shows_restoreShow s seam)
    · exact .refl s

theorem takes_slotsTaken (s : State) (seam : Nat) (first : Bool) : Changes takenAs s (slotsTaken s seam first).1 := by
  unfold slotsTaken
  split
  · exact takenAs_isFrame.refl s
  · exact takes_takeDue s seam

theorem rests_pointRested (s : State) (seam : Nat) : Changes restedAs s (pointRested s seam) :=
  restedAs_isFrame.trans (rests_choosePower s seam) (rests_noteLit _ _)

theorem keeps_pointShown (s : State) (seam : Nat) (taken : Option Nat) (fired : Fired) (first : Bool) :
    PointKeeps s (pointShown s seam taken fired first) :=
  (keeps_of_shows (shows_renderShow s seam taken fired first)).trans (keeps_of_passes (passes_renderPass _ seam taken first))

theorem keeps_pointFired (v : State × Fired) (seam : Nat) (first : Bool) : PointKeeps v.1 (pointFired v seam first) :=
  ((keeps_of_takes (takes_slotsTaken v.1 seam first)).trans (keeps_pointShown _ seam _ v.2 first)).trans
    (keeps_of_rests (rests_pointRested _ seam))

/-- A render point leaves what its parts leave, and names its seam. -/
theorem keeps_renderPoint (s : State) (seam : Nat) : PointKeeps (pointOpened s seam) (renderPoint s seam) := by
  rw [renderPoint_eq]
  exact ((keeps_pointRestored _ seam _).trans (keeps_of_fires (fires_fireAt _ seam _))).trans (keeps_pointFired _ seam _)

/-! ### The pass of a render point (R213, R233) -/

theorem loadTold_bindery_pass (s : State) : (loadTold s).bindery.pass = s.bindery.pass := by
  unfold loadTold
  split
  · rw [raise_frame]
    rfl
  · rfl

theorem countLane_bindery_pass (s : State) (l : LaneSrc) : (countLane s l).bindery.pass = s.bindery.pass := by
  unfold countLane
  (repeat' split) <;> rfl

theorem beginPass_begins (s : State) (p : Pass) : (beginPass s p).bindery.pass.isSome = true := by
  have hfreed := (takes_freeBound (passCounted (passBegun (passPrepared s p) p) p) p.slot).frame
  have hcounted : (passCounted (passBegun (passPrepared s p) p) p).bindery.pass = some (passOpened (passPrepared s p) p) :=
    (countLane_bindery_pass _ p.laneB).trans (countLane_bindery_pass _ p.laneA)
  rw [beginPass_eq, loadTold_bindery_pass, hfreed]
  exact congrArg Option.isSome hcounted

theorem startPass_begins (s : State) (seam : Nat) (taken : Option Nat) :
    (startPass s (.frame seam taken)).bindery.pass.isSome = true ∨
      (startPass s (.frame seam taken)).bindery.waiting.isSome = true := by
  unfold startPass
  split
  · exact .inr rfl
  · exact .inl (beginPass_begins s _)

theorem renderPass_begins {s : State} {seam : Nat} {taken : Option Nat} {first : Bool} (hwanted : s.bindery.passWanted = true)
    (hbusy : regionsBusy s = false) : (renderPass s seam taken first).bindery.pass.isSome = true ∨
      (renderPass s seam taken first).bindery.waiting.isSome = true := by
  have hdue : passDue s taken first (passAt s seam taken) = true := by simp [passDue, hwanted]
  simp only [renderPass, hbusy, Bool.false_eq_true, if_false, hdue, if_true]
  exact startPass_begins _ seam taken

/-- What a pass that is due asks of the state: it is wanted, and no load or reload is under way. -/
structure PassFree (s : State) : Prop where
  wanted : s.bindery.passWanted = true
  loading : s.bindery.loading = none
  reload : s.bindery.reloadUntil = 0

section

variable {s t : State}

theorem PassFree.not_busy (h : PassFree s) : regionsBusy s = false := by simp [regionsBusy, h.loading, h.reload]

theorem PassFree.of_bindery (h : PassFree s) (hwanted : t.bindery.passWanted = s.bindery.passWanted)
    (hloading : t.bindery.loading = s.bindery.loading) (hreload : t.bindery.reloadUntil = s.bindery.reloadUntil) : PassFree t :=
  ⟨hwanted.trans h.wanted, hloading.trans h.loading, hreload.trans h.reload⟩

theorem PassFree.of_fires (h : PassFree s) (k : Changes firedAs s t) : PassFree t := by
  rw [k.frame]
  exact h.of_bindery rfl rfl rfl

theorem PassFree.of_takes (h : PassFree s) (k : Changes takenAs s t) : PassFree t := by
  rw [k.frame]
  exact h.of_bindery rfl rfl rfl

theorem PassFree.of_shows (h : PassFree s) (k : Changes shownAs s t) : PassFree t := by
  rw [k.frame]
  exact h.of_bindery rfl rfl rfl

end

theorem PassFree.pointRestored {s : State} (h : PassFree s) (seam : Nat) (first : Bool) :
    PassFree (pointRestored s seam first) := by
  unfold Machine.pointRestored
  split
  · exact h.of_takes (takes_dropLate s seam)
  · split
    · exact h.of_shows (shows_restoreShow s seam)
    · exact h

theorem pointRested_bindery (s : State) (seam : Nat) : (pointRested s seam).bindery = s.bindery := by
  rw [(rests_pointRested s seam).frame]
  rfl

theorem pointFired_begins {v : State × Fired} (h : PassFree v.1) (seam : Nat) (first : Bool) :
    (pointFired v seam first).bindery.pass.isSome = true ∨ (pointFired v seam first).bindery.waiting.isSome = true := by
  have htaken := h.of_takes (takes_slotsTaken v.1 seam first)
  have hshown := htaken.of_shows (shows_renderShow _ seam (slotsTaken v.1 seam first).2 v.2 first)
  rw [pointFired, pointRested_bindery, pointShown]
  exact renderPass_begins hshown.wanted hshown.not_busy

theorem renderPoint_begins {s : State} (h : PassFree s) (seam : Nat) :
    (renderPoint s seam).bindery.pass.isSome = true ∨ (renderPoint s seam).bindery.waiting.isSome = true := by
  have hopened : PassFree (pointOpened s seam) := h.of_bindery rfl rfl rfl
  rw [renderPoint_eq]
  exact pointFired_begins ((hopened.pointRestored seam _).of_fires (fires_fireAt _ seam _)) seam _

/-! ### A load that its bound ends (R233) -/

/-- A reader of a load's copy that changes the working copies alone. -/
def ReadsInto (f : State → State) : Prop := ∀ a, f a = { a with bindery := (f a).bindery }

theorem loadImage_reads : ReadsInto loadImage := by
  intro a
  unfold loadImage
  dsimp only
  split <;> rfl

theorem loadCurves_reads : ReadsInto loadCurves := fun _ => rfl

theorem loadFactory_reads : ReadsInto loadFactory := by
  intro a
  unfold loadFactory
  split
  · split <;> rfl
  · rfl

theorem passes_readLoad (s : State) (l : LoadSource) {f : State → State} (hf : ReadsInto f) :
    Changes passedAs s (readLoad s l f) := by
  unfold readLoad
  dsimp only
  rw [hf]
  exact passedAs_isFrame.of_same rfl rfl

theorem passes_recomputeWear (s : State) : Changes passedAs s (recomputeWear s) := by
  unfold recomputeWear
  dsimp only
  split
  · refine passedAs_isFrame.raise ?_
    exact passedAs_isFrame.of_same rfl rfl
  · exact passedAs_isFrame.of_same rfl rfl

/-- s with the image that a load carries read. -/
def imageTaken (s : State) (l : LoadSource) : State :=
  { readLoad s l loadImage with bindery := { (readLoad s l loadImage).bindery with calEventDue := true } }

theorem passes_imageTaken (s : State) (l : LoadSource) : Changes passedAs s (imageTaken s l) := by
  refine passedAs_isFrame.trans (passes_readLoad s l loadImage_reads) ?_
  exact passedAs_isFrame.of_same rfl rfl

/-- s with the image of its load read, where it carries one. -/
def imageLoaded (s : State) : State := if s.bindery.loadFrom.cal then imageTaken s s.bindery.loadFrom else s

/-- s with the image and the tables of its load read, where it carries them. -/
def tablesLoaded (s : State) : State :=
  if s.bindery.loadFrom.tables then readLoad (imageLoaded s) s.bindery.loadFrom loadCurves else imageLoaded s

theorem takeLoad_eq (s : State) : takeLoad s =
    if s.bindery.loadFrom.fact then recomputeWear (readLoad (tablesLoaded s) s.bindery.loadFrom loadFactory)
    else tablesLoaded s := rfl

theorem passes_imageLoaded (s : State) : Changes passedAs s (imageLoaded s) := by
  unfold imageLoaded
  split
  · exact passes_imageTaken s _
  · exact passedAs_isFrame.refl s

theorem passes_tablesLoaded (s : State) : Changes passedAs s (tablesLoaded s) := by
  unfold tablesLoaded
  split
  · exact passedAs_isFrame.trans (passes_imageLoaded s) (passes_readLoad _ _ loadCurves_reads)
  · exact passes_imageLoaded s

theorem passes_takeLoad (s : State) : Changes passedAs s (takeLoad s) := by
  rw [takeLoad_eq]
  split
  · exact passedAs_isFrame.trans (passes_tablesLoaded s)
      (passedAs_isFrame.trans (passes_readLoad _ _ loadFactory_reads) (passes_recomputeWear _))
  · exact passes_tablesLoaded s

theorem passes_startReRender (s : State) : Changes passedAs s (startReRender s) := by
  unfold startReRender
  split
  · exact passedAs_isFrame.of_same rfl rfl
  · split
    · exact passedAs_isFrame.refl s
    · split
      · exact passedAs_isFrame.of_same rfl rfl
      · split
        · exact passedAs_isFrame.of_same rfl rfl
        · exact passes_startPass s _

theorem passes_takeReRender (s : State) : Changes passedAs s (takeReRender s) := by
  unfold takeReRender
  split
  · refine passedAs_isFrame.after (passes_startReRender _) ?_
    exact passedAs_isFrame.of_same rfl rfl
  · exact passedAs_isFrame.refl s

/-- s with a load's copies taken, and none under way. -/
def loadEnded (s : State) : State :=
  let v := takeLoad (countBindery s 6 1)
  { v with bindery := { v.bindery with
      loading := none, loadFrom := LoadSource.empty, loadForced := false, loadHolds := 0, passWanted := true } }

theorem passes_loadEnded (s : State) : Changes passedAs s (loadEnded s) := by
  refine passedAs_isFrame.trans (passedAs_isFrame.trans (passes_countBindery s 6 1) (passes_takeLoad _)) ?_
  exact passedAs_isFrame.of_same rfl rfl

theorem passes_endLoad (s : State) : Changes passedAs s (endLoad s) := by
  have hended := passes_loadEnded s
  unfold endLoad
  extract_lets region holds forced taken bindery ended
  refine passedAs_isFrame.after (passes_takeReRender _) ?_
  split
  · exact passedAs_isFrame.raise hended
  · exact hended

theorem passes_endOverdueLoad (s : State) : Changes passedAs s (endOverdueLoad s) := by
  unfold endOverdueLoad
  split
  · split
    · exact passes_endLoad s
    · exact passedAs_isFrame.refl s
  · exact passedAs_isFrame.refl s

theorem endOverdueLoad_of_none {s : State} (h : s.bindery.loading = none) : endOverdueLoad s = s := by
  simp only [endOverdueLoad, h]

end Sys2Proof.Machine

/-! ## The instant of a render point, and of first light

For O14. The render point comes when Mantel time reaches its instant, after the step of Mantel time that is due by then; first
light is marked at its seam. -/

namespace Sys2Proof.Machine

open Sys2Proof

/-! ### A step of Mantel time leaves none pending (R192, R193) -/

theorem cutSource_mantel (s : State) (cause : Nat) : (cutSource s cause).mantel = s.mantel := by
  rw [(aims_cutSource s cause).frame]
  rfl

theorem endLevel_mantel (s : State) : (endLevel s).mantel = s.mantel := by
  unfold endLevel
  split <;> rfl

theorem judgeCache_mantel (s : State) : (judgeCache s).mantel = s.mantel := by
  rw [(shows_judgeCache s).frame]
  rfl

theorem reanchorShow_mantel (s : State) : (reanchorShow s).mantel = s.mantel :=
  (judgeCache_mantel _).trans ((endLevel_mantel _).trans (cutSource_mantel s 2))

theorem discardQuires_mantel (s : State) (far : Bool) : (discardQuires s far).mantel = s.mantel := by
  unfold discardQuires
  generalize [0, 1, 2] = is
  induction is generalizing s with
  | nil => rfl
  | cons k is ih =>
    rw [List.foldl_cons, ih]
    split <;> rfl

theorem endHold_stepPending (s : State) : (endHold s).mantel.stepPending = s.mantel.stepPending := by
  rw [endHold, raise_mantel]

theorem stepForward_stepPending (s : State) (j : Int) : (stepForward s j).mantel.stepPending = s.mantel.stepPending := by
  unfold stepForward
  dsimp only
  rw [discardQuires_mantel, raise_mantel]
  split
  · exact endHold_stepPending _
  · rfl

/-- s after a far step back has ended the hold that was. -/
def holdEnded (s : State) : State := if s.mantel.hold then endHold s else s

theorem holdEnded_stepPending (s : State) : (holdEnded s).mantel.stepPending = s.mantel.stepPending := by
  unfold holdEnded
  split
  · exact endHold_stepPending s
  · rfl

theorem stepBack_stepPending (s : State) (j : Int) : (stepBack s j).mantel.stepPending = s.mantel.stepPending := by
  unfold stepBack
  dsimp only
  split
  · split
    · rfl
    · rw [raise_mantel]
      rfl
  · rw [reanchorShow_mantel, discardQuires_mantel, raise_mantel]
    exact holdEnded_stepPending s

theorem applyStep_stepPending (s : State) (j : Int) : (applyStep s j).mantel.stepPending = none := by
  unfold applyStep
  dsimp only
  split
  · exact stepForward_stepPending _ j
  · exact stepBack_stepPending _ j

theorem stepAtSeam_stepPending (s : State) (j : Int) : (stepAtSeam s j).mantel.stepPending = none := applyStep_stepPending _ j

/-! ### The render point and the step before it (R179, R192) -/

theorem exec_renderPoint (s : State) : exec .renderPoint s = execRenderPoint s := rfl

theorem stepBefore_of_none {s : State} (h : s.mantel.stepPending = none) (render : Nat) : stepBefore s render = s := by
  simp only [stepBefore, h]

/-- A step that is due by the render point applies first. -/
theorem stepBefore_of_due {s : State} {j : Int} {render : Nat} (h : s.mantel.stepPending = some j) (hj : j ≠ 0)
    (hdue : nextSeam s ≤ render) : stepBefore s render = stepAtSeam s j := by
  simp [stepBefore, h, hj, hdue]

/-- One that is not waits for its own seam. -/
theorem stepBefore_of_later {s : State} {render : Nat}
    (h : ∀ j, s.mantel.stepPending = some j → j = 0 ∨ render < nextSeam s) : stepBefore s render = s := by
  cases hpending : s.mantel.stepPending with
  | none => exact stepBefore_of_none hpending render
  | some j =>
    have hcond : (j != 0 && decide (nextSeam s ≤ render)) = false := by
      rcases h j hpending with hzero | hlater
      · simp [hzero]
      · simp [Nat.not_le.mpr hlater]
    simp [stepBefore, hpending, hcond]

theorem rendersNow_of {s : State} (hcore : coreOn s = true) (hvalid : timeValid s.mantel = true) (hhold : s.mantel.hold = false)
    (hready : s.hall.ready = true) : rendersNow s = true := by
  simp [rendersNow, hcore, hvalid, holding, hhold, hready]

theorem exec_mantelStep_of_pending {s : State} {j : Int} (hcore : coreOn s = true) (h : s.mantel.stepPending = some j)
    (hj : j ≠ 0) : exec .mantelStep s = .next (stepAtSeam s j) := by
  have hexec : exec .mantelStep s = execMantelStep s := rfl
  rw [hexec, execMantelStep, h]
  simp [hcore, hj]

/-- The render point of a state with a step due first is the one of the state after the step. -/
theorem exec_renderPoint_of_due {s : State} {j : Int} (hnow : rendersNow s = true) (h : s.mantel.stepPending = some j)
    (hj : j ≠ 0) (hdue : nextSeam s ≤ nextFrameSeam s - renderLead) :
    exec .renderPoint s = exec .renderPoint (stepAtSeam s j) := by
  have hpending := stepAtSeam_stepPending s j
  rw [exec_renderPoint, exec_renderPoint, execRenderPoint, execRenderPoint, if_pos hnow, stepBefore_of_due h hj hdue,
    stepBefore_of_none hpending]
  dsimp only
  split <;> rfl

/-- The instant of the render point of s: its clocks there, and an overdue load ended. -/
def atRenderPoint (s : State) : State := endOverdueLoad (advanceToMantel s (nextFrameSeam s - renderLead))

theorem exec_renderPoint_of_later {s : State} (hnow : rendersNow s = true)
    (h : ∀ j, s.mantel.stepPending = some j → j = 0 ∨ nextFrameSeam s - renderLead < nextSeam s) :
    exec .renderPoint s = .next (renderPoint (atRenderPoint s) (nextFrameSeam s)) := by
  rw [exec_renderPoint, execRenderPoint, if_pos hnow, stepBefore_of_later h]
  dsimp only
  rw [if_pos hnow]
  rfl

theorem atRenderPoint_keeps (s : State) : PointKeeps (advanceToMantel s (nextFrameSeam s - renderLead)) (atRenderPoint s) :=
  keeps_of_passes (passes_endOverdueLoad _)

theorem passFree_atRenderPoint {s : State} (h : PassFree s) : PassFree (atRenderPoint s) := by
  have hloading : (advanceToMantel s (nextFrameSeam s - renderLead)).bindery.loading = none := h.loading
  rw [atRenderPoint, endOverdueLoad_of_none hloading]
  exact h.of_bindery rfl rfl rfl

/-- A render point comes no earlier than 0.25 ms before its seam, while a tick moves Mantel forward. -/
theorem atRenderPoint_reaches {s : State} (h : 0 < tickUnits s.mantel) : nextFrameSeam s ≤ mNs (atRenderPoint s) + 250000 := by
  have hreaches := advanceToMantel_reaches s (nextFrameSeam s - renderLead) h
  rw [mNs, ← (atRenderPoint_keeps s).time, ← mNs] at hreaches
  unfold renderLead at hreaches
  omega

/-- What a render point leaves of the state before its instant, and the seam that it names. -/
theorem renderPoint_leaves (s : State) (t : State) (ht : t = renderPoint (atRenderPoint s) (nextFrameSeam s)) :
    t.press.renderedFor = some (nextFrameSeam s) ∧
      t.screen.firstSeam = some (s.screen.firstSeam.getD (nextFrameSeam s)) ∧
      mNs t = mNs (atRenderPoint s) ∧ s.now ≤ t.now ∧ t.straps = s.straps ∧
      t.addr = { s.addr with reportSeq := t.addr.reportSeq } ∧
      t.spine.bypHold = s.spine.bypHold ∧ t.arch.keys = s.arch.keys ∧ t.prot = s.prot ∧ t.pending = s.pending := by
  have hat := atRenderPoint_keeps s
  have hpoint := keeps_renderPoint (atRenderPoint s) (nextFrameSeam s)
  rw [← ht] at hpoint
  have hnow : s.now ≤ (advanceToMantel s (nextFrameSeam s - renderLead)).now := Nat.le_add_right _ _
  have haddr := hpoint.addr
  have hopened : (pointOpened (atRenderPoint s) (nextFrameSeam s)).addr = (atRenderPoint s).addr := rfl
  rw [hopened, hat.addr] at haddr
  have hfirst := congrArg (fun x : Option Nat => some (x.getD (nextFrameSeam s))) hat.firstSeam
  exact ⟨hpoint.renderedFor, hpoint.firstSeam.trans hfirst,
    congrArg (· / 2 ^ 32) hpoint.time, hnow.trans (hpoint.now.trans hat.now).ge, hpoint.straps.trans hat.straps, haddr,
    hpoint.bypHold.trans hat.bypHold, hpoint.keys.trans hat.keys, hpoint.prot.trans hat.prot, hpoint.pending.trans hat.pending⟩

/-- The render point with no step due before it (R179, R213, R415). -/
theorem renderPoint_serves {s : State} (hnow : rendersNow s = true)
    (hlater : ∀ j, s.mantel.stepPending = some j → j = 0 ∨ nextFrameSeam s - renderLead < nextSeam s) :
    ∃ t, exec .renderPoint s = .next t ∧ t.press.renderedFor = some (nextFrameSeam s) ∧
      t.screen.firstSeam = some (s.screen.firstSeam.getD (nextFrameSeam s)) ∧
      (0 < 4 * 2 ^ 32 + s.mantel.addend → nextFrameSeam s ≤ mNs t + 250000) ∧
      (s.bindery.passWanted = true → s.bindery.loading = none → s.bindery.reloadUntil = 0 →
        t.bindery.pass.isSome = true ∨ t.bindery.waiting.isSome = true) ∧
      s.now ≤ t.now ∧ t.straps = s.straps ∧ t.addr = { s.addr with reportSeq := t.addr.reportSeq } ∧
      t.spine.bypHold = s.spine.bypHold ∧ t.arch.keys = s.arch.keys ∧ t.prot = s.prot ∧ t.pending = s.pending := by
  obtain ⟨hrendered, hfirst, htime, hrest⟩ := renderPoint_leaves s _ rfl
  refine ⟨_, exec_renderPoint_of_later hnow hlater, hrendered, hfirst, ?_, ?_, hrest⟩
  · intro hticks
    rw [htime]
    exact atRenderPoint_reaches hticks
  · intro hwanted hloading hreload
    exact renderPoint_begins (passFree_atRenderPoint ⟨hwanted, hloading, hreload⟩) _

/-! ### First light (R415) -/

/-- An advance to an instant of Mantel time's units reaches it, while a tick moves Mantel forward. -/
theorem advanceToUnits_reaches (s : State) (t : Nat) (h : 0 < tickUnits s.mantel) :
    t ≤ (advanceToUnits s t).mantel.time := by
  unfold advanceToUnits advance Mantel.ticks
  dsimp only
  generalize tickUnits s.mantel = u at h ⊢
  generalize s.mantel.time = m
  have hround := Int.emod_add_mul_ediv ((t : Int) - m + u - 1) u
  have hrest := Int.emod_lt_of_pos ((t : Int) - m + u - 1) h
  rw [Int.mul_comm u] at hround
  have hticks : ((t : Int) - m + u - 1) / u * u ≤ ((((t : Int) - m + u - 1) / u).toNat : Int) * u :=
    Int.mul_le_mul_of_nonneg_right (Int.self_le_toNat _) h.le
  omega

/-- A frame seam in units of 1/65536 ns is no earlier than its nanoseconds. -/
theorem le_seam16 (t : Nat) : t * 65536 ≤ seam16 t := by
  have hsecond : second = 1000000000 := rfl
  simp only [seam16, tickOf, seamAfter, hsecond]
  have hsplit := Nat.div_add_mod t 1000000000
  have hmod := Nat.mod_lt t (show 0 < 1000000000 by norm_num)
  generalize t / 1000000000 = q at *
  generalize t % 1000000000 = r at *
  omega

theorem advanceToSeam_reaches (s : State) (seam : Nat) (h : 0 < tickUnits s.mantel) :
    seam ≤ (advanceToSeam s seam).mantel.time / 2 ^ 32 := by
  have hunits : seam16 seam * 65536 ≤ (advanceToSeam s seam).mantel.time := advanceToUnits_reaches s _ h
  have hseam := le_seam16 seam
  generalize seam16 seam = m at hunits hseam
  generalize (advanceToSeam s seam).mantel.time = time at hunits ⊢
  omega

/-- s with first light marked, and its step time. -/
def lightMarked (s : State) : State :=
  { s with start := { s.start with
      firstLight := true, stepUs := s.start.stepUs.set 6 (BitVec.ofNat 32 (sat 32 ((s.now - s.start.s) / usNs))) } }

theorem exec_firstLight {s : State} {seam : Nat} (hcore : coreOn s = true) (hlight : s.start.firstLight = false)
    (hseam : s.screen.firstSeam = some seam) : ∃ arg0 arg1, exec .firstLight s =
      .next (raise (lightMarked (advanceToSeam s seam)) 0x0D02 arg0 arg1) := by
  have hexec : exec .firstLight s = execFirstLight s := rfl
  rw [hexec, execFirstLight, hseam]
  simp only [hcore, hlight, Bool.not_true, Bool.or_self, Bool.false_eq_true, if_false]
  exact ⟨_, _, rfl⟩

theorem advanceToSeam_frame (s : State) (seam : Nat) : advanceToSeam s seam = clockedAs (advanceToSeam s seam) s :=
  advance_frame s _

theorem firstLight_marked {s : State} {seam : Nat} (hcore : coreOn s = true) (hlight : s.start.firstLight = false)
    (hseam : s.screen.firstSeam = some seam) :
    ∃ t, exec .firstLight s = .next t ∧ eventRaised s t 0x0D02 ∧ t.start.firstLight = true ∧
      (0 < 4 * 2 ^ 32 + s.mantel.addend → seam ≤ t.mantel.time / 2 ^ 32) ∧
      t = clockedAs t (reportedAs t { s with start := { s.start with firstLight := true, stepUs := t.start.stepUs } }) := by
  obtain ⟨arg0, arg1, hexec⟩ := exec_firstLight hcore hlight hseam
  have hclocked := advanceToSeam_frame s seam
  have hreaches := advanceToSeam_reaches s seam
  generalize advanceToSeam s seam = u at hexec hclocked hreaches
  have hlarder : (lightMarked u).larder = s.larder := by
    rw [hclocked]
    rfl
  have hraised := raise_frame (lightMarked u) 0x0D02 arg0 arg1
  refine ⟨_, hexec, eventRaised_of_larder (eventRaised_raise _ _ arg0 arg1) hlarder, ?_, ?_, ?_⟩
  · rw [hraised]
    rfl
  · rw [hraised]
    exact hreaches
  · generalize raise (lightMarked u) 0x0D02 arg0 arg1 = t at hraised
    have hstart : t.start = (lightMarked u).start := (congrArg State.start hraised).trans rfl
    refine clocked_then_reported ?_ hraised
    rw [hstart, hclocked]
    rfl

end Sys2Proof.Machine

/-! ## The render point of a ring node

For O14. A node whose picture the ring alone sets, past first light: what a render point finds, and the power state that it
chooses. -/

namespace Sys2Proof.Machine

open Sys2Proof

/-! ### A node ready for its render point -/

/-- A node past first light, with nothing that stands before its render point and no legacy port at work. -/
structure RingReady (s : State) : Prop where
  now : rendersNow s = true
  noStep : s.mantel.stepPending = none
  lit : s.screen.firstSeam.isSome = true
  noRestore : s.start.restoreDue = false
  noLoad : s.bindery.loading = none
  reloaded : s.bindery.reloadUntil ≤ s.now
  ring : mode s = .native ∨ mode s = .head
  noFz : s.leaf.fzLevel = none

/-- What the parts of a render point find at such a node, from the first to the last. -/
structure RingPoint (s : State) : Prop where
  free : regionsBusy s = false
  ring : mode s = .native ∨ mode s = .head
  noFz : s.leaf.fzLevel = none

section

variable {s t : State}

theorem RingPoint.of_fires (h : RingPoint s) (k : Changes firedAs s t) : RingPoint t := by
  rw [k.frame]
  exact ⟨h.free, h.ring, h.noFz⟩

theorem RingPoint.of_takes (h : RingPoint s) (k : Changes takenAs s t) : RingPoint t := by
  rw [k.frame]
  exact ⟨h.free, h.ring, h.noFz⟩

theorem RingPoint.not_standalone (h : RingPoint s) : standalone s = false := by
  rcases h.ring with hmode | hmode <;> simp [standalone, hmode]

theorem RingPoint.tolerance (h : RingPoint s) : tolerance s = s.arch.tolUs := by
  rcases h.ring with hmode | hmode <;> simp [Machine.tolerance, hmode]

end

/-- s at the instant t gives, with the frame seam rendered for and that of first light as t has them. -/
def pointedAs (t s : State) : State :=
  clockedAs t { s with
    press := { s.press with renderedFor := t.press.renderedFor, renderedQuire := t.press.renderedQuire }
    screen := { s.screen with firstSeam := t.screen.firstSeam } }

/-- The render point of a ring node finds it as it was, but for its clocks and the seam named. -/
theorem exec_renderPoint_of_ready {s : State} (h : RingReady s) : ∃ v, v = pointedAs v s ∧ RingPoint v ∧
    exec .renderPoint s = .next (pointFired (fireAt v (nextFrameSeam s) false) (nextFrameSeam s) false) := by
  have hlater : ∀ j, s.mantel.stepPending = some j → j = 0 ∨ nextFrameSeam s - renderLead < nextSeam s := by
    simp [h.noStep]
  have hat : atRenderPoint s = advanceToMantel s (nextFrameSeam s - renderLead) := endOverdueLoad_of_none h.noLoad
  have hclocked := advanceToMantel_frame s (nextFrameSeam s - renderLead)
  have hreached : s.now ≤ (advanceToMantel s (nextFrameSeam s - renderLead)).now := Nat.le_add_right _ _
  rw [exec_renderPoint_of_later h.now hlater, hat, renderPoint_eq]
  generalize advanceToMantel s (nextFrameSeam s - renderLead) = u at hclocked hreached
  have hlit : u.screen.firstSeam.isNone = false := by
    rw [hclocked]
    simpa [clockedAs] using h.lit
  have hrestored : pointRestored (pointOpened u (nextFrameSeam s)) (nextFrameSeam s) false =
      pointOpened u (nextFrameSeam s) := by
    have hnone : (pointOpened u (nextFrameSeam s)).start.restoreDue = false := by
      rw [hclocked]
      exact h.noRestore
    simp [pointRestored, hnone]
  rw [hlit, hrestored]
  refine ⟨pointOpened u (nextFrameSeam s), ?_, ?_, rfl⟩
  · rw [hclocked]
    rfl
  · have hload : (pointOpened u (nextFrameSeam s)).bindery = s.bindery := by
      rw [hclocked]
      rfl
    have hnow : (pointOpened u (nextFrameSeam s)).now = u.now := rfl
    refine ⟨?_, ?_, ?_⟩
    · have hreload := Nat.le_trans h.reloaded hreached
      simp [regionsBusy, hload, hnow, h.noLoad, hreload]
    · rw [hclocked]
      exact h.ring
    · rw [hclocked]
      exact h.noFz

/-! ### The power state of a seam (R401, R403) -/

/-- The conditions of the state chosen hold, and those of every state before it. -/
theorem ownConditions_of_le_eligible {s : State} {seam : Nat} {d : Rest} (hd : d ≠ .s0)
    (hle : restCode d ≤ restCode (eligible s seam)) : ownConditions s seam d = true := by
  by_contra hnot
  have hnot := Bool.eq_false_of_not_eq_true hnot
  revert hle
  rw [imp_false, Nat.not_le]
  unfold eligible
  cases d with
  | s0 => exact absurd rfl hd
  | s1 => simp [hnot, restCode]
  | s2 =>
    rw [hnot]
    (repeat' split) <;> simp_all [restCode]
  | s3 =>
    rw [hnot]
    (repeat' split) <;> simp_all [restCode]
  | s4 =>
    rw [hnot]
    (repeat' split) <;> simp_all [restCode]

/-- S0 is chosen only where the node stays awake or S1 itself is not admitted. -/
theorem eligible_ne_s0 {s : State} {seam : Nat} (hawake : staysAwake s = false) (hs1 : ownConditions s seam .s1 = true) :
    eligible s seam ≠ .s0 := by
  unfold eligible
  rw [hawake, hs1]
  (repeat' split) <;> simp_all

theorem ownConditions_iff (s : State) (seam : Nat) (d : Rest) : ownConditions s seam d = true ↔
    wakeUs d ≤ tolerance s ∧ darkShow s seam = true ∧ restAllowed s d = true ∧ ownReasons s d = [] ∧
      (d ≠ .s4 ∨ bypassRefusal s false = none) := by
  simp [ownConditions, and_assoc]

/-- The choice of a power state leaves all that makes the show dark. -/
theorem darkShow_of_rests {s t : State} (h : Changes restedAs s t) (seam : Nat) : darkShow t seam = darkShow s seam :=
  (congrArg (darkShow · seam) h.frame).trans rfl

/-- In S0, with neither a wake nor an entry under way, the state chosen is the deepest that its conditions admit. -/
theorem choosePower_entering {s : State} {seam : Nat} (hst : s.power.st = .s0) (hwaking : s.power.waking = none)
    (hbegun : s.power.entryBegun = false) (hentering : s.power.entering = none) :
    (choosePower s seam).power.entering =
      if eligible s seam = .s0 then none else some (eligible s seam, seam) := by
  have hreport := blocks_reportBlocked s seam (nextDeeper (eligible s seam))
  unfold choosePower
  simp only [hwaking, hbegun, Option.isSome_none, Bool.or_self, Bool.false_eq_true, if_false]
  generalize reportBlocked s seam (nextDeeper (eligible s seam)) = u at hreport ⊢
  have hu : u.power.st = .s0 := (congrArg (fun x : State => x.power.st) hreport.frame).trans hst
  have hnone : u.power.entering = none := (congrArg (fun x : State => x.power.entering) hreport.frame).trans hentering
  rw [hu]
  simp only [show (Rest.s0 == Rest.s1) = false from rfl, Bool.false_and, Bool.false_eq_true, if_false]
  cases eligible s seam <;> simp [deeper, restCode, hnone]

theorem noteLit_frame (s : State) (lit : Bool) : noteLit s lit = { s with
    arch := { s.arch with litFrom := (noteLit s lit).arch.litFrom, litNs := (noteLit s lit).arch.litNs } } := by
  unfold noteLit
  dsimp only
  split <;> rfl

/-- A power state d is admitted at a frame seam in state t (R401): its conditions, as the obligation says them. -/
def RestsAt (t : State) (seam : Nat) (d : Rest) : Prop :=
  d ≠ .s0 ∧ darkShow t seam = true ∧ wakeUs d ≤ t.arch.tolUs ∧ (d = .s2 ∨ d = .s3 ∨ d = .s4 → mode t = .native) ∧
    (d ≠ .s1 → assigned t = true ∧ (t.screen.programme ≠ .stream ∨ t.larder.fstate = .lost)) ∧
    (d = .s3 ∨ d = .s4 → bankHeld t = false) ∧ (d = .s4 → t.mantel.cues = [] ∧ t.mantel.censuses = [])

theorem restsAt_congr {s t : State} (h : Changes restedAs s t) (seam : Nat) (d : Rest) : RestsAt t seam d ↔ RestsAt s seam d :=
  iff_of_eq ((congrArg (RestsAt · seam d) h.frame).trans rfl)

theorem native_of_restAllowed {s : State} {d : Rest} (hmode : mode s = .native ∨ mode s = .head)
    (h : restAllowed s d = true) (hd : d = .s2 ∨ d = .s3 ∨ d = .s4) : mode s = .native := by
  rcases hmode with hmode | hmode
  · exact hmode
  · rcases hd with rfl | rfl | rfl <;> simp [restAllowed, hmode] at h

/-- Nothing keeps a node out of S2 that holds an address and no stream. -/
theorem assigned_of_no_reasons {s : State} (h : ownReasons s .s2 = []) :
    assigned s = true ∧ (s.screen.programme ≠ .stream ∨ s.larder.fstate = .lost) := by
  simp only [ownReasons, List.append_eq_nil_iff, ite_eq_left_iff, ite_eq_right_iff] at h
  obtain ⟨hassigned, hstream⟩ := h
  refine ⟨by simpa using hassigned, ?_⟩
  by_contra hnot
  simp only [not_or, not_not] at hnot
  simp [hnot.1, hnot.2] at hstream

theorem restsAt_eligible {s : State} {seam : Nat} (hmode : mode s = .native ∨ mode s = .head)
    (h : eligible s seam ≠ .s0) : RestsAt s seam (eligible s seam) := by
  have hown := fun d (hd : d ≠ .s0) (hle : restCode d ≤ restCode (eligible s seam)) =>
    (ownConditions_iff s seam d).mp (ownConditions_of_le_eligible hd hle)
  obtain ⟨hwake, hdark, hallowed, hreasons, _⟩ := hown _ h (Nat.le_refl _)
  have htol : tolerance s = s.arch.tolUs := by rcases hmode with hmode | hmode <;> simp [tolerance, hmode]
  generalize eligible s seam = d at *
  refine ⟨h, hdark, htol ▸ hwake, native_of_restAllowed hmode hallowed, ?_, ?_, ?_⟩
  · intro hs1
    obtain ⟨_, _, _, hs2, _⟩ := hown .s2 nofun (by cases d <;> simp_all [restCode])
    exact assigned_of_no_reasons hs2
  · intro hdeep
    obtain ⟨_, _, _, hs3, _⟩ := hown .s3 nofun (by rcases hdeep with rfl | rfl <;> decide)
    simpa [ownReasons] using hs3
  · rintro rfl
    simp only [ownReasons, List.append_eq_nil_iff, ite_eq_left_iff] at hreasons
    simpa using hreasons.2

/-- The power state that a render point chooses in S0 (R401, R403). -/
theorem pointRested_chooses {s : State} (seam : Nat) (hmode : mode s = .native ∨ mode s = .head)
    (hst : s.power.st = .s0) (hwaking : s.power.waking = none) (hbegun : s.power.entryBegun = false)
    (hentering : s.power.entering = none) :
    ((pointRested s seam).power.entering = none ∨
      ∃ d, (pointRested s seam).power.entering = some (d, seam) ∧ RestsAt (pointRested s seam) seam d) ∧
    (darkShow (pointRested s seam) seam = true → 60 ≤ (pointRested s seam).arch.tolUs → s.power.lastCause ∉ [1, 2, 4] →
      (pointRested s seam).power.entering.isSome = true) := by
  have hrests := rests_pointRested s seam
  have hchosen : (pointRested s seam).power.entering = if eligible s seam = .s0 then none else some (eligible s seam, seam) := by
    rw [← choosePower_entering hst hwaking hbegun hentering, pointRested, noteLit_frame]
  have htol : (pointRested s seam).arch.tolUs = tolerance s := by
    have harch : (pointRested s seam).arch.tolUs = s.arch.tolUs :=
      (congrArg (fun x : State => x.arch.tolUs) hrests.frame).trans rfl
    rcases hmode with hmode | hmode <;> simp [tolerance, hmode, harch]
  constructor
  · by_cases hs0 : eligible s seam = .s0
    · exact .inl (by rw [hchosen, if_pos hs0])
    · refine .inr ⟨_, by rw [hchosen, if_neg hs0], (restsAt_congr hrests seam _).mpr (restsAt_eligible hmode hs0)⟩
  · intro hdark hwake hcause
    have hawake : staysAwake s = false := by simp_all [staysAwake]
    have hs1 : ownConditions s seam .s1 = true := by
      rw [darkShow_of_rests hrests] at hdark
      rw [htol] at hwake
      exact (ownConditions_iff s seam .s1).mpr ⟨hwake, hdark, rfl, rfl, .inl nofun⟩
    rw [hchosen, if_neg (eligible_ne_s0 hawake hs1)]
    rfl

end Sys2Proof.Machine

/-! ## The slots at a render point

For O14. Of the slots due at a frame seam the newest READY one becomes BOUND and every other is freed, or with none READY all are
and one hold is counted (R197); the show and the pass keep that. -/

namespace Sys2Proof.Machine

open Sys2Proof

/-! ### The slots of the larder -/

theorem getD_set_empty (l : List Slot) (i : Nat) : (l.set i Slot.empty).getD i Slot.empty = Slot.empty := by
  rw [List.getD_eq_getElem?_getD, List.getElem?_set_self']
  cases l[i]? <;> rfl

theorem getD_set_other {l : List Slot} {i j : Nat} (x : Slot) (h : i ≠ j) :
    (l.set i x).getD j Slot.empty = l.getD j Slot.empty := by
  rw [List.getD_eq_getElem?_getD, List.getElem?_set_ne h, List.getD_eq_getElem?_getD]

theorem getD_set_same {l : List Slot} {i : Nat} (x : Slot) (h : i < l.length) : (l.set i x).getD i Slot.empty = x := by
  rw [List.getD_eq_getElem?_getD, List.getElem?_set_self h]
  rfl

/-- An operation that frees the slot it is given, and leaves the others. -/
def Frees (f : Nat → State → State) : Prop := ∀ i a, (f i a).larder.slots = a.larder.slots.set i Slot.empty

section

variable {p : Nat → Bool} {f : Nat → State → State} (hf : Frees f)

include hf

theorem foldl_frees_slot (is : List Nat) (s : State) (j : Nat) :
    (is.foldl (fun a i => if p i then f i a else a) s).larder.slots.getD j Slot.empty =
      if j ∈ is ∧ p j = true then Slot.empty else s.larder.slots.getD j Slot.empty := by
  induction is generalizing s with
  | nil => simp
  | cons i is ih =>
    rw [List.foldl_cons, ih]
    by_cases hj : i = j
    · subst hj
      cases hp : p i <;> simp [hf i, getD_set_empty, -List.getD_eq_getElem?_getD]
    · cases p i <;> simp [hf i, getD_set_other _ hj, Ne.symm hj, -List.getD_eq_getElem?_getD]

theorem foldl_frees_length (is : List Nat) (s : State) :
    (is.foldl (fun a i => if p i then f i a else a) s).larder.slots.length = s.larder.slots.length := by
  induction is generalizing s with
  | nil => rfl
  | cons i is ih =>
    rw [List.foldl_cons, ih]
    cases p i <;> simp [hf i]

end

theorem foldl_keeps_secHolds {p : Nat → Bool} {f : Nat → State → State}
    (hf : ∀ i a, (f i a).larder.secHolds = a.larder.secHolds) (is : List Nat) (s : State) :
    (is.foldl (fun a i => if p i then f i a else a) s).larder.secHolds = s.larder.secHolds := by
  induction is generalizing s with
  | nil => rfl
  | cons i is ih =>
    rw [List.foldl_cons, ih]
    cases p i with
    | true => exact hf i s
    | false => rfl

theorem supersede_frees : Frees fun i a => supersede a i := fun _ _ => rfl

theorem setSlot_frees : Frees fun i a => setSlot a i Slot.empty := fun _ _ => rfl

theorem mem_three_of_due {s : State} {seam i : Nat} (hlength : s.larder.slots.length = 3)
    (h : dueSlot s seam (s.larder.slots.getD i Slot.empty) = true) : i ∈ [0, 1, 2] := by
  have hi : i < 3 := by
    by_contra hge
    rw [List.getD_eq_default _ _ (by omega)] at h
    simp [dueSlot, Slot.empty] at h
  simp only [List.mem_cons, List.not_mem_nil, or_false]
  omega

/-- What later parts of a render point leave of the slots: the one taken as it is, and the free ones free. -/
def SlotsStand (taken : Option Nat) (l l' : List Slot) : Prop :=
  ∀ i, (taken = some i → l'.getD i Slot.empty = l.getD i Slot.empty) ∧
    (l.getD i Slot.empty = Slot.empty → l'.getD i Slot.empty = Slot.empty)

theorem SlotsStand.refl (taken : Option Nat) (l : List Slot) : SlotsStand taken l l := fun _ => ⟨fun _ => rfl, id⟩

theorem SlotsStand.trans {taken : Option Nat} {l l' l'' : List Slot} (h : SlotsStand taken l l')
    (k : SlotsStand taken l' l'') : SlotsStand taken l l'' :=
  fun i => ⟨fun hi => ((k i).1 hi).trans ((h i).1 hi), fun hi => (k i).2 ((h i).2 hi)⟩

theorem freeBound_stands (s : State) (keep : Option Nat) : SlotsStand keep s.larder.slots (freeBound s keep).larder.slots := by
  unfold freeBound
  generalize [0, 1, 2] = is
  induction is generalizing s with
  | nil => exact .refl keep _
  | cons i is ih =>
    rw [List.foldl_cons]
    refine SlotsStand.trans ?_ (ih _)
    split
    · rename_i hbound
      have hkeep : keep ≠ some i := by simp_all
      intro j
      by_cases hij : i = j
      · subst hij
        exact ⟨fun h => absurd h hkeep, fun _ => getD_set_empty _ i⟩
      · exact ⟨fun _ => getD_set_other _ hij, (getD_set_other _ hij).trans⟩
    · exact .refl keep _

theorem freeBound_secHolds (s : State) (keep : Option Nat) : (freeBound s keep).larder.secHolds = s.larder.secHolds :=
  (congrArg (fun x : State => x.larder.secHolds) (freeBound_frame s keep)).trans rfl

theorem freeBound_length (s : State) (keep : Option Nat) : (freeBound s keep).larder.slots.length = s.larder.slots.length := by
  unfold freeBound
  generalize [0, 1, 2] = is
  induction is generalizing s with
  | nil => rfl
  | cons i is ih =>
    rw [List.foldl_cons, ih]
    split
    · exact List.length_set
    · rfl

/-! ### The slots due at a seam (R197) -/

theorem newestDue_lt {s : State} {seam k : Nat} (h : newestDue s seam = some k) : k < s.larder.slots.length :=
  (List.findIdx?_eq_some_iff_getElem.mp h).1

/-- The newest READY slot due is BOUND, and every other slot due is free. -/
theorem slotBound_slots {s : State} {seam k : Nat} (hlength : s.larder.slots.length = 3) (hk : newestDue s seam = some k) :
    (slotBound s seam k).larder.slots.getD k Slot.empty = { s.larder.slots.getD k Slot.empty with st := .bound } ∧
      ∀ i, i ≠ k → dueSlot s seam (s.larder.slots.getD i Slot.empty) = true →
        (slotBound s seam k).larder.slots.getD i Slot.empty = Slot.empty := by
  have hstands := freeBound_stands (overDue s seam (some k) fun i a => supersede a i) (some k)
  have hover := foldl_frees_slot supersede_frees
    (p := fun i => some k != some i && dueSlot s seam (s.larder.slots.getD i Slot.empty)) [0, 1, 2] s
  have hlen : (freeBound (overDue s seam (some k) fun i a => supersede a i) (some k)).larder.slots.length = 3 :=
    (freeBound_length _ _).trans ((foldl_frees_length supersede_frees _ s).trans hlength)
  have hlt := newestDue_lt hk
  change ∀ j, (overDue s seam (some k) fun i a => supersede a i).larder.slots.getD j Slot.empty = _ at hover
  unfold slotBound
  generalize overDue s seam (some k) (fun i a => supersede a i) = u at hstands hover hlen ⊢
  generalize freeBound u (some k) = v at hstands hlen ⊢
  constructor
  · refine (getD_set_same _ (by omega)).trans ?_
    rw [(hstands k).1 rfl, hover]
    simp
  · intro i hik hdue
    refine (getD_set_other _ (Ne.symm hik)).trans ((hstands i).2 ?_)
    rw [hover, if_pos ⟨mem_three_of_due hlength hdue, by simp [hdue, Ne.symm hik, -List.getD_eq_getElem?_getD]⟩]

/-- With none READY every slot due is free. -/
theorem slotsHeld_slots {s : State} {seam i : Nat} (hlength : s.larder.slots.length = 3)
    (hdue : dueSlot s seam (s.larder.slots.getD i Slot.empty) = true) :
    (slotsHeld s seam).larder.slots.getD i Slot.empty = Slot.empty := by
  refine (foldl_frees_slot setSlot_frees [0, 1, 2] s i).trans (if_pos ⟨mem_three_of_due hlength hdue, ?_⟩)
  simpa using hdue

theorem slotBound_secHolds (s : State) (seam k : Nat) : (slotBound s seam k).larder.secHolds = s.larder.secHolds := by
  have hover : (overDue s seam (some k) fun i a => supersede a i).larder.secHolds = s.larder.secHolds :=
    foldl_keeps_secHolds (f := fun i a => supersede a i) (fun _ _ => rfl) [0, 1, 2] s
  have hfreed := freeBound_secHolds (overDue s seam (some k) fun i a => supersede a i) (some k)
  unfold slotBound
  generalize overDue s seam (some k) (fun i a => supersede a i) = u at hover hfreed ⊢
  generalize freeBound u (some k) = v at hfreed ⊢
  exact hfreed.trans hover

theorem slotsHeld_secHolds (s : State) (seam : Nat) : (slotsHeld s seam).larder.secHolds = s.larder.secHolds + 1 :=
  congrArg (· + 1) (foldl_keeps_secHolds (f := fun i a => setSlot a i Slot.empty)
    (p := fun i => none != some i && dueSlot s seam (s.larder.slots.getD i Slot.empty)) (fun _ _ => rfl) [0, 1, 2] s)

theorem takeDue_of_newest {s : State} {seam k : Nat} (h : newestDue s seam = some k) :
    takeDue s seam = (slotBound (droppedPast s seam) seam k, some k) := by
  have hdropped : newestDue (droppedPast s seam) seam = some k := h
  simp only [takeDue_eq, hdropped]

theorem takeDue_of_due {s : State} {seam : Nat} (h : newestDue s seam = none)
    (hdue : ∃ x ∈ s.larder.slots, dueSlot s seam x = true) : takeDue s seam = (slotsHeld (droppedPast s seam) seam, none) := by
  have hdropped : newestDue (droppedPast s seam) seam = none := h
  have hany : s.larder.slots.any (dueSlot (droppedPast s seam) seam) = true := List.any_eq_true.mpr hdue
  simp only [takeDue_eq, hdropped, hany, Bool.or_true, if_true]

theorem takeDue_of_none {s : State} {seam : Nat} (h : newestDue s seam = none) (hempty : s.larder.dropped = [])
    (hnone : ∀ x ∈ s.larder.slots, dueSlot s seam x = false) : takeDue s seam = (droppedPast s seam, none) := by
  have hdropped : newestDue (droppedPast s seam) seam = none := h
  have hany : s.larder.slots.any (dueSlot (droppedPast s seam) seam) = false := by
    refine List.any_eq_false.mpr fun x hx => ?_
    exact Bool.not_eq_true _ ▸ hnone x hx
  simp [takeDue_eq, hdropped, hany, hempty]

/-! ### The pass leaves the slots (R214) -/

theorem passPrepared_larder (s : State) (p : Pass) : (passPrepared s p).larder = s.larder := beginCopy_larder _

theorem passCounted_larder (s : State) (p : Pass) : (passCounted s p).larder = s.larder :=
  (countLane_larder _ p.laneB).trans (countLane_larder s p.laneA)

theorem loadTold_slots (s : State) : (loadTold s).larder.slots = s.larder.slots ∧
    (loadTold s).larder.secHolds = s.larder.secHolds := by
  unfold loadTold
  split
  · rw [raise_frame]
    exact ⟨rfl, rfl⟩
  · exact ⟨rfl, rfl⟩

theorem beginPass_slots (s : State) (p : Pass) : SlotsStand p.slot s.larder.slots (beginPass s p).larder.slots ∧
    (beginPass s p).larder.secHolds = s.larder.secHolds := by
  have hlarder : (passCounted (passBegun (passPrepared s p) p) p).larder = s.larder :=
    (passCounted_larder _ p).trans (passPrepared_larder s p)
  have hstands := freeBound_stands (passCounted (passBegun (passPrepared s p) p) p) p.slot
  have hholds := freeBound_secHolds (passCounted (passBegun (passPrepared s p) p) p) p.slot
  rw [beginPass_eq, (loadTold_slots _).1, (loadTold_slots _).2]
  rw [hlarder] at hstands hholds
  exact ⟨hstands, hholds⟩

theorem startPass_slots (s : State) (seam : Nat) (taken : Option Nat) :
    SlotsStand taken s.larder.slots (startPass s (.frame seam taken)).larder.slots ∧
      (startPass s (.frame seam taken)).larder.secHolds = s.larder.secHolds := by
  unfold startPass
  split
  · exact ⟨.refl _ _, rfl⟩
  · exact beginPass_slots s (passAt s seam taken)

theorem clearPass_larder {s : State} (hpass : s.bindery.pass = none) (hwaiting : s.bindery.waiting = none) :
    (clearPass s).larder = s.larder := by
  simp [clearPass, hpass, hwaiting]

/-- With no pass under way and none waiting, a render point's pass leaves the slot taken and the free ones. -/
theorem renderPass_slots {s : State} {seam : Nat} {taken : Option Nat} {first : Bool} (hfree : regionsBusy s = false)
    (hpass : s.bindery.pass = none) (hwaiting : s.bindery.waiting = none) :
    SlotsStand taken s.larder.slots (renderPass s seam taken first).larder.slots ∧
      (renderPass s seam taken first).larder.secHolds = s.larder.secHolds := by
  have hstart := startPass_slots (clearPass s) seam taken
  rw [clearPass_larder hpass hwaiting] at hstart
  simp only [renderPass, hfree, Bool.false_eq_true, if_false]
  split
  · exact hstart
  · exact ⟨.refl _ _, rfl⟩

/-! ### The slots behind a render point -/

/-- The slots that a render point takes stand to its end. -/
theorem pointFired_slots {v : State × Fired} {seam : Nat} (hring : RingPoint v.1) (hpass : v.1.bindery.pass = none)
    (hwaiting : v.1.bindery.waiting = none) :
    SlotsStand (takeDue v.1 seam).2 (takeDue v.1 seam).1.larder.slots (pointFired v seam false).larder.slots ∧
      (pointFired v seam false).larder.secHolds = (takeDue v.1 seam).1.larder.secHolds := by
  have htaken : slotsTaken v.1 seam false = takeDue v.1 seam := by simp [slotsTaken, hring.free]
  have htakes := takes_takeDue v.1 seam
  have hshows := shows_renderShow (takeDue v.1 seam).1 seam (takeDue v.1 seam).2 v.2 false
  have hrests := rests_pointRested (pointShown (takeDue v.1 seam).1 seam (takeDue v.1 seam).2 v.2 false) seam
  rw [pointFired, htaken]
  unfold pointShown at *
  generalize takeDue v.1 seam = k at *
  generalize renderShow k.1 seam k.2 v.2 false = x at *
  have hslots : x.larder.slots = k.1.larder.slots := (congrArg (fun y : State => y.larder.slots) hshows.frame).trans rfl
  have hholds : x.larder.secHolds = k.1.larder.secHolds :=
    (congrArg (fun y : State => y.larder.secHolds) hshows.frame).trans rfl
  have hfree : regionsBusy x = false := by
    rw [hshows.frame, htakes.frame]
    exact hring.free
  have hnone : x.bindery.pass = none ∧ x.bindery.waiting = none := by
    rw [hshows.frame, htakes.frame]
    exact ⟨hpass, hwaiting⟩
  obtain ⟨hstands, hkeeps⟩ := renderPass_slots (seam := seam) (taken := k.2) (first := false) hfree hnone.1 hnone.2
  have hrested : (pointRested (renderPass x seam k.2 false) seam).larder.slots = (renderPass x seam k.2 false).larder.slots ∧
      (pointRested (renderPass x seam k.2 false) seam).larder.secHolds = (renderPass x seam k.2 false).larder.secHolds := by
    rw [hrests.frame]
    exact ⟨rfl, rfl⟩
  rw [hrested.1, hrested.2, ← hslots, ← hholds]
  exact ⟨hstands, hkeeps⟩

/-- Of the slots due at a ring node's render point the newest READY one becomes BOUND and the others are freed, or with none READY
all are and one hold is counted (R197). -/
theorem renderPoint_takes {s : State} (h : RingReady s) (hpass : s.bindery.pass = none) (hwaiting : s.bindery.waiting = none)
    (hlength : s.larder.slots.length = 3) (hempty : s.larder.dropped = []) :
    ∃ t, exec .renderPoint s = .next t ∧
      (∀ k, newestDue s (nextFrameSeam s) = some k →
        t.larder.slots.getD k Slot.empty = { s.larder.slots.getD k Slot.empty with st := .bound } ∧
        t.larder.secHolds = s.larder.secHolds ∧
        ∀ i, i ≠ k → dueSlot s (nextFrameSeam s) (s.larder.slots.getD i Slot.empty) = true →
          t.larder.slots.getD i Slot.empty = Slot.empty) ∧
      (newestDue s (nextFrameSeam s) = none → (∃ x ∈ s.larder.slots, dueSlot s (nextFrameSeam s) x = true) →
        t.larder.secHolds = s.larder.secHolds + 1 ∧
        ∀ i, dueSlot s (nextFrameSeam s) (s.larder.slots.getD i Slot.empty) = true →
          t.larder.slots.getD i Slot.empty = Slot.empty) ∧
      (newestDue s (nextFrameSeam s) = none → (∀ x ∈ s.larder.slots, dueSlot s (nextFrameSeam s) x = false) →
        t.larder.secHolds = s.larder.secHolds) := by
  obtain ⟨v, hv, hring, hexec⟩ := exec_renderPoint_of_ready h
  generalize nextFrameSeam s = seam at *
  have hfires := fires_fireAt v seam false
  generalize fireAt v seam false = fired at *
  have hlarder : fired.1.larder.slots = s.larder.slots ∧ fired.1.larder.dropped = [] ∧
      fired.1.larder.secHolds = s.larder.secHolds ∧ newestDue fired.1 seam = newestDue s seam ∧
      dueSlot fired.1 seam = dueSlot s seam := by
    rw [hfires.frame, hv]
    exact ⟨rfl, hempty, rfl, rfl, rfl⟩
  have hnone : fired.1.bindery.pass = none ∧ fired.1.bindery.waiting = none := by
    rw [hfires.frame, hv]
    exact ⟨hpass, hwaiting⟩
  obtain ⟨hslots, hdropped, hholds, hnewest, hdue⟩ := hlarder
  obtain ⟨hstands, hkeeps⟩ := pointFired_slots (v := fired) (seam := seam) (hring.of_fires hfires) hnone.1 hnone.2
  have hpastSlots : (droppedPast fired.1 seam).larder.slots = s.larder.slots := hslots
  have hpastDue : dueSlot (droppedPast fired.1 seam) seam = dueSlot s seam := hdue
  have hpastLength : (droppedPast fired.1 seam).larder.slots.length = 3 := (congrArg List.length hslots).trans hlength
  refine ⟨_, hexec, ?_, ?_, ?_⟩
  · intro k hk
    obtain ⟨hbound, hfreed⟩ := slotBound_slots (s := droppedPast fired.1 seam) hpastLength (hnewest.trans hk)
    rw [takeDue_of_newest (hnewest.trans hk)] at hstands hkeeps
    rw [hpastSlots] at hbound hfreed
    rw [hpastDue] at hfreed
    exact ⟨((hstands k).1 rfl).trans hbound, hkeeps.trans ((slotBound_secHolds _ _ _).trans hholds),
      fun i hik hi => (hstands i).2 (hfreed i hik hi)⟩
  · intro hk hsome
    rw [takeDue_of_due (hnewest.trans hk) (by rw [hslots, hdue]; exact hsome)] at hstands hkeeps
    refine ⟨hkeeps.trans ((slotsHeld_secHolds _ _).trans (congrArg (· + 1) hholds)), fun i hi => (hstands i).2 ?_⟩
    exact slotsHeld_slots hpastLength (by rw [hpastSlots, hpastDue]; exact hi)
  · intro hk hall
    rw [takeDue_of_none (hnewest.trans hk) hdropped (by rw [hslots, hdue]; exact hall)] at hkeeps
    exact hkeeps.trans hholds

end Sys2Proof.Machine

/-! ## The cue that a render point fires

For O14. The one cue armed, when its time is at most the seam: what it does, with its completion record, and the picture and the
level that the show takes from it (R126, R179, R240, R251, R254, R400). -/

namespace Sys2Proof.Machine

open Sys2Proof

/-! ### What stands behind the cues of a seam -/

/-- What the later parts of a render point leave of what its cues have done. -/
structure CueStands (s t : State) : Prop where
  cues : t.mantel.cues = s.mantel.cues
  entries : t.hall.entries = s.hall.entries
  summaries : t.hall.summaries = s.hall.summaries
  standing : t.arch.standing = s.arch.standing
  tolUs : t.arch.tolUs = s.arch.tolUs
  events : s.larder.events <+: t.larder.events

section

variable {s t u : State}

theorem CueStands.trans (h : CueStands s t) (k : CueStands t u) : CueStands s u :=
  ⟨k.cues.trans h.cues, k.entries.trans h.entries, k.summaries.trans h.summaries, k.standing.trans h.standing,
    k.tolUs.trans h.tolUs, h.events.trans k.events⟩

theorem CueStands.of_takes (h : Changes takenAs s t) : CueStands s t := by
  refine ⟨?_, ?_, ?_, ?_, ?_, h.events⟩ <;> rw [h.frame] <;> rfl

theorem CueStands.of_shows (h : Changes shownAs s t) : CueStands s t := by
  refine ⟨?_, ?_, ?_, ?_, ?_, h.events⟩ <;> rw [h.frame] <;> rfl

theorem CueStands.of_passes (h : Changes passedAs s t) : CueStands s t := by
  refine ⟨?_, ?_, ?_, ?_, ?_, h.events⟩ <;> rw [h.frame] <;> rfl

theorem CueStands.of_rests (h : Changes restedAs s t) : CueStands s t := by
  refine ⟨?_, ?_, ?_, ?_, ?_, h.events⟩ <;> rw [h.frame] <;> rfl

end

theorem pointFired_stands (v : State × Fired) (seam : Nat) (first : Bool) : CueStands v.1 (pointFired v seam first) := by
  have htaken := CueStands.of_takes (takes_slotsTaken v.1 seam first)
  have hshown := CueStands.of_shows (shows_renderShow (slotsTaken v.1 seam first).1 seam (slotsTaken v.1 seam first).2 v.2 first)
  have hpassed := CueStands.of_passes (passes_renderPass
    (renderShow (slotsTaken v.1 seam first).1 seam (slotsTaken v.1 seam first).2 v.2 first) seam (slotsTaken v.1 seam first).2 first)
  exact ((htaken.trans hshown).trans hpassed).trans (.of_rests (rests_pointRested _ seam))

/-! ### The progress of the source and the level (R249, R251) -/

theorem formEstimate_screen (s : State) : (formEstimate s).screen = s.screen := by
  unfold formEstimate
  dsimp only
  split
  · rfl
  · rw [raise_frame]
    rfl

/-- The source under way moves on towards the same picture, and leaves the level. -/
theorem sourceTo_keeps (s : State) (seam : Nat) : pictureGoal (sourceTo s seam) = pictureGoal s ∧
    (sourceTo s seam).screen.level = s.screen.level ∧ (sourceTo s seam).screen.lambda = s.screen.lambda ∧
    (sourceTo s seam).screen.arc = s.screen.arc := by
  unfold sourceTo
  split
  · exact ⟨rfl, rfl, rfl, rfl⟩
  · dsimp only
    split
    · simp_all [pictureGoal]
    · simp_all [pictureGoal]

theorem levelTo_pictureGoal (s : State) (seam : Nat) : pictureGoal (levelTo s seam) = pictureGoal s := by
  unfold levelTo
  split <;> rfl

theorem levelTo_of_none {s : State} (h : s.screen.level = none) (seam : Nat) : levelTo s seam = s := by
  simp only [levelTo, h]

theorem showMoved_pictureGoal {s : State} {fired : Fired} (h : fired.level = none) (seam : Nat) :
    pictureGoal (showMoved s seam fired) = pictureGoal s := by
  simp only [showMoved, h, levelTo_pictureGoal, (sourceTo_keeps _ seam).1]
  simp only [pictureGoal, formEstimate_screen]

theorem startLevel_lambdaTarget (s : State) (seam mode target ms shape : Nat) :
    (startLevel s seam mode target ms shape).screen.lambdaTarget = targetLevel mode target := by
  unfold startLevel
  dsimp only
  split
  · rfl
  · unfold levelTo
    rfl

/-- A level asked without a time is set. -/
theorem startLevel_of_zero (s : State) (seam mode target shape : Nat) :
    (startLevel s seam mode target 0 shape).screen.level = none ∧
      (startLevel s seam mode target 0 shape).screen.lambda = targetLevel mode target := by
  simp [startLevel]

/-- A fade of the level has not moved at its own seam. -/
theorem levelX16_start {f : LevelFade} (h : f.ms ≠ 0) : levelX16 f f.start = 0 := by
  simp [levelX16, progress, h]

/-- A fade of the level stands at its own seam, at the level it starts from. -/
theorem levelTo_start {s : State} {f : LevelFade} (h : s.screen.level = some f) (hms : f.ms ≠ 0) :
    (levelTo s f.start).screen.level = some f ∧
      (f.mode = 0 → f.shape = 0 → (levelTo s f.start).screen.lambda = f.l0) := by
  simp only [levelTo, h, levelX16_start hms]
  refine ⟨rfl, fun hmode hshape => ?_⟩
  simp [levelBetween, shapeValue, hmode, hshape, rdiv]

/-- The fade of the level that a cue asks at a seam. -/
def levelFade (s : State) (seam mode target ms shape : Nat) : LevelFade :=
  { mode := mode, l0 := s.screen.lambda, n0 := arcStart s, target := target, start := seam, ms := ms, shape := shape }

/-- A level asked with a time, away from the level there is, begins a fade from that level. -/
theorem startLevel_of_fade {s : State} {seam mode target ms shape : Nat} (hms : ms ≠ 0)
    (haway : s.screen.lambda ≠ targetLevel mode target) :
    (startLevel s seam mode target ms shape).screen.level = some (levelFade s seam mode target ms shape) ∧
    (mode = 0 → shape = 0 → (startLevel s seam mode target ms shape).screen.lambda = s.screen.lambda) := by
  have hcond : ¬(ms = 0 ∨ s.screen.level.isNone = true ∧ s.screen.lambda = targetLevel mode target) := by
    simp [hms, haway]
  simp only [startLevel, if_neg hcond]
  exact levelTo_start (f := levelFade s seam mode target ms shape) rfl hms

/-- The level that a cue asks, as the show begins it. -/
theorem showMoved_level {s : State} {fired : Fired} {mode target ms shape : Nat} (seam : Nat)
    (h : fired.level = some (mode, target, ms, shape)) :
    (showMoved s seam fired).screen.lambdaTarget = targetLevel mode target ∧
      (ms = 0 → (showMoved s seam fired).screen.level = none ∧
        (showMoved s seam fired).screen.lambda = targetLevel mode target) ∧
      (ms ≠ 0 → s.screen.level = none → s.screen.lambda ≠ targetLevel mode target →
        (showMoved s seam fired).screen.level = some (levelFade s seam mode target ms shape) ∧
        (mode = 0 → shape = 0 → (showMoved s seam fired).screen.lambda = s.screen.lambda)) := by
  obtain ⟨_, hlevel, hlambda, harc⟩ := sourceTo_keeps (formEstimate s) seam
  rw [formEstimate_screen] at hlevel hlambda harc
  simp only [showMoved, h]
  generalize sourceTo (formEstimate s) seam = u at *
  refine ⟨startLevel_lambdaTarget _ _ _ _ _ _, ?_, ?_⟩
  · rintro rfl
    exact startLevel_of_zero _ _ _ _ _
  · intro hms hnone haway
    have hfade : levelFade u seam mode target ms shape = levelFade s seam mode target ms shape := by
      simp only [levelFade, arcStart, hlambda, harc]
    rw [levelTo_of_none (hlevel.trans hnone), ← hfade, ← hlambda]
    exact startLevel_of_fade hms (hlambda ▸ haway)

/-! ### The picture of a ring node (R240, R241) -/

theorem daliTo_legacy (s : State) (seam : Nat) : daliTo s seam = { s with legacy := (daliTo s seam).legacy } := by
  unfold daliTo
  dsimp only
  (repeat' split) <;> rfl

/-- No legacy port sets anything at a ring node. -/
theorem portsServed_of_ring {s : State} (hring : standalone s = false) (hfz : s.leaf.fzLevel = none) (seam : Nat) (first : Bool) :
    portsServed s seam first = (daliTo s seam, none) := by
  have hfirst : applyFzLevel s = s := by simp only [applyFzLevel, hfz]
  have hdali : standalone (daliTo s seam) = false := by
    rw [daliTo_legacy]
    exact hring
  simp only [portsServed, hfirst, applyLegacy, hdali, Bool.false_eq_true, if_false]

theorem judgeCache_screen (s : State) : (judgeCache s).screen = { s.screen with cache := (judgeCache s).screen.cache } := by
  unfold judgeCache
  split <;> rfl

/-- A slate that is the programme, and not the picture there is or to come, is cut or faded to. -/
theorem chooseTarget_of_slate {s : State} {n ms shape : Nat} (seam : Nat) (rendered : Bool) (hring : standalone s = false)
    (hprog : s.screen.programme = .slate n) (haway : pictureGoal s ≠ .slate n) :
    chooseTarget s seam rendered (some (ms, shape)) = startSource (cutSource (overlaid s 0) 1) (.slate n) seam ms shape := by
  have hover : overlayAt s rendered = 0 := by simp [overlayAt, legacyLoss, hring, hprog]
  have htold : overlayEvents s (overlayAt s rendered) = s := by simp [overlayEvents, hover]
  have htarget : targetAt (overlaid s 0) 0 seam (some (ms, shape)) = (.slate n, ms, shape) := congrArg (·, ms, shape) hprog
  have hgoal : (Source.slate n == pictureGoal (overlaid s 0)) = false := beq_eq_false_iff_ne.mpr (Ne.symm haway)
  unfold chooseTarget
  extract_lets overlay told was counted screen shown
  have hoverlay : overlay = 0 := hover
  have hshown : shown = overlaid told overlay := rfl
  rw [hshown, show told = s from htold, hoverlay, htarget]
  simp only [hgoal, Bool.false_eq_true, if_false]
  rfl

theorem startSource_of_zero (s : State) (target : Source) (seam shape : Nat) :
    (startSource s target seam 0 shape).screen.picture = target ∧ (startSource s target seam 0 shape).screen.fade = none ∧
      (startSource s target seam 0 shape).screen.alpha = 0 := by
  simp [startSource, countShow]

theorem startSource_of_time {s : State} {target : Source} {seam ms shape : Nat} (h : ms ≠ 0) :
    (startSource s target seam ms shape).screen.alpha = 0 ∧ (startSource s target seam ms shape).screen.fade =
      some { target := target, start := seam, ms := ms, shape := shape } := by
  simp [startSource, countShow, h]

/-- The picture, the level and the programme of t are those of s. -/
structure ShowsSame (s t : State) : Prop where
  programme : t.screen.programme = s.screen.programme
  picture : t.screen.picture = s.screen.picture
  fade : t.screen.fade = s.screen.fade
  alpha : t.screen.alpha = s.screen.alpha
  level : t.screen.level = s.screen.level
  lambda : t.screen.lambda = s.screen.lambda
  lambdaTarget : t.screen.lambdaTarget = s.screen.lambdaTarget

section

variable {s t u : State}

theorem ShowsSame.of_passes (h : Changes passedAs s t) : ShowsSame s t := by
  rw [h.frame]
  exact ⟨rfl, rfl, rfl, rfl, rfl, rfl, rfl⟩

theorem ShowsSame.of_rests (h : Changes restedAs s t) : ShowsSame s t := by
  rw [h.frame]
  exact ⟨rfl, rfl, rfl, rfl, rfl, rfl, rfl⟩

theorem ShowsSame.trans (h : ShowsSame s t) (k : ShowsSame t u) : ShowsSame s u :=
  ⟨k.programme.trans h.programme, k.picture.trans h.picture, k.fade.trans h.fade, k.alpha.trans h.alpha,
    k.level.trans h.level, k.lambda.trans h.lambda, k.lambdaTarget.trans h.lambdaTarget⟩

end

theorem judgeCache_showsSame (s : State) : ShowsSame s (judgeCache s) := by
  refine ⟨?_, ?_, ?_, ?_, ?_, ?_, ?_⟩ <;> rw [judgeCache_screen]

theorem houseTaken_showsSame (s : State) (seam : Nat) : ShowsSame s (houseTaken s seam) := ⟨rfl, rfl, rfl, rfl, rfl, rfl, rfl⟩

/-- The state of which a ring node's render point chooses the picture, for the cues that it has fired. -/
def ringShown (v : State × Fired) (seam : Nat) : State := daliTo (showMoved (takeDue v.1 seam).1 seam v.2) seam

theorem ringShown_screen (v : State × Fired) (seam : Nat) :
    (ringShown v seam).screen = (showMoved (takeDue v.1 seam).1 seam v.2).screen := by
  rw [ringShown, daliTo_legacy]

theorem programme_of_moves {s t : State} (h : Changes movedAs s t) : t.screen.programme = s.screen.programme := by
  rw [h.frame]
  rfl

/-- The choice of the picture leaves the programme and the level. -/
theorem screen_of_aims {s t : State} (h : Changes aimedAs s t) : t.screen.programme = s.screen.programme ∧
    t.screen.level = s.screen.level ∧ t.screen.lambda = s.screen.lambda ∧ t.screen.lambdaTarget = s.screen.lambdaTarget := by
  rw [h.frame]
  exact ⟨rfl, rfl, rfl, rfl⟩

theorem takeDue_screen (s : State) (seam : Nat) : (takeDue s seam).1.screen = s.screen := by
  rw [(takes_takeDue s seam).frame]
  rfl

theorem ringShown_programme (v : State × Fired) (seam : Nat) :
    (ringShown v seam).screen.programme = v.1.screen.programme := by
  rw [ringShown_screen, programme_of_moves (moves_showMoved _ seam v.2), takeDue_screen]

theorem ringShown_pictureGoal {v : State × Fired} (h : v.2.level = none) (seam : Nat) :
    pictureGoal (ringShown v seam) = pictureGoal v.1 :=
  calc pictureGoal (ringShown v seam)
    _ = pictureGoal (showMoved (takeDue v.1 seam).1 seam v.2) := by simp only [pictureGoal, ringShown_screen]
    _ = pictureGoal (takeDue v.1 seam).1 := showMoved_pictureGoal h seam
    _ = pictureGoal v.1 := by simp only [pictureGoal, takeDue_screen]

theorem ringShown_not_standalone {v : State × Fired} (hring : RingPoint v.1) (seam : Nat) :
    standalone (ringShown v seam) = false := by
  have hmoved := moves_showMoved (takeDue v.1 seam).1 seam v.2
  rw [ringShown, daliTo_legacy, hmoved.frame, (takes_takeDue v.1 seam).frame]
  exact hring.not_standalone

/-- A ring node shows what its programme, its fades and the cues fired ask. -/
theorem renderShow_of_ring {v : State × Fired} (hring : RingPoint v.1) (seam : Nat) : ∃ rendered,
    renderShow (takeDue v.1 seam).1 seam (takeDue v.1 seam).2 v.2 false =
      houseTaken (judgeCache (chooseTarget (ringShown v seam) seam rendered v.2.src)) seam := by
  have hmoved := moves_showMoved (takeDue v.1 seam).1 seam v.2
  have hfz : (showMoved (takeDue v.1 seam).1 seam v.2).leaf.fzLevel = none := by
    rw [hmoved.frame, (takes_takeDue v.1 seam).frame]
    exact hring.noFz
  have hstand : standalone (showMoved (takeDue v.1 seam).1 seam v.2) = false := by
    rw [hmoved.frame, (takes_takeDue v.1 seam).frame]
    exact hring.not_standalone
  rw [renderShow_eq, portsServed_of_ring hstand hfz, showAimed, Option.or_none]
  exact ⟨_, rfl⟩

theorem pointFired_shows {v : State × Fired} (hring : RingPoint v.1) (seam : Nat) : ∃ rendered,
    ShowsSame (chooseTarget (ringShown v seam) seam rendered v.2.src) (pointFired v seam false) := by
  obtain ⟨rendered, hshow⟩ := renderShow_of_ring hring seam
  have htaken : slotsTaken v.1 seam false = takeDue v.1 seam := by simp [slotsTaken, hring.free]
  refine ⟨rendered, ?_⟩
  rw [pointFired, htaken, pointShown, hshow]
  generalize chooseTarget (ringShown v seam) seam rendered v.2.src = u
  have hjudged := (judgeCache_showsSame u).trans (houseTaken_showsSame (judgeCache u) seam)
  have hpassed := ShowsSame.of_passes (passes_renderPass (houseTaken (judgeCache u) seam) seam (takeDue v.1 seam).2 false)
  exact (hjudged.trans hpassed).trans (.of_rests (rests_pointRested _ seam))

section

variable {v : State × Fired} (hring : RingPoint v.1) (seam : Nat)

include hring

theorem pointFired_programme : (pointFired v seam false).screen.programme = v.1.screen.programme := by
  obtain ⟨rendered, hshows⟩ := pointFired_shows hring seam
  obtain ⟨hprog, _⟩ := screen_of_aims (aims_chooseTarget (ringShown v seam) seam rendered v.2.src)
  rw [hshows.programme, hprog, ringShown_programme]

/-- A slate that a cue has made the programme is cut or faded to, where it is not the picture already. -/
theorem pointFired_picture {n ms shape : Nat} (hsrc : v.2.src = some (ms, shape)) (hlevel : v.2.level = none)
    (hprog : v.1.screen.programme = .slate n) (haway : pictureGoal v.1 ≠ .slate n) :
    (ms = 0 → (pointFired v seam false).screen.picture = .slate n ∧ (pointFired v seam false).screen.fade = none ∧
      (pointFired v seam false).screen.alpha = 0) ∧
    (ms ≠ 0 → (pointFired v seam false).screen.alpha = 0 ∧ (pointFired v seam false).screen.fade =
      some { target := .slate n, start := seam, ms := ms, shape := shape }) := by
  obtain ⟨rendered, hshows⟩ := pointFired_shows hring seam
  rw [hsrc, chooseTarget_of_slate seam rendered (ringShown_not_standalone hring seam)
    ((ringShown_programme v seam).trans hprog) (ringShown_pictureGoal hlevel seam ▸ haway)] at hshows
  rw [hshows.picture, hshows.fade, hshows.alpha]
  refine ⟨?_, startSource_of_time⟩
  rintro rfl
  exact startSource_of_zero _ _ _ _

/-- The level that a cue asks is set, or its fade begins at the seam. -/
theorem pointFired_level {mode target ms shape : Nat} (h : v.2.level = some (mode, target, ms, shape)) :
    (pointFired v seam false).screen.lambdaTarget = targetLevel mode target ∧
      (ms = 0 → (pointFired v seam false).screen.level = none ∧
        (pointFired v seam false).screen.lambda = targetLevel mode target) ∧
      (ms ≠ 0 → v.1.screen.level = none → v.1.screen.lambda ≠ targetLevel mode target →
        (pointFired v seam false).screen.level = some (levelFade v.1 seam mode target ms shape) ∧
        (mode = 0 → shape = 0 → (pointFired v seam false).screen.lambda = v.1.screen.lambda)) := by
  obtain ⟨rendered, hshows⟩ := pointFired_shows hring seam
  obtain ⟨_, hlevel, hlambda, htarget⟩ := screen_of_aims (aims_chooseTarget (ringShown v seam) seam rendered v.2.src)
  have hmoved := showMoved_level (s := (takeDue v.1 seam).1) seam h
  have hfade : levelFade (takeDue v.1 seam).1 seam mode target ms shape = levelFade v.1 seam mode target ms shape := by
    simp only [levelFade, arcStart, takeDue_screen]
  rw [takeDue_screen, hfade] at hmoved
  rw [hshows.lambdaTarget, hshows.level, hshows.lambda, htarget, hlevel, hlambda, ringShown_screen]
  exact hmoved

end

end Sys2Proof.Machine

/-! ## The render point, settled

For O14. One cue fires with its completion record; the obligation's clauses, from the lemmas above. -/

namespace Sys2Proof.Machine

open Sys2Proof

/-! ### One cue due at a seam (R126, R179, R254) -/

/-- The programme behind a cue. -/
def programmeAfter (p : Source) (b : List Byte) : Source :=
  if cueAction b ≤ 1 then .slate (cueSlate b) else if cueAction b = 3 then .stream else p

theorem programmeAfter_of_slate {p : Source} {b : List Byte} (h : cueAction b ≤ 1) :
    programmeAfter p b = .slate (cueSlate b) := if_pos h

theorem programmeAfter_of_stream {p : Source} {b : List Byte} (h : cueAction b = 3) : programmeAfter p b = .stream := by
  simp [programmeAfter, h]

theorem programmeAfter_of_other {p : Source} {b : List Byte} (h : 1 < cueAction b) (h3 : cueAction b ≠ 3) :
    programmeAfter p b = p := by
  simp [programmeAfter, Nat.not_le.mpr h, h3]

theorem setProgramme_frame (s : State) (p : Source) (seam : Nat) : setProgramme s p seam =
    { s with screen := { s.screen with programme := p }, larder := (setProgramme s p seam).larder } := by
  unfold setProgramme
  dsimp only
  (repeat' split) <;> rfl

theorem fireProgramme_frame (s : State) (b : List Byte) (seam : Nat) : fireProgramme s b seam =
    { s with
      screen := { s.screen with programme := programmeAfter s.screen.programme b }
      larder := (fireProgramme s b seam).larder } := by
  unfold fireProgramme
  split
  case h_1 h =>
    rw [programmeAfter_of_slate (by omega)]
    exact setProgramme_frame s _ seam
  case h_2 h =>
    rw [programmeAfter_of_slate (by omega)]
    exact setProgramme_frame s _ seam
  case h_3 h =>
    rw [programmeAfter_of_stream h]
    exact setProgramme_frame s _ seam
  case h_4 h0 h1 h3 =>
    have hzero : cueAction b ≠ 0 := h0
    have hone : cueAction b ≠ 1 := h1
    rw [programmeAfter_of_other (by omega) h3]

theorem cueSet_frame (s : State) (c : ArmedCue) (b : List Byte) (seam : Nat) : cueSet s c b seam =
    { s with
      mantel := { s.mantel with counts := (cueCounted s c.late).mantel.counts }
      screen := { s.screen with programme := programmeAfter s.screen.programme b }
      larder := (cueSet s c b seam).larder
      arch := { s.arch with standing := standingAfter s.arch.standing b } } := by
  have hprogramme := fireProgramme_frame (cueCounted s c.late) b seam
  unfold cueSet
  dsimp only
  generalize fireProgramme (cueCounted s c.late) b seam = v at hprogramme ⊢
  rw [hprogramme]
  rfl

/-- What a completion of a cue leaves of s, and what it writes. -/
theorem complete_cue {s : State} {c : ArmedCue} {e : Entry} (r : BitVec 4)
    (he : s.hall.entries.find? (fun x => x.no == c.no) = some e) :
    (complete s (cueDone c r)).mantel = s.mantel ∧ (complete s (cueDone c r)).screen = s.screen ∧
      (complete s (cueDone c r)).arch.standing = s.arch.standing ∧ (complete s (cueDone c r)).arch.tolUs = s.arch.tolUs ∧
      (complete s (cueDone c r)).hall.entries = s.hall.entries.filter (fun x => x.no != c.no) ∧
      (complete s (cueDone c r)).hall.summaries = s.hall.summaries.map (fun y =>
        if y.no = c.no ∧ y.st ≠ 3 then { y with st := 3, result := r, doneNo := s.hall.nextNo } else y) := by
  have hframe := complete_frame (d := cueDone c r) he
  generalize complete s (cueDone c r) = t at hframe ⊢
  rw [hframe]
  exact ⟨rfl, rfl, rfl, rfl, rfl, rfl⟩

theorem dueCues_of_one {s : State} {c : ArmedCue} {seam : Nat} (hcues : s.mantel.cues = [c]) (hdue : c.t ≤ seam) :
    dueCues s seam false = [c] := by
  simp [dueCues, hcues, hdue]

/-- s with no cue armed. -/
def cuesGone (s : State) : State := { s with mantel := { s.mantel with cues := [] } }

theorem cuesTaken_of_one {s : State} {c : ArmedCue} {seam : Nat} (hcues : s.mantel.cues = [c]) (hdue : c.t ≤ seam) :
    cuesTaken s seam false = cuesGone s := by
  simp [cuesTaken, cuesGone, dueCues_of_one hcues hdue, hcues]

theorem fireAt_of_one {s : State} {c : ArmedCue} {e : Entry} {seam : Nat} (hall : hallDispatches s = true)
    (hcues : s.mantel.cues = [c]) (hlate : c.late = false) (hdue : c.t ≤ seam)
    (he : s.hall.entries.find? (fun x => x.no == c.no) = some e) : fireAt s seam false =
      if cueLacks s e.msg.body then (cueLacking (cuesGone s) c e.msg.body, Fired.nothing)
      else tolTaken (complete (cueSet (cuesGone s) c e.msg.body seam) (cueDone c 0), Fired.nothing.add e.msg.body) := by
  have hentry : (cuesGone s).hall.entries.find? (fun x => x.no == c.no) = some e := he
  have hlacks : cueLacks (cueCounted (cuesGone s) c.late) e.msg.body = cueLacks s e.msg.body := rfl
  rw [fireAt, if_pos hall, fireCues_eq, dueCues_of_one hcues hdue, cuesTaken_of_one hcues hdue, List.foldl_cons, List.foldl_nil,
    fireCue_of_entry seam hentry, hlacks, hlate]
  split <;> rfl

/-! ### What a cue's action sets -/

theorem standingAfter_of_slate {v : Standing} {b : List Byte} (h : cueAction b ≤ 1) :
    (standingAfter v b).programme = .slate (cueSlate b) := by
  have haction : cueAction b = 0 ∨ cueAction b = 1 := by omega
  rcases haction with h | h <;> simp [standingAfter, h]

theorem standingAfter_of_stream {v : Standing} {b : List Byte} (h : cueAction b = 3) :
    (standingAfter v b).programme = .stream := by
  simp [standingAfter, h]

theorem add_of_slate {f : Fired} {b : List Byte} (h : cueAction b ≤ 1) :
    f.add b = { f with src := some (sourceCause b) } := by
  have haction : cueAction b = 0 ∨ cueAction b = 1 := by omega
  rcases haction with h | h <;> simp [Fired.add, h]

theorem add_of_level {f : Fired} {b : List Byte} (h : cueAction b = 2) :
    f.add b = { f with level := some (cueMode b, cueLevel b, cueFade b, cueShape b) } := by
  simp [Fired.add, h]

theorem add_of_stream {f : Fired} {b : List Byte} (h : cueAction b = 3) :
    f.add b = { f with src := some (sourceCause b) } := by
  simp [Fired.add, h]

theorem add_of_tolerance {f : Fired} {b : List Byte} (h : 4 ≤ cueAction b) :
    f.add b = { f with tol := some (wordAt b 20).toNat } := by
  unfold Fired.add
  split
  case h_5 => rfl
  all_goals omega

theorem add_tol_of_few {b : List Byte} (h : cueAction b ≤ 3) : (Fired.nothing.add b).tol = none := by
  have haction : cueAction b ≤ 1 ∨ cueAction b = 2 ∨ cueAction b = 3 := by omega
  rcases haction with h | h | h
  · rw [add_of_slate h]
    rfl
  · rw [add_of_level h]
    rfl
  · rw [add_of_stream h]
    rfl

/-! ### The completion of a cue, and the parts behind it -/

/-- The record that the completion of cue c, with result r, leaves in t (R115, R124). -/
structure CueRecorded (s t : State) (c : ArmedCue) (r : BitVec 4) : Prop where
  cues : t.mantel.cues = []
  entries : t.hall.entries = s.hall.entries.filter (fun x => x.no != c.no)
  summaries : t.hall.summaries = s.hall.summaries.map (fun y =>
    if y.no = c.no ∧ y.st ≠ 3 then { y with st := 3, result := r, doneNo := s.hall.nextNo } else y)

theorem CueRecorded.of_stands {s t u : State} {c : ArmedCue} {r : BitVec 4} (h : CueRecorded s t c r) (k : CueStands t u) :
    CueRecorded s u c r :=
  ⟨k.cues.trans h.cues, k.entries.trans h.entries, k.summaries.trans h.summaries⟩

theorem CueRecorded.of_complete {s a : State} {c : ArmedCue} {e : Entry} (r : BitVec 4)
    (he : s.hall.entries.find? (fun x => x.no == c.no) = some e) (hhall : a.hall = s.hall) (hcues : a.mantel.cues = []) :
    CueRecorded s (complete a (cueDone c r)) c r := by
  have hentry : a.hall.entries.find? (fun x => x.no == c.no) = some e := by rw [hhall, he]
  obtain ⟨hmantel, _, _, _, hentries, hsummaries⟩ := complete_cue r hentry
  rw [hhall] at hentries hsummaries
  exact ⟨(congrArg Mantel.cues hmantel).trans hcues, hentries, hsummaries⟩

section

variable {s : State} {c : ArmedCue} {e : Entry} (he : s.hall.entries.find? (fun x => x.no == c.no) = some e)

include he

/-- A cue of a slate not stored is done with result 6 and its EVENT, and sets nothing. -/
theorem cueLacking_leaves : CueRecorded s (cueLacking (cuesGone s) c e.msg.body) c 6 ∧
    (cueLacking (cuesGone s) c e.msg.body).screen.programme = s.screen.programme ∧
    (cueLacking (cuesGone s) c e.msg.body).arch.standing = s.arch.standing ∧
    (cueLacking (cuesGone s) c e.msg.body).arch.tolUs = s.arch.tolUs ∧
    eventRaised s (cueLacking (cuesGone s) c e.msg.body) 0x0602 := by
  have hraised := raise_frame (cueCounted (cuesGone s) c.late) 0x0602 (BitVec.ofNat 16 (cueSlate e.msg.body)) c.seq
  have hevent := eventRaised_raise (cueCounted (cuesGone s) c.late) 0x0602 (BitVec.ofNat 16 (cueSlate e.msg.body)) c.seq
  unfold cueLacking
  generalize raise (cueCounted (cuesGone s) c.late) 0x0602 (BitVec.ofNat 16 (cueSlate e.msg.body)) c.seq = u
    at hraised hevent ⊢
  have hcounted : (countShow u 4).hall = s.hall ∧ (countShow u 4).mantel.cues = [] ∧
      (countShow u 4).screen.programme = s.screen.programme ∧ (countShow u 4).arch.standing = s.arch.standing ∧
      (countShow u 4).arch.tolUs = s.arch.tolUs := by
    rw [hraised]
    exact ⟨rfl, rfl, rfl, rfl, rfl⟩
  obtain ⟨hhall, hcues, hprogramme, hstanding, htol⟩ := hcounted
  have hentry : (countShow u 4).hall.entries.find? (fun x => x.no == c.no) = some e := by rw [hhall, he]
  obtain ⟨_, hscreen, hkept, hkeptTol, _⟩ := complete_cue 6 hentry
  have hprefix := (fires_complete (countShow u 4) (d := cueDone c 6) rfl).events
  exact ⟨.of_complete 6 he hhall hcues, (congrArg Show.programme hscreen).trans hprogramme, hkept.trans hstanding,
    hkeptTol.trans htol, eventRaised_of_prefix (eventRaised_of_larder hevent rfl) hprefix⟩

/-- Any other cue is done with result 0, and sets what its action says. -/
theorem cueSet_leaves (seam : Nat) {t : State}
    (ht : t = complete (cueSet (cuesGone s) c e.msg.body seam) (cueDone c 0)) : CueRecorded s t c 0 ∧
    t.screen = { s.screen with programme := programmeAfter s.screen.programme e.msg.body } ∧
    t.arch.standing = standingAfter s.arch.standing e.msg.body ∧ t.arch.tolUs = s.arch.tolUs := by
  have hset := cueSet_frame (cuesGone s) c e.msg.body seam
  generalize cueSet (cuesGone s) c e.msg.body seam = u at hset ht
  have hkept : u.hall = s.hall ∧ u.mantel.cues = [] ∧
      u.screen = { s.screen with programme := programmeAfter s.screen.programme e.msg.body } ∧
      u.arch.standing = standingAfter s.arch.standing e.msg.body ∧ u.arch.tolUs = s.arch.tolUs := by
    rw [hset]
    exact ⟨rfl, rfl, rfl, rfl, rfl⟩
  obtain ⟨hhall, hcues, hscreen, hstanding, htol⟩ := hkept
  have hentry : u.hall.entries.find? (fun x => x.no == c.no) = some e := by rw [hhall, he]
  obtain ⟨_, hscreen', hstanding', htol', _⟩ := complete_cue 0 hentry
  rw [← ht] at hscreen' hstanding' htol'
  exact ⟨ht ▸ .of_complete 0 he hhall hcues, hscreen'.trans hscreen, hstanding'.trans hstanding, htol'.trans htol⟩

end

theorem tolTaken_eq (v : State × Fired) :
    tolTaken v = ({ v.1 with arch := { v.1.arch with tolUs := v.2.tol.getD v.1.arch.tolUs } }, v.2) := by
  unfold tolTaken
  obtain ⟨s, src, level, tol⟩ := v
  cases tol <;> rfl

/-! ### What a cue does at its seam -/

/-- From s to t a cue of body b has fired at a seam, with result r: what each of its actions does (R179, R251, R254, R400). -/
def CueActs (s t : State) (seam : Nat) (b : List Byte) (r : BitVec 4) : Prop :=
  (cueAction b ≤ 1 → slateStored s (cueSlate b) = false →
    r = 6 ∧ eventRaised s t 0x0602 ∧ t.screen.programme = s.screen.programme ∧ t.arch.standing = s.arch.standing) ∧
  (cueAction b ≤ 1 → slateStored s (cueSlate b) = true →
    r = 0 ∧ t.screen.programme = .slate (cueSlate b) ∧ t.arch.standing.programme = .slate (cueSlate b) ∧
    (pictureGoal s ≠ .slate (cueSlate b) →
      (cueAction b = 0 ∨ cueFade b = 0 →
        t.screen.picture = .slate (cueSlate b) ∧ t.screen.fade = none ∧ t.screen.alpha = 0) ∧
      (cueAction b = 1 → cueFade b ≠ 0 →
        t.screen.alpha = 0 ∧ t.screen.fade =
          some { target := .slate (cueSlate b), start := seam, ms := cueFade b, shape := cueShape b }))) ∧
  (cueAction b = 3 → r = 0 ∧ t.screen.programme = .stream ∧ t.arch.standing.programme = .stream) ∧
  (cueAction b = 2 → r = 0 ∧ t.screen.programme = s.screen.programme ∧
    t.screen.lambdaTarget = (if cueMode b = 1 then arcLevel (cueLevel b) else cueLevel b) ∧
    (cueFade b = 0 → t.screen.level = none ∧ t.screen.lambda = t.screen.lambdaTarget) ∧
    (cueFade b ≠ 0 → s.screen.level = none → s.screen.lambda ≠ t.screen.lambdaTarget →
      t.screen.level = some (levelFade s seam (cueMode b) (cueLevel b) (cueFade b) (cueShape b)) ∧
      (cueMode b = 0 → cueShape b = 0 → t.screen.lambda = s.screen.lambda))) ∧
  (4 ≤ cueAction b → r = 0 ∧ t.arch.tolUs = (wordAt b 20).toNat ∧ t.screen.programme = s.screen.programme) ∧
  (cueAction b ≤ 3 → t.arch.tolUs = s.arch.tolUs)

/-- The cues of a ring node stand as fired, and t is the end of its render point. -/
structure CueShown (s : State) (b : List Byte) (v : State × Fired) : Prop where
  ring : RingPoint v.1
  screen : v.1.screen = { s.screen with programme := programmeAfter s.screen.programme b }
  standing : v.1.arch.standing = standingAfter s.arch.standing b
  fired : v.2 = Fired.nothing.add b
  tolUs : v.1.arch.tolUs = (Fired.nothing.add b).tol.getD s.arch.tolUs

section

variable {s : State} {b : List Byte} {v : State × Fired} (h : CueShown s b v) (seam : Nat)

include h

theorem CueShown.programme : (pointFired v seam false).screen.programme = programmeAfter s.screen.programme b := by
  rw [pointFired_programme h.ring, h.screen]

theorem CueShown.standing_point : (pointFired v seam false).arch.standing = standingAfter s.arch.standing b :=
  (pointFired_stands v seam false).standing.trans h.standing

theorem CueShown.tolUs_point : (pointFired v seam false).arch.tolUs = (Fired.nothing.add b).tol.getD s.arch.tolUs :=
  (pointFired_stands v seam false).tolUs.trans h.tolUs

/-- A stored slate is cut or faded to. -/
theorem CueShown.picture (hslate : cueAction b ≤ 1) (haway : pictureGoal s ≠ .slate (cueSlate b)) :
    ((sourceCause b).1 = 0 → (pointFired v seam false).screen.picture = .slate (cueSlate b) ∧
      (pointFired v seam false).screen.fade = none ∧ (pointFired v seam false).screen.alpha = 0) ∧
    ((sourceCause b).1 ≠ 0 → (pointFired v seam false).screen.alpha = 0 ∧ (pointFired v seam false).screen.fade =
      some { target := .slate (cueSlate b), start := seam, ms := (sourceCause b).1, shape := (sourceCause b).2 }) := by
  have hfired := h.fired.trans (add_of_slate hslate)
  have hprogramme : v.1.screen.programme = .slate (cueSlate b) := by
    rw [h.screen]
    exact programmeAfter_of_slate hslate
  have hgoal : pictureGoal v.1 = pictureGoal s := by simp only [pictureGoal, h.screen]
  exact pointFired_picture h.ring seam (congrArg Fired.src hfired) (congrArg Fired.level hfired) hprogramme (hgoal ▸ haway)

theorem CueShown.level (haction : cueAction b = 2) :
    (pointFired v seam false).screen.lambdaTarget = targetLevel (cueMode b) (cueLevel b) ∧
      (cueFade b = 0 → (pointFired v seam false).screen.level = none ∧
        (pointFired v seam false).screen.lambda = targetLevel (cueMode b) (cueLevel b)) ∧
      (cueFade b ≠ 0 → s.screen.level = none → s.screen.lambda ≠ targetLevel (cueMode b) (cueLevel b) →
        (pointFired v seam false).screen.level =
          some (levelFade s seam (cueMode b) (cueLevel b) (cueFade b) (cueShape b)) ∧
        (cueMode b = 0 → cueShape b = 0 → (pointFired v seam false).screen.lambda = s.screen.lambda)) := by
  have hfired := h.fired.trans (add_of_level haction)
  have hlevel := pointFired_level h.ring seam (congrArg Fired.level hfired)
  have hfade : levelFade v.1 seam (cueMode b) (cueLevel b) (cueFade b) (cueShape b) =
      levelFade s seam (cueMode b) (cueLevel b) (cueFade b) (cueShape b) := by simp only [levelFade, arcStart, h.screen]
  rw [hfade, h.screen] at hlevel
  exact hlevel

theorem CueShown.acts (hlacks : cueLacks s b = false) : CueActs s (pointFired v seam false) seam b 0 := by
  refine ⟨?_, ?_, ?_, ?_, ?_, ?_⟩
  · intro hslate hstored
    simp [cueLacks, hslate, hstored] at hlacks
  · intro hslate _
    refine ⟨rfl, (h.programme seam).trans (programmeAfter_of_slate hslate),
      (congrArg Standing.programme (h.standing_point seam)).trans (standingAfter_of_slate hslate), fun haway => ?_⟩
    obtain ⟨hcut, hfade⟩ := h.picture seam hslate haway
    refine ⟨fun hnow => hcut ?_, fun haction htime => ?_⟩
    · rcases hnow with haction | htime
      · simp [sourceCause, haction]
      · unfold sourceCause
        split
        · rfl
        · exact htime
    · have hcause : sourceCause b = (cueFade b, cueShape b) := by simp [sourceCause, haction]
      rw [hcause] at hfade
      exact hfade htime
  · intro haction
    exact ⟨rfl, (h.programme seam).trans (programmeAfter_of_stream haction),
      (congrArg Standing.programme (h.standing_point seam)).trans (standingAfter_of_stream haction)⟩
  · intro haction
    obtain ⟨htarget, hset, hbegun⟩ := h.level seam haction
    rw [← htarget] at hset hbegun
    exact ⟨rfl, (h.programme seam).trans (programmeAfter_of_other (by omega) (by omega)), htarget, hset, hbegun⟩
  · intro haction
    have htol := h.tolUs_point seam
    rw [add_of_tolerance haction] at htol
    exact ⟨rfl, htol, (h.programme seam).trans (programmeAfter_of_other (by omega) (by omega))⟩
  · intro haction
    have htol := h.tolUs_point seam
    rw [add_tol_of_few haction] at htol
    exact htol

end

section

variable {s : State} {c : ArmedCue} {e : Entry} (seam : Nat)
  (he : s.hall.entries.find? (fun x => x.no == c.no) = some e)

include he

theorem pointFired_of_lacking (hring : RingPoint (cueLacking (cuesGone s) c e.msg.body))
    (hlacks : cueLacks s e.msg.body = true) :
    CueRecorded s (pointFired (cueLacking (cuesGone s) c e.msg.body, Fired.nothing) seam false) c 6 ∧
      CueActs s (pointFired (cueLacking (cuesGone s) c e.msg.body, Fired.nothing) seam false) seam e.msg.body 6 := by
  have hstands := pointFired_stands (cueLacking (cuesGone s) c e.msg.body, Fired.nothing) seam false
  have hprogramme := pointFired_programme (v := (cueLacking (cuesGone s) c e.msg.body, Fired.nothing)) hring seam
  obtain ⟨hrecorded, hkept, hstanding, htol, hevent⟩ := cueLacking_leaves he
  have hslate : cueAction e.msg.body ≤ 1 ∧ slateStored s (cueSlate e.msg.body) = false := by
    simpa [cueLacks] using hlacks
  refine ⟨hrecorded.of_stands hstands, fun _ _ => ⟨rfl, eventRaised_of_prefix hevent hstands.events,
    hprogramme.trans hkept, hstands.standing.trans hstanding⟩, ?_, ?_, ?_, ?_, fun _ => hstands.tolUs.trans htol⟩
  · intro _ hstored
    exact absurd hstored (by simp [hslate.2])
  all_goals intro haction; omega

theorem pointFired_of_set {v : State × Fired}
    (hv : v = tolTaken (complete (cueSet (cuesGone s) c e.msg.body seam) (cueDone c 0), Fired.nothing.add e.msg.body))
    (hring : RingPoint v.1) (hlacks : cueLacks s e.msg.body = false) :
    CueRecorded s (pointFired v seam false) c 0 ∧ CueActs s (pointFired v seam false) seam e.msg.body 0 := by
  generalize hdone : complete (cueSet (cuesGone s) c e.msg.body seam) (cueDone c 0) = u at hv
  obtain ⟨hrecorded, hscreen, hstanding, htol⟩ := cueSet_leaves he seam hdone.symm
  rw [tolTaken_eq] at hv
  have hrecorded : CueRecorded s v.1 c 0 := by
    rw [hv]
    exact ⟨hrecorded.cues, hrecorded.entries, hrecorded.summaries⟩
  have hshown : CueShown s e.msg.body v := by
    rw [hv] at hring ⊢
    exact ⟨hring, hscreen, hstanding, rfl, congrArg ((Fired.nothing.add e.msg.body).tol.getD ·) htol⟩
  exact ⟨hrecorded.of_stands (pointFired_stands v seam false), hshown.acts seam hlacks⟩

end

/-- The one cue due at a ring node's seam is done with its record, and acts. -/
theorem pointFired_of_one {s : State} {c : ArmedCue} {e : Entry} (seam : Nat) (hring : RingPoint s)
    (hall : hallDispatches s = true) (hcues : s.mantel.cues = [c]) (hlate : c.late = false) (hdue : c.t ≤ seam)
    (he : s.hall.entries.find? (fun x => x.no == c.no) = some e) :
    ∃ r, CueRecorded s (pointFired (fireAt s seam false) seam false) c r ∧
      CueActs s (pointFired (fireAt s seam false) seam false) seam e.msg.body r := by
  have hfires := hring.of_fires (fires_fireAt s seam false)
  have hfired := fireAt_of_one hall hcues hlate hdue he
  cases hlacks : cueLacks s e.msg.body with
  | true =>
    rw [hlacks, if_pos rfl] at hfired
    rw [hfired] at hfires ⊢
    exact ⟨6, pointFired_of_lacking seam he hfires hlacks⟩
  | false =>
    rw [hlacks, if_neg Bool.false_ne_true] at hfired
    exact ⟨0, pointFired_of_set seam he hfired hfires hlacks⟩

/-! ### The power state behind a render point -/

/-- The power state and the straps of t are those of s. -/
def PowerSame (s t : State) : Prop := t.power = s.power ∧ t.straps = s.straps

section

variable {s t u : State}

theorem PowerSame.trans (h : PowerSame s t) (k : PowerSame t u) : PowerSame s u := ⟨k.1.trans h.1, k.2.trans h.2⟩

theorem PowerSame.of_fires (h : Changes firedAs s t) : PowerSame s t := by
  rw [h.frame]
  exact ⟨rfl, rfl⟩

theorem PowerSame.of_takes (h : Changes takenAs s t) : PowerSame s t := by
  rw [h.frame]
  exact ⟨rfl, rfl⟩

theorem PowerSame.of_shows (h : Changes shownAs s t) : PowerSame s t := by
  rw [h.frame]
  exact ⟨rfl, rfl⟩

theorem PowerSame.of_passes (h : Changes passedAs s t) : PowerSame s t := by
  rw [h.frame]
  exact ⟨rfl, rfl⟩

theorem PowerSame.mode (h : PowerSame s t) : mode t = mode s := by simp only [Machine.mode, strap, h.2]

end

theorem pointShown_power (s : State) (seam : Nat) (taken : Option Nat) (fired : Fired) (first : Bool) :
    PowerSame s (pointShown s seam taken fired first) :=
  (PowerSame.of_shows (shows_renderShow s seam taken fired first)).trans (.of_passes (passes_renderPass _ seam taken first))

/-! ### The clauses of a ring node's render point -/

section

variable {s : State} (h : RingReady s)

include h

/-- The render point fires the one cue due, with its record. -/
theorem renderPoint_fires {c : ArmedCue} {e : Entry} (hall : hallDispatches s = true) (hcues : s.mantel.cues = [c])
    (hlate : c.late = false) (hdue : c.t ≤ nextFrameSeam s)
    (he : s.hall.entries.find? (fun x => x.no == c.no) = some e) :
    ∃ t r, exec .renderPoint s = .next t ∧ CueRecorded s t c r ∧ CueActs s t (nextFrameSeam s) e.msg.body r := by
  obtain ⟨v, hv, hring, hexec⟩ := exec_renderPoint_of_ready h
  generalize nextFrameSeam s = seam at *
  have hfound : hallDispatches v = true ∧ v.mantel.cues = [c] ∧
      v.hall.entries.find? (fun x => x.no == c.no) = some e := by
    rw [hv]
    exact ⟨hall, hcues, he⟩
  obtain ⟨hall', hcues', he'⟩ := hfound
  obtain ⟨r, hrecorded, hacts⟩ := pointFired_of_one seam hring hall' hcues' hlate hdue he'
  generalize pointFired (fireAt v seam false) seam false = t at hexec hrecorded hacts
  refine ⟨t, r, hexec, ?_, ?_⟩
  · rw [hv] at hrecorded
    exact ⟨hrecorded.cues, hrecorded.entries, hrecorded.summaries⟩
  · rw [hv] at hacts
    exact hacts

/-- The render point chooses a power state in S0. -/
theorem renderPoint_rests (hst : s.power.st = .s0) (hwaking : s.power.waking = none) (hbegun : s.power.entryBegun = false)
    (hentering : s.power.entering = none) :
    ∃ t, exec .renderPoint s = .next t ∧ mode t = mode s ∧
      (t.power.entering = none ∨
        ∃ d, t.power.entering = some (d, nextFrameSeam s) ∧ RestsAt t (nextFrameSeam s) d) ∧
      (darkShow t (nextFrameSeam s) = true → 60 ≤ t.arch.tolUs → s.power.lastCause ∉ [1, 2, 4] →
        t.power.entering.isSome = true) := by
  obtain ⟨v, hv, _, hexec⟩ := exec_renderPoint_of_ready h
  generalize nextFrameSeam s = seam at *
  have hpointed : PowerSame s v := by
    rw [hv]
    exact ⟨rfl, rfl⟩
  have hfired := hpointed.trans (.of_fires (fires_fireAt v seam false))
  generalize fireAt v seam false = fired at hexec hfired
  have hshown := (hfired.trans (.of_takes (takes_slotsTaken fired.1 seam false))).trans
    (pointShown_power _ seam (slotsTaken fired.1 seam false).2 fired.2 false)
  rw [pointFired] at hexec
  generalize pointShown (slotsTaken fired.1 seam false).1 seam (slotsTaken fired.1 seam false).2 fired.2 false = x
    at hexec hshown
  have hmode := hshown.mode
  have hrested : mode (pointRested x seam) = mode x := (congrArg mode (rests_pointRested x seam).frame).trans rfl
  obtain ⟨hpower, _⟩ := hshown
  rw [← hpower] at hst hwaking hbegun hentering ⊢
  obtain ⟨hchosen, hadmitted⟩ := pointRested_chooses seam (hmode ▸ h.ring) hst hwaking hbegun hentering
  exact ⟨_, hexec, hrested.trans hmode, hchosen, hadmitted⟩

end

/-! ### The obligation -/

/-- Settles O14: the render point part by part, each part with its frame, and the instant of first light. -/
theorem renderPointAndFirstLight : Obligations.RenderPointAndFirstLight := by
  unfold Obligations.RenderPointAndFirstLight
  refine ⟨fun s hcore hvalid hhold hready => ?_, ?_, fun s seam hcore hlight hseam => firstLight_marked hcore hlight hseam⟩
  · have hnow := rendersNow_of hcore hvalid hhold hready
    exact ⟨fun j hj hne hdue => ⟨_, exec_mantelStep_of_pending hcore hj hne, exec_renderPoint_of_due hnow hj hne hdue⟩,
      renderPoint_serves hnow⟩
  · rintro s _ hcore hvalid hhold hready hstep hlit hrestore hload hreload hmode hfz rfl
    have hring : RingReady s := ⟨rendersNow_of hcore hvalid hhold hready, hstep, hlit, hrestore, hload, hreload, hmode, hfz⟩
    refine ⟨?_, renderPoint_takes hring, ?_⟩
    · rintro c e _ hall hcues hlate hdue he rfl
      obtain ⟨t, r, hexec, hrecorded, hacts⟩ := renderPoint_fires hring hall hcues hlate hdue he
      exact ⟨t, r, hexec, hrecorded.cues, hrecorded.entries, hrecorded.summaries, hacts⟩
    · intro hst hwaking hbegun hentering
      obtain ⟨t, hexec, hsame, hchosen, hadmitted⟩ := renderPoint_rests hring hst hwaking hbegun hentering
      unfold RestsAt at hchosen
      rw [hsame] at hchosen
      exact ⟨t, hexec, hchosen, hadmitted⟩

end Sys2Proof.Machine
